-- ==== Sys2Proof/Word.lean ====
section
/-!
DEFINITION. Word.lean: the word of the module's I/O space, the byte, and their plainest arithmetic.
Every register of the I/O space is 32 bits wide (00_scope.md, "Notation").
-/
namespace Sys2Proof

/-- One register of the I/O space or one word of data space. -/
abbrev Word := BitVec 32

/-- One byte of a memory, a frame or an object value. -/
abbrev Byte := BitVec 8

/-- A word from a number, modulo 2^32. -/
def word (n : Nat) : Word := BitVec.ofNat 32 n

/-- A byte from a number, modulo 256. -/
def byte (n : Nat) : Byte := BitVec.ofNat 8 n

/-- The number in bits `lo` to `lo + wd - 1` of a number. -/
def bitsOf (n lo wd : Nat) : Nat := n / 2 ^ lo % 2 ^ wd

/-- Bit `i` of a number. -/
def bitOf (n i : Nat) : Bool := n / 2 ^ i % 2 == 1

/-- `b` as 0 or 1. -/
def b01 (b : Bool) : Nat := if b then 1 else 0

/-- A word whose bits `lo` to `lo + wd - 1` are those of `v` and whose other bits are those of `w`. -/
def putBits (w : Word) (lo wd v : Nat) : Word :=
  (w &&& ~~~ (word ((2 ^ wd - 1) * 2 ^ lo))) ||| word (v % 2 ^ wd * 2 ^ lo)

/-- The two's-complement reading of the low `wd` bits of `n`. -/
def signedOf (wd n : Nat) : Int :=
  let m := n % 2 ^ wd
  if m < 2 ^ (wd - 1) then (m : Int) else (m : Int) - (2 ^ wd : Nat)

/-- The `wd`-bit two's-complement code of an integer, modulo 2^wd. -/
def codeOf (wd : Nat) (i : Int) : Nat := (i % ((2 ^ wd : Nat) : Int)).toNat

/-- `n` held at a maximum, as a saturating counter holds it. -/
def sat (mx n : Nat) : Nat := if n ≤ mx then n else mx

/-- An integer held between two bounds. -/
def clampInt (lo hi i : Int) : Int := if i < lo then lo else if hi < i then hi else i

/-- The indices of the bits that are 1, lowest first, among the first `k` bits of `n`. -/
def onesUpTo : Nat → Nat → List Nat
  | 0, _ => []
  | k + 1, n => onesUpTo k n ++ (if bitOf n k then [k] else [])

/-- The little-endian bytes of a number, `k` of them. -/
def leBytes : Nat → Nat → List Byte
  | 0, _ => []
  | k + 1, n => byte n :: leBytes k (n / 256)

/-- The number whose little-endian bytes are given. -/
def leNat : List Byte → Nat
  | [] => 0
  | b :: t => b.toNat + 256 * leNat t

end Sys2Proof
end

