-- ==== Sys2Proof/Syntax.lean ====
section
/-!
DEFINITION. Syntax.lean: the commands that the module takes, one constructor per row of the opcode table, and the data they carry.
A command carries what its sender or its surroundings give it: the master and the value of a write, the bytes of a frame, a sample.
-/
namespace Sys2Proof

/-- The three variants (R1). -/
inductive Variant where
  | px96
  | px64
  | px48
deriving DecidableEq, Repr

/-- The paths into the object dictionary server, in its order (R71). -/
inductive DPath where
  | sdo (server : Fin 4)
  | rpdo
  | eth (session : Fin 3)
  | service
deriving DecidableEq, Repr

/-- The masters of the I/O space: the logical cores, the BTE and the object dictionary server (R533). -/
inductive Master where
  | core (c : Fin 4)
  | bte
  | dict (p : DPath)
deriving DecidableEq, Repr

/-- The queues whose records carry AGED (R134, R172, R355). -/
inductive StampQueue where
  | milestone
  | lin (c : Fin 4)
  | sinEdge
  | fioChange
  | wcuCapture (n : Fin 32)
  | vlvEvent
  | canQueue (ch : Fin 8) (q : Fin 2)
  | ethRing (r : Fin 6)
deriving DecidableEq, Repr

/-- What the follower and the bridge take from an 802.1AS Sync or Follow_Up (R138, R147). -/
structure PtpSync where
  /-- The port it arrived on. -/
  port : Fin 8
  domain : Nat
  /-- It is malformed, or its port is not asCapable. -/
  bad : Bool
  /-- It is a Sync of a two-step pair, whose origin time comes with its Follow_Up. -/
  twoStep : Bool
  /-- It is a Follow_Up. -/
  followUp : Bool
  seq : Nat
  /-- Origin time, ns of full time. -/
  origin : Nat
  /-- Correction field, ns. -/
  corr : Int
  /-- Ingress stamp, ns of full time, as the MAC takes it: the PHY's latency is not yet taken off (R145). -/
  ingress : Nat
deriving DecidableEq, Repr

/-- What the BMCA and the UTC data take from an 802.1AS Announce (R137, R141, R146). -/
structure Announce where
  port : Fin 8
  domain : Nat
  bad : Bool
  priority1 : Nat
  clockClass : Nat
  accuracy : Nat
  variance : Nat
  priority2 : Nat
  identity : Nat
  stepsRemoved : Nat
  utcOffset : Int
  leap61 : Bool
  leap59 : Bool
  utcValid : Bool
deriving DecidableEq, Repr

/-- A CAN frame as it becomes valid on the bus: its header, its data bytes and the short-time stamp of its start of frame (R337, R338). -/
structure CanFrame where
  id : Nat
  ide : Bool
  fdf : Bool
  brs : Bool
  rtr : Bool
  esi : Bool
  dlc : Nat
  data : List Byte
  sof : Nat
deriving DecidableEq, Repr

/-- An Ethernet frame as a port takes it whole: addresses, the outer tag (PCP and VID), EtherType, what follows it without the FCS, whether its
check sequence or the PHY failed, and the short-time stamp of its start frame delimiter as the MAC takes it (R145, R366, R374). -/
structure EthFrame where
  dst : Nat
  src : Nat
  tag : Option (Nat × Nat)
  etype : Nat
  payload : List Byte
  bad : Bool
  sfd : Nat
deriving DecidableEq, Repr


/-- An access of a debugger on J12 (R469): data space word by word, I/O space, a general register. -/
inductive DebugAccess where
  | load (addr : Word)
  | store (addr value : Word)
  | ioRead (addr : BitVec 16)
  | ioWrite (addr : BitVec 16) (value : Word)
  | regRead (g : Fin 16)
  | regWrite (g : Fin 16) (value : Word)
deriving DecidableEq, Repr

/-- A message of the object access protocol as it arrives (R59): on the service port or the switch with its VLAN, from an IPv4 address; its header
fields, the data bytes that the datagram holds, and its tag. `rsv` joins the bytes that are reserved. -/
structure ObjMsg where
  service : Bool
  who : Nat
  vid : Nat
  version : Nat
  typ : Nat
  flags : Nat
  session : Nat
  seq : Nat
  index : Nat
  sub : Nat
  rsv1 : Nat
  offset : Nat
  length : Nat
  rsv2 : Nat
  data : List Byte
  tag : List Byte
deriving DecidableEq, Repr

/-- The access types of R43. `wos` is WO and RWS together. -/
inductive OAccess where
  | const
  | ro
  | wo
  | rw
  | rws
  | rwp
  | wos
deriving DecidableEq, Repr

/-- A sub-entry that application firmware declares (R72): whether its type is a number, its size, none where it varies, its access and default. -/
structure AppDecl where
  index : Nat
  sub : Nat
  numeric : Bool
  size : Option Nat
  acc : OAccess
  dflt : List Byte
deriving DecidableEq, Repr

/-- The commands, one constructor per row of the opcode table. -/
inductive Instr where
  /-- REGISTER_WRITE. A write reaches a register that has no row of its own; it is checked at acceptance, answered, and held pending or applied. (R33) -/
  | registerWrite (m : Master) (addr : Nat) (v : Word)
  /-- PENDING_VALUE_APPLY. An accepted Byway value that waits for its apply point takes effect on its Highway element. (R35) -/
  | pendingValueApply (addr : Nat)
  /-- ABSENT_ACCESS. An I/O access reaches a register of an absent resource; reads give 0, writes are ignored, and IDN_STATUS records the access. (R13) -/
  | absentAccess (m : Master) (addr : Nat)
  /-- ABSENT_ACCESS_CLEAR. A write of 1 to IDN_STATUS.ABSENT_ACCESS clears the flag and sets ABSENT_ADDR to 0, subject to coincident absent accesses. (R9) -/
  | absentAccessClear (m : Master) (v : Word) (again : Option Nat)
  /-- SDO_DOWNLOAD_INITIATE. An SDO initiate-download request starts an expedited or segmented write, an expedited one committing at once. (R51) -/
  | sdoDownloadInitiate (k : Fin 4) (client : Nat) (d : List Byte)
  /-- SDO_DOWNLOAD_SEGMENT. An SDO download segment is received and stored; the last one commits the write. (R51) -/
  | sdoDownloadSegment (k : Fin 4) (client : Nat) (d : List Byte)
  /-- SDO_UPLOAD_INITIATE. An SDO initiate-upload request reads a sub-entry expedited or starts a segmented read. (R51) -/
  | sdoUploadInitiate (k : Fin 4) (client : Nat) (d : List Byte)
  /-- SDO_UPLOAD_SEGMENT. An SDO upload segment request returns the next segment of a read. (R51) -/
  | sdoUploadSegment (k : Fin 4) (client : Nat) (d : List Byte)
  /-- SDO_BLOCK_DOWNLOAD_INITIATE. An SDO block-download initiate request opens a block write with a block size from 1 to 127. (R51) -/
  | sdoBlockDownloadInitiate (k : Fin 4) (client : Nat) (d : List Byte)
  /-- SDO_BLOCK_DOWNLOAD_SEGMENT. A segment of a download block is received and acknowledged at the block's end. (R51) -/
  | sdoBlockDownloadSegment (k : Fin 4) (client : Nat) (d : List Byte)
  /-- SDO_BLOCK_DOWNLOAD_END. The block-download end request with its CRC commits the written value or aborts it. (R52) -/
  | sdoBlockDownloadEnd (k : Fin 4) (client : Nat) (d : List Byte)
  /-- SDO_BLOCK_UPLOAD_INITIATE. An SDO block-upload initiate or start request opens a block read. (R51) -/
  | sdoBlockUploadInitiate (k : Fin 4) (client : Nat) (d : List Byte)
  /-- SDO_BLOCK_UPLOAD_ACK. A client acknowledgement of an upload block lets the server send the next block or the end. (R51) -/
  | sdoBlockUploadAck (k : Fin 4) (client : Nat) (d : List Byte)
  /-- SDO_BLOCK_UPLOAD_END. The client's response to the block-upload end closes the read. (R51) -/
  | sdoBlockUploadEnd (k : Fin 4) (client : Nat) (d : List Byte)
  /-- SDO_ABORT_RECEIVED. A client abort ends an SDO transfer, and nothing is written. (R52) -/
  | sdoAbortReceived (k : Fin 4) (client : Nat)
  /-- SDO_PROTOCOL_TIMEOUT. An SDO server waits more than 1,000 ms for the next frame and aborts the transfer with 0x0504_0000. (R51) -/
  | sdoProtocolTimeout (k : Fin 4)
  /-- RPDO_RECEIVED. An RPDO is received and applied whole, or refused whole with an EMCY. (R55) -/
  | rpdoReceived (n : Fin 64) (d : List Byte)
  /-- TPDO_EVENT_TIMER_EXPIRY. The event timer of a TPDO expires and the TPDO is sent. (R53) -/
  | tpdoEventTimerExpiry (n : Fin 64)
  /-- TPDO_INHIBIT_TIME_EXPIRY. The inhibit time of a TPDO ends, and a pending transmission may be sent. (R53) -/
  | tpdoInhibitTimeExpiry (n : Fin 64)
  /-- SYNC_RECEIVED. A SYNC frame is received; synchronous TPDOs sample at its start-of-frame stamp. (R57) -/
  | syncReceived (counter : Option Nat)
  /-- SYNC_PRODUCE. The communication cycle period expires and the module sends SYNC as producer. (R48) -/
  | syncProduce
  /-- TIME_RECEIVED. A CiA 301 TIME object is received and used as the coarse time reference. (R57) -/
  | timeReceived (d : List Byte)
  /-- TIME_PRODUCE. The module sends a TIME object while its Almanac is grandmaster. (R57) -/
  | timeProduce
  /-- EMCY_INHIBIT_EXPIRY. The EMCY inhibit time ends, and a pending EMCY may be sent. (R48) -/
  | emcyInhibitExpiry
  /-- HEARTBEAT_PRODUCE. The producer heartbeat time expires and the module sends its heartbeat. (R48) -/
  | heartbeatProduce
  /-- HEARTBEAT_RECEIVED. A consumed heartbeat of another node is received and restarts its consumer timer. (R48) -/
  | heartbeatReceived (node : Nat)
  /-- HEARTBEAT_CONSUMER_TIMEOUT. A consumer heartbeat time expires; EMCY 0x8130 is sent and the communication bit is set. (R56) -/
  | heartbeatConsumerTimeout (k : Fin 8)
  /-- NMT_START. NMT start remote node puts the module into operational. (R49) -/
  | nmtStart (node : Nat)
  /-- NMT_STOP. NMT stop puts the module into stopped and aborts uncommitted SDO downloads. (R49) -/
  | nmtStop (node : Nat)
  /-- NMT_ENTER_PRE_OPERATIONAL. NMT enter pre-operational puts the module into pre-operational. (R49) -/
  | nmtEnterPreOperational (node : Nat)
  /-- NMT_RESET_NODE. NMT reset node restores stored Byway-mirror entries, sends the boot-up message and enters pre-operational. (R50) -/
  | nmtResetNode (node : Nat)
  /-- NMT_RESET_COMMUNICATION. NMT reset communication restores the communication objects and 0x2002, sends boot-up and enters pre-operational. (R50) -/
  | nmtResetCommunication (node : Nat)
  /-- OPEN. An object access OPEN is received, authenticated and answered with OPEN_ACK or a NAK. (R60) -/
  | sessionOpen (m : ObjMsg)
  /-- CLOSE. An object access CLOSE ends the session. (R60) -/
  | sessionClose (m : ObjMsg)
  /-- READ. An object access READ is checked for tag and sequence and answered with READ_RSP, ABORT or NAK. (R62) -/
  | sessionRead (m : ObjMsg)
  /-- WRITE. An object access WRITE segment is checked for tag and sequence, stored or committed, and answered. (R64) -/
  | sessionWrite (m : ObjMsg)
  /-- SESSION_IDLE_TIMEOUT. An object access session stays idle longer than 0x2003:04 and is closed. (R58) -/
  | sessionIdleTimeout (k : Fin 4)
  /-- APP_OBJECT_DECLARE. Application firmware declares entries in 0x5000 to 0x5FFF through base firmware, accepted or refused whole. (R72) -/
  | appObjectDeclare (l : List AppDecl)
  /-- APP_OBJECT_ANSWER. Application firmware answers an access passed to it for a declared entry. (R72) -/
  | appObjectAnswer (p : DPath) (value : List Byte) (abort : Nat)
  /-- APP_OBJECT_TIMEOUT. Application firmware does not answer within 50 ms and the access is answered with 0x0800_0000. (R72) -/
  | appObjectTimeout (p : DPath)
  /-- SWITCH_DOMAIN_START. The Switch domain starts; detectors start low, registers are restored or reset, and outputs stay off. (R91) -/
  | switchDomainStart
  /-- KEEP_DOMAIN_START. The Keep domain is powered from KEEP_IN or a feed, and its registers take their reset values. (R99) -/
  | keepDomainStart
  /-- COMMS_DOMAIN_START. The Comms domain comes on; every CAN channel is in CONFIG and base firmware writes the stored configuration. (R336) -/
  | commsDomainStart
  /-- FIELD_DOMAIN_START. The Field domain starts in INIT with every point an input and every output off. (R325) -/
  | fieldDomainStart (pins : Nat)
  /-- FEED_BAND_CHANGE. A feed crosses a band threshold for longer than the 100 µs filter, and its channels and valve groups follow the new band. (R90) -/
  | feedBandChange (k : Fin 4) (band : Fin 6)
  /-- MODULE_SUPPLY_BAND_CHANGE. The module supply crosses a band threshold for longer than the filter, and the domains follow the new band. (R90) -/
  | moduleSupplyBandChange (band : Fin 6) (keep : Bool)
  /-- GROUND_STUD_LOSS. Losing both ground studs switches every channel, valve and field output off. (R98) -/
  | groundStudLoss (lost : Fin 3)
  /-- NS_ROLLOVER. NS reaches 1,000,000,000, is reduced by it, and SEC increases by 1 in the same tick. (R117) -/
  | nsRollover
  /-- SHORT_TIME_WRAP. Short time wraps past 2^32 ns and the wrap count increases. (R118) -/
  | shortTimeWrap
  /-- ROLE. A write of ALM_CTRL.ROLE or CANCH takes effect at acceptance and moves the servo under R129. (R149) -/
  | almRole (m : Master) (v : Word)
  /-- STEP. A write of ALM_CTRL.STEP is checked against role, milestone table and ALM_SET_NS, and accepted or refused whole. (R132) -/
  | almStepWrite (m : Master) (v : Word)
  /-- ALMANAC_STEP. An accepted step sets SEC and NS in one tick, raises EPOCH and marks queued records AGED. (R132) -/
  | almanacStep
  /-- ALM_SEC_LO_READ. A read of ALM_SEC_LO latches the high seconds, NS, short time and wrap for the reading master. (R123) -/
  | almSecLoRead (m : Master)
  /-- ALM_SHORT_READ. A read of ALM_SHORT returns live short time and latches the matching wrap count. (R123) -/
  | almShortRead (m : Master)
  /-- ALM_ADDEND_WRITE. A write of ALM_ADDEND_HI commits the 40-bit addend in role FREE, or is refused and sets REFUSED. (R128) -/
  | almAddendWrite (m : Master) (v : Word)
  /-- PPS_EDGE. A PPS_IN rising edge is stamped, accepted or ignored, and gives the grandmaster servo a measurement. (R136) -/
  | ppsEdge
  /-- SERVO_HOLDOVER_TIMEOUT. Three source intervals pass without a valid measurement and the servo enters HOLDOVER. (R129) -/
  | servoHoldoverTimeout
  /-- PPS_OK_TIMEOUT. Three seconds pass without an accepted PPS edge and PPS_OK clears. (R136) -/
  | ppsOkTimeout
  /-- TIME_MESSAGE_COMMIT. A write of 0x2200:0A commits the time message for the next qualifying PPS edge. (R135) -/
  | timeMessageCommit (p : DPath) (sec : Nat)
  /-- TIME_MESSAGE_DISCARD. A committed time message finds no PPS edge in its window and is discarded and counted. (R135) -/
  | timeMessageDiscard
  /-- TSYNC. A TSYNC frame is received and stamped, awaiting its FUP. (R139) -/
  | tsync (d : List Byte) (sof : Nat)
  /-- FUP. A FUP is received, paired with its TSYNC, and forms the producer time for a measurement, or is discarded. (R140) -/
  | fup (d : List Byte)
  /-- TSYNC_TIMEOUT. No FUP follows a TSYNC within 100 ms and the TSYNC is discarded. (R152) -/
  | tsyncTimeout
  /-- CAN_SYNC_PRODUCE. The sync period ends and the producer sends TSYNC on its channel. (R139) -/
  | canSyncProduce
  /-- CAN_SYNC_FUP_SEND. Once the TSYNC start-of-frame stamp is known, the producer sends the FUP. (R139) -/
  | canSyncFupSend (sof : Nat)
  /-- SYNC. An 802.1AS Sync or Follow_Up is received, measured for the follower servo and forwarded with corrections. (R138) -/
  | ptpSync (msg : PtpSync)
  /-- SYNC_TRANSMIT. As grandmaster the module sends a one-step Sync at each sync interval. (R146) -/
  | syncTransmit
  /-- ANNOUNCE. An Announce is received; the BMCA may select a new grandmaster and the UTC data are taken. (R137) -/
  | announce (msg : Announce)
  /-- ANNOUNCE_TRANSMIT. The module sends Announce every second with its clock quality. (R146) -/
  | announceTransmit
  /-- PDELAY_REQUEST_TRANSMIT. The peer-delay interval expires and a peer-delay request is sent on a port. (R146) -/
  | pdelayRequestTransmit (port : Fin 8)
  /-- PEER_DELAY_EXCHANGE. A peer-delay exchange completes, updating the mean link delay, baseline and PHY live adjustment. (R148) -/
  | peerDelayExchange (port : Fin 8) (delay : Nat)
  /-- RTC_ALIGN. Every 64 s while TIME_VALID is set, the RTC is aligned to the Almanac's next whole second and TRIM is updated. (R143) -/
  | rtcAlign
  /-- AGED. A record has been held for 2^31 ns and its AGED bit is set. (R134) -/
  | aged (q : StampQueue) (place : Nat)
  /-- SUBMIT. MST_CMD SUBMIT or a request write runs admission and accepts or refuses the milestone. (R162) -/
  | milestoneSubmit (m : Master) (req : Option (List Word))
  /-- CANCEL. MST_CMD CANCEL removes the milestone with the tag, after runs already too close to stop. (R173) -/
  | milestoneCancel (m : Master) (tag : Nat)
  /-- CANCEL_ALL. MST_CMD CANCEL_ALL cancels every live milestone. (R173) -/
  | milestoneCancelAll (m : Master)
  /-- MST_RESULT_READ. A read of MST_RESULT stalls until this master's decision is made. (R160) -/
  | mstResultRead (m : Master)
  /-- MILESTONE_RUN. A run's tick is reached and every item is carried out, the masks recorded and the next run computed. (R170) -/
  | milestoneRun (e : Fin 64)
  /-- MST_CQ0_READ. A read of MST_CQ0 locks the head completion record. (R172) -/
  | mstCq0Read (m : Master)
  /-- MST_CQ10_READ. A read of MST_CQ10 releases the head completion record and advances the queue. (R172) -/
  | mstCq10Read (m : Master)
  /-- LOST_CLR. A write of 1 to MST_CQ_CLR.LOST_CLR clears CQ_LOST. (R159) -/
  | mstLostClr (m : Master) (v : Word)
  /-- MST_EVT_READ. A read of MST_EVTc returns the last event code and clears NEW. (R159) -/
  | mstEvtRead (m : Master) (c : Fin 4)
  /-- COMPLETION_RECORD_READ. A read of 0x2300:06 returns and removes the head completion record. (R177) -/
  | completionRecordRead (p : DPath)
  /-- EN. A write of WCU_CTRLc.EN starts the counter with 1 or stops it with 0. (R180) -/
  | wcuEn (m : Master) (c : Fin 8) (v : Word)
  /-- WCU_GSTART. A write of WCU_GSTART starts every named counter in one Switch cycle, or is refused whole. (R179) -/
  | wcuGstart (m : Master) (v : Word)
  /-- WCU_GSTOP. A write of WCU_GSTOP stops every named counter in one Switch cycle. (R180) -/
  | wcuGstop (m : Master) (v : Word)
  /-- WCU_PERIOD_BOUNDARY. The counter lands on 0, applying pending settings and counting a period. (R178) -/
  | wcuPeriodBoundary (c : Fin 8)
  /-- WCU_TOP_TURNAROUND. In up/down mode the counter lands on TOP and turns to count down. (R178) -/
  | wcuTopTurnaround (c : Fin 8)
  /-- WCU_COMPARE_MATCH. The counter lands on a compare value and the channel's output changes by OMODE. (R183) -/
  | wcuCompareMatch (n : Fin 32)
  /-- WCU_CMP_WRITE. A write of WCU_CMPn takes effect in the next cycle and is classified ahead or passed. (R182) -/
  | wcuCmpWrite (m : Master) (n : Fin 32) (v : Word)
  /-- WCU_CAPH_READ. A read of WCU_CAPHn returns the head stamp, removes the record and latches its count and flags. (R188) -/
  | wcuCaphRead (m : Master) (n : Fin 32)
  /-- WCU_CAP_LOST_CLR. A write of 1 to WCU_CAPn.LOST_CLR clears LOST. (R188) -/
  | wcuCapLostClr (m : Master) (n : Fin 32) (v : Word)
  /-- ARM. A write of ARM, or a milestone CAPARM, arms a capture channel from the next cycle. (R185) -/
  | wcuArm (m : Master) (n : Fin 32) (v : Word)
  /-- CAPTURE_RECORD_READ. A read of 0x2410+n:0B returns and removes the head capture record. (R193) -/
  | captureRecordRead (p : DPath) (n : Fin 32)
  /-- OUT_LVL_WRITE. A write of OUT_LVLn or 0x3100+n:02 sets the channel's static level latch, or is refused in SAFE. (R197) -/
  | outLvlWrite (m : Master) (n : Fin 96) (v : Word)
  /-- OUT_LATB_WRITE. A write of OUT_LATBj sets all latches of a bank in one Switch cycle. (R222) -/
  | outLatbWrite (m : Master) (j : Fin 3) (v : Word)
  /-- OUT_LATS_WRITE. A write of OUT_LATSj sets the named latches. (R222) -/
  | outLatsWrite (m : Master) (j : Fin 3) (v : Word)
  /-- OUT_LATC_WRITE. A write of OUT_LATCj clears the named latches. (R222) -/
  | outLatcWrite (m : Master) (j : Fin 3) (v : Word)
  /-- APPLY. A write of OUT_APPLYn or 0x3000+n:0C applies every pending value of the channel at once. (R221) -/
  | outApply (m : Master) (n : Fin 96) (v : Word)
  /-- DDIN_EDGE. A DDIN pin changes after its synchronizer and glitch filter and drives the channels that select it. (R199) -/
  | ddinEdge (k : Fin 8) (high : Bool)
  /-- INRUSH_WINDOW_END. The inrush window ends and the channel enters ON or PWM with its programmed threshold. (R205) -/
  | inrushWindowEnd (n : Fin 96)
  /-- OFF_DETECTED. The command of a TW or DDIN channel stays inactive for OFFDET and the channel goes to OFF. (R204) -/
  | offDetected (n : Fin 96)
  /-- IGN_FILTERED_FALL. The filtered IGN falls; run-on timers start on stage-on channels and the awake timer starts. (R210) -/
  | ignFilteredFall
  /-- IGN_FILTERED_RISE. The filtered IGN rises; run-on timers stop, DISARMED bits clear and the awake timer stops. (R210) -/
  | ignFilteredRise
  /-- RUNON_EXPIRY. A run-on timer expires and the command returns to the drive line. (R210) -/
  | runonExpiry (n : Fin 96)
  /-- ALIGN_DELAY_END. An aligned channel's inserted delay ends and the stage switches. (R214) -/
  | alignDelayEnd (n : Fin 96)
  /-- OUTPUT_CROSSING. The 50% comparator crosses; the delay is measured and the transition recorded. (R218) -/
  | outputCrossing (n : Fin 96) (rising : Bool)
  /-- NOCROSS. No crossing comes within 200 µs of switching; the transition is recorded with NOCROSS. (R218) -/
  | noCross (n : Fin 96)
  /-- OUT_TRQ0_READ. A read of OUT_TRQ0 locks the head transition record. (R219) -/
  | outTrq0Read (m : Master)
  /-- OUT_TRQ3_READ. A read of OUT_TRQ3 releases the head transition record and advances the queue. (R219) -/
  | outTrq3Read (m : Master)
  /-- OUT_TRQ_LOST_CLR. A write of 1 to OUT_TRQSTAT.LOST_CLR clears LOST. (R222) -/
  | outTrqLostClr (m : Master) (v : Word)
  /-- OUT_LTSEC_READ. A read of OUT_LTSECn latches the rest of the last transition for the master. (R221) -/
  | outLtsecRead (m : Master) (n : Fin 96)
  /-- LAST_TRANSITION_READ. A read of 0x3100+n:0A or :0E takes a new latch of the last transition for its path. (R226) -/
  | lastTransitionRead (p : DPath) (n : Fin 96) (packed : Bool)
  /-- SHORT_CIRCUIT_CUTOFF. The short-circuit comparator turns the stage off and the channel enters TRIPPED. (R229) -/
  | shortCircuitCutoff (n : Fin 96)
  /-- SAMPLE_PUBLISH. A heavy or medium sample is published every 20 µs and used by the detectors and consumers. (R259) -/
  | samplePublish (n : Fin 64) (raw : Int) (refOk : Bool)
  /-- LIGHT_CONVERSION. The light-channel converter converts one mirror per 1 µs slot and publishes its sample. (R260) -/
  | lightConversion (raw : Int) (refOk : Bool)
  /-- WIRE_MODEL_STEP. Every 100 µs the heat state H of each channel is updated and LATCH_W and WARN are evaluated. (R233) -/
  | wireModelStep
  /-- JUNCTION_OVERTEMP. A stage junction reaches 170 °C, a protection event that sets LATCH_J. (R228) -/
  | junctionOvertemp (n : Fin 96) (tj : Int)
  /-- JUNCTION_COOLED. The junction falls to 150 °C and LATCH_J clears; the latch may clear. (R236) -/
  | junctionCooled (n : Fin 96) (tj : Int)
  /-- DIP_SET. A feed falls below 16.0 V; DIP sets and envelope detectors of inrush channels pause. (R231) -/
  | dipSet (k : Fin 4)
  /-- DIP_CLEAR. A feed rises above 16.5 V; DIP clears and paused spans restart. (R231) -/
  | dipClear (k : Fin 4)
  /-- DIP_PAUSE_TIMEOUT. An envelope pause reaches 1 ms and the detector resumes. (R231) -/
  | dipPauseTimeout (n : Fin 96)
  /-- BACKOFF_END. A back-off ends; the restart is held by SCHOLD or queued in Tollgate. (R239) -/
  | backoffEnd (n : Fin 96)
  /-- RETRY_RESET. RESET_T passes in ON or PWM without a protection event and USED becomes 0. (R239) -/
  | retryReset (n : Fin 96)
  /-- PLANNING_STEP. Every 100 µs Tollgate forms P, places or refuses commanded switch-ons and takes queued ones. (R241) -/
  | planningStep (feeds : List (Nat × Nat))
  /-- SHEDDING. A feed above 1.25 × budget for 200 µs sheds channels by priority. (R246) -/
  | shedding (k : Fin 4)
  /-- RESTORE_OFFER. After RESTORE, one shed channel is offered every 100 ms as a queued switch-on. (R248) -/
  | restoreOffer (k : Fin 4)
  /-- TOLL_CLR. A write of 1 to TOLL_CLRk.CLR clears TOLL_CNTk. (R254) -/
  | tollClr (m : Master) (k : Fin 4) (v : Word)
  /-- BUDGET. A write of the feed budget is checked against BASE plus PLANMAX, accepted or refused with TOLL. (R245) -/
  | tollBudget (m : Master) (k : Fin 4) (v : Word)
  /-- OFS_OLD. 600 s pass without an offset measurement and OFS_OLD is set. (R265) -/
  | ofsOld (n : Fin 96)
  /-- GAIN_DUE. A channel's gain calibration falls due in its interval and GAIN_DUE sets. (R267) -/
  | gainDue (n : Fin 96)
  /-- TESTER_SESSION_START. The filtered ISEL_EN rises; the light scan pauses and samples become STALE. (R263) -/
  | testerSessionStart (isel : Fin 32)
  /-- TESTER_SESSION_END. The filtered ISEL_EN falls and the light scan resumes. (R264) -/
  | testerSessionEnd
  /-- SIGNATURE_CAPTURE_END. A 2 ms inrush capture ends and is learned, judged or SKIPPED. (R273) -/
  | signatureCaptureEnd (n : Fin 64) (x : List Int)
  /-- RELEARN. A write of RELEARN or 0x3300:03 restarts signature learning at the next switch-on. (R272) -/
  | relearn (m : Master) (n : Fin 96) (v : Word)
  /-- SNS_SIGSEL. A write of SNS_SIGSEL latches the selected channel's curve. (R278) -/
  | snsSigsel (m : Master) (v : Word)
  /-- SNS_VAL_READ. A read of SNS_VALn returns the sample and latches its stamp. (R277) -/
  | snsValRead (m : Master) (n : Fin 96)
  /-- START. A valve start from VLV_CMDv or 0x3800+v:0E enters BOOST, is deferred, merged or refused. (R293) -/
  | vlvStart (m : Master) (v : Fin 24) (w : Word)
  /-- OFF. A valve off command moves the valve to OFF_FAST or OFF_SLOW, or ends a WAIT. (R300) -/
  | vlvOff (m : Master) (v : Fin 24) (w : Word)
  /-- VLV_STARTM. A start mask write starts the named valves in ascending order, decided whole. (R296) -/
  | vlvStartm (m : Master) (w : Word)
  /-- VLV_OFFM. An off mask write switches the named valves off. (R296) -/
  | vlvOffm (m : Master) (w : Word)
  /-- BOOST_FREE. A waiting or pending restart valve finds the boost path free and enters BOOST. (R300) -/
  | boostFree (v : Fin 24)
  /-- PEAK_REACHED. Coil current reaches PEAK; the valve enters DWELL and TTP and stroke are judged. (R300) -/
  | peakReached (v : Fin 24)
  /-- STROKE_DIP. A current dip in BOOST confirms the armature stroke. (R298) -/
  | strokeDip (v : Fin 24) (cur : Nat)
  /-- TMAX_ELAPSED. TMAX passes in BOOST without peak; the valve goes to HOLD, OFF or FAULT OPEN. (R300) -/
  | tmaxElapsed (v : Fin 24) (cur : Nat)
  /-- DWELL_ELAPSED. DWELL passes and the valve enters HOLD. (R300) -/
  | dwellElapsed (v : Fin 24)
  /-- HOLDMAX_ELAPSED. HOLDMAX passes in HOLD and the valve switches off. (R300) -/
  | holdmaxElapsed (v : Fin 24)
  /-- VALVE_CURRENT_DECAYED. Current falls below 50 mA in OFF; the event ends with a record, or a pending restart waits. (R300) -/
  | valveCurrentDecayed (v : Fin 24)
  /-- RECHARGE_WINDOW_END. A group's recharge window ends and RECHG clears. (R292) -/
  | rechargeWindowEnd (g : Fin 6)
  /-- VALVE_SHORT. A low-side current above 15 A puts the valve into FAULT with cause SHORT. (R299) -/
  | valveShort (v : Fin 24)
  /-- VALVE_JUNCTION_OVERTEMP. A low-side junction reaches 170 °C and the valve enters FAULT. (R299) -/
  | valveJunctionOvertemp (v : Fin 24)
  /-- HIGH_SIDE_CUTOFF. The group high side cuts off; every valve of the group enters FAULT and HSFAULT sets. (R299) -/
  | highSideCutoff (g : Fin 6)
  /-- CLR. A write of VLV_GCLRg.CLR clears HSFAULT and returns FAULT valves to IDLE. (R299) -/
  | vlvClr (m : Master) (g : Fin 6) (w : Word)
  /-- CNTCLR. A write of VLV_GCLRg.CNTCLR clears VLV_GCNTg. (R306) -/
  | vlvCntclr (m : Master) (g : Fin 6) (w : Word)
  /-- VLV_EVQ0_READ. A read of VLV_EVQ0 locks the head valve record. (R302) -/
  | vlvEvq0Read (m : Master)
  /-- VLV_EVQ3_READ. A read of VLV_EVQ3 releases the head valve record and advances the queue. (R302) -/
  | vlvEvq3Read (m : Master)
  /-- VLV_EVQ_LOST_CLR. A write of 1 to VLV_EVQSTAT.LOST_CLR clears LOST. (R306) -/
  | vlvEvqLostClr (m : Master) (w : Word)
  /-- BOOST_RAIL_AVAILABLE. A group capacitor reaches RAIL − 2 V and FEEDPATH clears. (R285) -/
  | boostRailAvailable (g : Fin 6) (capv : Nat)
  /-- SIN_PIN_CROSSING. A switch-input pin crosses its threshold, is stamped and begins or breaks a debounce run. (R310) -/
  | sinPinCrossing (n : Fin 64) (raw : Bool)
  /-- SIN_LEVEL_CHANGE. A debounce run lasts DEBOUNCE; LEVEL changes and a record is offered. (R310) -/
  | sinLevelChange (n : Fin 64)
  /-- SIN_RES_CONVERSION. A resistor-coded input is converted in its 250 µs slot and POS may be confirmed. (R311) -/
  | sinResConversion (n : Fin 64) (ohms : Option Nat)
  /-- SIN_PERIOD_TIMEOUT. 12 s pass without a rising edge in PULSE mode and PER reads 0. (R312) -/
  | sinPeriodTimeout (n : Fin 64)
  /-- SIN_EQ0_READ. A read of SIN_EQ0 locks the head edge record. (R313) -/
  | sinEq0Read (m : Master)
  /-- SIN_EQ1_READ. A read of SIN_EQ1 releases the head edge record and advances the queue. (R313) -/
  | sinEq1Read (m : Master)
  /-- SIN_EQ_LOST_CLR. A write of 1 to SIN_EQSTAT.LOST_CLR clears LOST. (R319) -/
  | sinEqLostClr (m : Master) (w : Word)
  /-- EDGE_RECORD_READ. A read of 0x4000:C5 returns and removes the head edge record. (R329) -/
  | edgeRecordRead (p : DPath)
  /-- POLL_SAMPLE. Every 20 ms in PARK and DORMANT the poller pulses armed inputs and samples them for poll changes. (R315) -/
  | pollSample (levels : Nat)
  /-- FIO_INPUT_CHANGE. A field input's filtered level changes and a change record and flag follow COS. (R322) -/
  | fioInputChange (p : Fin 32)
  /-- FIO_OUT. A write of FIO_OUT or 0x4100:21 is a refresh, applies configuration and restarts the timer. (R325) -/
  | fioOut (m : Master) (w : Word)
  /-- FIO_OUTS. A write of FIO_OUTS sets image bits as a refresh, refused in TIMEOUT. (R324) -/
  | fioOuts (m : Master) (w : Word)
  /-- FIO_OUTC. A write of FIO_OUTC clears image bits as a refresh, refused in TIMEOUT. (R324) -/
  | fioOutc (m : Master) (w : Word)
  /-- FIO_KICK. A write of FIO_KICK or 0x4100:27 refreshes without change, refused in TIMEOUT. (R324) -/
  | fioKick (m : Master) (w : Word)
  /-- FIELD_TIMEOUT. The field communication timer expires and every output takes its SAFE value. (R325) -/
  | fieldTimeout
  /-- FIO_CQ0_READ. A read of FIO_CQ0 locks the head change record. (R322) -/
  | fioCq0Read (m : Master)
  /-- FIO_CQ1_READ. A read of FIO_CQ1 releases the head change record and advances the queue. (R322) -/
  | fioCq1Read (m : Master)
  /-- FIO_CQ_LOST_CLR. A write of 1 to FIO_CQSTAT.LOST_CLR clears LOST. (R328) -/
  | fioCqLostClr (m : Master) (w : Word)
  /-- FIO_COSF_CLEAR. A write of 1s to FIO_COSF clears change-of-state flags. (R328) -/
  | fioCosfClear (m : Master) (w : Word)
  /-- FAULT. A write of 1 to FIO_STATUS.FAULT or 0x4100:26 clears the common fault bit when no cause holds. (R327) -/
  | fioFault (m : Master) (w : Word)
  /-- SUPLOW. FLD_SUP falls below 15.0 V or rises above 16.0 V and SUPLOW follows. (R327) -/
  | suplow (low : Bool) (volt : Nat)
  /-- OVLD. A field output in current limit for 5 ms is switched off for 100 ms. (R327) -/
  | fioOvld (p : Fin 32)
  /-- FIO_OVERLOAD_RETRY. The 100 ms overload pause ends and a driven output is tried again. (R327) -/
  | fioOverloadRetry (p : Fin 32)
  /-- OVT. A field driver junction reaches 170 °C or cools to 150 °C and the output follows. (R327) -/
  | fioOvt (p : Fin 32) (hot : Bool)
  /-- FIELD_CHANGE_RECORD_READ. A read of 0x4100:28 returns and removes the head change record. (R330) -/
  | fieldChangeRecordRead (p : DPath)
  /-- CAN_MODE_WRITE. A write of CANn_MODE is accepted or refused by state; a MODE 0 write waits for the end of the frame. (R335) -/
  | canModeWrite (m : Master) (n : Fin 8) (w : Word)
  /-- CAN_CONFIG_ENTER. MODE 0 applies; PENDING mailboxes end CANCELLED and TEC and REC become 0. (R335) -/
  | canConfigEnter (n : Fin 8)
  /-- CAN_INTEGRATE_COMPLETE. Eleven recessive bits are seen and the channel enters NORMAL or LISTEN. (R336) -/
  | canIntegrateComplete (n : Fin 8)
  /-- CAN_FRAME_RECEIVED. A frame becomes valid and is filtered to a claimed owner, a queue, or discarded. (R337) -/
  | canFrameReceived (n : Fin 8) (f : CanFrame)
  /-- CAN_ERROR. A bus error is detected, recorded in LEC and counted. (R334) -/
  | canError (n : Fin 8) (lec : Fin 8) (dph tx : Bool) (tec rec_ : Nat)
  /-- CAN_BUS_OFF_RECOVERY. 128 occurrences of 11 recessive bits complete and the channel resumes with counters 0. (R336) -/
  | canBusOffRecovery (n : Fin 8)
  /-- RECOVER. A write of CANn_ERR.RECOVER or 0x4400+n:09 starts bus-off recovery. (R336) -/
  | canRecover (m : Master) (n : Fin 8) (w : Word)
  /-- CAN_QUEUE_WORD0_READ. A read of word 0 of a queue window locks the head record. (R339) -/
  | canQueueWord0Read (m : Master) (n : Fin 8) (q : Fin 2)
  /-- CAN_QUEUE_WORD18_READ. A read of word 18 of a queue window releases the head and advances the queue. (R339) -/
  | canQueueWord18Read (m : Master) (n : Fin 8) (q : Fin 2)
  /-- CAN_QUEUE_LOST_CLR. A write of 1 to CANn_QSTATq.LOST_CLR clears LOST. (R349) -/
  | canQueueLostClr (m : Master) (n : Fin 8) (q : Fin 2) (w : Word)
  /-- CAN_QUEUE_RECORD_READ. A read of 0x4400+n:A0 or :A1 returns and removes the head record. (R359) -/
  | canQueueRecordRead (p : DPath) (n : Fin 8) (q : Fin 2)
  /-- MAILBOX_BUFFER_WRITE. A write to a mailbox buffer is taken, returns a LOADED mailbox to EMPTY, or is ignored with WIGN. (R342) -/
  | mailboxBufferWrite (m : Master) (n : Fin 8) (b : Fin 32) (k : Fin 18) (w : Word)
  /-- LOAD. MB_CTRLm.LOAD checks the buffer and marks the mailbox LOADED. (R342) -/
  | mbLoad (m : Master) (n : Fin 8) (b : Fin 32) (w : Word)
  /-- REQ. MB_CTRLm.REQ requests transmission of a LOADED mailbox. (R343) -/
  | mbReq (m : Master) (n : Fin 8) (b : Fin 32) (w : Word)
  /-- ABORT. MB_CTRLm.ABORT ends a pending or active request. (R343) -/
  | mbAbort (m : Master) (n : Fin 8) (b : Fin 32) (w : Word)
  /-- CLEAR. MB_CTRLm.CLEAR returns an EMPTY or LOADED mailbox to EMPTY. (R343) -/
  | mbClear (m : Master) (n : Fin 8) (b : Fin 32) (w : Word)
  /-- CAN_TX_SELECT. At an arbitration opportunity the controller selects one PENDING mailbox, which becomes ACTIVE. (R345) -/
  | canTxSelect (n : Fin 8)
  /-- CAN_TX_SENT. A transmitted frame becomes valid; the mailbox records SENT and its stamp. (R343) -/
  | canTxSent (n : Fin 8) (sof : Nat)
  /-- CAN_TX_ARBITRATION_LOST. An attempt loses arbitration; the mailbox retries or ends with LOST_ARB. (R343) -/
  | canTxArbitrationLost (n : Fin 8)
  /-- CAN_QUIET_END. A woken channel's QUIET period ends and it enters INTEGRATE. (R336) -/
  | canQuietEnd (n : Fin 8)
  /-- LIN_EN. A write of LIN_CFGc.EN enables or disables the channel after the frame in progress. (R356) -/
  | linEn (m : Master) (c : Fin 4) (w : Word)
  /-- LIN_RUN. A write of LIN_SCHc.RUN starts or stops the schedule. (R356) -/
  | linRun (m : Master) (c : Fin 4) (w : Word)
  /-- LIN_SLEEP. A write of SLEEP sends go-to-sleep after the slot in progress and enters SLEEP. (R356) -/
  | linSleep (m : Master) (c : Fin 4) (w : Word)
  /-- LIN_WAKE. A write of WAKE sends a 1 ms dominant pulse; the schedule resumes 100 ms later. (R356) -/
  | linWake (m : Master) (c : Fin 4) (w : Word)
  /-- LIN_BUS_WAKE. A dominant of 150 µs or more on a sleeping bus sets WAKEREQ and resumes the schedule later. (R356) -/
  | linBusWake (c : Fin 4)
  /-- LIN_WAKE_RESUME. 100 ms after a wake pulse the table in force resumes. (R356) -/
  | linWakeResume (c : Fin 4)
  /-- LIN_SLOT_START. A slot time ends and the next slot begins with its break, or the table moves on. (R353) -/
  | linSlotStart (c : Fin 4)
  /-- LIN_FRAME_END. A LIN frame ends with a result, retries or resolution, and a record is written. (R354) -/
  | linFrameEnd (c : Fin 4) (result : Fin 7) (data : List Byte)
  /-- LIN_BRKTS_WRITE. Base firmware writes LIN_BRKTSc to stamp the break, discarded if the frame has ended. (R355) -/
  | linBrktsWrite (m : Master) (c : Fin 4) (w : Word)
  /-- LIN_RQ0_READ. A read of LIN_RQ0c locks the head LIN record. (R355) -/
  | linRq0Read (m : Master) (c : Fin 4)
  /-- LIN_RQ3_READ. A read of LIN_RQ3c releases the head LIN record. (R355) -/
  | linRq3Read (m : Master) (c : Fin 4)
  /-- LIN_RQ_LOST_CLR. A write of 1 to LIN_RQSTATc.LOST_CLR clears LOST. (R358) -/
  | linRqLostClr (m : Master) (c : Fin 4) (w : Word)
  /-- LIN_RECORD_READ. A read of 0x4480:15 to :18 returns and removes the head LIN record. (R360) -/
  | linRecordRead (p : DPath) (c : Fin 4)
  /-- ETH_FRAME_RECEIVED. A frame is received whole at a port, checked, learned, and queued to its egress ports or discarded. (R366) -/
  | ethFrameReceived (p : Fin 8) (f : EthFrame)
  /-- ETH_FRAME_TRANSMITTED. An egress port serves its highest allowed queue and sends a frame. (R369) -/
  | ethFrameTransmitted (p : Fin 10) (sfd : Nat)
  /-- ETH_ADDRESS_AGE_OUT. A learned address sees no traffic for AGE seconds and ages out. (R366) -/
  | ethAddressAgeOut (mac vid : Nat)
  /-- ETH_LINK_UP. A port's link comes up and the PHY baseline collection starts. (R148) -/
  | ethLinkUp (p : Fin 10) (sqi : Fin 8)
  /-- ETH_LINK_DOWN. A port's link goes down; queued frames are discarded as LINKDN and BASE_VALID clears. (R368) -/
  | ethLinkDown (p : Fin 10)
  /-- KICK. A write of ETH_RINGr.KICK makes the transmit ring take descriptors with OWN set. (R375) -/
  | ethKick (m : Master) (r : Fin 6) (w : Word)
  /-- ETH_RXF_READ. A read of a port's ETH_RXFp latches its other counters for the master. (R383) -/
  | ethRxfRead (m : Master) (p : Fin 10)
  /-- ETH_CCLR. A write of ETH_CCLRp.CLR clears the port's counters. (R383) -/
  | ethCclr (m : Master) (p : Fin 10) (w : Word)
  /-- ETH_BUF_READ. A read of ETH_BUF returns free cells and restarts the LOW tracking. (R381) -/
  | ethBufRead (m : Master)
  /-- STATIC_ENTRY_VALID. A write of ETH_SAe_CTL.VALID checks and applies a static entry's three words together. (R384) -/
  | staticEntryValid (m : Master) (e : Fin 64) (w : Word)
  /-- SVC_EN_RISE. The filtered SVC_EN rises and the service PHY and MAC are powered. (R376) -/
  | svcEnRise
  /-- SVC_EN_FALL. The filtered SVC_EN falls; the service PHY goes off and the session closes. (R376) -/
  | svcEnFall
  /-- SVC_FRAME_RECEIVED. A frame on the service port is answered as ARP, handed to object access, or discarded and counted. (R376) -/
  | svcFrameReceived (f : EthFrame)
  /-- NMEN. A write of NET_CTRL.NMEN enables the network manager into AWAKE, or disables it to OFF. (R389) -/
  | nmen (m : Master) (w : Word)
  /-- WAKEREQ. A write of NET_CTRL.WAKEREQ, HOLD or 0x4600:31 is a local wake request. (R390) -/
  | wakereq (m : Master) (w : Word)
  /-- NM_VOTE_RECEIVED. An NM vote frame is stored for the round, or ignored as a violation; WAKE votes are wake requests. (R387) -/
  | nmVoteReceived (n : Fin 8) (id : Nat) (data : List Byte)
  /-- NM_ROUND_END. A 250 ms round ends; agreement is decided and ROUND or GO_TO_SLEEP is sent. (R388) -/
  | nmRoundEnd
  /-- POINT_OF_NO_RETURN. 200 ms after GO_TO_SLEEP the wake latch is armed and an entry is requested. (R389) -/
  | pointOfNoReturn
  /-- NM_ENTRY_RETRY. After a refused entry the polite request is repeated every 100 ms. (R389) -/
  | nmEntryRetry
  /-- ENTRY_T. ENTRY_T after the point of no return a forced entry is requested. (R389) -/
  | entryT
  /-- AWAKE_TIMER_EXPIRY. The awake timer expires; EXPIRED sets, the keeper log is written and a FORCED eve begins. (R392) -/
  | awakeTimerExpiry
  /-- WAKE_RECOGNISED. An armed source in PARK or DORMANT is recognised; exit begins and a confirmation window opens. (R394) -/
  | wakeRecognised (src : Fin 8)
  /-- CONFIRMATION_WINDOW_EXPIRY. A confirmation window ends unconfirmed; a false wake is counted and the module returns by a forced entry. (R397) -/
  | confirmationWindowExpiry (src : Fin 8)
  /-- SELECTIVE_WAKE_MATCH. A decoder matches a wake frame or overflows its error counter, a CAN wake source. (R395) -/
  | selectiveWakeMatch (n : Fin 4) (f : Option CanFrame)
  /-- RTC_ALARM. The RTC second equals the alarm; it fires once and clears EN. (R396) -/
  | rtcAlarm
  /-- NET_RTCALM. A write of NET_RTCALM_HI with EN checks and sets the RTC alarm. (R396) -/
  | netRtcalm (m : Master) (w : Word)
  /-- WAKE_LINK_ADDRESS. The wake-link responder acknowledges its address, a wake request or source. (R400) -/
  | wakeLinkAddress (addr : Nat) (read : Bool)
  /-- WAKE_LINK_WRITE. A wake-link write sets the pointer and writes data with auto-increment, or is NACKed. (R400) -/
  | wakeLinkWrite (ptr : Nat) (data : List Byte)
  /-- WAKE_LINK_READ. A wake-link read returns register bytes from the pointer. (R400) -/
  | wakeLinkRead (n acked : Nat)
  /-- WAKE_LINK_STOP. A STOP ends a wake-link transaction and is counted and stamped. (R400) -/
  | wakeLinkStop
  /-- PWR_REQUEST_POLITE. A polite PARK or DORMANT request is accepted into NOTICE or refused with the busy refusers. (R411) -/
  | pwrRequestPolite (m : Master) (target : Nat)
  /-- PWR_REQUEST_FORCED. A forced request is accepted, cutting each unit's work at its boundary. (R414) -/
  | pwrRequestForced (m : Master) (target : Nat)
  /-- NOTICE_END. The notice time ends and the SAVE phase begins. (R413) -/
  | noticeEnd
  /-- PWR_SAVED. Base firmware writes PWR_SAVED, ending SAVE; the HW phase switches domains off and saves the Retention Set. (R413) -/
  | pwrSaved (m : Master) (w : Word)
  /-- SAVE_TIMEOUT. SAVE reaches 15 ms without PWR_SAVED, sets SAVETO and the HW phase follows. (R413) -/
  | saveTimeout
  /-- ALIGN. At the Almanac's next whole second the RTC is loaded and PLL_B stops; the entry completes. (R413) -/
  | align
  /-- PARK_TO_DORMANT_TEST. Every 100 ms in PARK with AUTODORM the module makes a polite DORMANT entry when OUT and FIO allow it. (R420) -/
  | parkToDormantTest
  /-- SWITCH_SUPPLY_LOSS. The Switch supply is lost in PARK with Keep on and the module is in DORMANT. (R421) -/
  | switchSupplyLoss
  /-- PLL_LOCK. On exit PLL_A and PLL_B lock; the Retention Set is restored and the Almanac is stepped to the RTC. (R417) -/
  | pllLock (pins : Nat)
  /-- DOMAINS_ON. Core, Comms and Field domains come on at exit and the module returns to RUN. (R417) -/
  | domainsOn (fieldPins : Nat)
  /-- ADD. GD = GA + GB. (R434) -/
  | add (c : Fin 4) (f : BitVec 24)
  /-- SUB. GD = GA − GB. (R434) -/
  | sub (c : Fin 4) (f : BitVec 24)
  /-- AND. GD = GA AND GB. (R434) -/
  | and (c : Fin 4) (f : BitVec 24)
  /-- OR. GD = GA OR GB. (R434) -/
  | or (c : Fin 4) (f : BitVec 24)
  /-- XOR. GD = GA XOR GB. (R434) -/
  | xor (c : Fin 4) (f : BitVec 24)
  /-- SHL. GD = GA shifted left by GB[4:0]. (R434) -/
  | shl (c : Fin 4) (f : BitVec 24)
  /-- SHR. GD = GA shifted right logically by GB[4:0]. (R434) -/
  | shr (c : Fin 4) (f : BitVec 24)
  /-- SAR. GD = GA shifted right arithmetically by GB[4:0]. (R434) -/
  | sar (c : Fin 4) (f : BitVec 24)
  /-- CMP. Sets the flags from GA − GB. (R435) -/
  | cmp (c : Fin 4) (f : BitVec 24)
  /-- TST. Sets Z and N from GA AND GB and clears C and V. (R434) -/
  | tst (c : Fin 4) (f : BitVec 24)
  /-- ADDI. GD = GA + sign-extended immediate. (R434) -/
  | addi (c : Fin 4) (f : BitVec 24)
  /-- ANDI. GD = GA AND zero-extended immediate. (R434) -/
  | andi (c : Fin 4) (f : BitVec 24)
  /-- ORI. GD = GA OR zero-extended immediate. (R434) -/
  | ori (c : Fin 4) (f : BitVec 24)
  /-- XORI. GD = GA XOR zero-extended immediate. (R434) -/
  | xori (c : Fin 4) (f : BitVec 24)
  /-- SHLI. GD = GA shifted left by an immediate. (R434) -/
  | shli (c : Fin 4) (f : BitVec 24)
  /-- SHRI. GD = GA shifted right logically by an immediate. (R434) -/
  | shri (c : Fin 4) (f : BitVec 24)
  /-- SARI. GD = GA shifted right arithmetically by an immediate. (R434) -/
  | sari (c : Fin 4) (f : BitVec 24)
  /-- CMPI. Sets the flags from GA − sign-extended immediate. (R435) -/
  | cmpi (c : Fin 4) (f : BitVec 24)
  /-- LUI. GD = IMM16 × 65,536. (R434) -/
  | lui (c : Fin 4) (f : BitVec 24)
  /-- MULU. Starts an unsigned multiply whose product reaches MHI and MLO three cycles later. (R437) -/
  | mulu (c : Fin 4) (f : BitVec 24)
  /-- MULS. Starts a signed multiply whose product reaches MHI and MLO three cycles later. (R437) -/
  | muls (c : Fin 4) (f : BitVec 24)
  /-- MULTIPLY_COMPLETE. A multiply's 64-bit product is written into MHI and MLO. (R437) -/
  | multiplyComplete (c : Fin 4)
  /-- DIVU. Starts an unsigned division, sets DBUSY, or traps DIVZERO. (R438) -/
  | divu (c : Fin 4) (f : BitVec 24)
  /-- DIVS. Starts a signed division, sets DBUSY, or traps DIVZERO. (R438) -/
  | divs (c : Fin 4) (f : BitVec 24)
  /-- DIVIDE_COMPLETE. A division writes QUO and REM and clears DBUSY. (R438) -/
  | divideComplete (c : Fin 4)
  /-- LDW. Loads a word from data space into GD. (R434) -/
  | ldw (c : Fin 4) (f : BitVec 24)
  /-- LDH. Loads a sign-extended half-word into GD. (R434) -/
  | ldh (c : Fin 4) (f : BitVec 24)
  /-- LDHU. Loads a zero-extended half-word into GD. (R434) -/
  | ldhu (c : Fin 4) (f : BitVec 24)
  /-- LDB. Loads a sign-extended byte into GD. (R434) -/
  | ldb (c : Fin 4) (f : BitVec 24)
  /-- LDBU. Loads a zero-extended byte into GD. (R434) -/
  | ldbu (c : Fin 4) (f : BitVec 24)
  /-- STW. Stores GD as a word into data space. (R434) -/
  | stw (c : Fin 4) (f : BitVec 24)
  /-- STH. Stores GD's low half-word into data space. (R434) -/
  | sth (c : Fin 4) (f : BitVec 24)
  /-- STB. Stores GD's low byte into data space. (R434) -/
  | stb (c : Fin 4) (f : BitVec 24)
  /-- TBL. Loads an instruction-space word into GD. (R430) -/
  | tbl (c : Fin 4) (f : BitVec 24)
  /-- IN. Reads an I/O word at an immediate address into GD. (R434) -/
  | inp (c : Fin 4) (f : BitVec 24)
  /-- INX. Reads an I/O word at GA plus immediate into GD. (R434) -/
  | inx (c : Fin 4) (f : BitVec 24)
  /-- OUT. Writes GD to an I/O word at an immediate address, retiring into the crossing queue. (R436) -/
  | out (c : Fin 4) (f : BitVec 24)
  /-- OUTX. Writes GD to an I/O word at GA plus immediate. (R436) -/
  | outx (c : Fin 4) (f : BitVec 24)
  /-- IOS. Waits until every earlier OUT of this logical core has been accepted. (R436) -/
  | ios (c : Fin 4) (f : BitVec 24)
  /-- BCPY. Copies words from SPTR to DPTR, one element or a run by REP. (R439) -/
  | bcpy (c : Fin 4) (f : BitVec 24) (n : Nat)
  /-- BFIL. Fills words at DPTR with G, one element or a run. (R439) -/
  | bfil (c : Fin 4) (f : BitVec 24) (n : Nat)
  /-- BGET. Loads words from SPTR into G, one element or a run. (R439) -/
  | bget (c : Fin 4) (f : BitVec 24) (n : Nat)
  /-- BCMP. Compares words at SPTR and DPTR, with runs to match or to difference. (R439) -/
  | bcmp (c : Fin 4) (f : BitVec 24) (n : Nat)
  /-- BFND. Compares G with words at DPTR, with runs to match or to difference. (R439) -/
  | bfnd (c : Fin 4) (f : BitVec 24) (n : Nat)
  /-- BSET. Loads SPTR, DPTR and CNT together in one cycle. (R439) -/
  | bset (c : Fin 4) (f : BitVec 24)
  /-- BR. Jumps to an absolute target. (R434) -/
  | br (c : Fin 4) (f : BitVec 24)
  /-- CALL. Pushes PC + 1 on the return stack and jumps. (R444) -/
  | call (c : Fin 4) (f : BitVec 24)
  /-- JMPX. Jumps to GA[23:0]. (R434) -/
  | jmpx (c : Fin 4) (f : BitVec 24)
  /-- CALLX. Pushes PC + 1 and jumps to GA[23:0]. (R444) -/
  | callx (c : Fin 4) (f : BitVec 24)
  /-- RET. Pops the return stack into PC. (R444) -/
  | ret (c : Fin 4) (f : BitVec 24)
  /-- RETI. Restores PC and STAT from the present level's shadow set. (R445) -/
  | reti (c : Fin 4) (f : BitVec 24)
  /-- BCC. Branches by offset when COND holds. (R435) -/
  | bcc (c : Fin 4) (f : BitVec 24)
  /-- MFS. Reads a special register into G. (R427) -/
  | mfs (c : Fin 4) (f : BitVec 24)
  /-- MTS. Writes G into a special register, subject to mode rules. (R450) -/
  | mts (c : Fin 4) (f : BitVec 24)
  /-- WAITEV. Waits on selected event bits or a pending interrupt and reports and clears them. (R441) -/
  | waitev (c : Fin 4) (f : BitVec 24)
  /-- WAITEV_WAKE. A selected condition arises for a waiting WAITEV, which retires. (R441) -/
  | waitevWake (c : Fin 4)
  /-- SIGEV. Sets SIGNAL in each named other logical core. (R441) -/
  | sigev (c : Fin 4) (f : BitVec 24)
  /-- WTU. Waits until the Almanac reaches a short-time target, a timeout or an interrupt. (R442) -/
  | wtu (c : Fin 4) (f : BitVec 24)
  /-- WTU_END. A WTU wait ends by target, timeout or interrupt and writes GD. (R442) -/
  | wtuEnd (c : Fin 4)
  /-- SYSC. Traps SYSCALL with its code in ECAUSE. (R434) -/
  | sysc (c : Fin 4) (f : BitVec 24)
  /-- BRK. Traps BREAK. (R434) -/
  | brk (c : Fin 4) (f : BitVec 24)
  /-- NOP. Does nothing. (R434) -/
  | nop (c : Fin 4) (f : BitVec 24)
  /-- RSPOP. Pops the return stack into G. (R444) -/
  | rspop (c : Fin 4) (f : BitVec 24)
  /-- RSPUSH. Pushes G[23:0] on the return stack. (R444) -/
  | rspush (c : Fin 4) (f : BitVec 24)
  /-- INTERRUPT_ENTRY. A pending admitted interrupt is taken at an instruction or element boundary. (R445) -/
  | interruptEntry (c : Fin 4)
  /-- CORE_SWSET. A write of CORE_SWSET sets a software interrupt line pending. (R453) -/
  | coreSwset (m : Master) (v : Word)
  /-- CORE_START. A logical core starts from reset after the comparator test. (R429) -/
  | coreStart (c : Fin 4)
  /-- BTE_START. A write of BTE_CTRLc.START checks and starts a transfer, or refuses it. (R455) -/
  | bteStart (m : Master) (c : Fin 8) (v : Word)
  /-- BTE_ABORT. A write of BTE_CTRLc.ABORT ends the transfer at the next word boundary. (R456) -/
  | bteAbort (m : Master) (c : Fin 8) (v : Word)
  /-- BTE_WORD. A busy BTE channel moves one word in round-robin order, ending DONE or FAULT as needed. (R459) -/
  | bteWord
  /-- PAIR_MISCOMPARE. A pair's lanes differ; the access is suppressed and a switch-over or stop follows. (R464) -/
  | pairMiscompare (pair : Fin 2) (lane : Fin 304)
  /-- GO. A write of FCRU_RSYNC.GO or 0x4B00:03 starts a resync or is refused. (R466) -/
  | fcruRsyncGo (m : Master) (v : Word)
  /-- RESYNC_COMPLETE. The resync steps end; the pair returns to service or stays out with FAILED. (R466) -/
  | resyncComplete (failed : Option (Fin 304))
  /-- COMPARATOR_TEST_COMPLETE. The start-up comparator test ends and passing pairs start the cores. (R468) -/
  | comparatorTestComplete (a b : Option (Fin 304))
  /-- COMPARATOR_TEST_RETRY. Every 10 s with no pair passing, the test is repeated. (R468) -/
  | comparatorTestRetry
  /-- DEBUG_HALT. A debugger halts a logical core at an instruction boundary in service mode. (R469) -/
  | debugHalt (c : Fin 4)
  /-- DEBUG_ACCESS. A debugger access is replayed into every core of the logical core. (R469) -/
  | debugAccess (c : Fin 4) (a : DebugAccess)
  /-- FCRU_SOURCE_EVENT. A source is raised, classified MINOR or SEVERE and its reactions start. (R471) -/
  | fcruSourceEvent (outside : Option (Fin 192 × Word))
  /-- FCRU_WINDOW_END. A source's window ends; COUNT becomes 0 and its class returns to MINOR. (R471) -/
  | fcruWindowEnd (src : Fin 192)
  /-- SAFECLR. A write of FCRU_CTRL.SAFECLR or 0x4A00:05 clears SAFE, or is refused while a source is pending. (R474) -/
  | fcruSafeclr (m : Master) (v : Word)
  /-- FCRU_PEND_CLEAR. A write of 1s to FCRU_PENDw or 0x4A00:07 acknowledges sources. (R470) -/
  | fcruPendClear (m : Master) (w : Fin 6) (v : Word)
  /-- FCRU_RAISE. A write of FCRU_RAISE raises a software source with its INFO. (R484) -/
  | fcruRaise (m : Master) (v : Word)
  /-- FCRU_SCFG. A source configuration write is checked against forced and allowed reactions and governs its next event. (R472) -/
  | fcruScfg (m : Master) (v : Word)
  /-- FCRU_LOG0_READ. A read of FCRU_LOG0 locks the head fault record. (R475) -/
  | fcruLog0Read (m : Master)
  /-- FCRU_LOG4_READ. A read of FCRU_LOG4 releases the head fault record. (R475) -/
  | fcruLog4Read (m : Master)
  /-- FCRU_LOG_LOST_CLR. A write of 1 to FCRU_LOGSTAT.LOST_CLR clears LOST. (R484) -/
  | fcruLogLostClr (m : Master) (v : Word)
  /-- FAULT_LOG_RECORD_READ. A read of 0x4A00:09 returns and removes the head fault record. (R485) -/
  | faultLogRecordRead (p : DPath)
  /-- MUTE_END. A partner's 1 s mute ends and its violation count restarts. (R481) -/
  | muteEnd (iface who : Nat)
  /-- ACC_SCHEDULE_TRIGGER. The SCHED period elapses with IGN high and no drive enable and an ANT2 attempt starts. (R491) -/
  | accScheduleTrigger
  /-- POLL. A write of ACC_CTRL.POLL or 0x4800:03 starts an attempt on the chosen antenna. (R491) -/
  | accPoll (m : Master) (w : Word)
  /-- END. A write of ACC_CTRL.END or 0x4800:0A ends the session with COMMAND. (R499) -/
  | accEnd (m : Master) (w : Word)
  /-- CALREQ. A write of CALREQ or 0x4800:09 starts antenna calibration in service mode. (R506) -/
  | accCalreq (m : Master) (w : Word)
  /-- WAKE_TRAIN_END. The 202 ms wake train ends and the first round sends POLL. (R492) -/
  | wakeTrainEnd
  /-- RESP. A token's RESP in its slot is received and timed. (R492) -/
  | accResp (slot : Fin 8) (collided : Bool) (token : Option (Fin 16)) (ra : Nat)
  /-- REPORT. A token's REPORT with counter, times and tag is received. (R492) -/
  | accReport (slot : Fin 8) (collided : Bool) (rb db counter : Nat) (tag : List Byte)
  /-- ROUND_END. A 10 ms round ends; responses are judged and the winner, another round or the attempt's end decided. (R494) -/
  | roundEnd
  /-- NEXT_ROUND. 20 ms after a round ends the next round sends POLL. (R492) -/
  | nextRound
  /-- ACC_SESSION_TIMEOUT. The session timer expires and the session ends with TIMEOUT. (R499) -/
  | accSessionTimeout
  /-- DRIVE_ENABLE_FRAME. Every 100 ms while latched, a drive-enable frame is sent. (R501) -/
  | driveEnableFrame
  /-- DEWAIT. IGN stays low DEWAIT seconds after the grant and drive enable clears. (R502) -/
  | dewait
  /-- WITHDRAWN. One of three WITHDRAWN frames is sent 100 ms apart after the latch clears. (R502) -/
  | withdrawnFrame
  /-- TOKEN_ENROLMENT. A write of 0x4800:20+i enrols or removes a token, or is refused during an attempt. (R489) -/
  | tokenEnrolment (p : DPath) (token : Fin 16) (data : List Byte)
  /-- BEGIN. Update command BEGIN marks the inactive bank empty and starts erasing. (R514) -/
  | updBegin (m : Master)
  /-- ABANDON. Update command ABANDON returns the engine to IDLE with the bank marked empty. (R514) -/
  | updAbandon (m : Master)
  /-- RESTART. Update command RESTART saves state, swaps banks and restarts the cores into TRIAL. (R515) -/
  | updRestart (m : Master)
  /-- CONFIRM. Update command CONFIRM raises the anti-rollback count and releases the old settings. (R516) -/
  | updConfirm (m : Master)
  /-- ERASE_COMPLETE. Erasure of the inactive bank completes and the engine enters RECEIVING. (R514) -/
  | eraseComplete
  /-- IMAGE_SEGMENT. A segment of 0x4D00:02 is programmed; the LAST segment commits the image into VERIFYING. (R514) -/
  | imageSegment (offset : Nat) (data : List Byte) (last : Bool)
  /-- VERIFY_COMPLETE. Image checks end with READY or FAILED and a journal record. (R513) -/
  | verifyComplete
  /-- MIGRATION_END. Settings migration in TRIAL ends, MIGRATED or a revert. (R516) -/
  | migrationEnd (failed : Bool)
  /-- AUTOCONF. With AUTOCONF set, 60 s of trial run time confirm the image. (R516) -/
  | autoconf
  /-- TRIAL_TIMEOUT. The trial run time reaches 600 s and the module reverts with TIMEOUT. (R514) -/
  | trialTimeout
  /-- TRIAL_TIME_SAVE. The trial run time is saved to data flash every 60 s. (R516) -/
  | trialTimeSave
  /-- PAIRING_RECORD_WRITE. A write of 0x4D00:09 checks a pairing record and stores it or refuses it with a cause. (R522) -/
  | pairingRecordWrite (p : DPath) (data : List Byte)
  /-- PAIRING_START_CHECK. At a start of the cores base firmware rechecks the stored record and sets the paired state. (R522) -/
  | pairingStartCheck
  /-- MODULE_UNPAIRED. Every 1 s while unpaired, the MODULE_UNPAIRED frame is sent. (R523) -/
  | moduleUnpaired
  /-- PAIRING_CHALLENGE. A powertrain challenge frame is answered within 10 ms with the CMAC response. (R524) -/
  | pairingChallenge (nonce : List Byte)
  /-- INTEGRATOR_IMAGE_KEY. A write of 0x4D00:0E writes the integrator image key once into OTP. (R530) -/
  | integratorImageKey (p : DPath) (data : List Byte)
  /-- ODOMETER_SAVE. Every 10 minutes of run time the accumulators are folded into the Odometer copy in data flash. (R526) -/
  | odometerSave
  /-- SAVE. A write of ODO_CTRL.SAVE by base firmware saves the Odometer now. (R529) -/
  | odoSave (m : Master) (w : Word)
  /-- ODOMETER_SECOND_SAMPLE. Once per second the histogram samples are taken and their bins counted. (R525) -/
  | odometerSecondSample (plate : Int) (volt : Nat)
  /-- ODO_SEL. A write of ODO_SEL latches the selected Odometer item into the window. (R529) -/
  | odoSel (m : Master) (w : Word)
  /-- ALMANAC_TICK. At every tick of the Almanac clock the rate addend is added to NS. (R117) -/
  | almanacTick
  /-- WCU_COUNT_STEP. A running counter steps its count once every PRESC + 1 Switch cycles. (R178) -/
  | wcuCountStep (c : Fin 8)
  /-- FIO_PIN_CROSSING. A field input pin crosses its switching point and is stamped, which begins or breaks a filter run and changes FIO_PIN. (R322) -/
  | fioPinCrossing (p : Fin 32) (high : Bool)
  /-- DEBUG_RESUME. A debugger lets a halted logical core run again from its instruction boundary. (R469) -/
  | debugResume (c : Fin 4)
  /-- FINAL. 5.0 ms after POLL the module sends FINAL in the round. (R492) -/
  | accFinal
  /-- FCRU_REACTION_COMPLETE. A source's reaction ends its in-progress time, so BUSY clears and later events of the source are counted again. (R473) -/
  | fcruReactionComplete (src : Fin 192)
  /-- ISEL_CHANGE. During a tester session the value on ISEL4 to ISEL0 changes, which selects another light mirror on ISENSE_L and changes SNS_STATUS.ISEL. (R110) -/
  | iselChange (isel : Fin 32)
deriving DecidableEq, Repr

end Sys2Proof
end

