-- ==== Sys2Proof/Decode.lean ====
section
/-!
DEFINITION. Decode.lean: the command that a word spells by the bits of the opcode table. The table of this block gives no row any bits.
-/
namespace Sys2Proof

/-- No word spells a command: no row of the table has bits. -/
def decodeTableWord (_nbits _w : Nat) : Option Instr := none

end Sys2Proof
end

