-- ==== Sys2Proof/Config.lean ====
section
/-!
DEFINITION. Config.lean: the free values. Each stands for a value that the spec leaves open; none has a body, so nothing can be
proved of the value itself. An index `k` is the plain counter `fresh` of State, so that two uses need not agree.
-/
namespace Sys2Proof.Config

/-- The addend that the servo's control law gives where the spec gives only its bounds (R129, R130). -/
opaque servoAddend (k : Nat) : Nat

/-- The rate ratio of 802.1AS-2020 less 1, units of 2^-41, by which a link delay and a residence time are scaled (R138, R147): the standard forms it. -/
opaque rateRatio (k : Nat) : Int

/-- The front-end delay of PPS_IN, ns (R145). -/
opaque ppsFrontEnd : Nat

/-- The factory latencies of a port's PHY, ingress and egress, units of 1/16 ns, and the ingress part of its delay in 1/65,536 (R145, R148). -/
opaque phyIngress (port : Nat) : Nat
opaque phyEgress (port : Nat) : Nat
opaque phyRatio (port : Nat) : Nat

/-- The residence time of a forwarded Sync, ns (R147). -/
opaque residence (k : Nat) : Int

/-- The rate correction of the RTC, units of 0.1 ppm, as hardware's comparison gives it (R143). -/
opaque rtcTrim (k : Nat) : Int

/-- Clock accuracy, variance and identity that the module announces (R137, R146). -/
opaque clockAccuracy : Nat
opaque clockVariance : Nat
opaque clockIdentity : Nat

/-- A signature sample scaled by a feed voltage that reads 0 (R271), and the deviation index where its divisor is 0 (R273), units of 2^-16. -/
opaque scaledSample (k : Nat) (x : Int) : Int
opaque signatureIndex (k : Nat) : Nat

/-- Whether a stored calibration record passes its check at a start (R270): the spec gives neither its form nor what could spoil it. -/
opaque calRecordOk (k : Nat) : Bool

/-- How a switch input's pin reads against the thresholds of a mode that applies, where the last reading was against others (R309, R314). -/
opaque pinReading (k : Nat) : Bool

/-- The TTP of a boost that passed TMAX without its peak (R297, R302), µs. -/
opaque lateTtp (k : Nat) : Nat

/-- REC after a valid reception where it stood above 127: ISO 11898-1 lets it fall to a value from 119 to 127. -/
opaque recAfter (k : Nat) : Nat

/-- The settings of a claimed filter pair, where its owner's rules fix only what it matches (R337, R344). -/
opaque ownerFilter (k : Nat) : Nat

/-- A byte from the module's random source (R492, R524). -/
opaque randomByte (k : Nat) : Byte

/-- The slot of a token in a round: SHA-256 over its ID and the nonce; taken modulo 8 (R492). The cryptographic functions are the standards';
the model holds them as functions of their inputs and nothing more. -/
opaque tokenSlot (id nonce : List Byte) : Nat

/-- The tag of a REPORT: the truncated AES-128 CMAC under the token key over counter, serial number and nonce (R494). -/
opaque tokenTag (key : List Byte) (counter : Nat) (serial nonce : List Byte) : List Byte

/-- The truncated AES-128 CMAC of a drive-enable frame under the drive key, over the identifier and bytes 0 to 7 (R501). -/
opaque driveTag (key : List Byte) (id : Nat) (data : List Byte) : List Byte

/-- ROUNDS of a calibration's record, whose 32 rounds do not fit the field (R498). -/
opaque calRounds (k : Nat) : Nat

/-- Whether an ECDSA P-256 signature verifies under a public key; SHA-256; AES key unwrap under the transport key, none where the integrity
check fails (R513, R520, R521). -/
opaque ecdsaOk (key msg sig : List Byte) : Bool
opaque sha256 (msg : List Byte) : List Byte
opaque keyUnwrap (key wrapped : List Byte) : Option (List Byte)

/-- The truncated AES-128 CMAC of a challenge's answer under the drive key, over the identifier, the nonce and byte 0 (R524). -/
opaque answerTag (key : List Byte) (id : Nat) (nonce : List Byte) (byte0 : Nat) : List Byte

/-- H of a channel as hardware's decay gives it, within the bound that R237 sets. -/
opaque heatDecay (k : Nat) : Nat

/-- The wake source that NET_WSRC names when the latched wake request has no code of R394: a write (R389, R390). -/
opaque unnamedWake (k : Nat) : Nat

/-- The block size that an SDO server asks for in a block download; taken from 1 to 127 (R51). -/
opaque sdoBlockSize (k : Nat) : Nat

/-- AES-128 CMAC of a message under a key, before it is truncated (R59, R61). -/
opaque cmac (key msg : List Byte) : List Byte

/-- The identifier that the module gives a new session; made different from 0 and from those in use (R60). -/
opaque sessionId (k : Nat) : Nat

/-- The MAC address of the service port (R376). -/
opaque serviceMac : Nat

/-- What EPC and ESTAT read as, and RETI restores, at a level that has no shadow set (R427, R445). -/
opaque noShadow (k : Nat) : Word

/-- The Core cycles of the present tick of the model clock, which counts whole ticks of 8 ns; taken modulo 4 (R427, CYCLE). -/
opaque cycleInTick (k : Nat) : Nat

/-- What a debugger reads at an address that holds nothing (R469). -/
opaque debugRead (k : Nat) : Word

end Sys2Proof.Config
end

