-- ==== Sys2Proof/Machine/Regs.lean ====
section
/-!
DEFINITION. Machine/Regs.lean: every register of the I/O space by its name, with its address, its writable bits and its reset value,
and every field by its name, as the register tables of the unit chapters give them (R5, R6, R8, R120 to R126, R142, R159, R179, R185,
R186, R188, R221, R222, R252 to R254, R277, R278, R306, R318, R319, R328, R349, R358, R381 to R384, R402, R423, R453, R458, R484,
R507, R528, R529). A register that the spec writes with an index (CHn, TWn, FEEDk) is one name with an index from 0;
a register with two indices (CANn and filter f) has index n * count + f.
-/
set_option linter.unusedVariables false
namespace Sys2Proof.Machine

/-- The units of the I/O space map (R37). -/
inductive IoUnit where
  | CORE
  | PWR
  | FCRU
  | BTE
  | ALM
  | MST
  | WCU
  | OUT
  | PROT
  | SNS
  | TOLL
  | VLV
  | SIN
  | FIO
  | CAN
  | LIN
  | ETH
  | NET
  | ACC
  | SVC
  | ODO
  | IDN
deriving DecidableEq, Repr

/-- The registers, one name each. -/
inductive Reg where
  | IDN_VARIANT
  | IDN_PRESENCE
  | IDN_STATUS
  | ALM_CTRL
  | ALM_STATUS
  | ALM_SEC_LO
  | ALM_SEC_HI
  | ALM_NS
  | ALM_SHORT
  | ALM_WRAP
  | ALM_SHORT_LAT
  | ALM_ADDEND_LO
  | ALM_ADDEND_HI
  | ALM_OFFSET
  | ALM_HOLD
  | ALM_SET_SEC_LO
  | ALM_SET_SEC_HI
  | ALM_SET_NS
  | ALM_UTC
  | ALM_CANSYNC
  | ALM_PPS_STAMP
  | ALM_PHYCAL
  | NET_RTC_SEC_LO
  | NET_RTC_SEC_HI
  | NET_RTC_SUB
  | NET_RTC_TRIM
  | MST_CMD
  | MST_RESULT
  | MST_REQ_CTRL
  | MST_REQ_SEC_LO
  | MST_REQ_SEC_HI
  | MST_REQ_NS
  | MST_REQ_PERIOD
  | MST_REQ_COUNT
  | MST_REQ_HDR
  | MST_REQ_MASK
  | MST_REQ_VAL
  | MST_PLACED
  | MST_STATUS
  | MST_LIVE_LO
  | MST_LIVE_HI
  | MST_CFG
  | MST_SEL
  | MST_CQ_CLR
  | MST_W_REQ
  | MST_W_RUNS
  | MST_W_NEXT
  | MST_W_STATE
  | MST_CQ
  | MST_EVT
  | WCU_CTRL
  | WCU_TOP
  | WCU_CNT
  | WCU_STAT
  | WCU_GSTART
  | WCU_GSTOP
  | WCU_RESULT
  | WCU_CCTRL
  | WCU_CMP
  | WCU_CAPH
  | WCU_CAPV
  | WCU_CAP
  | OUT_CFG
  | OUT_THR
  | OUT_INR
  | OUT_RUNON
  | OUT_ALN
  | OUT_APPLY
  | OUT_LVL
  | OUT_STAT
  | OUT_DLY
  | OUT_FDLY
  | OUT_RUNREM
  | OUT_LTSEC
  | OUT_LTHI
  | OUT_LTNS
  | OUT_TCNT
  | OUT_LATB
  | OUT_LATS
  | OUT_LATC
  | OUT_STGB
  | OUT_INP
  | OUT_RESULT
  | OUT_TRQ
  | OUT_TRQSTAT
  | PROT_WIRE
  | PROT_CPL
  | PROT_RETRY
  | PROT_TOLL
  | PROT_LIM
  | PROT_STAT
  | PROT_JT
  | PROT_BOF
  | PROT_RESULT
  | SNS_VAL
  | SNS_STAMP
  | SNS_CAL
  | SNS_CSTAT
  | SNS_SIGCFG
  | SNS_SIGSTAT
  | SNS_SIGPK
  | SNS_SIGHIST
  | SNS_CFG
  | SNS_STATUS
  | SNS_RESULT
  | SNS_SIGSEL
  | SNS_CURVE
  | TOLL_CFG
  | TOLL_STAT
  | TOLL_CUR
  | TOLL_VOLT
  | TOLL_PLAN
  | TOLL_CNT
  | TOLL_CLR
  | VLV_CUR
  | VLV_TIM
  | VLV_MODE
  | VLV_CMD
  | VLV_STAT
  | VLV_RES
  | VLV_CNT
  | VLV_GCFG
  | VLV_GSTAT
  | VLV_GCLR
  | VLV_GCNT
  | VLV_STARTM
  | VLV_OFFM
  | VLV_RESULT
  | VLV_BSTAT
  | VLV_EVQ
  | VLV_EVQSTAT
  | SIN_CFG
  | SIN_STAT
  | SIN_CNT
  | SIN_PER
  | SIN_EQ0
  | SIN_EQ1
  | SIN_EQSTAT
  | SIN_EQCFG
  | SIN_LVLB0
  | SIN_LVLB1
  | SIN_RESULT
  | SIN_BSEL
  | SIN_BAND
  | FIO_CFG
  | FIO_OUT
  | FIO_OUTS
  | FIO_OUTC
  | FIO_KICK
  | FIO_IN
  | FIO_PIN
  | FIO_COSF
  | FIO_STATUS
  | FIO_TOCFG
  | FIO_SUPV
  | FIO_RESULT
  | FIO_CQ0
  | FIO_CQ1
  | FIO_CQSTAT
  | CAN_MODE
  | CAN_STAT
  | CAN_ERR
  | CAN_BTN
  | CAN_BTD
  | CAN_QSTAT
  | CAN_QCFG
  | CAN_NOMATCH
  | CAN_RESULT
  | CAN_IRQ
  | CAN_IEN
  | CAN_TXPEND
  | CAN_TXEND
  | FLT_MATCH
  | FLT_MASK
  | FLT_CTRL
  | FLT_HITS
  | MB_CTRL
  | MB_STAT
  | MB_TS
  | MB_RQT
  | LIN_CFG
  | LIN_SCH
  | LIN_TDEF
  | LIN_STAT
  | LIN_BRKTS
  | LIN_RQ
  | LIN_RQSTAT
  | LIN_RESULT
  | ETH_CTRL
  | ETH_QMAP
  | ETH_MIRROR
  | ETH_BUF
  | ETH_RESULT
  | ETH_STAT
  | ETH_SVCSTAT
  | ETH_RING
  | ETH_PCFG
  | ETH_PSTAT
  | ETH_CBSA
  | ETH_CBSB
  | ETH_QRES
  | ETH_RXF
  | ETH_RXB
  | ETH_TXF
  | ETH_TXB
  | ETH_D1
  | ETH_D2
  | ETH_D3
  | ETH_D4
  | ETH_CCLR
  | ETH_VLAN
  | ETH_SA_LO
  | ETH_SA_HI
  | ETH_SA_CTL
  | NET_CTRL
  | NET_CFG
  | NET_AWAKE
  | NET_NMID
  | NET_STAT
  | NET_PNR
  | NET_ARM
  | NET_WSRC
  | NET_WLCFG
  | NET_WLMBX
  | NET_WLSTAT
  | NET_WLTS
  | NET_RESULT
  | NET_MAND_LO
  | NET_MAND_HI
  | NET_VOTE_LO
  | NET_VOTE_HI
  | NET_SWK_ID
  | NET_SWK_MSK
  | NET_SWK_CTL
  | NET_SWK_DLO
  | NET_SWK_DHI
  | NET_WCNT
  | NET_KLSEL
  | NET_KLW0
  | NET_KLW1
  | NET_RTCALM_LO
  | NET_RTCALM_HI
  | PWR_REQ
  | PWR_RESULT
  | PWR_STAT
  | PWR_CFG
  | PWR_VETO
  | PWR_BUSY
  | PWR_SAVED
  | PWR_EREP0
  | PWR_EREP1
  | PWR_EREPC
  | PWR_RCNT
  | CORE_CFG
  | CORE_VBASE
  | CORE_ID
  | CORE_EVT
  | CORE_RSD
  | CORE_SWSET
  | CORE_IPEND
  | CORE_MPUB
  | CORE_MPUL
  | CORE_IOPM
  | CORE_IRQ
  | BTE_SRC
  | BTE_DST
  | BTE_CNT
  | BTE_CTRL
  | BTE_STAT
  | BTE_RES
  | BTE_FADDR
  | BTE_RESULT
  | BTE_BUSY
  | FCRU_CTRL
  | FCRU_STAT
  | FCRU_PEND
  | FCRU_SEV
  | FCRU_SEL
  | FCRU_SCFG
  | FCRU_SWIN
  | FCRU_SSTAT
  | FCRU_SCNT
  | FCRU_SINFO
  | FCRU_RAISE
  | FCRU_RESULT
  | FCRU_LOG
  | FCRU_LOGSTAT
  | FCRU_VSEL
  | FCRU_VREC
  | FCRU_VSTAT
  | FCRU_PSTAT
  | FCRU_RSYNC
  | FCRU_BOOTNX
  | FCRU_MISC
  | FCRU_INJ
  | ACC_CFG
  | ACC_TIMING
  | ACC_BOUND
  | ACC_LOCK
  | ACC_DE
  | ACC_CTRL
  | ACC_STAT
  | ACC_RESULT
  | ACC_ANTCAL
  | ACC_RSEL
  | ACC_REC
  | ACC_TOK
  | ACC_LAST
  | ACC_CNT0
  | ACC_CNT1
  | ACC_CNT2
  | SVC_STAT
  | SVC_USTAT
  | SVC_UCMD
  | SVC_ACTVER
  | SVC_ACTFMT
  | SVC_TRIAL
  | SVC_PCFG
  | SVC_RESULT
  | SVC_JRN
  | SVC_JSEL
  | ODO_STAT
  | ODO_SAVES
  | ODO_LAST
  | ODO_SEL
  | ODO_CTRL
  | ODO_W
  | TOLL_RESULT
deriving DecidableEq, Repr

/-- What the register tables say of one register. -/
structure RegDesc where
  /-- The unit of R37 it belongs to. -/
  unit : IoUnit
  /-- The address of index 0. -/
  base : Nat
  /-- Words from one first index to the next, and how many there are. -/
  s1 : Nat := 1
  c1 : Nat := 1
  /-- Words from one second index to the next, and how many there are. -/
  s2 : Nat := 1
  c2 : Nat := 1
  /-- The bits of its RW fields. -/
  rw : Nat := 0
  /-- The bits of its WO fields. -/
  wo : Nat := 0
  /-- The bits of its W1C fields. -/
  w1c : Nat := 0
  /-- The reserved bits of a writable register. -/
  rsv : Nat := 0
  /-- The value after reset, where it is one for every index. -/
  rst : Nat := 0
deriving DecidableEq, Repr

/-- The register tables. -/
def Reg.desc : Reg → RegDesc
  | .IDN_VARIANT => { unit := .IDN, base := 0x4B00 }
  | .IDN_PRESENCE => { unit := .IDN, base := 0x4B01 }
  | .IDN_STATUS => { unit := .IDN, base := 0x4B02, w1c := 0x1 }
  | .ALM_CTRL => { unit := .ALM, base := 0x400, rw := 0x3F, wo := 0x40 }
  | .ALM_STATUS => { unit := .ALM, base := 0x401, w1c := 0x80 }
  | .ALM_SEC_LO => { unit := .ALM, base := 0x402 }
  | .ALM_SEC_HI => { unit := .ALM, base := 0x403 }
  | .ALM_NS => { unit := .ALM, base := 0x404 }
  | .ALM_SHORT => { unit := .ALM, base := 0x405 }
  | .ALM_WRAP => { unit := .ALM, base := 0x406 }
  | .ALM_SHORT_LAT => { unit := .ALM, base := 0x407 }
  | .ALM_ADDEND_LO => { unit := .ALM, base := 0x408, rw := 0xFFFFFFFF }
  | .ALM_ADDEND_HI => { unit := .ALM, base := 0x409, rw := 0xFF, rst := 0x8 }
  | .ALM_OFFSET => { unit := .ALM, base := 0x40A }
  | .ALM_HOLD => { unit := .ALM, base := 0x40B }
  | .ALM_SET_SEC_LO => { unit := .ALM, base := 0x40C, rw := 0xFFFFFFFF }
  | .ALM_SET_SEC_HI => { unit := .ALM, base := 0x40D, rw := 0xFFFF, rsv := 0xFFFF0000 }
  | .ALM_SET_NS => { unit := .ALM, base := 0x40E, rw := 0x3FFFFFFF, rsv := 0xC0000000 }
  | .ALM_UTC => { unit := .ALM, base := 0x40F }
  | .ALM_CANSYNC => { unit := .ALM, base := 0x410, rw := 0x7FFFFFF, rst := 0x40E0 }
  | .ALM_PPS_STAMP => { unit := .ALM, base := 0x411 }
  | .ALM_PHYCAL => { unit := .ALM, base := 0x420, s1 := 1, c1 := 8, rw := 0x3000, rst := 0x1000 }
  | .NET_RTC_SEC_LO => { unit := .NET, base := 0x47F0 }
  | .NET_RTC_SEC_HI => { unit := .NET, base := 0x47F1 }
  | .NET_RTC_SUB => { unit := .NET, base := 0x47F2 }
  | .NET_RTC_TRIM => { unit := .NET, base := 0x47F3 }
  | .MST_CMD => { unit := .MST, base := 0x500, wo := 0xFFFF0003, rsv := 0xFFFC }
  | .MST_RESULT => { unit := .MST, base := 0x501 }
  | .MST_REQ_CTRL => { unit := .MST, base := 0x502, rw := 0x1FFFFF, rsv := 0xFFE00000, rst := 0x40000 }
  | .MST_REQ_SEC_LO => { unit := .MST, base := 0x503, rw := 0xFFFFFFFF }
  | .MST_REQ_SEC_HI => { unit := .MST, base := 0x504, rw := 0xFFFF, rsv := 0xFFFF0000 }
  | .MST_REQ_NS => { unit := .MST, base := 0x505, rw := 0x3FFFFFFF, rsv := 0xC0000000 }
  | .MST_REQ_PERIOD => { unit := .MST, base := 0x506, rw := 0xFFFFFFFF }
  | .MST_REQ_COUNT => { unit := .MST, base := 0x507, rw := 0xFFFF, rsv := 0xFFFF0000 }
  | .MST_REQ_HDR => { unit := .MST, base := 0x508, s1 := 3, c1 := 4, rw := 0x70F, rsv := 0xFFFFF8F0 }
  | .MST_REQ_MASK => { unit := .MST, base := 0x509, s1 := 3, c1 := 4, rw := 0xFFFFFFFF }
  | .MST_REQ_VAL => { unit := .MST, base := 0x50A, s1 := 3, c1 := 4, rw := 0xFFFFFFFF }
  | .MST_PLACED => { unit := .MST, base := 0x514 }
  | .MST_STATUS => { unit := .MST, base := 0x518 }
  | .MST_LIVE_LO => { unit := .MST, base := 0x519 }
  | .MST_LIVE_HI => { unit := .MST, base := 0x51A }
  | .MST_CFG => { unit := .MST, base := 0x51B, rw := 0xFFFFFF, rsv := 0xFF000000, rst := 0x3D090 }
  | .MST_SEL => { unit := .MST, base := 0x51C, rw := 0x3F, rsv := 0xFFFFFFC0 }
  | .MST_CQ_CLR => { unit := .MST, base := 0x51D, wo := 0x80000000, rsv := 0x7FFFFFFF }
  | .MST_W_REQ => { unit := .MST, base := 0x520, s1 := 1, c1 := 18 }
  | .MST_W_RUNS => { unit := .MST, base := 0x532 }
  | .MST_W_NEXT => { unit := .MST, base := 0x533 }
  | .MST_W_STATE => { unit := .MST, base := 0x534 }
  | .MST_CQ => { unit := .MST, base := 0x540, s1 := 1, c1 := 11 }
  | .MST_EVT => { unit := .MST, base := 0x550, s1 := 1, c1 := 4 }
  | .WCU_CTRL => { unit := .WCU, base := 0x800, s1 := 32, c1 := 8, rw := 0x3FFFF, rsv := 0xFFFC0000 }
  | .WCU_TOP => { unit := .WCU, base := 0x801, s1 := 32, c1 := 8, rw := 0xFFFFFFFF, rst := 0xFFFFFFFF }
  | .WCU_CNT => { unit := .WCU, base := 0x802, s1 := 32, c1 := 8 }
  | .WCU_STAT => { unit := .WCU, base := 0x803, s1 := 32, c1 := 8 }
  | .WCU_GSTART => { unit := .WCU, base := 0x900, wo := 0xFF, rsv := 0xFFFFFF00 }
  | .WCU_GSTOP => { unit := .WCU, base := 0x901, wo := 0xFF, rsv := 0xFFFFFF00 }
  | .WCU_RESULT => { unit := .WCU, base := 0x902 }
  | .WCU_CCTRL => { unit := .WCU, base := 0xA00, s1 := 8, c1 := 32, rw := 0x3FFFFF, rst := 0x30000 }
  | .WCU_CMP => { unit := .WCU, base := 0xA01, s1 := 8, c1 := 32, rw := 0xFFFFFFFF }
  | .WCU_CAPH => { unit := .WCU, base := 0xA02, s1 := 8, c1 := 32 }
  | .WCU_CAPV => { unit := .WCU, base := 0xA03, s1 := 8, c1 := 32 }
  | .WCU_CAP => { unit := .WCU, base := 0xA04, s1 := 8, c1 := 32, wo := 0x80000000, rsv := 0x7F00F8F8 }
  | .OUT_CFG => { unit := .OUT, base := 0x1000, s1 := 16, c1 := 96, rw := 0xFF3FFF, wo := 0x80000000, rsv := 0x7F00C000, rst := 0x140000 }
  | .OUT_THR => { unit := .OUT, base := 0x1001, s1 := 16, c1 := 96, rw := 0xFFFF, wo := 0x80000000, rsv := 0x7FFF0000 }
  | .OUT_INR => { unit := .OUT, base := 0x1002, s1 := 16, c1 := 96, rw := 0xFF, wo := 0x80000000, rsv := 0x7FFFFF00 }
  | .OUT_RUNON => { unit := .OUT, base := 0x1003, s1 := 16, c1 := 96, rw := 0xFFFF, wo := 0x80000000, rsv := 0x7FFF0000 }
  | .OUT_ALN => { unit := .OUT, base := 0x1004, s1 := 16, c1 := 96, rw := 0x3FF, wo := 0x80000000, rsv := 0x7FFFFC00, rst := 0x140 }
  | .OUT_APPLY => { unit := .OUT, base := 0x1005, s1 := 16, c1 := 96, wo := 0x1, rsv := 0xFFFFFFFE }
  | .OUT_LVL => { unit := .OUT, base := 0x1006, s1 := 16, c1 := 96, rw := 0x1, rsv := 0xFFFFFFFE }
  | .OUT_STAT => { unit := .OUT, base := 0x1007, s1 := 16, c1 := 96 }
  | .OUT_DLY => { unit := .OUT, base := 0x1008, s1 := 16, c1 := 96 }
  | .OUT_FDLY => { unit := .OUT, base := 0x1009, s1 := 16, c1 := 96 }
  | .OUT_RUNREM => { unit := .OUT, base := 0x100A, s1 := 16, c1 := 96 }
  | .OUT_LTSEC => { unit := .OUT, base := 0x100B, s1 := 16, c1 := 96 }
  | .OUT_LTHI => { unit := .OUT, base := 0x100C, s1 := 16, c1 := 96 }
  | .OUT_LTNS => { unit := .OUT, base := 0x100D, s1 := 16, c1 := 96 }
  | .OUT_TCNT => { unit := .OUT, base := 0x100E, s1 := 16, c1 := 96 }
  | .OUT_LATB => { unit := .OUT, base := 0x1600, s1 := 1, c1 := 3, rw := 0xFFFFFFFF }
  | .OUT_LATS => { unit := .OUT, base := 0x1604, s1 := 1, c1 := 3, wo := 0xFFFFFFFF }
  | .OUT_LATC => { unit := .OUT, base := 0x1608, s1 := 1, c1 := 3, wo := 0xFFFFFFFF }
  | .OUT_STGB => { unit := .OUT, base := 0x160C, s1 := 1, c1 := 3 }
  | .OUT_INP => { unit := .OUT, base := 0x1610 }
  | .OUT_RESULT => { unit := .OUT, base := 0x1611 }
  | .OUT_TRQ => { unit := .OUT, base := 0x1618, s1 := 1, c1 := 4 }
  | .OUT_TRQSTAT => { unit := .OUT, base := 0x161C, wo := 0x80000000, rsv := 0x7F00FF80 }
  | .PROT_WIRE => { unit := .PROT, base := 0x1800, s1 := 8, c1 := 96, rw := 0xFFFFFFF, wo := 0x80000000, rsv := 0x70000000 }
  | .PROT_CPL => { unit := .PROT, base := 0x1801, s1 := 8, c1 := 96, rw := 0x1FFF, rsv := 0xFFFFE000 }
  | .PROT_RETRY => { unit := .PROT, base := 0x1802, s1 := 8, c1 := 96, rw := 0xFFFFFFF, wo := 0x80000000, rsv := 0x70000000, rst := 0xF00153 }
  | .PROT_TOLL => { unit := .PROT, base := 0x1803, s1 := 8, c1 := 96, rw := 0x7FF07, wo := 0x80000000, rsv := 0x7FF800F8, rst := 0x3 }
  | .PROT_LIM => { unit := .PROT, base := 0x1804, s1 := 8, c1 := 96, rw := 0x7F7F, wo := 0x80000000, rsv := 0x7FFF8080, rst := 0x3C0A }
  | .PROT_STAT => { unit := .PROT, base := 0x1805, s1 := 8, c1 := 96 }
  | .PROT_JT => { unit := .PROT, base := 0x1806, s1 := 8, c1 := 96 }
  | .PROT_BOF => { unit := .PROT, base := 0x1807, s1 := 8, c1 := 96 }
  | .PROT_RESULT => { unit := .PROT, base := 0x1B00 }
  | .SNS_VAL => { unit := .SNS, base := 0x2000, s1 := 8, c1 := 96, rst := 0x300000 }
  | .SNS_STAMP => { unit := .SNS, base := 0x2001, s1 := 8, c1 := 96 }
  | .SNS_CAL => { unit := .SNS, base := 0x2002, s1 := 8, c1 := 96, rw := 0xFFFFFFFF }
  | .SNS_CSTAT => { unit := .SNS, base := 0x2003, s1 := 8, c1 := 96 }
  | .SNS_SIGCFG => { unit := .SNS, base := 0x2004, s1 := 8, c1 := 96, rw := 0x1FFFFFF, wo := 0x80000000, rsv := 0x7E000000, rst := 0x11E0A08 }
  | .SNS_SIGSTAT => { unit := .SNS, base := 0x2005, s1 := 8, c1 := 96 }
  | .SNS_SIGPK => { unit := .SNS, base := 0x2006, s1 := 8, c1 := 96 }
  | .SNS_SIGHIST => { unit := .SNS, base := 0x2007, s1 := 8, c1 := 96 }
  | .SNS_CFG => { unit := .SNS, base := 0x2300, rw := 0xFFFF, rsv := 0xFFFF0000, rst := 0xA }
  | .SNS_STATUS => { unit := .SNS, base := 0x2301 }
  | .SNS_RESULT => { unit := .SNS, base := 0x2302 }
  | .SNS_SIGSEL => { unit := .SNS, base := 0x2303, rw := 0x1FF, rsv := 0xFFFFFE00 }
  | .SNS_CURVE => { unit := .SNS, base := 0x2310, s1 := 1, c1 := 64 }
  | .TOLL_CFG => { unit := .TOLL, base := 0x2400, s1 := 16, c1 := 4, rw := 0x7F1FFF, rsv := 0xFF80E000, rst := 0x140A7D }
  | .TOLL_STAT => { unit := .TOLL, base := 0x2401, s1 := 16, c1 := 4 }
  | .TOLL_CUR => { unit := .TOLL, base := 0x2402, s1 := 16, c1 := 4 }
  | .TOLL_VOLT => { unit := .TOLL, base := 0x2403, s1 := 16, c1 := 4 }
  | .TOLL_PLAN => { unit := .TOLL, base := 0x2404, s1 := 16, c1 := 4 }
  | .TOLL_CNT => { unit := .TOLL, base := 0x2405, s1 := 16, c1 := 4 }
  | .TOLL_CLR => { unit := .TOLL, base := 0x2406, s1 := 16, c1 := 4, wo := 0x1, rsv := 0xFFFFFFFE }
  | .VLV_CUR => { unit := .VLV, base := 0x2800, s1 := 8, c1 := 24, rw := 0x3FF07FF, rsv := 0xFC00F800, rst := 0x3200C8 }
  | .VLV_TIM => { unit := .VLV, base := 0x2801, s1 := 8, c1 := 24, rw := 0xFFFFFF, rsv := 0xFF000000, rst := 0x14500A }
  | .VLV_MODE => { unit := .VLV, base := 0x2802, s1 := 8, c1 := 24, rw := 0xFFFF3F3F, rsv := 0xC0C0, rst := 0x530 }
  | .VLV_CMD => { unit := .VLV, base := 0x2803, s1 := 8, c1 := 24, wo := 0x3, rsv := 0xFFFFFFFC }
  | .VLV_STAT => { unit := .VLV, base := 0x2804, s1 := 8, c1 := 24, rst := 0x8 }
  | .VLV_RES => { unit := .VLV, base := 0x2805, s1 := 8, c1 := 24 }
  | .VLV_CNT => { unit := .VLV, base := 0x2806, s1 := 8, c1 := 24 }
  | .VLV_GCFG => { unit := .VLV, base := 0x2900, s1 := 16, c1 := 6, rw := 0x7F7F3F, rsv := 0xFF8080C0, rst := 0xA1430 }
  | .VLV_GSTAT => { unit := .VLV, base := 0x2901, s1 := 16, c1 := 6, rst := 0x800 }
  | .VLV_GCLR => { unit := .VLV, base := 0x2902, s1 := 16, c1 := 6, wo := 0x3, rsv := 0xFFFFFFFC }
  | .VLV_GCNT => { unit := .VLV, base := 0x2903, s1 := 16, c1 := 6 }
  | .VLV_STARTM => { unit := .VLV, base := 0x2A00, wo := 0xFFFFFF, rsv := 0xFF000000 }
  | .VLV_OFFM => { unit := .VLV, base := 0x2A01, wo := 0xFFFFFF, rsv := 0xFF000000 }
  | .VLV_RESULT => { unit := .VLV, base := 0x2A02 }
  | .VLV_BSTAT => { unit := .VLV, base := 0x2A03 }
  | .VLV_EVQ => { unit := .VLV, base := 0x2A08, s1 := 1, c1 := 4 }
  | .VLV_EVQSTAT => { unit := .VLV, base := 0x2A0C, wo := 0x80000000, rsv := 0x7F00FFC0 }
  | .SIN_CFG => { unit := .SIN, base := 0x2C00, s1 := 4, c1 := 64, rw := 0xFFFF007F, rsv := 0xFF80, rst := 0x3E80000 }
  | .SIN_STAT => { unit := .SIN, base := 0x2C01, s1 := 4, c1 := 64 }
  | .SIN_CNT => { unit := .SIN, base := 0x2C02, s1 := 4, c1 := 64 }
  | .SIN_PER => { unit := .SIN, base := 0x2C03, s1 := 4, c1 := 64 }
  | .SIN_EQ0 => { unit := .SIN, base := 0x2D00 }
  | .SIN_EQ1 => { unit := .SIN, base := 0x2D01 }
  | .SIN_EQSTAT => { unit := .SIN, base := 0x2D02, wo := 0x80000000, rsv := 0x7F00FE00 }
  | .SIN_EQCFG => { unit := .SIN, base := 0x2D03, rw := 0x1FF, rsv := 0xFFFFFE00, rst := 0x1 }
  | .SIN_LVLB0 => { unit := .SIN, base := 0x2D04 }
  | .SIN_LVLB1 => { unit := .SIN, base := 0x2D05 }
  | .SIN_RESULT => { unit := .SIN, base := 0x2D06 }
  | .SIN_BSEL => { unit := .SIN, base := 0x2D08, rw := 0x3F, rsv := 0xFFFFFFC0 }
  | .SIN_BAND => { unit := .SIN, base := 0x2D10, s1 := 1, c1 := 8, rw := 0x8FFF0FFF, rsv := 0x7000F000 }
  | .FIO_CFG => { unit := .FIO, base := 0x2E00, s1 := 1, c1 := 32, rw := 0xFFFF1FFF, rsv := 0xE000, rst := 0xBB80000 }
  | .FIO_OUT => { unit := .FIO, base := 0x2E20, rw := 0xFFFFFFFF }
  | .FIO_OUTS => { unit := .FIO, base := 0x2E21, wo := 0xFFFFFFFF }
  | .FIO_OUTC => { unit := .FIO, base := 0x2E22, wo := 0xFFFFFFFF }
  | .FIO_KICK => { unit := .FIO, base := 0x2E23, wo := 0x1, rsv := 0xFFFFFFFE }
  | .FIO_IN => { unit := .FIO, base := 0x2E24 }
  | .FIO_PIN => { unit := .FIO, base := 0x2E25 }
  | .FIO_COSF => { unit := .FIO, base := 0x2E26, w1c := 0xFFFFFFFF }
  | .FIO_STATUS => { unit := .FIO, base := 0x2E27, w1c := 0x1, rsv := 0xFFC0 }
  | .FIO_TOCFG => { unit := .FIO, base := 0x2E28, rw := 0x7FF, rsv := 0xFFFFF800, rst := 0x64 }
  | .FIO_SUPV => { unit := .FIO, base := 0x2E29 }
  | .FIO_RESULT => { unit := .FIO, base := 0x2E2A }
  | .FIO_CQ0 => { unit := .FIO, base := 0x2E30 }
  | .FIO_CQ1 => { unit := .FIO, base := 0x2E31 }
  | .FIO_CQSTAT => { unit := .FIO, base := 0x2E32, wo := 0x80000000, rsv := 0x7F00FF80 }
  | .CAN_MODE => { unit := .CAN, base := 0x3000, s1 := 512, c1 := 8, rw := 0xFF, rsv := 0xFFFFFF00, rst := 0x70 }
  | .CAN_STAT => { unit := .CAN, base := 0x3001, s1 := 512, c1 := 8 }
  | .CAN_ERR => { unit := .CAN, base := 0x3002, s1 := 512, c1 := 8, wo := 0x10, rsv := 0xFFE0 }
  | .CAN_BTN => { unit := .CAN, base := 0x3004, s1 := 512, c1 := 8, rw := 0x7FFFFFFF, rsv := 0x80000000, rst := 0x10101FC1 }
  | .CAN_BTD => { unit := .CAN, base := 0x3005, s1 := 512, c1 := 8, rw := 0x1FFFFFFF, rsv := 0xE0000000, rst := 0x81087C1 }
  | .CAN_QSTAT => { unit := .CAN, base := 0x3008, s1 := 512, c1 := 8, s2 := 1, c2 := 2, wo := 0x80000000, rsv := 0x7F00FF00 }
  | .CAN_QCFG => { unit := .CAN, base := 0x300A, s1 := 512, c1 := 8, rw := 0x3F7F, rsv := 0xFFFFC080, rst := 0x101 }
  | .CAN_NOMATCH => { unit := .CAN, base := 0x300B, s1 := 512, c1 := 8 }
  | .CAN_RESULT => { unit := .CAN, base := 0x300C, s1 := 512, c1 := 8 }
  | .CAN_IRQ => { unit := .CAN, base := 0x300D, s1 := 512, c1 := 8, w1c := 0x3C, rsv := 0xFFFFFFC0 }
  | .CAN_IEN => { unit := .CAN, base := 0x300E, s1 := 512, c1 := 8, rw := 0x3F, rsv := 0xFFFFFFC0 }
  | .CAN_TXPEND => { unit := .CAN, base := 0x3010, s1 := 512, c1 := 8 }
  | .CAN_TXEND => { unit := .CAN, base := 0x3011, s1 := 512, c1 := 8, w1c := 0xFFFFFFFF }
  | .FLT_MATCH => { unit := .CAN, base := 0x3040, s1 := 512, c1 := 8, s2 := 4, c2 := 48, rw := 0xFFFFFFFF }
  | .FLT_MASK => { unit := .CAN, base := 0x3041, s1 := 512, c1 := 8, s2 := 4, c2 := 48, rw := 0xFFFFFFFF }
  | .FLT_CTRL => { unit := .CAN, base := 0x3042, s1 := 512, c1 := 8, s2 := 4, c2 := 48, rw := 0x3, rsv := 0xFFFFFFFC }
  | .FLT_HITS => { unit := .CAN, base := 0x3043, s1 := 512, c1 := 8, s2 := 4, c2 := 48 }
  | .MB_CTRL => { unit := .CAN, base := 0x3100, s1 := 512, c1 := 8, s2 := 4, c2 := 32, rw := 0x70, wo := 0xF, rsv := 0xFFFFFF80 }
  | .MB_STAT => { unit := .CAN, base := 0x3101, s1 := 512, c1 := 8, s2 := 4, c2 := 32 }
  | .MB_TS => { unit := .CAN, base := 0x3102, s1 := 512, c1 := 8, s2 := 4, c2 := 32 }
  | .MB_RQT => { unit := .CAN, base := 0x3103, s1 := 512, c1 := 8, s2 := 4, c2 := 32 }
  | .LIN_CFG => { unit := .LIN, base := 0x4000, s1 := 64, c1 := 4, rw := 0x17FFF, wo := 0x60000, rsv := 0xFFF88000, rst := 0x4B00 }
  | .LIN_SCH => { unit := .LIN, base := 0x4001, s1 := 64, c1 := 4, rw := 0x7, rsv := 0xFFFFFFF8 }
  | .LIN_TDEF => { unit := .LIN, base := 0x4002, s1 := 64, c1 := 4, s2 := 1, c2 := 4, rw := 0x1FFBF, rsv := 0xFFFE0040, rst := 0x80 }
  | .LIN_STAT => { unit := .LIN, base := 0x4006, s1 := 64, c1 := 4, w1c := 0x8, rsv := 0xE000 }
  | .LIN_BRKTS => { unit := .LIN, base := 0x4007, s1 := 64, c1 := 4, wo := 0xFFFFFFFF }
  | .LIN_RQ => { unit := .LIN, base := 0x4008, s1 := 64, c1 := 4, s2 := 1, c2 := 4 }
  | .LIN_RQSTAT => { unit := .LIN, base := 0x400C, s1 := 64, c1 := 4, wo := 0x80000000, rsv := 0x7F00FFC0 }
  | .LIN_RESULT => { unit := .LIN, base := 0x40F0 }
  | .ETH_CTRL => { unit := .ETH, base := 0x4100, rw := 0x1FFF, rsv := 0xFFFFE000, rst := 0x14B2 }
  | .ETH_QMAP => { unit := .ETH, base := 0x4101, rw := 0xFFFFFF, rsv := 0xFF000000, rst := 0x91AD41 }
  | .ETH_MIRROR => { unit := .ETH, base := 0x4102, rw := 0xF3F, rsv := 0xFFFFF0C0 }
  | .ETH_BUF => { unit := .ETH, base := 0x4103, rst := 0x20002000 }
  | .ETH_RESULT => { unit := .ETH, base := 0x4104 }
  | .ETH_STAT => { unit := .ETH, base := 0x4105, w1c := 0x200, rsv := 0xFFFFFC00 }
  | .ETH_SVCSTAT => { unit := .ETH, base := 0x4106 }
  | .ETH_RING => { unit := .ETH, base := 0x4108, s1 := 1, c1 := 6, rw := 0xFF, wo := 0x80000000, rsv := 0x7FFF0000 }
  | .ETH_PCFG => { unit := .ETH, base := 0x4120, s1 := 16, c1 := 9, rw := 0xFFFFF, rsv := 0xFFF00000, rst := 0x80004 }
  | .ETH_PSTAT => { unit := .ETH, base := 0x4121, s1 := 16, c1 := 9 }
  | .ETH_CBSA => { unit := .ETH, base := 0x4122, s1 := 16, c1 := 9, rw := 0x7FFFFF, rsv := 0xFF800000, rst := 0x600000 }
  | .ETH_CBSB => { unit := .ETH, base := 0x4123, s1 := 16, c1 := 9, rw := 0x7FFFFF, rsv := 0xFF800000, rst := 0x500000 }
  | .ETH_QRES => { unit := .ETH, base := 0x4124, s1 := 16, c1 := 9, rw := 0x3FF, rsv := 0xFFFFFC00, rst := 0x40 }
  | .ETH_RXF => { unit := .ETH, base := 0x4200, s1 := 16, c1 := 10 }
  | .ETH_RXB => { unit := .ETH, base := 0x4201, s1 := 16, c1 := 10 }
  | .ETH_TXF => { unit := .ETH, base := 0x4202, s1 := 16, c1 := 10 }
  | .ETH_TXB => { unit := .ETH, base := 0x4203, s1 := 16, c1 := 10 }
  | .ETH_D1 => { unit := .ETH, base := 0x4204, s1 := 16, c1 := 10 }
  | .ETH_D2 => { unit := .ETH, base := 0x4205, s1 := 16, c1 := 10 }
  | .ETH_D3 => { unit := .ETH, base := 0x4206, s1 := 16, c1 := 10 }
  | .ETH_D4 => { unit := .ETH, base := 0x4207, s1 := 16, c1 := 10 }
  | .ETH_CCLR => { unit := .ETH, base := 0x4208, s1 := 16, c1 := 10, wo := 0x1, rsv := 0xFFFFFFFE }
  | .ETH_VLAN => { unit := .ETH, base := 0x42C0, s1 := 1, c1 := 32, rw := 0xBFFFFFFF, rsv := 0x40000000 }
  | .ETH_SA_LO => { unit := .ETH, base := 0x4300, s1 := 4, c1 := 64, rw := 0xFFFFFFFF }
  | .ETH_SA_HI => { unit := .ETH, base := 0x4301, s1 := 4, c1 := 64, rw := 0xFFFFFFF, rsv := 0xF0000000 }
  | .ETH_SA_CTL => { unit := .ETH, base := 0x4302, s1 := 4, c1 := 64, rw := 0x800001FF, rsv := 0x7FFFFE00 }
  | .NET_CTRL => { unit := .NET, base := 0x4400, rw := 0x7, wo := 0x8, rsv := 0xFFFFFFF0 }
  | .NET_CFG => { unit := .NET, base := 0x4401, rw := 0xFFFFFF, rsv := 0xFF000000, rst := 0x283201 }
  | .NET_AWAKE => { unit := .NET, base := 0x4402, rw := 0xFFFFFFFF, rst := 0x780384 }
  | .NET_NMID => { unit := .NET, base := 0x4403, rw := 0x7FF, rsv := 0xFFFFF800, rst := 0x780 }
  | .NET_STAT => { unit := .NET, base := 0x4404, w1c := 0x80 }
  | .NET_PNR => { unit := .NET, base := 0x4405 }
  | .NET_ARM => { unit := .NET, base := 0x4406, rw := 0x7F, rsv := 0xFFFF0080 }
  | .NET_WSRC => { unit := .NET, base := 0x4407 }
  | .NET_WLCFG => { unit := .NET, base := 0x4408, rw := 0x7F, rsv := 0xFFFFFF80, rst := 0x3A }
  | .NET_WLMBX => { unit := .NET, base := 0x4409, rw := 0xFFFFFFFF }
  | .NET_WLSTAT => { unit := .NET, base := 0x440A }
  | .NET_WLTS => { unit := .NET, base := 0x440B, rw := 0xFFFFFFFF }
  | .NET_RESULT => { unit := .NET, base := 0x440C }
  | .NET_MAND_LO => { unit := .NET, base := 0x4410, s1 := 2, c1 := 8, rw := 0xFFFFFFFF }
  | .NET_MAND_HI => { unit := .NET, base := 0x4411, s1 := 2, c1 := 8, rw := 0xFFFFFFFF }
  | .NET_VOTE_LO => { unit := .NET, base := 0x4420, s1 := 2, c1 := 8 }
  | .NET_VOTE_HI => { unit := .NET, base := 0x4421, s1 := 2, c1 := 8 }
  | .NET_SWK_ID => { unit := .NET, base := 0x4430, s1 := 5, c1 := 4, rw := 0x3FFFFFFF, rsv := 0xC0000000 }
  | .NET_SWK_MSK => { unit := .NET, base := 0x4431, s1 := 5, c1 := 4, rw := 0x1FFFFFFF, rsv := 0xE0000000, rst := 0x1FFFFFFF }
  | .NET_SWK_CTL => { unit := .NET, base := 0x4432, s1 := 5, c1 := 4, rw := 0x7F, rsv := 0xFFFFFF80, rst := 0x48 }
  | .NET_SWK_DLO => { unit := .NET, base := 0x4433, s1 := 5, c1 := 4, rw := 0xFFFFFFFF }
  | .NET_SWK_DHI => { unit := .NET, base := 0x4434, s1 := 5, c1 := 4, rw := 0xFFFFFFFF }
  | .NET_WCNT => { unit := .NET, base := 0x4450, s1 := 1, c1 := 8 }
  | .NET_KLSEL => { unit := .NET, base := 0x4460, rw := 0xF, rsv := 0xFFFFFFF0 }
  | .NET_KLW0 => { unit := .NET, base := 0x4461 }
  | .NET_KLW1 => { unit := .NET, base := 0x4462 }
  | .NET_RTCALM_LO => { unit := .NET, base := 0x47F4, rw := 0xFFFFFFFF }
  | .NET_RTCALM_HI => { unit := .NET, base := 0x47F5, rw := 0x8000FFFF, rsv := 0x7FFF0000 }
  | .PWR_REQ => { unit := .PWR, base := 0x100, wo := 0x7, rsv := 0xFFFFFFF8 }
  | .PWR_RESULT => { unit := .PWR, base := 0x101 }
  | .PWR_STAT => { unit := .PWR, base := 0x102 }
  | .PWR_CFG => { unit := .PWR, base := 0x103, rw := 0xFF, rsv := 0xFFFFFF00, rst := 0xA2 }
  | .PWR_VETO => { unit := .PWR, base := 0x104, rw := 0x1, rsv := 0xFFFFFFFE }
  | .PWR_BUSY => { unit := .PWR, base := 0x105 }
  | .PWR_SAVED => { unit := .PWR, base := 0x106, wo := 0x1, rsv := 0xFFFFFFFE }
  | .PWR_EREP0 => { unit := .PWR, base := 0x110 }
  | .PWR_EREP1 => { unit := .PWR, base := 0x111 }
  | .PWR_EREPC => { unit := .PWR, base := 0x112, s1 := 1, c1 := 8 }
  | .PWR_RCNT => { unit := .PWR, base := 0x121, s1 := 1, c1 := 9 }
  | .CORE_CFG => { unit := .CORE, base := 0x0, rw := 0x1, rst := 0x1 }
  | .CORE_VBASE => { unit := .CORE, base := 0x1, rw := 0xFFFF00 }
  | .CORE_ID => { unit := .CORE, base := 0x2 }
  | .CORE_EVT => { unit := .CORE, base := 0x3 }
  | .CORE_RSD => { unit := .CORE, base := 0x4, w1c := 0x60 }
  | .CORE_SWSET => { unit := .CORE, base := 0x5, wo := 0x3F, rsv := 0xFFFFFFC0 }
  | .CORE_IPEND => { unit := .CORE, base := 0x6, s1 := 1, c1 := 4 }
  | .CORE_MPUB => { unit := .CORE, base := 0x10, s1 := 2, c1 := 8, rw := 0xFFFFFF1F, rsv := 0xE0 }
  | .CORE_MPUL => { unit := .CORE, base := 0x11, s1 := 2, c1 := 8, rw := 0xFFFFFF00, rsv := 0xFF }
  | .CORE_IOPM => { unit := .CORE, base := 0x40, s1 := 1, c1 := 64, rw := 0xFFFFFFFF }
  | .CORE_IRQ => { unit := .CORE, base := 0x80, s1 := 1, c1 := 128, rw := 0x3F }
  | .BTE_SRC => { unit := .BTE, base := 0x300, s1 := 16, c1 := 8, rw := 0xFFFFFFFF }
  | .BTE_DST => { unit := .BTE, base := 0x301, s1 := 16, c1 := 8, rw := 0xFFFFFFFF }
  | .BTE_CNT => { unit := .BTE, base := 0x302, s1 := 16, c1 := 8, rw := 0x1FFFFFF, rsv := 0xFE000000 }
  | .BTE_CTRL => { unit := .BTE, base := 0x303, s1 := 16, c1 := 8, rw := 0x1F, wo := 0x60, rsv := 0xFFFFFF80 }
  | .BTE_STAT => { unit := .BTE, base := 0x304, s1 := 16, c1 := 8 }
  | .BTE_RES => { unit := .BTE, base := 0x305, s1 := 16, c1 := 8 }
  | .BTE_FADDR => { unit := .BTE, base := 0x306, s1 := 16, c1 := 8 }
  | .BTE_RESULT => { unit := .BTE, base := 0x380 }
  | .BTE_BUSY => { unit := .BTE, base := 0x381 }
  | .FCRU_CTRL => { unit := .FCRU, base := 0x200, wo := 0x1, rsv := 0xFFFFFFFE }
  | .FCRU_STAT => { unit := .FCRU, base := 0x201 }
  | .FCRU_PEND => { unit := .FCRU, base := 0x202, s1 := 1, c1 := 6, w1c := 0xFFFFFFFF }
  | .FCRU_SEV => { unit := .FCRU, base := 0x208, s1 := 1, c1 := 6, w1c := 0xFFFFFFFF }
  | .FCRU_SEL => { unit := .FCRU, base := 0x210, rw := 0xFF, rsv := 0xFFFFFF00 }
  | .FCRU_SCFG => { unit := .FCRU, base := 0x211, rw := 0x3F3FFF, rsv := 0xFFC0C000 }
  | .FCRU_SWIN => { unit := .FCRU, base := 0x212, rw := 0x7FFFFFF, rsv := 0xF8000000 }
  | .FCRU_SSTAT => { unit := .FCRU, base := 0x213 }
  | .FCRU_SCNT => { unit := .FCRU, base := 0x214 }
  | .FCRU_SINFO => { unit := .FCRU, base := 0x215 }
  | .FCRU_RAISE => { unit := .FCRU, base := 0x216, wo := 0xFFFF000F, rsv := 0xFFF0 }
  | .FCRU_RESULT => { unit := .FCRU, base := 0x217 }
  | .FCRU_LOG => { unit := .FCRU, base := 0x220, s1 := 1, c1 := 5 }
  | .FCRU_LOGSTAT => { unit := .FCRU, base := 0x225, wo := 0x80000000, rsv := 0x7F00FFC0 }
  | .FCRU_VSEL => { unit := .FCRU, base := 0x240, rw := 0x3F, rsv := 0xFFFFFFC0 }
  | .FCRU_VREC => { unit := .FCRU, base := 0x241, s1 := 1, c1 := 5 }
  | .FCRU_VSTAT => { unit := .FCRU, base := 0x246 }
  | .FCRU_PSTAT => { unit := .FCRU, base := 0x280 }
  | .FCRU_RSYNC => { unit := .FCRU, base := 0x281, wo := 0x1, rsv := 0xFFFFFFFE }
  | .FCRU_BOOTNX => { unit := .FCRU, base := 0x282, rw := 0x3, rsv := 0xFFFFFFFC }
  | .FCRU_MISC => { unit := .FCRU, base := 0x283 }
  | .FCRU_INJ => { unit := .FCRU, base := 0x2F0 }
  | .ACC_CFG => { unit := .ACC, base := 0x4800, rw := 0xFFFFFFF, rsv := 0xF0000000 }
  | .ACC_TIMING => { unit := .ACC, base := 0x4801, rw := 0xFF7F, rsv := 0xFFFF0080, rst := 0x781E }
  | .ACC_BOUND => { unit := .ACC, base := 0x4802, rw := 0xFFFF, rsv := 0xFFFF0000, rst := 0x78B4 }
  | .ACC_LOCK => { unit := .ACC, base := 0x4803, rw := 0x1FF, rsv := 0xFFFFFE00 }
  | .ACC_DE => { unit := .ACC, base := 0x4804, rw := 0x3FFF, rsv := 0xFFFFC000 }
  | .ACC_CTRL => { unit := .ACC, base := 0x4805, wo := 0xFFFF001F, rsv := 0xFFE0 }
  | .ACC_STAT => { unit := .ACC, base := 0x4806 }
  | .ACC_RESULT => { unit := .ACC, base := 0x4807 }
  | .ACC_ANTCAL => { unit := .ACC, base := 0x4808, s1 := 1, c1 := 2, rw := 0xFFF, rsv := 0xFFFFE000 }
  | .ACC_RSEL => { unit := .ACC, base := 0x4810, rw := 0xF, rsv := 0xFFFFFFF0 }
  | .ACC_REC => { unit := .ACC, base := 0x4811, s1 := 1, c1 := 5 }
  | .ACC_TOK => { unit := .ACC, base := 0x4820, s1 := 1, c1 := 16 }
  | .ACC_LAST => { unit := .ACC, base := 0x4830, s1 := 1, c1 := 16 }
  | .ACC_CNT0 => { unit := .ACC, base := 0x4840 }
  | .ACC_CNT1 => { unit := .ACC, base := 0x4841 }
  | .ACC_CNT2 => { unit := .ACC, base := 0x4842 }
  | .SVC_STAT => { unit := .SVC, base := 0x4900, rst := 0x4 }
  | .SVC_USTAT => { unit := .SVC, base := 0x4901 }
  | .SVC_UCMD => { unit := .SVC, base := 0x4902, wo := 0x7, rsv := 0xFFFFFFF8 }
  | .SVC_ACTVER => { unit := .SVC, base := 0x4903 }
  | .SVC_ACTFMT => { unit := .SVC, base := 0x4904 }
  | .SVC_TRIAL => { unit := .SVC, base := 0x4905 }
  | .SVC_PCFG => { unit := .SVC, base := 0x4906, rw := 0x3FFF, rsv := 0xFFFFC000, rst := 0x3700 }
  | .SVC_RESULT => { unit := .SVC, base := 0x4907 }
  | .SVC_JRN => { unit := .SVC, base := 0x4908, s1 := 1, c1 := 8 }
  | .SVC_JSEL => { unit := .SVC, base := 0x4910, rw := 0x1F, rsv := 0xFFFFFFE0 }
  | .ODO_STAT => { unit := .ODO, base := 0x4A00 }
  | .ODO_SAVES => { unit := .ODO, base := 0x4A01 }
  | .ODO_LAST => { unit := .ODO, base := 0x4A02 }
  | .ODO_SEL => { unit := .ODO, base := 0x4A03, rw := 0xFFF, rsv := 0xFFFFF000, rst := 0x1 }
  | .ODO_CTRL => { unit := .ODO, base := 0x4A04, wo := 0x1, rsv := 0xFFFFFFFE }
  | .ODO_W => { unit := .ODO, base := 0x4A10, s1 := 1, c1 := 17 }
  | .TOLL_RESULT => { unit := .TOLL, base := 0x2440 }

/-- The registers of a unit. -/
def IoUnit.regs : IoUnit → List Reg
  | .CORE => [.CORE_CFG, .CORE_VBASE, .CORE_ID, .CORE_EVT, .CORE_RSD, .CORE_SWSET, .CORE_IPEND, .CORE_MPUB] ++
      [.CORE_MPUL, .CORE_IOPM, .CORE_IRQ]
  | .PWR => [.PWR_REQ, .PWR_RESULT, .PWR_STAT, .PWR_CFG, .PWR_VETO, .PWR_BUSY, .PWR_SAVED, .PWR_EREP0] ++
      [.PWR_EREP1, .PWR_EREPC, .PWR_RCNT]
  | .FCRU => [.FCRU_CTRL, .FCRU_STAT, .FCRU_PEND, .FCRU_SEV, .FCRU_SEL, .FCRU_SCFG, .FCRU_SWIN, .FCRU_SSTAT] ++
      [.FCRU_SCNT, .FCRU_SINFO, .FCRU_RAISE, .FCRU_RESULT, .FCRU_LOG, .FCRU_LOGSTAT, .FCRU_VSEL, .FCRU_VREC] ++
      [.FCRU_VSTAT, .FCRU_PSTAT, .FCRU_RSYNC, .FCRU_BOOTNX, .FCRU_MISC, .FCRU_INJ]
  | .BTE => [.BTE_SRC, .BTE_DST, .BTE_CNT, .BTE_CTRL, .BTE_STAT, .BTE_RES, .BTE_FADDR, .BTE_RESULT] ++
      [.BTE_BUSY]
  | .ALM => [.ALM_CTRL, .ALM_STATUS, .ALM_SEC_LO, .ALM_SEC_HI, .ALM_NS, .ALM_SHORT, .ALM_WRAP, .ALM_SHORT_LAT] ++
      [.ALM_ADDEND_LO, .ALM_ADDEND_HI, .ALM_OFFSET, .ALM_HOLD, .ALM_SET_SEC_LO, .ALM_SET_SEC_HI, .ALM_SET_NS, .ALM_UTC] ++
      [.ALM_CANSYNC, .ALM_PPS_STAMP, .ALM_PHYCAL]
  | .MST => [.MST_CMD, .MST_RESULT, .MST_REQ_CTRL, .MST_REQ_SEC_LO, .MST_REQ_SEC_HI, .MST_REQ_NS, .MST_REQ_PERIOD, .MST_REQ_COUNT] ++
      [.MST_REQ_HDR, .MST_REQ_MASK, .MST_REQ_VAL, .MST_PLACED, .MST_STATUS, .MST_LIVE_LO, .MST_LIVE_HI, .MST_CFG] ++
      [.MST_SEL, .MST_CQ_CLR, .MST_W_REQ, .MST_W_RUNS, .MST_W_NEXT, .MST_W_STATE, .MST_CQ, .MST_EVT]
  | .WCU => [.WCU_CTRL, .WCU_TOP, .WCU_CNT, .WCU_STAT, .WCU_GSTART, .WCU_GSTOP, .WCU_RESULT, .WCU_CCTRL] ++
      [.WCU_CMP, .WCU_CAPH, .WCU_CAPV, .WCU_CAP]
  | .OUT => [.OUT_CFG, .OUT_THR, .OUT_INR, .OUT_RUNON, .OUT_ALN, .OUT_APPLY, .OUT_LVL, .OUT_STAT] ++
      [.OUT_DLY, .OUT_FDLY, .OUT_RUNREM, .OUT_LTSEC, .OUT_LTHI, .OUT_LTNS, .OUT_TCNT, .OUT_LATB] ++
      [.OUT_LATS, .OUT_LATC, .OUT_STGB, .OUT_INP, .OUT_RESULT, .OUT_TRQ, .OUT_TRQSTAT]
  | .PROT => [.PROT_WIRE, .PROT_CPL, .PROT_RETRY, .PROT_TOLL, .PROT_LIM, .PROT_STAT, .PROT_JT, .PROT_BOF] ++
      [.PROT_RESULT]
  | .SNS => [.SNS_VAL, .SNS_STAMP, .SNS_CAL, .SNS_CSTAT, .SNS_SIGCFG, .SNS_SIGSTAT, .SNS_SIGPK, .SNS_SIGHIST] ++
      [.SNS_CFG, .SNS_STATUS, .SNS_RESULT, .SNS_SIGSEL, .SNS_CURVE]
  | .TOLL => [.TOLL_CFG, .TOLL_STAT, .TOLL_CUR, .TOLL_VOLT, .TOLL_PLAN, .TOLL_CNT, .TOLL_CLR, .TOLL_RESULT]
  | .VLV => [.VLV_CUR, .VLV_TIM, .VLV_MODE, .VLV_CMD, .VLV_STAT, .VLV_RES, .VLV_CNT, .VLV_GCFG] ++
      [.VLV_GSTAT, .VLV_GCLR, .VLV_GCNT, .VLV_STARTM, .VLV_OFFM, .VLV_RESULT, .VLV_BSTAT, .VLV_EVQ] ++
      [.VLV_EVQSTAT]
  | .SIN => [.SIN_CFG, .SIN_STAT, .SIN_CNT, .SIN_PER, .SIN_EQ0, .SIN_EQ1, .SIN_EQSTAT, .SIN_EQCFG] ++
      [.SIN_LVLB0, .SIN_LVLB1, .SIN_RESULT, .SIN_BSEL, .SIN_BAND]
  | .FIO => [.FIO_CFG, .FIO_OUT, .FIO_OUTS, .FIO_OUTC, .FIO_KICK, .FIO_IN, .FIO_PIN, .FIO_COSF] ++
      [.FIO_STATUS, .FIO_TOCFG, .FIO_SUPV, .FIO_RESULT, .FIO_CQ0, .FIO_CQ1, .FIO_CQSTAT]
  | .CAN => [.CAN_MODE, .CAN_STAT, .CAN_ERR, .CAN_BTN, .CAN_BTD, .CAN_QSTAT, .CAN_QCFG, .CAN_NOMATCH] ++
      [.CAN_RESULT, .CAN_IRQ, .CAN_IEN, .CAN_TXPEND, .CAN_TXEND, .FLT_MATCH, .FLT_MASK, .FLT_CTRL] ++
      [.FLT_HITS, .MB_CTRL, .MB_STAT, .MB_TS, .MB_RQT]
  | .LIN => [.LIN_CFG, .LIN_SCH, .LIN_TDEF, .LIN_STAT, .LIN_BRKTS, .LIN_RQ, .LIN_RQSTAT, .LIN_RESULT]
  | .ETH => [.ETH_CTRL, .ETH_QMAP, .ETH_MIRROR, .ETH_BUF, .ETH_RESULT, .ETH_STAT, .ETH_SVCSTAT, .ETH_RING] ++
      [.ETH_PCFG, .ETH_PSTAT, .ETH_CBSA, .ETH_CBSB, .ETH_QRES, .ETH_RXF, .ETH_RXB, .ETH_TXF] ++
      [.ETH_TXB, .ETH_D1, .ETH_D2, .ETH_D3, .ETH_D4, .ETH_CCLR, .ETH_VLAN, .ETH_SA_LO] ++
      [.ETH_SA_HI, .ETH_SA_CTL]
  | .NET => [.NET_RTC_SEC_LO, .NET_RTC_SEC_HI, .NET_RTC_SUB, .NET_RTC_TRIM, .NET_CTRL, .NET_CFG, .NET_AWAKE, .NET_NMID] ++
      [.NET_STAT, .NET_PNR, .NET_ARM, .NET_WSRC, .NET_WLCFG, .NET_WLMBX, .NET_WLSTAT, .NET_WLTS] ++
      [.NET_RESULT, .NET_MAND_LO, .NET_MAND_HI, .NET_VOTE_LO, .NET_VOTE_HI, .NET_SWK_ID, .NET_SWK_MSK, .NET_SWK_CTL] ++
      [.NET_SWK_DLO, .NET_SWK_DHI, .NET_WCNT, .NET_KLSEL, .NET_KLW0, .NET_KLW1, .NET_RTCALM_LO, .NET_RTCALM_HI]
  | .ACC => [.ACC_CFG, .ACC_TIMING, .ACC_BOUND, .ACC_LOCK, .ACC_DE, .ACC_CTRL, .ACC_STAT, .ACC_RESULT] ++
      [.ACC_ANTCAL, .ACC_RSEL, .ACC_REC, .ACC_TOK, .ACC_LAST, .ACC_CNT0, .ACC_CNT1, .ACC_CNT2]
  | .SVC => [.SVC_STAT, .SVC_USTAT, .SVC_UCMD, .SVC_ACTVER, .SVC_ACTFMT, .SVC_TRIAL, .SVC_PCFG, .SVC_RESULT] ++
      [.SVC_JRN, .SVC_JSEL]
  | .ODO => [.ODO_STAT, .ODO_SAVES, .ODO_LAST, .ODO_SEL, .ODO_CTRL, .ODO_W]
  | .IDN => [.IDN_VARIANT, .IDN_PRESENCE, .IDN_STATUS]

/-- The unit whose range an address lies in (R37); none from 0x4C00 on, and between the ranges. -/
def unitOf (a : Nat) : Option IoUnit :=
  if a ≤ 0x00FF then some .CORE else if a ≤ 0x01FF then some .PWR else if a ≤ 0x02FF then some .FCRU
  else if a ≤ 0x03FF then some .BTE else if a ≤ 0x04FF then some .ALM else if a ≤ 0x07FF then some .MST
  else if a ≤ 0x0FFF then some .WCU else if a ≤ 0x17FF then some .OUT else if a ≤ 0x1FFF then some .PROT
  else if a ≤ 0x23FF then some .SNS else if a ≤ 0x27FF then some .TOLL else if a ≤ 0x2BFF then some .VLV
  else if a ≤ 0x2DFF then some .SIN else if a ≤ 0x2FFF then some .FIO else if a ≤ 0x3FFF then some .CAN
  else if a ≤ 0x40FF then some .LIN else if a ≤ 0x43FF then some .ETH else if a ≤ 0x47FF then some .NET
  else if a ≤ 0x48FF then some .ACC else if a ≤ 0x49FF then some .SVC else if a ≤ 0x4AFF then some .ODO
  else if a ≤ 0x4BFF then some .IDN else none

/-- How many indices a register has. -/
def Reg.count (r : Reg) : Nat := r.desc.c1 * r.desc.c2

/-- The address of index `n`. -/
def Reg.addr (r : Reg) (n : Nat) : Nat :=
  r.desc.base + r.desc.s1 * (n / r.desc.c2) + r.desc.s2 * (n % r.desc.c2)

/-- The index at which a register's block has an address. -/
def Reg.indexAt (r : Reg) (a : Nat) : Option Nat :=
  let d := r.desc
  if a < d.base then none
  else
    let o := a - d.base
    let i := if d.c1 = 1 then 0 else o / d.s1
    let p := o - d.s1 * i
    let j := p / d.s2
    if i < d.c1 ∧ j < d.c2 ∧ p = d.s2 * j ∧ (d.c1 ≠ 1 ∨ d.c2 ≠ 1 ∨ o = 0) then some (i * d.c2 + j) else none

/-- The first register of a list with the address, and its index. -/
def findReg (a : Nat) : List Reg → Option (Reg × Nat)
  | [] => none
  | r :: t => match r.indexAt a with
    | some n => some (r, n)
    | none => findReg a t

/-- The register at an address; none at an unassigned or reserved address (R38). -/
def regAt (a : Nat) : Option (Reg × Nat) :=
  match unitOf a with
  | none => none
  | some u => findReg a u.regs

/-- The channel classes of R194: heavy CH00 to CH15, medium CH16 to CH63, light CH64 to CH95. -/
inductive ChClass where
  | heavy
  | medium
  | light
deriving DecidableEq, Repr

/-- The class of channel `n`. -/
def chClass (n : Nat) : ChClass := if n < 16 then .heavy else if n < 64 then .medium else .light

/-- One of three values by the channel's class. -/
def byClass (n h m l : Nat) : Nat :=
  match chClass n with
  | .heavy => h
  | .medium => m
  | .light => l

/-- The value of a register after reset, index by index where the tables give it so (R221, R252, R384). OUT_FDLYn's factory value is a DESIGN
CHOICE (assumption 25): the typical delays of R104. -/
def Reg.reset (r : Reg) (n : Nat) : Word :=
  match r with
  | .SNS_CAL => word 0x8000
  | .FCRU_PSTAT => word 6
  | .OUT_THR => word (byClass n 0x0BB8 0x03E8 0x012C)
  | .OUT_INR => word (byClass n 0xC8 0xC8 0x64)
  | .OUT_DLY | .OUT_FDLY => word (byClass n 18000 9000 5000 + 0x10000 * byClass n 20000 10000 6000)
  | .PROT_WIRE => word (byClass n 0x0BB8 0x03E8 0x012C + 0x10000 * byClass n 0x078 0x03C 0x01E)
  | .PROT_TOLL => word (r.desc.rst + 0x100 * byClass n 0x258 0x0C8 0x03C)
  | .ETH_VLAN => if n = 0 then word (0x001 + 0x1FF * 0x1000 + 0x1FF * 0x200000 + 0x80000000) else 0
  | _ => word r.desc.rst

/-- The registers that the unit chapters name as Highway registers; every other register is Byway (R32). A write of WCU_CTRL or WCU_CCTRL
travels in the plane of their EN and ARM fields (R191; DEDUCED, assumption 13). -/
def Reg.highway : Reg → Bool
  | .MST_CMD | .MST_RESULT | .MST_REQ_CTRL | .MST_REQ_SEC_LO | .MST_REQ_SEC_HI | .MST_REQ_NS | .MST_REQ_PERIOD | .MST_REQ_COUNT
  | .MST_REQ_HDR | .MST_REQ_MASK | .MST_REQ_VAL | .MST_CQ | .MST_CQ_CLR
  | .WCU_GSTART | .WCU_GSTOP | .WCU_CMP | .WCU_CAPH | .WCU_CTRL | .WCU_CCTRL
  | .OUT_LVL | .OUT_LATB | .OUT_LATS | .OUT_LATC | .OUT_TRQ | .OUT_TRQSTAT | .SNS_VAL | .SNS_STAMP
  | .VLV_CMD | .VLV_STARTM | .VLV_OFFM | .VLV_EVQ
  | .SIN_STAT | .SIN_CNT | .SIN_PER | .SIN_LVLB0 | .SIN_LVLB1 | .SIN_EQ0 | .SIN_EQ1 | .SIN_EQSTAT
  | .FIO_OUT | .FIO_OUTS | .FIO_OUTC | .FIO_KICK | .FIO_IN | .FIO_PIN | .FIO_COSF | .FIO_CQ0 | .FIO_CQ1 | .FIO_CQSTAT
  | .CAN_STAT | .CAN_QSTAT | .CAN_IRQ | .CAN_TXPEND | .CAN_TXEND | .MB_CTRL | .MB_STAT | .MB_TS | .MB_RQT
  | .LIN_STAT | .LIN_BRKTS | .LIN_RQ | .LIN_RQSTAT
  | .ETH_STAT | .ETH_SVCSTAT | .ETH_RING | .ETH_RXF | .ETH_RXB | .ETH_TXF | .ETH_TXB | .ETH_D1 | .ETH_D2 | .ETH_D3 | .ETH_D4 | .ETH_CCLR
  | .NET_CTRL | .NET_STAT | .NET_PNR | .NET_WSRC | .NET_WLMBX | .NET_WLTS
  | .ACC_CTRL | .ACC_STAT | .ACC_REC => true
  | _ => false

/-- A field of a register: its lowest bit and its width. -/
structure Fld where
  reg : Reg
  lo : Nat
  wd : Nat
deriving DecidableEq, Repr

namespace F

def IDN_VARIANT_VARIANT : Fld := ⟨.IDN_VARIANT, 0, 8⟩
def IDN_VARIANT_REV : Fld := ⟨.IDN_VARIANT, 8, 8⟩
def IDN_VARIANT_CONNSET : Fld := ⟨.IDN_VARIANT, 16, 4⟩
def IDN_PRESENCE_FEED : Fld := ⟨.IDN_PRESENCE, 0, 4⟩
def IDN_PRESENCE_VGRP : Fld := ⟨.IDN_PRESENCE, 4, 6⟩
def IDN_PRESENCE_CAN : Fld := ⟨.IDN_PRESENCE, 10, 8⟩
def IDN_PRESENCE_LIN : Fld := ⟨.IDN_PRESENCE, 18, 4⟩
def IDN_PRESENCE_ETH : Fld := ⟨.IDN_PRESENCE, 22, 8⟩
def IDN_PRESENCE_ACC : Fld := ⟨.IDN_PRESENCE, 30, 1⟩
def IDN_PRESENCE_PAIRB : Fld := ⟨.IDN_PRESENCE, 31, 1⟩
def IDN_STATUS_ABSENT_ACCESS : Fld := ⟨.IDN_STATUS, 0, 1⟩
def IDN_STATUS_ABSENT_ADDR : Fld := ⟨.IDN_STATUS, 16, 16⟩
def ALM_CTRL_ROLE : Fld := ⟨.ALM_CTRL, 0, 2⟩
def ALM_CTRL_CANCH : Fld := ⟨.ALM_CTRL, 2, 3⟩
def ALM_CTRL_CANSYNC_TX : Fld := ⟨.ALM_CTRL, 5, 1⟩
def ALM_CTRL_STEP : Fld := ⟨.ALM_CTRL, 6, 1⟩
def ALM_STATUS_SERVO : Fld := ⟨.ALM_STATUS, 0, 3⟩
def ALM_STATUS_SLEWING : Fld := ⟨.ALM_STATUS, 3, 1⟩
def ALM_STATUS_RTC_SEEDED : Fld := ⟨.ALM_STATUS, 4, 1⟩
def ALM_STATUS_GM_DEFERRED : Fld := ⟨.ALM_STATUS, 5, 1⟩
def ALM_STATUS_PPS_OK : Fld := ⟨.ALM_STATUS, 6, 1⟩
def ALM_STATUS_REFUSED : Fld := ⟨.ALM_STATUS, 7, 1⟩
def ALM_STATUS_TIME_VALID : Fld := ⟨.ALM_STATUS, 8, 1⟩
def ALM_STATUS_EPOCH : Fld := ⟨.ALM_STATUS, 16, 16⟩
def ALM_SEC_LO_SEC_LO : Fld := ⟨.ALM_SEC_LO, 0, 32⟩
def ALM_SEC_HI_SEC_HI : Fld := ⟨.ALM_SEC_HI, 0, 16⟩
def ALM_NS_NS : Fld := ⟨.ALM_NS, 0, 30⟩
def ALM_SHORT_SHORT : Fld := ⟨.ALM_SHORT, 0, 32⟩
def ALM_WRAP_WRAP : Fld := ⟨.ALM_WRAP, 0, 32⟩
def ALM_SHORT_LAT_SHORT_LAT : Fld := ⟨.ALM_SHORT_LAT, 0, 32⟩
def ALM_ADDEND_LO_FRAC : Fld := ⟨.ALM_ADDEND_LO, 0, 32⟩
def ALM_ADDEND_HI_INT : Fld := ⟨.ALM_ADDEND_HI, 0, 8⟩
def ALM_OFFSET_OFFSET : Fld := ⟨.ALM_OFFSET, 0, 32⟩
def ALM_HOLD_HOLD : Fld := ⟨.ALM_HOLD, 0, 32⟩
def ALM_SET_SEC_LO_SET_SEC_LO : Fld := ⟨.ALM_SET_SEC_LO, 0, 32⟩
def ALM_SET_SEC_HI_SET_SEC_HI : Fld := ⟨.ALM_SET_SEC_HI, 0, 16⟩
def ALM_SET_NS_SET_NS : Fld := ⟨.ALM_SET_NS, 0, 30⟩
def ALM_UTC_UTC_OFFSET : Fld := ⟨.ALM_UTC, 0, 16⟩
def ALM_UTC_LEAP61 : Fld := ⟨.ALM_UTC, 16, 1⟩
def ALM_UTC_LEAP59 : Fld := ⟨.ALM_UTC, 17, 1⟩
def ALM_UTC_UTC_VALID : Fld := ⟨.ALM_UTC, 18, 1⟩
def ALM_CANSYNC_ID : Fld := ⟨.ALM_CANSYNC, 0, 11⟩
def ALM_CANSYNC_PERIOD : Fld := ⟨.ALM_CANSYNC, 11, 6⟩
def ALM_CANSYNC_PROP : Fld := ⟨.ALM_CANSYNC, 17, 10⟩
def ALM_PPS_STAMP_PPS : Fld := ⟨.ALM_PPS_STAMP, 0, 32⟩
def ALM_PHYCAL_ADJ : Fld := ⟨.ALM_PHYCAL, 0, 12⟩
def ALM_PHYCAL_ATTRIB : Fld := ⟨.ALM_PHYCAL, 12, 2⟩
def ALM_PHYCAL_BASE_VALID : Fld := ⟨.ALM_PHYCAL, 14, 1⟩
def ALM_PHYCAL_LIMIT : Fld := ⟨.ALM_PHYCAL, 15, 1⟩
def ALM_PHYCAL_BASE : Fld := ⟨.ALM_PHYCAL, 16, 16⟩
def NET_RTC_SEC_LO_SEC_LO : Fld := ⟨.NET_RTC_SEC_LO, 0, 32⟩
def NET_RTC_SEC_HI_SEC_HI : Fld := ⟨.NET_RTC_SEC_HI, 0, 16⟩
def NET_RTC_SUB_SUB : Fld := ⟨.NET_RTC_SUB, 0, 15⟩
def NET_RTC_SUB_VALID : Fld := ⟨.NET_RTC_SUB, 31, 1⟩
def NET_RTC_TRIM_TRIM : Fld := ⟨.NET_RTC_TRIM, 0, 16⟩
def MST_CMD_OP : Fld := ⟨.MST_CMD, 0, 2⟩
def MST_CMD_TAG : Fld := ⟨.MST_CMD, 16, 16⟩
def MST_RESULT_CODE : Fld := ⟨.MST_RESULT, 0, 8⟩
def MST_RESULT_ENTRY : Fld := ⟨.MST_RESULT, 8, 6⟩
def MST_RESULT_DONE : Fld := ⟨.MST_RESULT, 15, 1⟩
def MST_RESULT_TAG : Fld := ⟨.MST_RESULT, 16, 16⟩
def MST_REQ_CTRL_TAG : Fld := ⟨.MST_REQ_CTRL, 0, 16⟩
def MST_REQ_CTRL_ASAP : Fld := ⟨.MST_REQ_CTRL, 16, 1⟩
def MST_REQ_CTRL_REC_EACH : Fld := ⟨.MST_REQ_CTRL, 17, 1⟩
def MST_REQ_CTRL_NITEMS : Fld := ⟨.MST_REQ_CTRL, 18, 3⟩
def MST_REQ_SEC_LO_SEC_LO : Fld := ⟨.MST_REQ_SEC_LO, 0, 32⟩
def MST_REQ_SEC_HI_SEC_HI : Fld := ⟨.MST_REQ_SEC_HI, 0, 16⟩
def MST_REQ_NS_NS : Fld := ⟨.MST_REQ_NS, 0, 30⟩
def MST_REQ_PERIOD_PERIOD : Fld := ⟨.MST_REQ_PERIOD, 0, 32⟩
def MST_REQ_COUNT_COUNT : Fld := ⟨.MST_REQ_COUNT, 0, 16⟩
def MST_REQ_HDR_TYPE : Fld := ⟨.MST_REQ_HDR, 0, 4⟩
def MST_REQ_HDR_TARGET : Fld := ⟨.MST_REQ_HDR, 8, 3⟩
def MST_REQ_MASK_MASK : Fld := ⟨.MST_REQ_MASK, 0, 32⟩
def MST_REQ_VAL_VAL : Fld := ⟨.MST_REQ_VAL, 0, 32⟩
def MST_PLACED_PLACED : Fld := ⟨.MST_PLACED, 0, 32⟩
def MST_STATUS_LIVE : Fld := ⟨.MST_STATUS, 0, 7⟩
def MST_STATUS_CQ_COUNT : Fld := ⟨.MST_STATUS, 8, 7⟩
def MST_STATUS_CQ_LOST : Fld := ⟨.MST_STATUS, 16, 16⟩
def MST_LIVE_LO_LIVE_LO : Fld := ⟨.MST_LIVE_LO, 0, 32⟩
def MST_LIVE_HI_LIVE_HI : Fld := ⟨.MST_LIVE_HI, 0, 32⟩
def MST_CFG_ASAP_WIN : Fld := ⟨.MST_CFG, 0, 24⟩
def MST_SEL_SEL : Fld := ⟨.MST_SEL, 0, 6⟩
def MST_CQ_CLR_LOST_CLR : Fld := ⟨.MST_CQ_CLR, 31, 1⟩
def MST_W_RUNS_RUNS : Fld := ⟨.MST_W_RUNS, 0, 32⟩
def MST_W_NEXT_NEXT : Fld := ⟨.MST_W_NEXT, 0, 32⟩
def MST_W_STATE_LIVE : Fld := ⟨.MST_W_STATE, 0, 1⟩
def MST_EVT_CODE : Fld := ⟨.MST_EVT, 0, 8⟩
def MST_EVT_NEW : Fld := ⟨.MST_EVT, 8, 1⟩
def WCU_CTRL_EN : Fld := ⟨.WCU_CTRL, 0, 1⟩
def WCU_CTRL_MODE : Fld := ⟨.WCU_CTRL, 1, 1⟩
def WCU_CTRL_PRESC : Fld := ⟨.WCU_CTRL, 2, 16⟩
def WCU_TOP_TOP : Fld := ⟨.WCU_TOP, 0, 32⟩
def WCU_CNT_COUNT : Fld := ⟨.WCU_CNT, 0, 32⟩
def WCU_STAT_RUN : Fld := ⟨.WCU_STAT, 0, 1⟩
def WCU_STAT_DIR : Fld := ⟨.WCU_STAT, 1, 1⟩
def WCU_STAT_PEND : Fld := ⟨.WCU_STAT, 2, 1⟩
def WCU_STAT_PERIODS : Fld := ⟨.WCU_STAT, 16, 16⟩
def WCU_GSTART_START : Fld := ⟨.WCU_GSTART, 0, 8⟩
def WCU_GSTOP_STOP : Fld := ⟨.WCU_GSTOP, 0, 8⟩
def WCU_RESULT_CODE : Fld := ⟨.WCU_RESULT, 0, 8⟩
def WCU_RESULT_ITEM : Fld := ⟨.WCU_RESULT, 8, 6⟩
def WCU_RESULT_ADDR : Fld := ⟨.WCU_RESULT, 16, 16⟩
def WCU_CCTRL_FUNC : Fld := ⟨.WCU_CCTRL, 0, 2⟩
def WCU_CCTRL_OMODE : Fld := ⟨.WCU_CCTRL, 2, 2⟩
def WCU_CCTRL_OPOL : Fld := ⟨.WCU_CCTRL, 4, 1⟩
def WCU_CCTRL_IDLE : Fld := ⟨.WCU_CCTRL, 5, 1⟩
def WCU_CCTRL_MIRQ : Fld := ⟨.WCU_CCTRL, 6, 1⟩
def WCU_CCTRL_CIRQ : Fld := ⟨.WCU_CCTRL, 7, 1⟩
def WCU_CCTRL_SRC : Fld := ⟨.WCU_CCTRL, 8, 8⟩
def WCU_CCTRL_EDGE : Fld := ⟨.WCU_CCTRL, 16, 2⟩
def WCU_CCTRL_ONESHOT : Fld := ⟨.WCU_CCTRL, 18, 1⟩
def WCU_CCTRL_ARM : Fld := ⟨.WCU_CCTRL, 19, 1⟩
def WCU_CCTRL_VEVT : Fld := ⟨.WCU_CCTRL, 20, 2⟩
def WCU_CMP_CMP : Fld := ⟨.WCU_CMP, 0, 32⟩
def WCU_CAPH_STAMP : Fld := ⟨.WCU_CAPH, 0, 32⟩
def WCU_CAPV_COUNTVAL : Fld := ⟨.WCU_CAPV, 0, 32⟩
def WCU_CAP_COUNT : Fld := ⟨.WCU_CAP, 0, 3⟩
def WCU_CAP_VALID : Fld := ⟨.WCU_CAP, 8, 1⟩
def WCU_CAP_AGED : Fld := ⟨.WCU_CAP, 9, 1⟩
def WCU_CAP_LEVEL : Fld := ⟨.WCU_CAP, 10, 1⟩
def WCU_CAP_LOST : Fld := ⟨.WCU_CAP, 16, 8⟩
def WCU_CAP_LOST_CLR : Fld := ⟨.WCU_CAP, 31, 1⟩
def OUT_CFG_SRC : Fld := ⟨.OUT_CFG, 0, 2⟩
def OUT_CFG_TWSEL : Fld := ⟨.OUT_CFG, 2, 5⟩
def OUT_CFG_DDSEL : Fld := ⟨.OUT_CFG, 7, 3⟩
def OUT_CFG_ALIGN : Fld := ⟨.OUT_CFG, 10, 1⟩
def OUT_CFG_TREC : Fld := ⟨.OUT_CFG, 11, 1⟩
def OUT_CFG_SAFELVL : Fld := ⟨.OUT_CFG, 12, 2⟩
def OUT_CFG_OFFDET : Fld := ⟨.OUT_CFG, 16, 8⟩
def OUT_CFG_IMM : Fld := ⟨.OUT_CFG, 31, 1⟩
def OUT_THR_THR : Fld := ⟨.OUT_THR, 0, 16⟩
def OUT_THR_IMM : Fld := ⟨.OUT_THR, 31, 1⟩
def OUT_INR_WIN : Fld := ⟨.OUT_INR, 0, 8⟩
def OUT_INR_IMM : Fld := ⟨.OUT_INR, 31, 1⟩
def OUT_RUNON_RUNON : Fld := ⟨.OUT_RUNON, 0, 16⟩
def OUT_RUNON_IMM : Fld := ⟨.OUT_RUNON, 31, 1⟩
def OUT_ALN_TARGET : Fld := ⟨.OUT_ALN, 0, 10⟩
def OUT_ALN_IMM : Fld := ⟨.OUT_ALN, 31, 1⟩
def OUT_APPLY_APPLY : Fld := ⟨.OUT_APPLY, 0, 1⟩
def OUT_LVL_LEVEL : Fld := ⟨.OUT_LVL, 0, 1⟩
def OUT_STAT_STATE : Fld := ⟨.OUT_STAT, 0, 4⟩
def OUT_STAT_CMD : Fld := ⟨.OUT_STAT, 4, 1⟩
def OUT_STAT_DRIVE : Fld := ⟨.OUT_STAT, 5, 1⟩
def OUT_STAT_STAGE : Fld := ⟨.OUT_STAT, 6, 1⟩
def OUT_STAT_LAT : Fld := ⟨.OUT_STAT, 7, 1⟩
def OUT_STAT_MSL : Fld := ⟨.OUT_STAT, 8, 1⟩
def OUT_STAT_RUNON : Fld := ⟨.OUT_STAT, 9, 1⟩
def OUT_STAT_PEND : Fld := ⟨.OUT_STAT, 10, 1⟩
def OUT_STAT_ALN_VALID : Fld := ⟨.OUT_STAT, 11, 1⟩
def OUT_STAT_ALN_SAT : Fld := ⟨.OUT_STAT, 12, 1⟩
def OUT_STAT_BAND_HELD : Fld := ⟨.OUT_STAT, 13, 1⟩
def OUT_STAT_INR : Fld := ⟨.OUT_STAT, 14, 1⟩
def OUT_STAT_FROZEN : Fld := ⟨.OUT_STAT, 15, 1⟩
def OUT_DLY_RISE : Fld := ⟨.OUT_DLY, 0, 16⟩
def OUT_DLY_FALL : Fld := ⟨.OUT_DLY, 16, 16⟩
def OUT_FDLY_FRISE : Fld := ⟨.OUT_FDLY, 0, 16⟩
def OUT_FDLY_FFALL : Fld := ⟨.OUT_FDLY, 16, 16⟩
def OUT_RUNREM_REM : Fld := ⟨.OUT_RUNREM, 0, 16⟩
def OUT_LTSEC_SEC_LO : Fld := ⟨.OUT_LTSEC, 0, 32⟩
def OUT_LTHI_SEC_HI : Fld := ⟨.OUT_LTHI, 0, 16⟩
def OUT_LTHI_DIR : Fld := ⟨.OUT_LTHI, 16, 1⟩
def OUT_LTHI_NOCROSS : Fld := ⟨.OUT_LTHI, 17, 1⟩
def OUT_LTHI_RTCT : Fld := ⟨.OUT_LTHI, 18, 1⟩
def OUT_LTNS_NS : Fld := ⟨.OUT_LTNS, 0, 30⟩
def OUT_TCNT_COUNT : Fld := ⟨.OUT_TCNT, 0, 16⟩
def OUT_LATB_LAT : Fld := ⟨.OUT_LATB, 0, 32⟩
def OUT_LATS_SET : Fld := ⟨.OUT_LATS, 0, 32⟩
def OUT_LATC_CLR : Fld := ⟨.OUT_LATC, 0, 32⟩
def OUT_STGB_STAGE : Fld := ⟨.OUT_STGB, 0, 32⟩
def OUT_INP_DDIN : Fld := ⟨.OUT_INP, 0, 8⟩
def OUT_INP_IGN : Fld := ⟨.OUT_INP, 8, 1⟩
def OUT_INP_SAFE : Fld := ⟨.OUT_INP, 9, 1⟩
def OUT_RESULT_CODE : Fld := ⟨.OUT_RESULT, 0, 8⟩
def OUT_RESULT_CHAN : Fld := ⟨.OUT_RESULT, 8, 7⟩
def OUT_RESULT_ADDR : Fld := ⟨.OUT_RESULT, 16, 16⟩
def OUT_TRQSTAT_COUNT : Fld := ⟨.OUT_TRQSTAT, 0, 7⟩
def OUT_TRQSTAT_LOST : Fld := ⟨.OUT_TRQSTAT, 16, 8⟩
def OUT_TRQSTAT_LOST_CLR : Fld := ⟨.OUT_TRQSTAT, 31, 1⟩
def PROT_WIRE_IRATE : Fld := ⟨.PROT_WIRE, 0, 16⟩
def PROT_WIRE_TAU : Fld := ⟨.PROT_WIRE, 16, 12⟩
def PROT_WIRE_IMM : Fld := ⟨.PROT_WIRE, 31, 1⟩
def PROT_CPL_KC : Fld := ⟨.PROT_CPL, 0, 8⟩
def PROT_CPL_BUNDLE : Fld := ⟨.PROT_CPL, 8, 5⟩
def PROT_RETRY_ATTEMPTS : Fld := ⟨.PROT_RETRY, 0, 4⟩
def PROT_RETRY_DOUBLE : Fld := ⟨.PROT_RETRY, 4, 1⟩
def PROT_RETRY_BACKOFF : Fld := ⟨.PROT_RETRY, 5, 13⟩
def PROT_RETRY_RESET_T : Fld := ⟨.PROT_RETRY, 18, 10⟩
def PROT_RETRY_IMM : Fld := ⟨.PROT_RETRY, 31, 1⟩
def PROT_TOLL_PRIO : Fld := ⟨.PROT_TOLL, 0, 3⟩
def PROT_TOLL_PLAN : Fld := ⟨.PROT_TOLL, 8, 11⟩
def PROT_TOLL_IMM : Fld := ⟨.PROT_TOLL, 31, 1⟩
def PROT_LIM_OCF : Fld := ⟨.PROT_LIM, 0, 7⟩
def PROT_LIM_REARM : Fld := ⟨.PROT_LIM, 8, 7⟩
def PROT_LIM_IMM : Fld := ⟨.PROT_LIM, 31, 1⟩
def PROT_STAT_HEAT : Fld := ⟨.PROT_STAT, 0, 16⟩
def PROT_STAT_USED : Fld := ⟨.PROT_STAT, 16, 4⟩
def PROT_STAT_LATCH_J : Fld := ⟨.PROT_STAT, 20, 1⟩
def PROT_STAT_LATCH_W : Fld := ⟨.PROT_STAT, 21, 1⟩
def PROT_STAT_SHED : Fld := ⟨.PROT_STAT, 22, 1⟩
def PROT_STAT_TOLL_REF : Fld := ⟨.PROT_STAT, 23, 1⟩
def PROT_STAT_WAIT : Fld := ⟨.PROT_STAT, 24, 1⟩
def PROT_STAT_SCHOLD : Fld := ⟨.PROT_STAT, 25, 1⟩
def PROT_STAT_BLIND : Fld := ⟨.PROT_STAT, 26, 1⟩
def PROT_STAT_PAUSED : Fld := ⟨.PROT_STAT, 27, 1⟩
def PROT_STAT_WARN : Fld := ⟨.PROT_STAT, 28, 1⟩
def PROT_STAT_CAUSE : Fld := ⟨.PROT_STAT, 29, 3⟩
def PROT_JT_TJ : Fld := ⟨.PROT_JT, 0, 16⟩
def PROT_BOF_REM : Fld := ⟨.PROT_BOF, 0, 24⟩
def PROT_RESULT_CODE : Fld := ⟨.PROT_RESULT, 0, 8⟩
def PROT_RESULT_CHAN : Fld := ⟨.PROT_RESULT, 8, 7⟩
def PROT_RESULT_ADDR : Fld := ⟨.PROT_RESULT, 16, 16⟩
def SNS_VAL_VALUE : Fld := ⟨.SNS_VAL, 0, 16⟩
def SNS_VAL_CAL : Fld := ⟨.SNS_VAL, 16, 1⟩
def SNS_VAL_STALE : Fld := ⟨.SNS_VAL, 17, 1⟩
def SNS_VAL_SAT : Fld := ⟨.SNS_VAL, 18, 1⟩
def SNS_VAL_EDGE : Fld := ⟨.SNS_VAL, 19, 1⟩
def SNS_VAL_OFF : Fld := ⟨.SNS_VAL, 20, 1⟩
def SNS_VAL_FACTORY : Fld := ⟨.SNS_VAL, 21, 1⟩
def SNS_STAMP_STAMP : Fld := ⟨.SNS_STAMP, 0, 32⟩
def SNS_CAL_GAIN : Fld := ⟨.SNS_CAL, 0, 16⟩
def SNS_CAL_OFFSET : Fld := ⟨.SNS_CAL, 16, 16⟩
def SNS_CSTAT_GAIN_DUE : Fld := ⟨.SNS_CSTAT, 0, 1⟩
def SNS_CSTAT_OFS_OLD : Fld := ⟨.SNS_CSTAT, 1, 1⟩
def SNS_CSTAT_GAIN_FAULT : Fld := ⟨.SNS_CSTAT, 2, 1⟩
def SNS_CSTAT_REJ : Fld := ⟨.SNS_CSTAT, 8, 8⟩
def SNS_CSTAT_GAIN_AGE : Fld := ⟨.SNS_CSTAT, 16, 16⟩
def SNS_SIGCFG_TOL : Fld := ⟨.SNS_SIGCFG, 0, 8⟩
def SNS_SIGCFG_DEG_LIM : Fld := ⟨.SNS_SIGCFG, 8, 8⟩
def SNS_SIGCFG_CHG_LIM : Fld := ⟨.SNS_SIGCFG, 16, 8⟩
def SNS_SIGCFG_SIG_EN : Fld := ⟨.SNS_SIGCFG, 24, 1⟩
def SNS_SIGCFG_RELEARN : Fld := ⟨.SNS_SIGCFG, 31, 1⟩
def SNS_SIGSTAT_VERDICT : Fld := ⟨.SNS_SIGSTAT, 0, 3⟩
def SNS_SIGSTAT_LEARNED : Fld := ⟨.SNS_SIGSTAT, 3, 6⟩
def SNS_SIGSTAT_LEARNT : Fld := ⟨.SNS_SIGSTAT, 9, 1⟩
def SNS_SIGSTAT_DEV : Fld := ⟨.SNS_SIGSTAT, 16, 16⟩
def SNS_SIGPK_PEAK : Fld := ⟨.SNS_SIGPK, 0, 16⟩
def SNS_SIGPK_LASTPK : Fld := ⟨.SNS_SIGPK, 16, 16⟩
def SNS_SIGHIST_HIST : Fld := ⟨.SNS_SIGHIST, 0, 8⟩
def SNS_SIGHIST_DEGN : Fld := ⟨.SNS_SIGHIST, 8, 8⟩
def SNS_SIGHIST_CHGN : Fld := ⟨.SNS_SIGHIST, 16, 8⟩
def SNS_SIGHIST_TREND : Fld := ⟨.SNS_SIGHIST, 24, 1⟩
def SNS_CFG_INTERVAL : Fld := ⟨.SNS_CFG, 0, 16⟩
def SNS_STATUS_TESTER : Fld := ⟨.SNS_STATUS, 0, 1⟩
def SNS_STATUS_LOADED : Fld := ⟨.SNS_STATUS, 1, 1⟩
def SNS_STATUS_REF_FAULT : Fld := ⟨.SNS_STATUS, 2, 4⟩
def SNS_STATUS_ISEL : Fld := ⟨.SNS_STATUS, 8, 5⟩
def SNS_STATUS_SESSIONS : Fld := ⟨.SNS_STATUS, 16, 16⟩
def SNS_RESULT_CODE : Fld := ⟨.SNS_RESULT, 0, 8⟩
def SNS_RESULT_CHAN : Fld := ⟨.SNS_RESULT, 8, 7⟩
def SNS_RESULT_ADDR : Fld := ⟨.SNS_RESULT, 16, 16⟩
def SNS_SIGSEL_CHAN : Fld := ⟨.SNS_SIGSEL, 0, 7⟩
def SNS_SIGSEL_CURVE : Fld := ⟨.SNS_SIGSEL, 7, 2⟩
def SNS_CURVE_LO : Fld := ⟨.SNS_CURVE, 0, 16⟩
def SNS_CURVE_HI : Fld := ⟨.SNS_CURVE, 16, 16⟩
def TOLL_CFG_BUDGET : Fld := ⟨.TOLL_CFG, 0, 8⟩
def TOLL_CFG_STAGGER : Fld := ⟨.TOLL_CFG, 8, 5⟩
def TOLL_CFG_RESTORE : Fld := ⟨.TOLL_CFG, 16, 7⟩
def TOLL_STAT_BAND : Fld := ⟨.TOLL_STAT, 0, 3⟩
def TOLL_STAT_DIP : Fld := ⟨.TOLL_STAT, 3, 1⟩
def TOLL_STAT_OVER : Fld := ⟨.TOLL_STAT, 4, 1⟩
def TOLL_STAT_NOSHED : Fld := ⟨.TOLL_STAT, 5, 1⟩
def TOLL_STAT_SHEDN : Fld := ⟨.TOLL_STAT, 16, 5⟩
def TOLL_CUR_CUR : Fld := ⟨.TOLL_CUR, 0, 16⟩
def TOLL_CUR_BASE : Fld := ⟨.TOLL_CUR, 16, 16⟩
def TOLL_VOLT_VOLT : Fld := ⟨.TOLL_VOLT, 0, 16⟩
def TOLL_PLAN_PLANMAX : Fld := ⟨.TOLL_PLAN, 0, 16⟩
def TOLL_CNT_SHEDS : Fld := ⟨.TOLL_CNT, 0, 16⟩
def TOLL_CNT_REFUSED : Fld := ⟨.TOLL_CNT, 16, 16⟩
def TOLL_CLR_CLR : Fld := ⟨.TOLL_CLR, 0, 1⟩
def VLV_CUR_PEAK : Fld := ⟨.VLV_CUR, 0, 11⟩
def VLV_CUR_HOLD : Fld := ⟨.VLV_CUR, 16, 10⟩
def VLV_TIM_TMIN : Fld := ⟨.VLV_TIM, 0, 8⟩
def VLV_TIM_TMAX : Fld := ⟨.VLV_TIM, 8, 8⟩
def VLV_TIM_DWELL : Fld := ⟨.VLV_TIM, 16, 8⟩
def VLV_MODE_EN : Fld := ⟨.VLV_MODE, 0, 1⟩
def VLV_MODE_SUPPLY : Fld := ⟨.VLV_MODE, 1, 1⟩
def VLV_MODE_OFFMODE : Fld := ⟨.VLV_MODE, 2, 1⟩
def VLV_MODE_LATEACT : Fld := ⟨.VLV_MODE, 3, 1⟩
def VLV_MODE_STK_EN : Fld := ⟨.VLV_MODE, 4, 1⟩
def VLV_MODE_SAFEOFF : Fld := ⟨.VLV_MODE, 5, 1⟩
def VLV_MODE_DIPMIN : Fld := ⟨.VLV_MODE, 8, 6⟩
def VLV_MODE_HOLDMAX : Fld := ⟨.VLV_MODE, 16, 16⟩
def VLV_CMD_START : Fld := ⟨.VLV_CMD, 0, 1⟩
def VLV_CMD_OFF : Fld := ⟨.VLV_CMD, 1, 1⟩
def VLV_STAT_STATE : Fld := ⟨.VLV_STAT, 0, 4⟩
def VLV_STAT_RPEND : Fld := ⟨.VLV_STAT, 4, 1⟩
def VLV_STAT_FCAUSE : Fld := ⟨.VLV_STAT, 5, 3⟩
def VLV_STAT_CUR : Fld := ⟨.VLV_STAT, 16, 16⟩
def VLV_RES_LASTPH : Fld := ⟨.VLV_RES, 0, 3⟩
def VLV_RES_TTPV : Fld := ⟨.VLV_RES, 3, 2⟩
def VLV_RES_STROKE : Fld := ⟨.VLV_RES, 5, 2⟩
def VLV_RES_END : Fld := ⟨.VLV_RES, 7, 3⟩
def VLV_RES_FEEDPATH : Fld := ⟨.VLV_RES, 10, 1⟩
def VLV_RES_DEFERRED : Fld := ⟨.VLV_RES, 11, 1⟩
def VLV_RES_TTP : Fld := ⟨.VLV_RES, 16, 16⟩
def VLV_CNT_EVENTS : Fld := ⟨.VLV_CNT, 0, 16⟩
def VLV_CNT_NOSTK : Fld := ⟨.VLV_CNT, 16, 16⟩
def VLV_GCFG_RAIL : Fld := ⟨.VLV_GCFG, 0, 6⟩
def VLV_GCFG_MINOFF : Fld := ⟨.VLV_GCFG, 8, 7⟩
def VLV_GCFG_MAXDEF : Fld := ⟨.VLV_GCFG, 16, 7⟩
def VLV_GSTAT_BOOST : Fld := ⟨.VLV_GSTAT, 0, 1⟩
def VLV_GSTAT_BVALVE : Fld := ⟨.VLV_GSTAT, 1, 5⟩
def VLV_GSTAT_RECHG : Fld := ⟨.VLV_GSTAT, 6, 1⟩
def VLV_GSTAT_HSFAULT : Fld := ⟨.VLV_GSTAT, 7, 1⟩
def VLV_GSTAT_OCC : Fld := ⟨.VLV_GSTAT, 8, 3⟩
def VLV_GSTAT_FEEDPATH : Fld := ⟨.VLV_GSTAT, 11, 1⟩
def VLV_GSTAT_CAPV : Fld := ⟨.VLV_GSTAT, 16, 16⟩
def VLV_GCLR_CLR : Fld := ⟨.VLV_GCLR, 0, 1⟩
def VLV_GCLR_CNTCLR : Fld := ⟨.VLV_GCLR, 1, 1⟩
def VLV_GCNT_DEFERRED : Fld := ⟨.VLV_GCNT, 0, 16⟩
def VLV_GCNT_BUSY : Fld := ⟨.VLV_GCNT, 16, 16⟩
def VLV_STARTM_START : Fld := ⟨.VLV_STARTM, 0, 24⟩
def VLV_OFFM_OFF : Fld := ⟨.VLV_OFFM, 0, 24⟩
def VLV_RESULT_CODE : Fld := ⟨.VLV_RESULT, 0, 8⟩
def VLV_RESULT_VALVE : Fld := ⟨.VLV_RESULT, 8, 5⟩
def VLV_RESULT_DEFER : Fld := ⟨.VLV_RESULT, 15, 1⟩
def VLV_RESULT_ADDR : Fld := ⟨.VLV_RESULT, 16, 16⟩
def VLV_BSTAT_RUN : Fld := ⟨.VLV_BSTAT, 0, 1⟩
def VLV_BSTAT_SRC : Fld := ⟨.VLV_BSTAT, 1, 1⟩
def VLV_EVQSTAT_COUNT : Fld := ⟨.VLV_EVQSTAT, 0, 6⟩
def VLV_EVQSTAT_LOST : Fld := ⟨.VLV_EVQSTAT, 16, 8⟩
def VLV_EVQSTAT_LOST_CLR : Fld := ⟨.VLV_EVQSTAT, 31, 1⟩
def SIN_CFG_MODE : Fld := ⟨.SIN_CFG, 0, 2⟩
def SIN_CFG_WET : Fld := ⟨.SIN_CFG, 2, 1⟩
def SIN_CFG_INV : Fld := ⟨.SIN_CFG, 3, 1⟩
def SIN_CFG_EDGE : Fld := ⟨.SIN_CFG, 4, 2⟩
def SIN_CFG_POLL : Fld := ⟨.SIN_CFG, 6, 1⟩
def SIN_CFG_DEBOUNCE : Fld := ⟨.SIN_CFG, 16, 16⟩
def SIN_STAT_LEVEL : Fld := ⟨.SIN_STAT, 0, 1⟩
def SIN_STAT_RAW : Fld := ⟨.SIN_STAT, 1, 1⟩
def SIN_STAT_RUN : Fld := ⟨.SIN_STAT, 2, 1⟩
def SIN_STAT_POS : Fld := ⟨.SIN_STAT, 4, 4⟩
def SIN_STAT_RES : Fld := ⟨.SIN_STAT, 16, 16⟩
def SIN_CNT_COUNT : Fld := ⟨.SIN_CNT, 0, 32⟩
def SIN_PER_PER : Fld := ⟨.SIN_PER, 0, 32⟩
def SIN_EQSTAT_COUNT : Fld := ⟨.SIN_EQSTAT, 0, 9⟩
def SIN_EQSTAT_LOST : Fld := ⟨.SIN_EQSTAT, 16, 8⟩
def SIN_EQSTAT_LOST_CLR : Fld := ⟨.SIN_EQSTAT, 31, 1⟩
def SIN_EQCFG_THR : Fld := ⟨.SIN_EQCFG, 0, 9⟩
def SIN_LVLB0_LEVEL : Fld := ⟨.SIN_LVLB0, 0, 32⟩
def SIN_LVLB1_LEVEL : Fld := ⟨.SIN_LVLB1, 0, 32⟩
def SIN_RESULT_CODE : Fld := ⟨.SIN_RESULT, 0, 8⟩
def SIN_RESULT_INPUT : Fld := ⟨.SIN_RESULT, 8, 7⟩
def SIN_RESULT_ADDR : Fld := ⟨.SIN_RESULT, 16, 16⟩
def SIN_BSEL_INPUT : Fld := ⟨.SIN_BSEL, 0, 6⟩
def SIN_BAND_LOW : Fld := ⟨.SIN_BAND, 0, 12⟩
def SIN_BAND_HIGH : Fld := ⟨.SIN_BAND, 16, 12⟩
def SIN_BAND_EN : Fld := ⟨.SIN_BAND, 31, 1⟩
def FIO_CFG_DIR : Fld := ⟨.FIO_CFG, 0, 1⟩
def FIO_CFG_TYPE : Fld := ⟨.FIO_CFG, 1, 1⟩
def FIO_CFG_SAFE : Fld := ⟨.FIO_CFG, 2, 1⟩
def FIO_CFG_PARKHOLD : Fld := ⟨.FIO_CFG, 3, 1⟩
def FIO_CFG_COS : Fld := ⟨.FIO_CFG, 4, 2⟩
def FIO_CFG_COSIRQ : Fld := ⟨.FIO_CFG, 6, 1⟩
def FIO_CFG_TWEN : Fld := ⟨.FIO_CFG, 7, 1⟩
def FIO_CFG_TWSEL : Fld := ⟨.FIO_CFG, 8, 5⟩
def FIO_CFG_FILTER : Fld := ⟨.FIO_CFG, 16, 16⟩
def FIO_OUT_IMAGE : Fld := ⟨.FIO_OUT, 0, 32⟩
def FIO_OUTS_SET : Fld := ⟨.FIO_OUTS, 0, 32⟩
def FIO_OUTC_CLR : Fld := ⟨.FIO_OUTC, 0, 32⟩
def FIO_KICK_KICK : Fld := ⟨.FIO_KICK, 0, 1⟩
def FIO_IN_IN : Fld := ⟨.FIO_IN, 0, 32⟩
def FIO_PIN_PIN : Fld := ⟨.FIO_PIN, 0, 32⟩
def FIO_COSF_COSF : Fld := ⟨.FIO_COSF, 0, 32⟩
def FIO_STATUS_FAULT : Fld := ⟨.FIO_STATUS, 0, 1⟩
def FIO_STATUS_SUPLOW : Fld := ⟨.FIO_STATUS, 1, 1⟩
def FIO_STATUS_OVLD : Fld := ⟨.FIO_STATUS, 2, 1⟩
def FIO_STATUS_OVT : Fld := ⟨.FIO_STATUS, 3, 1⟩
def FIO_STATUS_TOSTATE : Fld := ⟨.FIO_STATUS, 4, 2⟩
def FIO_STATUS_TOCNT : Fld := ⟨.FIO_STATUS, 16, 16⟩
def FIO_TOCFG_TIMEOUT : Fld := ⟨.FIO_TOCFG, 0, 11⟩
def FIO_SUPV_VOLT : Fld := ⟨.FIO_SUPV, 0, 16⟩
def FIO_RESULT_CODE : Fld := ⟨.FIO_RESULT, 0, 8⟩
def FIO_RESULT_POINT : Fld := ⟨.FIO_RESULT, 8, 8⟩
def FIO_RESULT_ADDR : Fld := ⟨.FIO_RESULT, 16, 16⟩
def FIO_CQSTAT_COUNT : Fld := ⟨.FIO_CQSTAT, 0, 7⟩
def FIO_CQSTAT_LOST : Fld := ⟨.FIO_CQSTAT, 16, 8⟩
def FIO_CQSTAT_LOST_CLR : Fld := ⟨.FIO_CQSTAT, 31, 1⟩
def CAN_MODE_MODE : Fld := ⟨.CAN_MODE, 0, 3⟩
def CAN_MODE_TXPRI : Fld := ⟨.CAN_MODE, 3, 1⟩
def CAN_MODE_ABOR : Fld := ⟨.CAN_MODE, 4, 1⟩
def CAN_MODE_PXHD : Fld := ⟨.CAN_MODE, 5, 1⟩
def CAN_MODE_TDCEN : Fld := ⟨.CAN_MODE, 6, 1⟩
def CAN_MODE_SELFRX : Fld := ⟨.CAN_MODE, 7, 1⟩
def CAN_STAT_STATE : Fld := ⟨.CAN_STAT, 0, 4⟩
def CAN_STAT_FC : Fld := ⟨.CAN_STAT, 4, 2⟩
def CAN_STAT_IDLE : Fld := ⟨.CAN_STAT, 6, 1⟩
def CAN_STAT_REC : Fld := ⟨.CAN_STAT, 8, 8⟩
def CAN_STAT_TEC : Fld := ⟨.CAN_STAT, 16, 8⟩
def CAN_ERR_LEC : Fld := ⟨.CAN_ERR, 0, 3⟩
def CAN_ERR_DPH : Fld := ⟨.CAN_ERR, 3, 1⟩
def CAN_ERR_RECOVER : Fld := ⟨.CAN_ERR, 4, 1⟩
def CAN_ERR_BOFF : Fld := ⟨.CAN_ERR, 16, 16⟩
def CAN_BTN_BRP : Fld := ⟨.CAN_BTN, 0, 6⟩
def CAN_BTN_TSEG1 : Fld := ⟨.CAN_BTN, 6, 9⟩
def CAN_BTN_TSEG2 : Fld := ⟨.CAN_BTN, 15, 8⟩
def CAN_BTN_SJW : Fld := ⟨.CAN_BTN, 23, 8⟩
def CAN_BTD_BRP : Fld := ⟨.CAN_BTD, 0, 6⟩
def CAN_BTD_TSEG1 : Fld := ⟨.CAN_BTD, 6, 6⟩
def CAN_BTD_TSEG2 : Fld := ⟨.CAN_BTD, 12, 5⟩
def CAN_BTD_SJW : Fld := ⟨.CAN_BTD, 17, 5⟩
def CAN_BTD_TDCO : Fld := ⟨.CAN_BTD, 22, 7⟩
def CAN_QSTAT_COUNT : Fld := ⟨.CAN_QSTAT, 0, 7⟩
def CAN_QSTAT_LOCKED : Fld := ⟨.CAN_QSTAT, 7, 1⟩
def CAN_QSTAT_LOST : Fld := ⟨.CAN_QSTAT, 16, 8⟩
def CAN_QSTAT_LOST_CLR : Fld := ⟨.CAN_QSTAT, 31, 1⟩
def CAN_QCFG_THR0 : Fld := ⟨.CAN_QCFG, 0, 7⟩
def CAN_QCFG_THR1 : Fld := ⟨.CAN_QCFG, 8, 6⟩
def CAN_NOMATCH_COUNT : Fld := ⟨.CAN_NOMATCH, 0, 32⟩
def CAN_RESULT_CODE : Fld := ⟨.CAN_RESULT, 0, 8⟩
def CAN_RESULT_ITEM : Fld := ⟨.CAN_RESULT, 8, 6⟩
def CAN_RESULT_ADDR : Fld := ⟨.CAN_RESULT, 16, 16⟩
def CAN_IRQ_QLVL : Fld := ⟨.CAN_IRQ, 0, 2⟩
def CAN_IRQ_EVT : Fld := ⟨.CAN_IRQ, 2, 4⟩
def CAN_IEN_EN : Fld := ⟨.CAN_IEN, 0, 6⟩
def CAN_TXPEND_PEND : Fld := ⟨.CAN_TXPEND, 0, 32⟩
def CAN_TXEND_END : Fld := ⟨.CAN_TXEND, 0, 32⟩
def FLT_MATCH_MATCH : Fld := ⟨.FLT_MATCH, 0, 32⟩
def FLT_MASK_MASK : Fld := ⟨.FLT_MASK, 0, 32⟩
def FLT_CTRL_EN : Fld := ⟨.FLT_CTRL, 0, 1⟩
def FLT_CTRL_Q : Fld := ⟨.FLT_CTRL, 1, 1⟩
def FLT_HITS_HITS : Fld := ⟨.FLT_HITS, 0, 32⟩
def MB_CTRL_REQ : Fld := ⟨.MB_CTRL, 0, 1⟩
def MB_CTRL_ABORT : Fld := ⟨.MB_CTRL, 1, 1⟩
def MB_CTRL_LOAD : Fld := ⟨.MB_CTRL, 2, 1⟩
def MB_CTRL_CLEAR : Fld := ⟨.MB_CTRL, 3, 1⟩
def MB_CTRL_MSONLY : Fld := ⟨.MB_CTRL, 4, 1⟩
def MB_CTRL_ONESHOT : Fld := ⟨.MB_CTRL, 5, 1⟩
def MB_CTRL_TXIRQ : Fld := ⟨.MB_CTRL, 6, 1⟩
def MB_STAT_STATE : Fld := ⟨.MB_STAT, 0, 2⟩
def MB_STAT_REREQ : Fld := ⟨.MB_STAT, 2, 1⟩
def MB_STAT_WIGN : Fld := ⟨.MB_STAT, 3, 1⟩
def MB_STAT_OUTCOME : Fld := ⟨.MB_STAT, 4, 4⟩
def MB_STAT_MS : Fld := ⟨.MB_STAT, 8, 1⟩
def MB_STAT_ATTEMPTS : Fld := ⟨.MB_STAT, 16, 8⟩
def MB_TS_STAMP : Fld := ⟨.MB_TS, 0, 32⟩
def MB_RQT_RQT : Fld := ⟨.MB_RQT, 0, 32⟩
def LIN_CFG_RATE : Fld := ⟨.LIN_CFG, 0, 15⟩
def LIN_CFG_EN : Fld := ⟨.LIN_CFG, 16, 1⟩
def LIN_CFG_SLEEP : Fld := ⟨.LIN_CFG, 17, 1⟩
def LIN_CFG_WAKE : Fld := ⟨.LIN_CFG, 18, 1⟩
def LIN_SCH_TABLE : Fld := ⟨.LIN_SCH, 0, 2⟩
def LIN_SCH_RUN : Fld := ⟨.LIN_SCH, 2, 1⟩
def LIN_TDEF_FIRST : Fld := ⟨.LIN_TDEF, 0, 6⟩
def LIN_TDEF_LEN : Fld := ⟨.LIN_TDEF, 7, 7⟩
def LIN_TDEF_ONCE : Fld := ⟨.LIN_TDEF, 14, 1⟩
def LIN_TDEF_NEXT : Fld := ⟨.LIN_TDEF, 15, 2⟩
def LIN_STAT_STATE : Fld := ⟨.LIN_STAT, 0, 3⟩
def LIN_STAT_WAKEREQ : Fld := ⟨.LIN_STAT, 3, 1⟩
def LIN_STAT_SLOT : Fld := ⟨.LIN_STAT, 4, 6⟩
def LIN_STAT_TABLE : Fld := ⟨.LIN_STAT, 10, 2⟩
def LIN_STAT_RESOLVE : Fld := ⟨.LIN_STAT, 12, 1⟩
def LIN_STAT_ERRCNT : Fld := ⟨.LIN_STAT, 16, 16⟩
def LIN_BRKTS_STAMP : Fld := ⟨.LIN_BRKTS, 0, 32⟩
def LIN_RQSTAT_COUNT : Fld := ⟨.LIN_RQSTAT, 0, 6⟩
def LIN_RQSTAT_LOST : Fld := ⟨.LIN_RQSTAT, 16, 8⟩
def LIN_RQSTAT_LOST_CLR : Fld := ⟨.LIN_RQSTAT, 31, 1⟩
def ETH_CTRL_EN : Fld := ⟨.ETH_CTRL, 0, 1⟩
def ETH_CTRL_LEARN : Fld := ⟨.ETH_CTRL, 1, 1⟩
def ETH_CTRL_AGE : Fld := ⟨.ETH_CTRL, 2, 10⟩
def ETH_CTRL_MCFLOOD : Fld := ⟨.ETH_CTRL, 12, 1⟩
def ETH_MIRROR_SRC : Fld := ⟨.ETH_MIRROR, 0, 4⟩
def ETH_MIRROR_DIR : Fld := ⟨.ETH_MIRROR, 4, 2⟩
def ETH_MIRROR_DST : Fld := ⟨.ETH_MIRROR, 8, 4⟩
def ETH_BUF_FREE : Fld := ⟨.ETH_BUF, 0, 14⟩
def ETH_BUF_LOW : Fld := ⟨.ETH_BUF, 16, 14⟩
def ETH_RESULT_CODE : Fld := ⟨.ETH_RESULT, 0, 8⟩
def ETH_RESULT_ITEM : Fld := ⟨.ETH_RESULT, 8, 8⟩
def ETH_RESULT_ADDR : Fld := ⟨.ETH_RESULT, 16, 16⟩
def ETH_STAT_LINK : Fld := ⟨.ETH_STAT, 0, 9⟩
def ETH_STAT_ATFULL : Fld := ⟨.ETH_STAT, 9, 1⟩
def ETH_SVCSTAT_EN : Fld := ⟨.ETH_SVCSTAT, 0, 1⟩
def ETH_SVCSTAT_LINK : Fld := ⟨.ETH_SVCSTAT, 1, 1⟩
def ETH_SVCSTAT_IGN : Fld := ⟨.ETH_SVCSTAT, 16, 16⟩
def ETH_RING_SIZE : Fld := ⟨.ETH_RING, 0, 8⟩
def ETH_RING_NEXT : Fld := ⟨.ETH_RING, 8, 8⟩
def ETH_RING_KICK : Fld := ⟨.ETH_RING, 31, 1⟩
def ETH_PCFG_EN : Fld := ⟨.ETH_PCFG, 0, 1⟩
def ETH_PCFG_ROLE : Fld := ⟨.ETH_PCFG, 1, 1⟩
def ETH_PCFG_PVID : Fld := ⟨.ETH_PCFG, 2, 12⟩
def ETH_PCFG_PRIO : Fld := ⟨.ETH_PCFG, 14, 3⟩
def ETH_PCFG_ACCEPT : Fld := ⟨.ETH_PCFG, 17, 2⟩
def ETH_PCFG_INGF : Fld := ⟨.ETH_PCFG, 19, 1⟩
def ETH_PSTAT_LINK : Fld := ⟨.ETH_PSTAT, 0, 1⟩
def ETH_PSTAT_SQI : Fld := ⟨.ETH_PSTAT, 1, 3⟩
def ETH_PSTAT_DOWNS : Fld := ⟨.ETH_PSTAT, 16, 16⟩
def ETH_CBSA_IDLESLOPE : Fld := ⟨.ETH_CBSA, 0, 20⟩
def ETH_CBSA_QUEUE : Fld := ⟨.ETH_CBSA, 20, 3⟩
def ETH_CBSB_IDLESLOPE : Fld := ⟨.ETH_CBSB, 0, 20⟩
def ETH_CBSB_QUEUE : Fld := ⟨.ETH_CBSB, 20, 3⟩
def ETH_QRES_RSV : Fld := ⟨.ETH_QRES, 0, 10⟩
def ETH_RXF_RXF : Fld := ⟨.ETH_RXF, 0, 32⟩
def ETH_RXB_RXB : Fld := ⟨.ETH_RXB, 0, 32⟩
def ETH_TXF_TXF : Fld := ⟨.ETH_TXF, 0, 32⟩
def ETH_TXB_TXB : Fld := ⟨.ETH_TXB, 0, 32⟩
def ETH_D1_FCS : Fld := ⟨.ETH_D1, 0, 16⟩
def ETH_D1_OVERSIZE : Fld := ⟨.ETH_D1, 16, 16⟩
def ETH_D2_RUNT : Fld := ⟨.ETH_D2, 0, 16⟩
def ETH_D2_VLAN : Fld := ⟨.ETH_D2, 16, 16⟩
def ETH_D3_NOBUF : Fld := ⟨.ETH_D3, 0, 16⟩
def ETH_D3_LINKDN : Fld := ⟨.ETH_D3, 16, 16⟩
def ETH_D4_MIRDROP : Fld := ⟨.ETH_D4, 0, 16⟩
def ETH_CCLR_CLR : Fld := ⟨.ETH_CCLR, 0, 1⟩
def ETH_VLAN_VID : Fld := ⟨.ETH_VLAN, 0, 12⟩
def ETH_VLAN_MEMBER : Fld := ⟨.ETH_VLAN, 12, 9⟩
def ETH_VLAN_UNTAG : Fld := ⟨.ETH_VLAN, 21, 9⟩
def ETH_VLAN_VALID : Fld := ⟨.ETH_VLAN, 31, 1⟩
def ETH_SA_LO_MAC_LO : Fld := ⟨.ETH_SA_LO, 0, 32⟩
def ETH_SA_HI_MAC_HI : Fld := ⟨.ETH_SA_HI, 0, 16⟩
def ETH_SA_HI_VID : Fld := ⟨.ETH_SA_HI, 16, 12⟩
def ETH_SA_CTL_PORTS : Fld := ⟨.ETH_SA_CTL, 0, 9⟩
def ETH_SA_CTL_VALID : Fld := ⟨.ETH_SA_CTL, 31, 1⟩
def NET_CTRL_NMEN : Fld := ⟨.NET_CTRL, 0, 1⟩
def NET_CTRL_HOLD : Fld := ⟨.NET_CTRL, 1, 1⟩
def NET_CTRL_TARGET : Fld := ⟨.NET_CTRL, 2, 1⟩
def NET_CTRL_WAKEREQ : Fld := ⟨.NET_CTRL, 3, 1⟩
def NET_CFG_NMCH : Fld := ⟨.NET_CFG, 0, 8⟩
def NET_CFG_QUIET : Fld := ⟨.NET_CFG, 8, 8⟩
def NET_CFG_FWLIM : Fld := ⟨.NET_CFG, 16, 4⟩
def NET_CFG_ENTRY_T : Fld := ⟨.NET_CFG, 20, 4⟩
def NET_AWAKE_AWAKE_MAX : Fld := ⟨.NET_AWAKE, 0, 16⟩
def NET_AWAKE_REAWAKE : Fld := ⟨.NET_AWAKE, 16, 16⟩
def NET_NMID_BASE : Fld := ⟨.NET_NMID, 0, 11⟩
def NET_STAT_NMST : Fld := ⟨.NET_STAT, 0, 3⟩
def NET_STAT_FORCED : Fld := ⟨.NET_STAT, 3, 1⟩
def NET_STAT_AGREE : Fld := ⟨.NET_STAT, 4, 1⟩
def NET_STAT_LATCH : Fld := ⟨.NET_STAT, 5, 1⟩
def NET_STAT_IGN : Fld := ⟨.NET_STAT, 6, 1⟩
def NET_STAT_EXPIRED : Fld := ⟨.NET_STAT, 7, 1⟩
def NET_STAT_ROUND : Fld := ⟨.NET_STAT, 8, 8⟩
def NET_STAT_AWAKE_REM : Fld := ⟨.NET_STAT, 16, 16⟩
def NET_PNR_PNR : Fld := ⟨.NET_PNR, 0, 32⟩
def NET_ARM_SWK : Fld := ⟨.NET_ARM, 0, 4⟩
def NET_ARM_WLINK : Fld := ⟨.NET_ARM, 4, 1⟩
def NET_ARM_RTC : Fld := ⟨.NET_ARM, 5, 1⟩
def NET_ARM_INPUT : Fld := ⟨.NET_ARM, 6, 1⟩
def NET_ARM_DISARMED : Fld := ⟨.NET_ARM, 8, 8⟩
def NET_WSRC_SOURCE : Fld := ⟨.NET_WSRC, 0, 3⟩
def NET_WSRC_LATCHED : Fld := ⟨.NET_WSRC, 3, 1⟩
def NET_WSRC_CONFIRMED : Fld := ⟨.NET_WSRC, 4, 1⟩
def NET_WSRC_FALSE : Fld := ⟨.NET_WSRC, 5, 1⟩
def NET_WSRC_OPEN : Fld := ⟨.NET_WSRC, 6, 1⟩
def NET_WLCFG_ADDR : Fld := ⟨.NET_WLCFG, 0, 7⟩
def NET_WLMBX_MBX : Fld := ⟨.NET_WLMBX, 0, 32⟩
def NET_WLSTAT_PTR : Fld := ⟨.NET_WLSTAT, 0, 8⟩
def NET_WLSTAT_BYTES : Fld := ⟨.NET_WLSTAT, 8, 4⟩
def NET_WLSTAT_READ : Fld := ⟨.NET_WLSTAT, 12, 1⟩
def NET_WLSTAT_VIOL : Fld := ⟨.NET_WLSTAT, 13, 1⟩
def NET_WLSTAT_TRANS : Fld := ⟨.NET_WLSTAT, 16, 16⟩
def NET_WLTS_STAMP : Fld := ⟨.NET_WLTS, 0, 32⟩
def NET_RESULT_CODE : Fld := ⟨.NET_RESULT, 0, 8⟩
def NET_RESULT_ITEM : Fld := ⟨.NET_RESULT, 8, 8⟩
def NET_RESULT_ADDR : Fld := ⟨.NET_RESULT, 16, 16⟩
def NET_MAND_LO_MAND : Fld := ⟨.NET_MAND_LO, 0, 32⟩
def NET_MAND_HI_MAND : Fld := ⟨.NET_MAND_HI, 0, 32⟩
def NET_VOTE_LO_VOTE : Fld := ⟨.NET_VOTE_LO, 0, 32⟩
def NET_VOTE_HI_VOTE : Fld := ⟨.NET_VOTE_HI, 0, 32⟩
def NET_SWK_ID_ID : Fld := ⟨.NET_SWK_ID, 0, 29⟩
def NET_SWK_MSK_IDMASK : Fld := ⟨.NET_SWK_MSK, 0, 29⟩
def NET_SWK_CTL_DLC : Fld := ⟨.NET_SWK_CTL, 0, 4⟩
def NET_SWK_CTL_DLCEN : Fld := ⟨.NET_SWK_CTL, 4, 1⟩
def NET_SWK_CTL_RATE : Fld := ⟨.NET_SWK_CTL, 5, 2⟩
def NET_SWK_DLO_DATA : Fld := ⟨.NET_SWK_DLO, 0, 32⟩
def NET_SWK_DHI_DATA : Fld := ⟨.NET_SWK_DHI, 0, 32⟩
def NET_WCNT_WAKES : Fld := ⟨.NET_WCNT, 0, 16⟩
def NET_WCNT_FALSE : Fld := ⟨.NET_WCNT, 16, 16⟩
def NET_KLSEL_REC : Fld := ⟨.NET_KLSEL, 0, 4⟩
def NET_KLW0_NODE : Fld := ⟨.NET_KLW0, 0, 6⟩
def NET_KLW0_CHAN : Fld := ⟨.NET_KLW0, 6, 3⟩
def NET_KLW0_REASON : Fld := ⟨.NET_KLW0, 9, 2⟩
def NET_KLW0_VALID : Fld := ⟨.NET_KLW0, 11, 1⟩
def NET_KLW0_ROUNDS : Fld := ⟨.NET_KLW0, 16, 16⟩
def NET_KLW1_SEC : Fld := ⟨.NET_KLW1, 0, 32⟩
def NET_RTCALM_LO_SEC_LO : Fld := ⟨.NET_RTCALM_LO, 0, 32⟩
def NET_RTCALM_HI_SEC_HI : Fld := ⟨.NET_RTCALM_HI, 0, 16⟩
def NET_RTCALM_HI_EN : Fld := ⟨.NET_RTCALM_HI, 31, 1⟩
def PWR_REQ_TARGET : Fld := ⟨.PWR_REQ, 0, 2⟩
def PWR_REQ_FORCE : Fld := ⟨.PWR_REQ, 2, 1⟩
def PWR_RESULT_CODE : Fld := ⟨.PWR_RESULT, 0, 8⟩
def PWR_RESULT_REFUSER : Fld := ⟨.PWR_RESULT, 8, 4⟩
def PWR_RESULT_REFMASK : Fld := ⟨.PWR_RESULT, 16, 9⟩
def PWR_STAT_STATE : Fld := ⟨.PWR_STAT, 0, 2⟩
def PWR_STAT_PHASE : Fld := ⟨.PWR_STAT, 2, 3⟩
def PWR_STAT_FORCED : Fld := ⟨.PWR_STAT, 5, 1⟩
def PWR_STAT_TGT : Fld := ⟨.PWR_STAT, 6, 2⟩
def PWR_STAT_LATCH : Fld := ⟨.PWR_STAT, 8, 1⟩
def PWR_STAT_RESTORED : Fld := ⟨.PWR_STAT, 9, 1⟩
def PWR_STAT_LOSS : Fld := ⟨.PWR_STAT, 10, 1⟩
def PWR_CFG_NOTICE : Fld := ⟨.PWR_CFG, 0, 5⟩
def PWR_CFG_AUTODORM : Fld := ⟨.PWR_CFG, 5, 1⟩
def PWR_CFG_RESUME : Fld := ⟨.PWR_CFG, 6, 1⟩
def PWR_CFG_IDLEEN : Fld := ⟨.PWR_CFG, 7, 1⟩
def PWR_VETO_VETO : Fld := ⟨.PWR_VETO, 0, 1⟩
def PWR_BUSY_PARK : Fld := ⟨.PWR_BUSY, 0, 9⟩
def PWR_BUSY_DORM : Fld := ⟨.PWR_BUSY, 16, 9⟩
def PWR_SAVED_SAVED : Fld := ⟨.PWR_SAVED, 0, 1⟩
def PWR_EREP0_TARGET : Fld := ⟨.PWR_EREP0, 0, 2⟩
def PWR_EREP0_FORCED : Fld := ⟨.PWR_EREP0, 2, 1⟩
def PWR_EREP0_SAVETO : Fld := ⟨.PWR_EREP0, 3, 1⟩
def PWR_EREP0_VALID : Fld := ⟨.PWR_EREP0, 4, 1⟩
def PWR_EREP0_ABORT : Fld := ⟨.PWR_EREP0, 5, 9⟩
def PWR_EREP0_BTE : Fld := ⟨.PWR_EREP0, 14, 8⟩
def PWR_EREP0_MSC : Fld := ⟨.PWR_EREP0, 22, 7⟩
def PWR_EREP1_RTCSEC : Fld := ⟨.PWR_EREP1, 0, 32⟩
def PWR_EREPC_RESID : Fld := ⟨.PWR_EREPC, 0, 24⟩
def PWR_RCNT_COUNT : Fld := ⟨.PWR_RCNT, 0, 16⟩
def CORE_CFG_RSOVF : Fld := ⟨.CORE_CFG, 0, 1⟩
def CORE_VBASE_VBASE : Fld := ⟨.CORE_VBASE, 8, 16⟩
def CORE_ID_LCORE : Fld := ⟨.CORE_ID, 0, 2⟩
def CORE_ID_BOOTMODE : Fld := ⟨.CORE_ID, 2, 2⟩
def CORE_EVT_EV : Fld := ⟨.CORE_EVT, 0, 3⟩
def CORE_RSD_DEPTH : Fld := ⟨.CORE_RSD, 0, 5⟩
def CORE_RSD_OVF : Fld := ⟨.CORE_RSD, 5, 1⟩
def CORE_RSD_UNF : Fld := ⟨.CORE_RSD, 6, 1⟩
def CORE_SWSET_LINE : Fld := ⟨.CORE_SWSET, 0, 6⟩
def CORE_IPEND_PEND : Fld := ⟨.CORE_IPEND, 0, 32⟩
def CORE_MPUB_EN : Fld := ⟨.CORE_MPUB, 0, 1⟩
def CORE_MPUB_SPACE : Fld := ⟨.CORE_MPUB, 1, 1⟩
def CORE_MPUB_RD : Fld := ⟨.CORE_MPUB, 2, 1⟩
def CORE_MPUB_WR : Fld := ⟨.CORE_MPUB, 3, 1⟩
def CORE_MPUB_EX : Fld := ⟨.CORE_MPUB, 4, 1⟩
def CORE_MPUB_BASE : Fld := ⟨.CORE_MPUB, 8, 24⟩
def CORE_MPUL_LIMIT : Fld := ⟨.CORE_MPUL, 8, 24⟩
def CORE_IOPM_ALLOW : Fld := ⟨.CORE_IOPM, 0, 32⟩
def CORE_IRQ_LVL : Fld := ⟨.CORE_IRQ, 0, 4⟩
def CORE_IRQ_TARGET : Fld := ⟨.CORE_IRQ, 4, 2⟩
def CORE_IRQ_PEND : Fld := ⟨.CORE_IRQ, 6, 1⟩
def CORE_IRQ_ACTIVE : Fld := ⟨.CORE_IRQ, 7, 1⟩
def BTE_SRC_SRC : Fld := ⟨.BTE_SRC, 0, 32⟩
def BTE_DST_DST : Fld := ⟨.BTE_DST, 0, 32⟩
def BTE_CNT_COUNT : Fld := ⟨.BTE_CNT, 0, 25⟩
def BTE_CTRL_DIR : Fld := ⟨.BTE_CTRL, 0, 2⟩
def BTE_CTRL_SFIX : Fld := ⟨.BTE_CTRL, 2, 1⟩
def BTE_CTRL_DFIX : Fld := ⟨.BTE_CTRL, 3, 1⟩
def BTE_CTRL_IRQ : Fld := ⟨.BTE_CTRL, 4, 1⟩
def BTE_CTRL_START : Fld := ⟨.BTE_CTRL, 5, 1⟩
def BTE_CTRL_ABORT : Fld := ⟨.BTE_CTRL, 6, 1⟩
def BTE_STAT_STATE : Fld := ⟨.BTE_STAT, 0, 3⟩
def BTE_STAT_OMODE : Fld := ⟨.BTE_STAT, 3, 1⟩
def BTE_STAT_OWNER : Fld := ⟨.BTE_STAT, 4, 2⟩
def BTE_STAT_FCAUSE : Fld := ⟨.BTE_STAT, 8, 8⟩
def BTE_RES_RESID : Fld := ⟨.BTE_RES, 0, 24⟩
def BTE_FADDR_FADDR : Fld := ⟨.BTE_FADDR, 0, 32⟩
def BTE_RESULT_CODE : Fld := ⟨.BTE_RESULT, 0, 8⟩
def BTE_RESULT_CHAN : Fld := ⟨.BTE_RESULT, 8, 7⟩
def BTE_RESULT_ADDR : Fld := ⟨.BTE_RESULT, 16, 16⟩
def BTE_BUSY_BUSY : Fld := ⟨.BTE_BUSY, 0, 8⟩
def FCRU_CTRL_SAFECLR : Fld := ⟨.FCRU_CTRL, 0, 1⟩
def FCRU_STAT_SAFE : Fld := ⟨.FCRU_STAT, 0, 1⟩
def FCRU_STAT_SAFESRC : Fld := ⟨.FCRU_STAT, 1, 8⟩
def FCRU_STAT_BUSY : Fld := ⟨.FCRU_STAT, 9, 1⟩
def FCRU_STAT_EVENTS : Fld := ⟨.FCRU_STAT, 16, 16⟩
def FCRU_PEND_PEND : Fld := ⟨.FCRU_PEND, 0, 32⟩
def FCRU_SEV_SEV : Fld := ⟨.FCRU_SEV, 0, 32⟩
def FCRU_SEL_SRC : Fld := ⟨.FCRU_SEL, 0, 8⟩
def FCRU_SCFG_N : Fld := ⟨.FCRU_SCFG, 0, 8⟩
def FCRU_SCFG_MREACT : Fld := ⟨.FCRU_SCFG, 8, 6⟩
def FCRU_SCFG_SREACT : Fld := ⟨.FCRU_SCFG, 16, 6⟩
def FCRU_SWIN_W : Fld := ⟨.FCRU_SWIN, 0, 27⟩
def FCRU_SSTAT_COUNT : Fld := ⟨.FCRU_SSTAT, 0, 8⟩
def FCRU_SSTAT_SEVERE : Fld := ⟨.FCRU_SSTAT, 8, 1⟩
def FCRU_SSTAT_BUSY : Fld := ⟨.FCRU_SSTAT, 9, 1⟩
def FCRU_SSTAT_PEND : Fld := ⟨.FCRU_SSTAT, 10, 1⟩
def FCRU_SCNT_EVENTS : Fld := ⟨.FCRU_SCNT, 0, 32⟩
def FCRU_SINFO_INFO : Fld := ⟨.FCRU_SINFO, 0, 32⟩
def FCRU_RAISE_SRC : Fld := ⟨.FCRU_RAISE, 0, 4⟩
def FCRU_RAISE_INFO : Fld := ⟨.FCRU_RAISE, 16, 16⟩
def FCRU_RESULT_CODE : Fld := ⟨.FCRU_RESULT, 0, 8⟩
def FCRU_RESULT_ITEM : Fld := ⟨.FCRU_RESULT, 8, 8⟩
def FCRU_RESULT_ADDR : Fld := ⟨.FCRU_RESULT, 16, 16⟩
def FCRU_LOGSTAT_COUNT : Fld := ⟨.FCRU_LOGSTAT, 0, 6⟩
def FCRU_LOGSTAT_LOST : Fld := ⟨.FCRU_LOGSTAT, 16, 8⟩
def FCRU_LOGSTAT_LOST_CLR : Fld := ⟨.FCRU_LOGSTAT, 31, 1⟩
def FCRU_VSEL_REC : Fld := ⟨.FCRU_VSEL, 0, 6⟩
def FCRU_VSTAT_TOTAL : Fld := ⟨.FCRU_VSTAT, 0, 16⟩
def FCRU_VSTAT_MUTES : Fld := ⟨.FCRU_VSTAT, 16, 8⟩
def FCRU_VSTAT_MUTED : Fld := ⟨.FCRU_VSTAT, 24, 5⟩
def FCRU_PSTAT_ACTIVE : Fld := ⟨.FCRU_PSTAT, 0, 1⟩
def FCRU_PSTAT_AIN : Fld := ⟨.FCRU_PSTAT, 1, 1⟩
def FCRU_PSTAT_BIN : Fld := ⟨.FCRU_PSTAT, 2, 1⟩
def FCRU_PSTAT_AFAIL : Fld := ⟨.FCRU_PSTAT, 3, 1⟩
def FCRU_PSTAT_BFAIL : Fld := ⟨.FCRU_PSTAT, 4, 1⟩
def FCRU_PSTAT_RSYNC : Fld := ⟨.FCRU_PSTAT, 5, 2⟩
def FCRU_PSTAT_MODE : Fld := ⟨.FCRU_PSTAT, 7, 2⟩
def FCRU_PSTAT_SWOVERS : Fld := ⟨.FCRU_PSTAT, 16, 16⟩
def FCRU_RSYNC_GO : Fld := ⟨.FCRU_RSYNC, 0, 1⟩
def FCRU_BOOTNX_NEXT : Fld := ⟨.FCRU_BOOTNX, 0, 2⟩
def FCRU_MISC_LANE : Fld := ⟨.FCRU_MISC, 0, 9⟩
def FCRU_MISC_PAIR : Fld := ⟨.FCRU_MISC, 9, 1⟩
def FCRU_MISC_SPARE : Fld := ⟨.FCRU_MISC, 10, 1⟩
def FCRU_MISC_COUNT : Fld := ⟨.FCRU_MISC, 16, 16⟩
def ACC_CFG_EN : Fld := ⟨.ACC_CFG, 0, 1⟩
def ACC_CFG_CHAN : Fld := ⟨.ACC_CFG, 1, 1⟩
def ACC_CFG_HANDSI : Fld := ⟨.ACC_CFG, 2, 6⟩
def ACC_CFG_DOORSI : Fld := ⟨.ACC_CFG, 8, 6⟩
def ACC_CFG_SCHED : Fld := ⟨.ACC_CFG, 14, 6⟩
def ACC_CFG_TXATT : Fld := ⟨.ACC_CFG, 20, 8⟩
def ACC_TIMING_TIMEOUT : Fld := ⟨.ACC_TIMING, 0, 7⟩
def ACC_TIMING_DEWAIT : Fld := ⟨.ACC_TIMING, 8, 8⟩
def ACC_BOUND_BOUND1 : Fld := ⟨.ACC_BOUND, 0, 8⟩
def ACC_BOUND_BOUND2 : Fld := ⟨.ACC_BOUND, 8, 8⟩
def ACC_LOCK_TYPE : Fld := ⟨.ACC_LOCK, 0, 2⟩
def ACC_LOCK_INDEX : Fld := ⟨.ACC_LOCK, 2, 7⟩
def ACC_DE_DECH : Fld := ⟨.ACC_DE, 0, 3⟩
def ACC_DE_DEID : Fld := ⟨.ACC_DE, 3, 11⟩
def ACC_CTRL_POLL : Fld := ⟨.ACC_CTRL, 0, 1⟩
def ACC_CTRL_ANT : Fld := ⟨.ACC_CTRL, 1, 1⟩
def ACC_CTRL_END : Fld := ⟨.ACC_CTRL, 2, 1⟩
def ACC_CTRL_CALREQ : Fld := ⟨.ACC_CTRL, 3, 1⟩
def ACC_CTRL_CALANT : Fld := ⟨.ACC_CTRL, 4, 1⟩
def ACC_CTRL_CALDIST : Fld := ⟨.ACC_CTRL, 16, 16⟩
def ACC_STAT_STATE : Fld := ⟨.ACC_STAT, 0, 3⟩
def ACC_STAT_DE : Fld := ⟨.ACC_STAT, 3, 1⟩
def ACC_STAT_UNPAIRED : Fld := ⟨.ACC_STAT, 4, 1⟩
def ACC_STAT_LOCK : Fld := ⟨.ACC_STAT, 5, 1⟩
def ACC_STAT_TOKEN : Fld := ⟨.ACC_STAT, 12, 4⟩
def ACC_STAT_REMAIN : Fld := ⟨.ACC_STAT, 16, 16⟩
def ACC_RESULT_CODE : Fld := ⟨.ACC_RESULT, 0, 8⟩
def ACC_RESULT_ITEM : Fld := ⟨.ACC_RESULT, 8, 8⟩
def ACC_RESULT_ADDR : Fld := ⟨.ACC_RESULT, 16, 16⟩
def ACC_ANTCAL_DLY : Fld := ⟨.ACC_ANTCAL, 0, 12⟩
def ACC_ANTCAL_VALID : Fld := ⟨.ACC_ANTCAL, 12, 1⟩
def ACC_RSEL_REC : Fld := ⟨.ACC_RSEL, 0, 4⟩
def ACC_TOK_ENR : Fld := ⟨.ACC_TOK, 0, 1⟩
def ACC_TOK_RESYNC : Fld := ⟨.ACC_TOK, 1, 1⟩
def ACC_LAST_LAST : Fld := ⟨.ACC_LAST, 0, 32⟩
def ACC_CNT0_SESSIONS : Fld := ⟨.ACC_CNT0, 0, 16⟩
def ACC_CNT0_INVALID : Fld := ⟨.ACC_CNT0, 16, 16⟩
def ACC_CNT1_COLLIDED : Fld := ⟨.ACC_CNT1, 0, 16⟩
def ACC_CNT1_FAR : Fld := ⟨.ACC_CNT1, 16, 16⟩
def ACC_CNT2_REJECTED : Fld := ⟨.ACC_CNT2, 0, 16⟩
def ACC_CNT2_RESYNCS : Fld := ⟨.ACC_CNT2, 16, 16⟩
def SVC_STAT_MODE : Fld := ⟨.SVC_STAT, 0, 1⟩
def SVC_STAT_PAIRED : Fld := ⟨.SVC_STAT, 1, 1⟩
def SVC_STAT_CAUSE : Fld := ⟨.SVC_STAT, 2, 3⟩
def SVC_STAT_MAKERKEY : Fld := ⟨.SVC_STAT, 5, 1⟩
def SVC_STAT_INTKEY : Fld := ⟨.SVC_STAT, 6, 1⟩
def SVC_STAT_ARB : Fld := ⟨.SVC_STAT, 8, 8⟩
def SVC_USTAT_STATE : Fld := ⟨.SVC_USTAT, 0, 3⟩
def SVC_USTAT_CODE : Fld := ⟨.SVC_USTAT, 4, 4⟩
def SVC_USTAT_PAGES : Fld := ⟨.SVC_USTAT, 8, 11⟩
def SVC_UCMD_CMD : Fld := ⟨.SVC_UCMD, 0, 3⟩
def SVC_ACTVER_VER : Fld := ⟨.SVC_ACTVER, 0, 32⟩
def SVC_ACTFMT_IMGFMT : Fld := ⟨.SVC_ACTFMT, 0, 16⟩
def SVC_ACTFMT_SETFMT : Fld := ⟨.SVC_ACTFMT, 16, 16⟩
def SVC_TRIAL_LEFT : Fld := ⟨.SVC_TRIAL, 0, 10⟩
def SVC_PCFG_PAIRCH : Fld := ⟨.SVC_PCFG, 0, 3⟩
def SVC_PCFG_PAIRID : Fld := ⟨.SVC_PCFG, 3, 11⟩
def SVC_RESULT_CODE : Fld := ⟨.SVC_RESULT, 0, 8⟩
def SVC_JSEL_REC : Fld := ⟨.SVC_JSEL, 0, 5⟩
def ODO_STAT_COPYLOSS : Fld := ⟨.ODO_STAT, 0, 1⟩
def ODO_STAT_FRESH : Fld := ⟨.ODO_STAT, 1, 1⟩
def ODO_STAT_KEEPLOSS : Fld := ⟨.ODO_STAT, 2, 1⟩
def ODO_STAT_SAVING : Fld := ⟨.ODO_STAT, 3, 1⟩
def ODO_SAVES_SAVES : Fld := ⟨.ODO_SAVES, 0, 32⟩
def ODO_LAST_SEC : Fld := ⟨.ODO_LAST, 0, 32⟩
def ODO_SEL_GROUP : Fld := ⟨.ODO_SEL, 0, 4⟩
def ODO_SEL_ITEM : Fld := ⟨.ODO_SEL, 4, 8⟩
def ODO_CTRL_SAVE : Fld := ⟨.ODO_CTRL, 0, 1⟩
def TOLL_RESULT_CODE : Fld := ⟨.TOLL_RESULT, 0, 8⟩
def TOLL_RESULT_CHAN : Fld := ⟨.TOLL_RESULT, 8, 7⟩
def TOLL_RESULT_ADDR : Fld := ⟨.TOLL_RESULT, 16, 16⟩
def LIN_RESULT_CODE : Fld := ⟨.LIN_RESULT, 0, 8⟩
def LIN_RESULT_CHAN : Fld := ⟨.LIN_RESULT, 8, 7⟩
def LIN_RESULT_ADDR : Fld := ⟨.LIN_RESULT, 16, 16⟩

end F

end Sys2Proof.Machine
end

