-- ==== Sys2Proof/Machine/Tab.lean ====
section
/-!
DEFINITION. Machine/Tab.lean: a table from numbers to plain data, kept as a list of pairs in one canonical form.
Keys rise strictly, and no entry equals what an unlisted key reads as, so equal tables are equal lists.
The register file, the memories and every array of like things of State are such tables.
-/
namespace Sys2Proof.Machine

/-- A table: a list of (key, entry) pairs. -/
abbrev Tab (α : Type) := List (Nat × α)

/-- The entry of `k`, or `d` where `k` is not listed. -/
def tabGet {α : Type} (d : α) : Tab α → Nat → α
  | [], _ => d
  | (j, a) :: t, k => if j = k then a else tabGet d t k

/-- The table without `k`. -/
def tabErase {α : Type} : Tab α → Nat → Tab α
  | [], _ => []
  | (j, a) :: t, k => if j = k then tabErase t k else (j, a) :: tabErase t k

/-- The table with `(k, v)` put before the first larger key. -/
def tabInsert {α : Type} : Tab α → Nat → α → Tab α
  | [], k, v => [(k, v)]
  | (j, a) :: t, k, v => if k < j then (k, v) :: (j, a) :: t else (j, a) :: tabInsert t k v

/-- The table in which `k` reads as `v`; a value equal to the default `d` removes the entry. -/
def tabSet {α : Type} [DecidableEq α] (d : α) (t : Tab α) (k : Nat) (v : α) : Tab α :=
  if v = d then tabErase t k else tabInsert (tabErase t k) k v

/-- Every key is above `n`, keys rise strictly, and no entry equals the default of its key. -/
def tabWfFrom {α : Type} [DecidableEq α] (d : Nat → α) : Option Nat → Tab α → Bool
  | _, [] => true
  | lo, (j, a) :: t =>
    (match lo with | none => true | some n => decide (n < j)) && decide (a ≠ d j) && tabWfFrom d (some j) t

/-- The canonical form of a table whose unlisted keys read as `d`. -/
def tabWf {α : Type} [DecidableEq α] (d : Nat → α) (t : Tab α) : Bool := tabWfFrom d none t

end Sys2Proof.Machine
end

