-- ==== Sys2Proof/Machine/State.lean ====
section
/-!
DEFINITION. Machine/State.lean: the state of the module as plain data, and the state after reset.
Registers live in `regs` at their I/O addresses; what the spec gives the module beside its registers lives in one structure per unit.
-/
namespace Sys2Proof.Machine

/-! ## Identity, domains, crossings (00_scope.md, 01_architecture.md) -/

/-- What is set at manufacture (R5). DESIGN CHOICE: a PX-96-A1 (assumption 1). -/
structure Ident where
  variant : Variant := .px96
  rev : Nat := 0x41
  connset : Nat := 1
deriving DecidableEq, Repr

/-- The power domains that are on (R16). DESIGN CHOICE: all on at the first state (assumption 2). -/
structure Domains where
  keep : Bool := true
  switch : Bool := true
  core : Bool := true
  comms : Bool := true
  field : Bool := true
deriving DecidableEq, Repr

/-- The crossings that carry a core's or the BTE's writes (R24). -/
inductive Crossing where
  | toSwitch
  | toAlmanac
  | toCan
  | toEth
  | toUwb
  | toKeep
deriving DecidableEq, Repr

/-- A write waiting in a crossing. -/
structure Transit where
  cross : Crossing
  highway : Bool
  master : Master
  addr : Nat
  value : Word
deriving DecidableEq, Repr

/-- The supply bands (R90), lowest first. -/
inductive Band where
  | below6
  | off
  | hold
  | reduced
  | full
  | over
deriving DecidableEq, Repr

/-- The supply as the detectors report it (R90, R91, R98). DESIGN CHOICE: every supply in the Full band at
the first state (assumption 2). -/
structure Supply where
  module : Band := .full
  /-- Bands of FEED1 to FEED4, index 0 to 3. -/
  feeds : Tab Band := []
  /-- Ground studs lost. -/
  studsLost : Nat := 0
deriving DecidableEq, Repr

/-! ## Record queues -/

/-- A record: its words, and the model clock at which it was stored (R134). -/
structure Rec where
  words : List Word
  at_ : Nat
deriving DecidableEq, Repr

/-- A queue of records with a lock on its head (R172, R219, R302, R313, R322, R339, R355, R475). -/
structure RecQ where
  recs : List Rec := []
  locked : Bool := false
  /-- Records dropped, saturating. -/
  lost : Nat := 0
  /-- Records offered since the domain started (R534). -/
  seq : Nat := 0
deriving DecidableEq, Repr

/-- The record queues of the module. -/
inductive QId where
  | milestone
  | transition
  | valve
  | edge
  | field
  | can (n q : Nat)
  | lin (c : Nat)
  | faultLog
  | capture (n : Nat)
deriving DecidableEq, Repr

/-! ## The object dictionary server (02_object_dictionary.md) -/

/-- The NMT states (R49). -/
inductive Nmt where
  | preOperational
  | operational
  | stopped
deriving DecidableEq, Repr

/-- An EMCY as it is reported; its error register is added when it is sent (R56). -/
structure Emcy where
  code : Nat
  /-- Byte 3. -/
  b3 : Nat := 0
  index : Nat := 0
  sub : Nat := 0
deriving DecidableEq, Repr


/-- The last refusal on any path of the dictionary (R67): code, index and sub-index, path, short time of the answer. -/
structure LastRefusal where
  code : Nat := 0
  obj : Nat := 0
  path : Nat := 0
  time : Nat := 0
deriving DecidableEq, Repr

/-- What an SDO server's transfer waits for (R51). -/
inductive SdoPhase where
  /-- Segments of a download; segment requests of an upload. -/
  | down
  | up
  /-- Segments of a download block; its end request. -/
  | blockDown
  | blockDownEnd
  /-- The start of a block upload; an acknowledgement; the response to its end. -/
  | blockUpStart
  | blockUp
  | blockUpEnd
  /-- The answer to a committed or requested access: from application firmware, or from the check of an image (R72). -/
  | answer (upload block : Bool)
deriving DecidableEq, Repr

/-- A transfer of an SDO server. -/
structure Sdo where
  client : Nat
  phase : SdoPhase
  index : Nat
  sub : Nat
  /-- A download: the bytes received. An upload: the whole value. -/
  data : List Byte := []
  /-- The size that the client indicated. -/
  size : Option Nat := none
  toggle : Bool := false
  /-- Bytes of an upload acknowledged or sent. -/
  pos : Nat := 0
  /-- The block size, the segments of the present block received in order or sent, and whether the last one was among them. -/
  blk : Nat := 0
  seq : Nat := 0
  last : Bool := false
  /-- The client supports the CRC. -/
  crc : Bool := false
deriving DecidableEq, Repr

/-- An answer of the object access protocol (R59, R60): TYPE, SESSION, SEQ, INDEX, SUB, OFFSET and DATA. Its TAG is added when it is sent. -/
structure ObjReply where
  typ : Nat
  session : Nat
  seq : Nat
  index : Nat
  sub : Nat
  offset : Nat
  data : List Byte
deriving DecidableEq, Repr

/-- A session of the object access protocol (R58, R61, R62). -/
structure Sess where
  id : Nat
  /-- The address of the client, and the session key. -/
  who : Nat
  key : List Byte
  /-- The last request executed, and its stored answer. -/
  last : Nat := 0
  stored : Option ObjReply := none
  /-- The segments received of a write in progress: index, sub-index and bytes. -/
  part : Option (Nat × Nat × List Byte) := none
  /-- The requests whose answers are outstanding, oldest first: index, sub-index, SEQ, OFFSET, and LENGTH of a read plus 1, 0 for a write. -/
  wait : List (Nat × Nat × Nat × Nat × Nat) := []
  /-- The write in progress has been ended by a change of the NMT state (R71). -/
  dead : Bool := false
deriving DecidableEq, Repr

/-- A TPDO beside its objects (R53, R57). -/
structure Tpdo where
  /-- The inhibit time runs; a transmission waits for its end, or for the next SYNC. -/
  inhibit : Bool := false
  due : Bool := false
  /-- SYNCs since the last transmission, and whether counting waits for the SYNC start value. -/
  syncs : Nat := 0
  started : Bool := false
deriving DecidableEq, Repr

/-- An entry that application firmware has declared (R72): whether it is a number, its size in bytes, none where it varies; its access type; its
default. -/
structure AppEntry where
  numeric : Bool := false
  size : Option Nat
  acc : OAccess
  dflt : List Byte
deriving DecidableEq, Repr

/-- An access passed to application firmware (R72). -/
structure AppAccess where
  index : Nat
  sub : Nat
  /-- The value written; none for a read. -/
  data : Option (List Byte)
deriving DecidableEq, Repr

/-- Settings of the Almanac that only the dictionary holds (R131, R146, R153). -/
structure AlmSet where
  domain : Nat := 0
  priority1 : Nat := 246
  priority2 : Nat := 248
  logSync : Int := -3
  /-- The step threshold, µs. -/
  stepThreshold : Nat := 1000
deriving DecidableEq, Repr

/-- The object dictionary server beside the values it holds. -/
structure Dict where
  /-- Parameters stored through 0x1010 (R48, R50): values of the server, registers, the configuration of fault
  sources, LIN slots, and settings of the Almanac. -/
  storedOd : Tab (Option Nat) := []
  storedRegs : Tab (Option Word) := []
  storedSrc : Tab (Option (Nat × Nat)) := []
  storedSlots : Tab Word := []
  storedAlm : AlmSet := {}
  /-- Transfers of the four SDO servers. -/
  sdo : Tab (Option Sdo) := []
  /-- Sessions 0 to 2 on the switch and 3 on the service port. -/
  sess : Tab (Option Sess) := []
  tpdo : Tab Tpdo := []
  /-- Synchronous RPDOs received, applied at the next SYNC. -/
  rpdo : Tab (Option (List Byte)) := []
  /-- The SYNC counter sent last (R48). -/
  syncCtr : Nat := 0
  /-- The application range: its entries by `odKey`, and the accesses outstanding on each path by its number, oldest first. -/
  app : Tab (Option AppEntry) := []
  appWait : Tab (List AppAccess) := []
deriving DecidableEq, Repr

/-! ## The Almanac (04_almanac.md) -/

/-- A record of the switch-on, edge and frame kind carries short time, the moment it was taken and AGED (R119, R134). -/
structure Stamp where
  /-- Short time, ns. -/
  short : Nat := 0
  aged : Bool := false
deriving DecidableEq, Repr

/-- A committed time message (R135). -/
structure TimeMessage where
  /-- The TAI second of the edge it names. -/
  second : Nat
  utc : Nat
  /-- The Almanac time of its commit, ns; whether a PPS edge came in the tick of it (R152). -/
  commit : Nat
  atEdge : Bool := false
deriving DecidableEq, Repr

/-- A TSYNC awaiting its FUP (R139, R140). -/
structure TsyncWait where
  seq : Nat
  flags : Nat
  utc : Nat
  /-- The follower's own stamp of its start of frame, ns of full time. -/
  sof : Nat
deriving DecidableEq, Repr

/-- The gPTP state of one port (R146 to R148). -/
structure PtpPort where
  linkUp : Bool := false
  asCapable : Bool := false
  /-- Mean link delay, units of 1/16 ns. -/
  delay : Nat := 0
  /-- Exchanges since the last link-up. -/
  exchanges : Nat := 0
  /-- Model clock at the last change of ADJ. -/
  adjAt : Nat := 0
deriving DecidableEq, Repr

/-- The Almanac's state beside its registers. -/
structure Almanac where
  /-- Full time: SEC, NS and the fraction of NS in units of 2^-32 ns (R117, R127). -/
  sec : Nat := 0
  ns : Nat := 0
  frac : Nat := 0
  /-- The 40-bit rate addend in force (R127). -/
  addend : Nat := 0x0800000000
  /-- The last values of the addend, latest first, at most 16 (R129). -/
  addends : List Nat := []
  /-- An accepted step that its next tick carries out: SEC and NS (R132). -/
  stepDue : Option (Nat × Nat) := none
  /-- The state that the servo enters in the next tick after a write of ROLE (R149). -/
  servoDue : Option Nat := none
  /-- Consecutive measurements within the lock bound (R129). -/
  lockRun : Nat := 0
  /-- Model clock at the entry into HOLDOVER (R122). -/
  holdSince : Nat := 0
  /-- The last accepted PPS edge, ns of full time, and the second it was named for (R136). -/
  lastPps : Option Nat := none
  ppsSecond : Option Nat := none
  ppsIgnored : Nat := 0
  /-- Model clock of the last PPS edge (R152). -/
  ppsAt : Option Nat := none
  /-- The value of 0x2200:0B, and the committed message (R135). -/
  utcStaged : Nat := 0
  message : Option TimeMessage := none
  discarded : Nat := 0
  /-- A CAN follower's TSYNC without its FUP, and the last TIME object as a second of UTC (R140). -/
  tsync : Option TsyncWait := none
  timeObject : Option Nat := none
  /-- The producer's next SEQ, and the SEQ of a TSYNC sent whose FUP is due (R139). -/
  txSeq : Nat := 0
  txFup : Option Nat := none
  /-- gPTP: ports, the grandmaster the BMCA selected beside this module, and a Sync awaiting its Follow_Up. -/
  ports : Tab PtpPort := []
  gm : Option Announce := none
  /-- Model clock at which the selected grandmaster was last heard. -/
  gmAt : Nat := 0
  twoStep : Option PtpSync := none
  set : AlmSet := {}
  /-- The RTC (R142): seconds and subsecond at the moment `rtcAt` of the model clock; a load at the next whole second is due. -/
  rtcSec : Nat := 0
  rtcSub : Nat := 0
  rtcAt : Nat := 0
  rtcValid : Bool := false
  rtcLoad : Bool := false
deriving DecidableEq, Repr

/-! ## Milestones (05_milestones_timers.md) -/

/-- One live entry of the milestone table. -/
structure MstEntry where
  /-- The request: the eighteen words of 0x0502 to 0x0513. -/
  words : List Word
  /-- The instant of the first run, ns of full time; an ASAP request's placed instant. -/
  first : Nat
  /-- Runs carried out. -/
  runs : Nat := 0
  /-- Short time of the last run carried out, 0 if none. -/
  lastShort : Nat := 0
  /-- A cancel was decided too close to the next run to stop it (R173, R414): the KIND of its record, 2 or 3; 0 without one. -/
  cancelled : Nat := 0
  /-- The master whose request it is. -/
  owner : Master
  /-- The reservations accepted with it: channel, length in ns and amount in 10 mA (R242, R252). -/
  plans : List (Nat × Nat × Nat) := []
  /-- Its last run or its cancel has been decided; the next tick frees it (R173, R174). -/
  ended : Bool := false
deriving DecidableEq, Repr

/-- The milestone unit beside its registers: the table, entry by entry; of a freed entry the runs carried out (R172). -/
structure Mst where
  entries : Tab (Option MstEntry) := []
  runs : Tab Nat := []
deriving DecidableEq, Repr

/-! ## The waveform and capture unit (05_milestones_timers.md) -/

/-- A compare channel beside its registers. -/
structure WcuChan where
  /-- The output is active (before OPOL). -/
  active : Bool := false
  /-- A lap channel whose matches are suppressed for the rest of the period (R183). -/
  suppressed : Bool := false
  /-- A prompt channel whose catch-up match comes in the next cycle (R183). -/
  catchUp : Bool := false
deriving DecidableEq, Repr

/-! ## Power channels and protection (06_power_channels.md, 07_channel_protection.md) -/

/-- A stage transition whose 50 % crossing has not come (R218). -/
structure Edge where
  on : Bool
  src : Nat
  aligned : Bool
  reason : Nat
  /-- Model clock at which the stage switched. -/
  at_ : Nat
  /-- Its delay counts as a measurement (R215). -/
  measures : Bool
deriving DecidableEq, Repr

/-- The last transition of a channel (R218, R221). -/
structure Transition where
  sec : Nat := 0
  ns : Nat := 0
  on : Bool := false
  nocross : Bool := false
  rtct : Bool := false
deriving DecidableEq, Repr

/-- A channel beside its registers. -/
structure Chan where
  /-- The command is active in the sense of R204: until off-detected for TW and DDIN. -/
  act : Bool := false
  /-- Model clock at which a running run-on timer expires (R210). -/
  runonEnd : Option Nat := none
  /-- Transitions that wait for their crossings, oldest first. -/
  awaited : List Edge := []
  /-- Gate commands in their inserted delay: release on the model clock, and level (R214, R217). -/
  aligned : List (Nat × Bool) := []
  /-- The stage's last switch-off on the model clock, those of PWM off phases included; full time of the falling crossing that followed it,
  SEC and NS (R218); its measured delay and feed voltage (R215). -/
  fallAt : Option Nat := none
  lastFall : Option (Nat × Nat) := none
  fallDly : Option (Nat × Nat) := none
  last : Transition := {}
  /-- Transitions recorded. -/
  count : Nat := 0
  /-- Held measurements of delay, ns, with the feed voltage, 10 mV; at most 8 in each direction (R215). -/
  rise : List (Nat × Nat) := []
  fall : List (Nat × Nat) := []
  /-- Heat in units of 2^-32 of 1/16,384 (R233). -/
  heat : Nat := 0
  /-- Samples of the present model step: sum of squares and number. -/
  sqSum : Nat := 0
  sqNum : Nat := 0
  /-- Model clock of the first sample of the running over-threshold span (R230). -/
  span : Option Nat := none
  /-- Model clock at which the back-off ends, and the back-off kept through THERMAL_LATCH (R239). -/
  backoffEnd : Nat := 0
  backoffKept : Option Nat := none
  /-- Model clock until which a short-circuited channel is left out of the feed current (R241). -/
  cutUntil : Nat := 0
  /-- The envelope detector has had its pause of the present DIP (R231). -/
  dipSpent : Bool := false
  /-- The last sample before shedding, mA (R246). -/
  iShed : Int := 0
  /-- The reservations held, newest first: end on the model clock, and amount in 10 mA (R241, R242). -/
  res : List (Nat × Nat) := []
deriving DecidableEq, Repr

/-- A switch-on that waits in Tollgate (R243). -/
structure TollWait where
  chan : Nat
  /-- A commanded switch-on: the last moment of its stagger on the model clock. None: a queued one. -/
  deadline : Option Nat
  /-- The feed's budget in force when it began to wait, 10 mA (R250). -/
  budget : Nat
deriving DecidableEq, Repr

/-- What the present Switch cycle has done to channels; empty again as soon as time goes on (DESIGN CHOICE, assumption 47): protection events
whose retry decision comes in the next cycle (R205), stages switched off by their commands (R207, R251), inrush windows ended (R207). -/
structure Cycle where
  trips : List Nat := []
  offs : List Nat := []
  ends : List Nat := []
deriving DecidableEq, Repr

/-- A feed's planning beside its registers (R241). -/
structure TollFeed where
  /-- Feed current without reserved channels, sample by sample of the present step. -/
  stepSum : Int := 0
  stepNum : Nat := 0
  /-- Step means of the last 100 ms, newest first, at most 1,000. -/
  means : List Int := []
  /-- The feed current of the last 20 µs frame, and the valve current that counts on the feed, mA (R82, R241). -/
  cur : Int := 0
  valve : Nat := 0
deriving DecidableEq, Repr

/-! ## Current sensing (08_current_sensing.md) -/

/-- A sample (R259, R260), held back in a gain calibration (R268): reading in µA, model clock and stamp; whether a stage edge fell inside its
window, and the stage at its instant. -/
structure CalSample where
  ua : Int
  at_ : Nat
  stamp : Nat
  edge : Bool
  on : Bool
deriving DecidableEq, Repr

/-- A gain calibration window (R267, R268). -/
structure GainWin where
  /-- The sample at t0, µA. -/
  first : Int
  /-- The gain in force at the opening. -/
  gain : Nat
  /-- The disturbed samples, oldest first. -/
  held : List CalSample := []
  /-- The measurement will be discarded (R275). -/
  spoiled : Bool := false
  /-- The reference was removed before the closing sample: the stage switched off, or PARK entry (R275); how many disturbed samples are published. -/
  aborted : Bool := false
  done : Nat := 0
deriving DecidableEq, Repr

/-- A signature capture that runs (R271), with the settings in force at its switch-on. -/
structure Capture where
  skip : Bool
  /-- The feed voltage at the switch-on, 10 mV. -/
  volt : Nat
  tol : Nat
  deg : Nat
  chg : Nat
deriving DecidableEq, Repr

/-- What base firmware keeps of a channel in data flash (R270): GAIN and OFFSET as SNS_CAL; the learned mean, spread and peak. -/
structure SnsStored where
  cal : Option Word := none
  sig : Option (List Int × List Nat × Int) := none
deriving DecidableEq, Repr

/-- The measurement of one channel beside its registers. -/
structure SnsChan where
  /-- Model clock of the last stage edge. -/
  edgeAt : Option Nat := none
  /-- The stamp of the latest published sample. -/
  stamp : Nat := 0
  /-- Clean off samples of the present off period, raw, µA (R265). -/
  offs : List Int := []
  win : Option GainWin := none
  /-- Model clock of the last accepted gain measurement; before one, of the start of the Switch domain. -/
  gainAt : Nat := 0
  cap : Option Capture := none
  /-- A RELEARN waits for the next switch-on (R272). -/
  relearn : Bool := false
  /-- Sums and sums of squares of the learned captures, sample by sample, and the last capture. -/
  sums : List Int := []
  squares : List Nat := []
  last : List Int := []
  /-- The learned mean, spread and peak, units of 1/32 of a class unit; empty until learned. -/
  mean : List Int := []
  spread : List Nat := []
  peak : Int := 0
  /-- The record in data flash (R270). -/
  stored : SnsStored := {}
  /-- Time with the stage on short of a whole second, ns (R262, R525). -/
  onNs : Nat := 0
deriving DecidableEq, Repr

/-! ## Valves (09_valve_drivers.md) -/

/-- The event of a valve in progress (R302). -/
structure ValveEvent where
  /-- LASTPH, TTP verdict, stroke result, END. -/
  lastPh : Nat := 0
  ttpv : Nat := 0
  stroke : Nat := 0
  fin : Nat := 0
  /-- Short time of the first boost's start, 0 before it. -/
  start : Nat := 0
  /-- µs. -/
  ttp : Nat := 0
  restarts : Nat := 0
  feedpath : Bool := false
  deferred : Bool := false
deriving DecidableEq, Repr

/-- A valve beside its registers. -/
structure Valve where
  event : ValveEvent := {}
  /-- The present BOOST: its start on the model clock, whether it is a restart, whether FEEDPATH or the Reduced band put it on the feed path,
  whether a stroke dip was seen. -/
  boostAt : Nat := 0
  restart : Bool := false
  forcedFeed : Bool := false
  dip : Bool := false
  /-- The promised moment of a boost that waits, on the model clock (R293). -/
  promise : Nat := 0
deriving DecidableEq, Repr

/-! ## Switch inputs and field points (10_inputs_field_io.md) -/

/-- A switch input or field point beside its registers. -/
structure Input where
  /-- The stamp of the crossing that began the run in progress (R310). -/
  run : Option Nat := none
  /-- Mode 2 (R311): the position that conversions read, how many in a row, the stamp and the model clock of the first. -/
  cand : Nat := 0
  candN : Nat := 0
  candStamp : Nat := 0
  candAt : Nat := 0
  /-- Mode 3 (R312): the last rising edge, ns of full time. -/
  rise : Option Nat := none
  /-- LEVEL and POS at a PARK or DORMANT entry (R316, R317). -/
  atEntry : Nat × Nat := (0, 0)
  /-- A RESUME record waits for the confirmation of POS, with the stamp of the restart (R317). -/
  resume : Option Nat := none
deriving DecidableEq, Repr

/-! ## LIN (11_can_lin.md) -/

/-- A LIN commander beside its registers. -/
structure Lin where
  /-- The position in the table in force of the slot in progress, or of the next one where none is in progress. -/
  idx : Nat := 0
  /-- A slot is in progress, and its frame has not ended. -/
  inSlot : Bool := false
  inFrame : Bool := false
  /-- The slot as taken at its break: its number, word 0 and its data. -/
  slot : Nat := 0
  w0 : Word := 0
  data : List Byte := []
  /-- Tries of the frame made before this one, and a retry is due. -/
  tries : Nat := 0
  again : Bool := false
  /-- The stamp of the break (R355). -/
  stamp : Option Word := none
  /-- Where the tables interrupted by collision resolutions carry on: table and position, innermost first (R353). -/
  back : List (Nat × Nat) := []
  /-- A collision asks for its resolution table. -/
  resolve : Option Nat := none
  /-- SLEEP was written; the go-to-sleep command is in progress (R356). -/
  sleepAsked : Bool := false
  sleeping : Bool := false
  /-- EN was cleared during a frame. -/
  offAsked : Bool := false
  /-- A wake pulse was sent or seen, and the schedule has not resumed. -/
  waking : Bool := false
  /-- Slots that have reported EMCY 0xFF72 since their last success (R354). -/
  failed : List Nat := []
deriving DecidableEq, Repr

/-! ## The Ethernet switch (12_ethernet_switch.md) -/

/-- A learned address (R366). -/
structure Learned where
  mac : Nat
  vid : Nat
  port : Nat
deriving DecidableEq, Repr

/-- A frame in an egress queue (R369, R371). -/
structure EthQ where
  frame : EthFrame
  vid : Nat
  pcp : Nat
  inPort : Nat
  /-- A mirror copy leaves as it was copied. -/
  asIs : Bool := false
  /-- Cells held from the port's reservation and from the pool. -/
  rsv : Nat := 0
  pool : Nat := 0
  /-- The transmit ring and descriptor that it came from. -/
  job : Option (Nat × Nat) := none
deriving DecidableEq, Repr

/-- A transmit descriptor that hardware has taken (R375): egress ports outstanding, and the lowest port by which it left with its stamp. -/
structure EthJob where
  left : Nat
  sent : Option (Nat × Nat) := none
deriving DecidableEq, Repr

/-- The switch beside its registers. -/
structure Eth where
  learned : List Learned := []
  /-- Egress queue q of port p at 8 * p + q. -/
  queues : Tab (List EthQ) := []
  /-- Lowest number of free cells since the last read of ETH_BUF. -/
  low : Nat := 8192
  /-- Shaper credit of class A and B of port p at 2 * p and 2 * p + 1, units of 10^-6 bit, and the model clock it is for. -/
  credit : Tab (Int × Nat) := []
  /-- Counter k of port p at 16 * p + k: RXF, RXB, TXF, TXB, FCS, OVERSIZE, RUNT, VLAN, NOBUF, LINKDN, MIRDROP. -/
  cnt : Tab Nat := []
  /-- Word k of descriptor d of ring r at (r * 128 + d) * 4 + k (R373). -/
  desc : Tab Word := []
  /-- Frames received per ring (R374). -/
  seq : Tab Nat := []
  jobs : Tab (Option EthJob) := []
deriving DecidableEq, Repr

/-! ## Network sleep and wake (13_network_sleep_wake.md) -/

/-- A wake-link transaction in progress (R400). -/
structure WakeLink where
  active : Bool := false
  read : Bool := false
  /-- Data bytes acknowledged. -/
  bytes : Nat := 0
  viol : Bool := false
  ptr : Nat := 0
deriving DecidableEq, Repr

/-- The network manager and the wake sources beside their registers. Nodes of channel c are numbered 64 * c + node. -/
structure Net where
  /-- A round is in progress. -/
  inRound : Bool := false
  /-- Votes of the present round and of the last complete one: byte 1 plus 1; 0 for none. -/
  votes : Tab Nat := []
  last : Tab Nat := []
  /-- Rounds in a row in which a node held agreement back (R393). -/
  back : Tab Nat := []
  /-- Rounds, the present one included, for which a node's WAKE still counts: 4 at the vote (R393). -/
  woke : Tab Nat := []
  /-- In the present round: IGN was high, HOLD was set, a wake request was recognised (R388). -/
  ignSeen : Bool := false
  holdSeen : Bool := false
  wakeSeen : Bool := false
  /-- The end of the awake timer on the model clock; none while it does not run (R392). -/
  awakeEnd : Option Nat := none
  /-- The point of no return on the model clock, of the last eve; 0 before any (R391). -/
  pnrUp : Nat := 0
  /-- Sources latched during an entry, by code; a latched request without a code (R389, R416). -/
  latched : List Nat := []
  latchedWrite : Bool := false
  /-- Sources whose confirmation window runs, the state to return to, and whether a wake has been confirmed since the exit (R397). -/
  windows : List Nat := []
  returnTo : Nat := 0
  confirmed : Bool := false
  /-- False wakes in a row, by source; EMCY 0xFF81 is due after the next confirmed wake (R398). -/
  run : Tab Nat := []
  disarmed : Bool := false
  /-- Inputs that changed in the recognising poll sample (R394). -/
  polled : List Nat := []
  /-- Inputs polled, as their POLL bits stood at the entry (R315). -/
  pollSet : List Nat := []
  /-- Keeper records, newest first, at most 16 (R393). -/
  keeper : List (Word × Word) := []
  link : WakeLink := {}
  /-- Wake-capable channels whose decoders listen in place of their controllers (R336, R395). -/
  decoding : List Nat := []
deriving DecidableEq, Repr


/-! ## Power states (14_power_states.md) -/

/-- The Retention Set (R418). -/
structure Retained where
  /-- The registers kept, as they stood in force. -/
  regs : Tab Word := []
  /-- Heat and attempts of each channel: H in the units of the wire model. -/
  heat : Tab Nat := []
  /-- COUNT, SEVERE and the remaining window in whole seconds of each source (R476). -/
  srcs : Tab (Nat × Bool × Nat) := []
  /-- The RTC second of the save, and the RTC's count below it, units of 1/32,768 s, at the completion of the entry. -/
  second : Nat := 0
  sub : Nat := 0
deriving DecidableEq, Repr

/-- The power unit beside its registers. -/
structure Pwr where
  saved : Option Retained := none
  /-- PLL_A and PLL_B run: the Almanac does (R22, R407). -/
  pll : Bool := true
  /-- The CRC of the Retention Set is correct. -/
  savedOk : Bool := true
  /-- SAVE ended by its timeout, in the entry in progress (R413). -/
  saveTo : Bool := false
  /-- What a forced entry cut, laid out as ABORT, BTE and MSC of PWR_EREP0 (R415). -/
  cut : Nat := 0
  /-- The Switch supply was lost in PARK (R419). -/
  loss : Bool := false
  /-- EMCYs due once the Core domain runs: the Retention Set was not restored; the last entry was forced (R415, R419). -/
  emcyLost : Bool := false
  emcyForced : Bool := false
  /-- The RTC second at which the module entered DORMANT; none outside it (R526). -/
  dormantAt : Option Nat := none
  /-- The Switch domain has started since base firmware last wrote the stored configuration (R50, R270). -/
  configure : Bool := false
deriving DecidableEq, Repr


/-! ## The Flilis cores and the block transfer engine (15_flilis_core.md) -/

/-- Whether a logical core executes (R429, R449, R465, R466, R469). -/
inductive CoreRun where
  /-- It executes. -/
  | running
  /-- A debugger holds it. -/
  | halted
  /-- It has stopped fetching: a double trap, a miscompare, a failed comparator test, or it is not started. -/
  | stopped
  /-- A resync stalls it. -/
  | stalled
  /-- It restarts: the comparator test has not ended (R468). -/
  | starting
  /-- Its pair has passed the test, or none is made: it starts (R429). -/
  | ready
deriving DecidableEq, Repr

/-- What a logical core waits for (R441, R442). -/
inductive CoreWait where
  | none
  /-- WAITEV: the register it writes and the conditions selected. -/
  | event (g sel : Nat)
  /-- WTU: the register it writes, the target in short time, and the model clock at which the timeout ends. -/
  | time (g : Nat) (target : Word) (deadline : Option Nat)
deriving DecidableEq, Repr

/-- A logical core beside its registers of I/O space (R426, R427). -/
structure Core where
  run : CoreRun := .running
  /-- G0 to G15. -/
  g : Tab Word := []
  pc : Nat := 0
  /-- STAT; DBUSY is read from `div`. -/
  stat : Word := 0
  cnt : Word := 0
  sptr : Word := 0
  dptr : Word := 0
  mhi : Word := 0
  mlo : Word := 0
  quo : Word := 0
  rem : Word := 0
  /-- Products on their way to MHI and MLO, oldest first (R437). -/
  muls : List (Word × Word) := []
  /-- The quotient and remainder on their way to QUO and REM (R438). -/
  div : Option (Word × Word) := Option.none
  /-- EPC and ESTAT of levels 1 to 9 (R445). -/
  epc : Tab Nat := []
  estat : Tab Word := []
  ecause : Word := 0
  eaddr : Word := 0
  /-- Model clock of the start (R427, CYCLE). -/
  startAt : Nat := 0
  /-- The sixteen entries of the return stack, the place of the next push, and the depth (R444). -/
  stack : Tab Nat := []
  sp : Nat := 0
  depth : Nat := 0
  /-- The line served at each level, plus 1 (R453, CORE_IRQi.ACTIVE). -/
  serving : Tab Nat := []
  wait : CoreWait := .none
deriving DecidableEq, Repr


/-! ## Fault collection (16_redundancy_faults.md) -/

/-- A partner that the muting rule tracks (R481). -/
structure Partner where
  iface : Nat
  who : Nat
  /-- Model clock of its violations in the last second, newest first. -/
  times : List Nat
  muted : Bool
deriving DecidableEq, Repr

/-- A fault source (R470, R471, R484). -/
structure FcruSrc where
  /-- The configuration held, laid out as FCRU_SCFG, and the window in ms; none is the default of R470. -/
  cfg : Option Nat := none
  win : Option Nat := none
  count : Nat := 0
  severe : Bool := false
  /-- The end of the running window on the model clock; none when no window runs. -/
  winEnd : Option Nat := none
  /-- A reaction of the source is in progress (R473). -/
  busy : Bool := false
  events : Nat := 0
  info : Word := 0
deriving DecidableEq, Repr

/-- The fault collection unit beside its registers. -/
structure Fcru where
  srcs : Tab FcruSrc := []
  /-- Sources whose SAFE reaction has acted since the last clear (R474). -/
  safeBy : List Nat := []
  /-- The logical cores restart; EMCY 0xFFA4 follows, when a RESET_CORE reaction restarts them (R429, R487). -/
  restarting : Bool := false
  resetCore : Bool := false
  /-- The start-up comparator test runs (R468). -/
  testing : Bool := false
  /-- Partners tracked, at most 16. -/
  partners : List Partner := []
  /-- The violation log, newest first, at most 64 records of five words (R482). -/
  vlog : List (List Word) := []
  vseq : Nat := 0
deriving DecidableEq, Repr


/-! ## Cab access (17_cab_access.md) -/

/-- An enrolled token (R489): its ID of 8 bytes and its key of 16. -/
structure Token where
  id : List Byte
  key : List Byte
deriving DecidableEq, Repr

/-- What a slot of the round in progress has received (R492, R494). Times in ps. -/
structure AccSlot where
  /-- Two preamble arrivals more than 2 ns apart in the RESP or the REPORT. -/
  collided : Bool := false
  /-- RESP: its time after the POLL, and the enrolled token for which its STS correlates. -/
  resp : Option (Nat × Option Nat) := none
  /-- REPORT: the token's round and reply times, its counter, its tag. -/
  report : Option (Nat × Nat × Nat × List Byte) := none
deriving DecidableEq, Repr

/-- Cab access beside its registers. -/
structure Acc where
  /-- The enrolments, kept in data flash. -/
  tokens : Tab (Option Token) := []
  /-- The attempt or calibration in progress: its antenna, its wake train runs, rounds run, rounds with a collision and no valid response,
  a further round is due, the round has started and awaits its end. -/
  ant : Nat := 0
  train : Bool := false
  rounds : Nat := 0
  collisions : Nat := 0
  due : Bool := false
  inRound : Bool := false
  nonce : List Byte := []
  slots : Tab AccSlot := []
  /-- Resync candidates of the attempt, by token (R495). -/
  cand : Tab (Option Nat) := []
  /-- The nearest authentic response of the attempt, or the winner: token and distance in cm. -/
  near : Option (Nat × Int) := none
  /-- A calibration: its distance in cm, its uncorrected times of flight as fractions of ps, and whether a round failed (R506). -/
  calDist : Nat := 0
  calTof : List (Int × Nat) := []
  calBad : Bool := false
  /-- The session: its end on the model clock; the output that its lock action switched: TYPE and INDEX (R499, R500). -/
  sessEnd : Nat := 0
  lockna : Bool := false
  lock : Option (Nat × Nat) := none
  /-- Drive enable: its token, DEWAIT runs, and WITHDRAWN frames outstanding (R501, R502). -/
  deToken : Nat := 0
  deWait : Bool := false
  withdraw : Nat := 0
  /-- The drive-enable counter, and its value at the last save of the Odometer (R501). -/
  deCount : Nat := 0
  deSaved : Nat := 0
  /-- Records, newest first, at most 16, and records written (R498). -/
  recs : List (List Word) := []
  recSeq : Nat := 0
deriving DecidableEq, Repr


/-! ## Service, update, pairing and the Odometer (18_service_update_odometer.md) -/

/-- A copy of the Odometer in data flash (R526). -/
structure OdoCopy where
  seq : Nat
  valid : Bool := true
  counts : Tab Nat := []
deriving DecidableEq, Repr

/-- A settings area of data flash: its format and the stored parameters (R516). -/
structure Settings where
  fmt : Nat
  od : Tab (Option Nat)
  regs : Tab (Option Word)
  src : Tab (Option (Nat × Nat))
  slots : Tab Word
  alm : AlmSet
deriving DecidableEq, Repr

/-- The SVC unit beside its registers. -/
structure Svc where
  /-- SVC_EN is high after its filter (R380). -/
  en : Bool := false
  /-- The header of the image in transfer, its bytes so far in all, and the bytes since the last whole page (R512, R514). -/
  header : List Byte := []
  received : Nat := 0
  part : List Byte := []
  /-- The inactive bank is marked empty. -/
  bankEmpty : Bool := true
  /-- The trial run time counted, ns, the model clock since which it runs, and its last save, ns (R516). -/
  trialNs : Nat := 0
  trialFrom : Option Nat := none
  trialSaved : Nat := 0
  /-- Migration has ended, and the first settings area while a conversion into the second one awaits confirmation. -/
  migrated : Bool := false
  oldSet : Option Settings := none
  /-- The journal, newest first, at most 32 records, and records written (R518). -/
  journal : List (List Word) := []
  jseq : Nat := 0
  /-- The stored pairing record, empty without one, and its drive key (R520, R522). -/
  record : List Byte := []
  driveKey : List Byte := []
  /-- The start check of the record has not ended. -/
  checking : Bool := false
  /-- EMCY 0xFFB1 is due once the cores run (R517). -/
  reverted : Bool := false
  /-- The two copies of the Odometer. -/
  copyA : OdoCopy := { seq := 0 }
  copyB : OdoCopy := { seq := 0 }
  /-- The format of the settings in force. -/
  setFmt : Nat := 0
  /-- The accumulators were lost with the Keep domain. -/
  keepLoss : Bool := false
  /-- The RTC second of the last save. -/
  savedAt : Nat := 0
deriving DecidableEq, Repr


/-! ## What the module sends -/

/-- The result codes of writes (R66, R161, R224). -/
inductive Code where
  | accepted
  | past
  | conflict
  | toll
  | groupBusy
  | absent
  | msFull
  | state
  | invalid
  | unknownTag
deriving DecidableEq, Repr

/-- Everything that leaves the module or that a master is answered with. -/
inductive Sent where
  /-- The answer to a register write (R33). -/
  | written (m : Master) (addr : Nat) (c : Code)
  /-- An access to an unassigned or reserved address: the I/O address trap (R38). -/
  | ioTrap (m : Master) (addr : Nat)
  /-- The value of a register read. -/
  | value (m : Master) (addr : Nat) (w : Word)
  /-- A classic CAN frame of a channel: identifier and data. -/
  | canFrame (ch : Nat) (id : Nat) (data : List Byte)
  /-- The frame of a mailbox: its buffer (R342). -/
  | canTx (ch mailbox : Nat) (words : List Word)
  /-- A CAN FD frame of a channel with BRS: identifier and data (R501). -/
  | canFdFrame (ch : Nat) (id : Nat) (data : List Byte)
  /-- What the UWB radio sends on an antenna: the wake train, a POLL with its nonce, a FINAL (R492). -/
  | uwbTrain (ant : Nat)
  | uwbPoll (ant : Nat) (nonce : List Byte)
  | uwbFinal (ant : Nat)
  /-- A message of the object access protocol: on the service port or the switch, to an address, and its TAG (R59, R60). -/
  | objMessage (service : Bool) (dest : Nat) (r : ObjReply) (tag : List Byte)
  /-- A read or a general register's value that a debugger is given (R469). -/
  | debugValue (w : Word)
  /-- A declaration of application firmware is accepted or refused (R72). -/
  | appDeclared (taken : Bool)
  /-- An access passed to application firmware (R72). -/
  | appAccess (p : DPath) (a : AppAccess)
  /-- A LIN frame's header, with the commander's data where it publishes; a wake pulse of 1 ms (R353, R356). -/
  | linFrame (ch id : Nat) (data : List Byte)
  | linPulse (ch : Nat)
  /-- A frame leaves a port: its bytes without FCS. -/
  | ethFrame (port : Nat) (data : List Byte)
  /-- A one-step gPTP Sync, with its origin time and correction field, on a port; a Sync of a two-step pair, and its Follow_Up; an Announce:
  priority1, clockClass and priority2. -/
  | ptpSync (port : Nat) (origin : Nat) (corr : Int)
  | ptpSyncTwo (port : Nat) (seq : Nat)
  | ptpFollowUp (port : Nat) (seq : Nat) (origin : Nat) (corr : Int)
  | ptpAnnounce (port : Nat) (priority1 clockClass priority2 : Nat)
  /-- A gPTP peer-delay request on a port. -/
  | pdelayReq (port : Nat)
  /-- The wake link answers: it acknowledges or not; bytes that it returns (R400). -/
  | linkAck (ack : Bool)
  | linkData (data : List Byte)
  /-- An EMCY frame: the CANopen channel, its identifier and its bytes (R46, R56). -/
  | emcy (ch id : Nat) (data : List Byte)
  /-- The answer to a dictionary write that a command carries: index, sub-index and result. -/
  | objWritten (p : DPath) (index sub : Nat) (c : Code)
  /-- The answer to a dictionary read: index, sub-index and value. -/
  | objRead (p : DPath) (index sub : Nat) (value : List Byte)
  /-- An abort of a dictionary access (R65). -/
  | objAbort (p : DPath) (index sub : Nat) (abort : Nat)
deriving DecidableEq, Repr

/-! ## The whole state -/

/-- The module. -/
structure State where
  /-- What is set at manufacture. -/
  ident : Ident := {}
  /-- The registers in force, keyed by `regKey`; an unlisted register reads as its reset value. -/
  regs : Tab Word := []
  /-- Byway values waiting for their apply points, keyed by `regKey`. -/
  held : Tab (Option Word) := []
  /-- The record queues, keyed by `qKey`. -/
  queues : Tab RecQ := []
  /-- The power domains. -/
  dom : Domains := {}
  /-- Writes in the crossings, oldest first. -/
  transit : List Transit := []
  /-- The supply bands. -/
  supply : Supply := {}
  /-- Interrupt requests that an event raised and that stand until their unit clears them, by line (R446). -/
  irq : Tab Bool := []
  /-- Sources raised whose FCRU event has not been taken: source and INFO, oldest first (R470). -/
  raised : List (Nat × Word) := []
  /-- Fault collection. -/
  fcru : Fcru := {}
  /-- The Almanac. -/
  alm : Almanac := {}
  /-- The milestone unit. -/
  mst : Mst := {}
  /-- The compare channels TW00 to TW31. -/
  wcuChan : Tab WcuChan := []
  /-- Counters that the FCRU holds stopped (R470). -/
  wcuBlocked : Tab Bool := []
  /-- The channels CH00 to CH95. -/
  chan : Tab Chan := []
  /-- The feeds FEED1 to FEED4, index 0 to 3. -/
  tollFeed : Tab TollFeed := []
  /-- Switch-ons that wait in Tollgate. -/
  tollWait : List TollWait := []
  /-- What the present Switch cycle has done. -/
  cyc : Cycle := {}
  /-- The measurement of CH00 to CH95. -/
  sns : Tab SnsChan := []
  /-- The light scan's next slot, 0 to 31 (R260). -/
  snsSlot : Nat := 0
  /-- The Odometer's accumulators in retention RAM, keyed by `odoKey` (R526). -/
  odoAcc : Tab Nat := []
  /-- Energy of each channel short of a whole Wh, units of 10^-11 J (R262, R525). -/
  odoEnergy : Tab Int := []
  /-- The valves V00 to V23. -/
  valve : Tab Valve := []
  /-- The end of each group's recharge window on the model clock (R292). -/
  rechgEnd : Tab Nat := []
  /-- The boost converter is held off by the FCRU (R470, source 170). -/
  boostCut : Bool := false
  /-- The switch inputs SI00 to SI63. -/
  sin : Tab Input := []
  /-- The field points FIO00 to FIO31. -/
  fio : Tab Input := []
  /-- Field outputs in the pause after an overload (R327). -/
  fioPause : Tab Bool := []
  /-- Field outputs whose driver is too hot (R327). -/
  fioHot : Tab Bool := []
  /-- Every field output is held at its SAFE value by CHANNEL_OFF (R470, source 168). -/
  fioForced : Bool := false
  /-- The last refusal (R67). -/
  refused : LastRefusal := {}
  /-- Values that the object dictionary server holds itself, keyed by `odKey`; none is the default. -/
  od : Tab (Option Nat) := []
  /-- Values accepted for a sub-entry that takes effect later (R45, R385). -/
  odNext : Tab (Option Nat) := []
  /-- Transfers, sessions, PDOs, stored parameters and the application range of the dictionary server. -/
  dict : Dict := {}
  /-- The Ethernet switch. -/
  eth : Eth := {}
  /-- SRAM, retention RAM, data flash and OTP in data space, byte by byte (R431). -/
  mem : List Host.Cell := []
  /-- The mailbox buffers: word k of mailbox m of CANn at (n * 32 + m) * 18 + k (R342). -/
  mbuf : Tab Word := []
  /-- The outcome of the last failed attempt of each mailbox's request, 0 before one (R343). -/
  mbFail : Tab Nat := []
  /-- Mailboxes asked to abort while ACTIVE (R343). -/
  mbAbort : Tab Bool := []
  /-- Queues in which a frame was dropped after the previous record, at 2 * n + q (R338). -/
  canLostf : Tab Bool := []
  /-- Channels in BUS_OFF whose recovery runs (R336). -/
  canRecover : Tab Bool := []
  /-- The LIN channels beside their registers. -/
  lin : Tab Lin := []
  /-- The LIN slots: word k of slot s of LINc at (c * 64 + s) * 4 + k (R352). -/
  linSlots : Tab Word := []
  /-- The NMT state. -/
  nmt : Nmt := .preOperational
  /-- The EMCY inhibit time runs (R48). -/
  emcyInhibit : Bool := false
  /-- EMCYs waiting for the end of the inhibit time. -/
  emcyWait : List Emcy := []
  /-- The pre-defined error field 0x1003, newest first, at most 16. -/
  errors : List Nat := []
  /-- Consumed nodes whose heartbeat has timed out, by entry of 0x1016 (R535). -/
  hbLost : Tab Bool := []
  /-- Logical cores 0 to 3. -/
  core : Tab Core := []
  /-- The channel that the round-robin of the block transfer engine tries next (R454). -/
  bteNext : Nat := 0
  /-- Code flash: word a of physical bank b at b * 2^20 + a; an unlisted word is erased (R430). -/
  flash : Tab Word := []
  /-- The physical bank that is active (R430). -/
  flashBank : Nat := 0
  /-- Words with an uncorrectable ECC error: data space by byte address, instruction space at 2^32 + the address of `flash` (R448). -/
  ecc : Tab Bool := []
  /-- The power unit. -/
  pwr : Pwr := {}
  /-- The error register 0x1001 was not 0 after the last command (R56). -/
  errUp : Bool := false
  /-- Cab access. -/
  acc : Acc := {}
  /-- Service, update, pairing and the Odometer. -/
  svc : Svc := {}
  /-- The network manager and the wake sources. -/
  net : Net := {}
  /-- MODEL'S OWN: the index of the next free value (a DESIGN CHOICE, assumption 5); nothing rests on its value. -/
  fresh : Nat := 0
  /-- MODEL'S OWN: nanoseconds since the first state, of Almanac ticks and, while the Almanac is stopped, of the Keep clock; never stepped (assumption 4). -/
  up : Nat := 0
  /-- MODEL'S OWN: everything the module has sent or answered, newest first (assumption 3). -/
  sent : List Sent := []
  /-- The commands that wait, first in, first out. -/
  pending : List Instr := []
deriving DecidableEq, Repr

/-- Why the machine stops with a fault: no command does. -/
inductive Fault where
deriving DecidableEq, Repr

/-- Why a command is refused. -/
inductive Refusal where
  /-- The command has no meaning in this model. Raised by an arm of `exec` that is not written; safe. -/
  | notModelled (mnemonic : String)
deriving DecidableEq, Repr

/-- The module at the first state: every register at its reset value, every memory with nothing listed, no command waiting. -/
def State.reset : State := {}

end Sys2Proof.Machine
end

