-- ==== Sys2Proof/Machine/Ops.lean ====
section
/-!
DEFINITION. Machine/Ops.lean: the named operations that every unit shares: reading and writing registers and fields, banked registers,
pending Byway values, fitted and absent resources, result registers, free values and what the module sends.
-/
namespace Sys2Proof.Machine

/-- Whether some index below `n` meets a test. -/
def anyBelow (n : Nat) (p : Nat → Bool) : Bool := (List.range n).any p

/-! ## Registers and fields -/

/-- The key of a register's index in the register file. -/
def regKey (r : Reg) (n : Nat) : Nat := r.ctorIdx + 512 * n

/-- The value in force of a register (R34). -/
def State.rd (s : State) (r : Reg) (n : Nat) : Word := tabGet (r.reset n) s.regs (regKey r n)

/-- The state in which a register holds a value. -/
def State.wr (s : State) (r : Reg) (n : Nat) (w : Word) : State :=
  { s with regs := tabSet (r.reset n) s.regs (regKey r n) w }

/-- The value in force of a field. -/
def State.getF (s : State) (f : Fld) (n : Nat) : Nat := bitsOf (s.rd f.reg n).toNat f.lo f.wd

/-- Whether a one-bit field is 1. -/
def State.flag (s : State) (f : Fld) (n : Nat) : Bool := s.getF f n != 0

/-- The state in which a field holds a value, modulo its width; the register's other bits stay. -/
def State.setF (s : State) (f : Fld) (n : Nat) (v : Nat) : State :=
  s.wr f.reg n (putBits (s.rd f.reg n) f.lo f.wd v)

/-- The state in which a one-bit field is set or clear. -/
def State.setB (s : State) (f : Fld) (n : Nat) (b : Bool) : State := s.setF f n (b01 b)

/-- The field of a written word. -/
def Fld.of (f : Fld) (w : Word) : Nat := bitsOf w.toNat f.lo f.wd

/-- Whether a one-bit field of a written word is 1. -/
def Fld.on (f : Fld) (w : Word) : Bool := f.of w != 0

/-- A saturating counter field counts one. -/
def State.countF (s : State) (f : Fld) (n : Nat) : State := s.setF f n (sat (2 ^ f.wd - 1) (s.getF f n + 1))

/-- The register with the RW bits of a written word; its other bits stay. -/
def State.wrMasked (s : State) (r : Reg) (n : Nat) (w : Word) : State :=
  s.wr r n ((s.rd r n &&& ~~~ (word r.desc.rw)) ||| (w &&& word r.desc.rw))

/-- Whether a written word has a 1 in a reserved bit of the register. -/
def reservedSet (r : Reg) (w : Word) : Bool := (w &&& word r.desc.rsv) != 0

/-! ## Masters and banks -/

/-- The path's own number. -/
def pathNum : DPath → Nat
  | .sdo k => k.val
  | .rpdo => 4
  | .eth k => 5 + k.val
  | .service => 8

/-- The bank of a master's own registers: logical cores 0 to 3, the BTE, then the paths of the dictionary server (R123, R222). -/
def masterBank : Master → Nat
  | .core c => c.val
  | .bte => 4
  | .dict p => 5 + pathNum p

/-- The index of a banked register: index `n` in the master's bank. -/
def bk (m : Master) (n : Nat) : Nat := n + 1024 * masterBank m

/-! ## Free values and sent things -/

/-- The state after a free value is used. -/
def State.used (s : State) : State := { s with fresh := s.fresh + 1 }

/-- The writes in the crossings without the oldest one of a master to an address. -/
def transitDrop (m : Master) (addr : Nat) : List Transit → List Transit
  | [] => []
  | t :: l => if t.master = m ∧ t.addr = addr then l else t :: transitDrop m addr l

/-- The state after something is sent. A write that is answered has left its crossing (R24, R33). -/
def State.emit (s : State) (e : Sent) : State :=
  match e with
  | .written m addr _ => { s with sent := e :: s.sent, transit := transitDrop m addr s.transit }
  | _ => { s with sent := e :: s.sent }

/-- Several things sent, in order. -/
def State.emits (s : State) (l : List Sent) : State := l.foldl State.emit s

/-! ## Pending Byway values (R33 to R36) -/

/-- The value waiting for its apply point. -/
def State.heldOf (s : State) (r : Reg) (n : Nat) : Option Word := tabGet none s.held (regKey r n)

/-- A value accepted and held; a later one takes the place of an earlier one (R36). -/
def State.hold (s : State) (r : Reg) (n : Nat) (w : Word) : State :=
  { s with held := tabSet none s.held (regKey r n) (some w) }

/-- No value waits any more. -/
def State.unhold (s : State) (r : Reg) (n : Nat) : State :=
  { s with held := tabSet none s.held (regKey r n) none }

/-- The apply point of a register: its waiting value, if it has one, comes into force (R35). -/
def State.applyHeld (s : State) (r : Reg) (n : Nat) : State :=
  match s.heldOf r n with
  | none => s
  | some w => (s.unhold r n).wr r n w

/-- The apply point of several registers at one index. -/
def State.applyAll (s : State) (rs : List Reg) (n : Nat) : State := rs.foldl (fun t r => t.applyHeld r n) s

/-- The value that a register has once every waiting value has applied. -/
def State.next (s : State) (r : Reg) (n : Nat) : Word :=
  match s.heldOf r n with
  | none => s.rd r n
  | some w => w

/-! ## Fitted resources (R1) -/

/-- FEED1 to FEED4 by index 0 to 3. -/
def feedFitted (v : Variant) (k : Nat) : Bool :=
  match v with
  | .px96 => decide (k < 4)
  | .px64 => decide (k < 3)
  | .px48 => decide (k < 2)

/-- CH00 to CH95. -/
def chanFitted (v : Variant) (n : Nat) : Bool :=
  match v with
  | .px96 => decide (n < 96)
  | .px64 => decide (n < 8 ∨ (16 ≤ n ∧ n < 48) ∨ (64 ≤ n ∧ n < 88))
  | .px48 => decide (n < 8 ∨ (16 ≤ n ∧ n < 40) ∨ (64 ≤ n ∧ n < 80))

/-- G1 to G6 by index 0 to 5. -/
def groupFitted (v : Variant) (g : Nat) : Bool :=
  match v with
  | .px96 => decide (g < 6)
  | .px64 => decide (g < 3)
  | .px48 => decide (g < 2)

/-- V00 to V23. -/
def valveFitted (v : Variant) (n : Nat) : Bool := groupFitted v (n / 4)

/-- SI00 to SI63. -/
def sinFitted (v : Variant) (n : Nat) : Bool :=
  match v with
  | .px96 => decide (n < 64)
  | .px64 => decide (n < 48)
  | .px48 => decide (n < 32)

/-- FIO00 to FIO31. -/
def fioFitted (v : Variant) (n : Nat) : Bool :=
  match v with
  | .px96 => decide (n < 32)
  | .px64 => decide (n < 24)
  | .px48 => decide (n < 16)

/-- CAN0 to CAN7. -/
def canFitted (v : Variant) (n : Nat) : Bool :=
  match v with
  | .px96 => decide (n < 8)
  | .px64 => decide (n < 6)
  | .px48 => decide (n < 4)

/-- CAN channels with selective wake. -/
def swkFitted (v : Variant) (n : Nat) : Bool :=
  match v with
  | .px96 => decide (n < 4)
  | .px64 => decide (n < 4)
  | .px48 => decide (n < 2)

/-- LIN0 to LIN3. -/
def linFitted (v : Variant) (n : Nat) : Bool :=
  match v with
  | .px96 => decide (n < 4)
  | .px64 => decide (n < 4)
  | .px48 => decide (n < 2)

/-- ETH0 to ETH7. -/
def ethFitted (v : Variant) (n : Nat) : Bool :=
  match v with
  | .px96 => decide (n < 8)
  | .px64 => decide (n < 4 ∨ n = 6)
  | .px48 => false

/-- Cab access. -/
def accFitted (v : Variant) : Bool :=
  match v with
  | .px96 => true
  | _ => false

/-- Cores C2 and C3. -/
def pairBFitted (v : Variant) : Bool :=
  match v with
  | .px48 => false
  | _ => true

/-- The bits of IDN_PRESENCE as the fitted resources give them (R6). -/
def presenceBits (v : Variant) : Nat :=
  ((List.range 4).map fun k => if feedFitted v k then 2 ^ k else 0).sum +
  ((List.range 6).map fun g => if groupFitted v g then 2 ^ (4 + g) else 0).sum +
  ((List.range 8).map fun n => if canFitted v n then 2 ^ (10 + n) else 0).sum +
  ((List.range 4).map fun n => if linFitted v n then 2 ^ (18 + n) else 0).sum +
  ((List.range 8).map fun n => if ethFitted v n then 2 ^ (22 + n) else 0).sum +
  (if accFitted v then 2 ^ 30 else 0) + (if pairBFitted v then 2 ^ 31 else 0)

/-- The code of IDN_VARIANT.VARIANT (R5). -/
def variantCode : Variant → Nat
  | .px96 => 0x60
  | .px64 => 0x40
  | .px48 => 0x30

/-- The variant of the module. -/
def State.variant (s : State) : Variant := s.ident.variant

/-- Whether the resource that a register belongs to is fitted (R1, R13). Registers of a kind of resource that R1 does not list are
fitted on every variant. DESIGN CHOICE (assumption 46): SIN_LVLB1, a common register of the switch inputs, is fitted on the PX-48 too, whose SI32 to
SI63 it would show are absent; it reads 0 there. -/
def regFitted (v : Variant) (r : Reg) (n : Nat) : Bool :=
  match r with
  | .ALM_PHYCAL => ethFitted v n
  | .OUT_CFG | .OUT_THR | .OUT_INR | .OUT_RUNON | .OUT_ALN | .OUT_APPLY | .OUT_LVL | .OUT_STAT | .OUT_DLY | .OUT_FDLY
  | .OUT_RUNREM | .OUT_LTSEC | .OUT_LTHI | .OUT_LTNS | .OUT_TCNT
  | .PROT_WIRE | .PROT_CPL | .PROT_RETRY | .PROT_TOLL | .PROT_LIM | .PROT_STAT | .PROT_JT | .PROT_BOF
  | .SNS_VAL | .SNS_STAMP | .SNS_CAL | .SNS_CSTAT | .SNS_SIGCFG | .SNS_SIGSTAT | .SNS_SIGPK | .SNS_SIGHIST => chanFitted v n
  | .TOLL_CFG | .TOLL_STAT | .TOLL_CUR | .TOLL_VOLT | .TOLL_PLAN | .TOLL_CNT | .TOLL_CLR => feedFitted v n
  | .VLV_CUR | .VLV_TIM | .VLV_MODE | .VLV_CMD | .VLV_STAT | .VLV_RES | .VLV_CNT => valveFitted v n
  | .VLV_GCFG | .VLV_GSTAT | .VLV_GCLR | .VLV_GCNT => groupFitted v n
  | .SIN_CFG | .SIN_STAT | .SIN_CNT | .SIN_PER => sinFitted v n
  | .FIO_CFG => fioFitted v n
  | .CAN_MODE | .CAN_STAT | .CAN_ERR | .CAN_BTN | .CAN_BTD | .CAN_QCFG | .CAN_NOMATCH | .CAN_RESULT | .CAN_IRQ | .CAN_IEN
  | .CAN_TXPEND | .CAN_TXEND => canFitted v n
  | .CAN_QSTAT => canFitted v (n / 2)
  | .FLT_MATCH | .FLT_MASK | .FLT_CTRL | .FLT_HITS => canFitted v (n / 48)
  | .MB_CTRL | .MB_STAT | .MB_TS | .MB_RQT => canFitted v (n / 32)
  | .LIN_CFG | .LIN_SCH | .LIN_STAT | .LIN_BRKTS | .LIN_RQSTAT => linFitted v n
  | .LIN_TDEF | .LIN_RQ => linFitted v (n / 4)
  | .ETH_CTRL | .ETH_QMAP | .ETH_MIRROR | .ETH_BUF | .ETH_RESULT | .ETH_STAT | .ETH_VLAN | .ETH_SA_LO | .ETH_SA_HI | .ETH_SA_CTL => v != .px48
  | .ETH_RING => v != .px48 || decide (4 ≤ n)
  | .ETH_PCFG | .ETH_PSTAT | .ETH_CBSA | .ETH_CBSB | .ETH_QRES => v != .px48 && (n == 8 || ethFitted v n)
  | .ETH_RXF | .ETH_RXB | .ETH_TXF | .ETH_TXB | .ETH_D1 | .ETH_D2 | .ETH_D3 | .ETH_D4 | .ETH_CCLR =>
    n == 9 || (v != .px48 && (n == 8 || ethFitted v n))
  | .NET_MAND_LO | .NET_MAND_HI | .NET_VOTE_LO | .NET_VOTE_HI => canFitted v n
  | .NET_SWK_ID | .NET_SWK_MSK | .NET_SWK_CTL | .NET_SWK_DLO | .NET_SWK_DHI => swkFitted v n
  | .NET_WCNT => v != .px48 || ! (n == 6 || n == 7)
  | .ACC_CFG | .ACC_TIMING | .ACC_BOUND | .ACC_LOCK | .ACC_DE | .ACC_CTRL | .ACC_STAT | .ACC_RESULT | .ACC_ANTCAL | .ACC_RSEL
  | .ACC_REC | .ACC_TOK | .ACC_LAST | .ACC_CNT0 | .ACC_CNT1 | .ACC_CNT2 => accFitted v
  | _ => true

/-- An access to a register of an absent resource is recorded; the first one's address is kept (R8, R9, R13). -/
def absentMark (addr : Nat) (s : State) : State :=
  if s.flag F.IDN_STATUS_ABSENT_ACCESS 0 then s
  else (s.setB F.IDN_STATUS_ABSENT_ACCESS 0 true).setF F.IDN_STATUS_ABSENT_ADDR 0 addr

/-! ## Result registers (R224) -/

/-- The number of a result code (R66, R161). -/
def Code.num : Code → Nat
  | .accepted => 0
  | .past => 1
  | .conflict => 2
  | .toll => 3
  | .groupBusy => 4
  | .absent => 5
  | .msFull => 6
  | .state => 7
  | .invalid => 8
  | .unknownTag => 9

/-- Layout of a result register: CODE in [7:0], what is concerned in [14:8], the address in [31:16] (R222, R253). -/
def resultWord (c : Code) (item addr : Nat) : Word := word (c.num + 0x100 * (item % 128) + 0x10000 * (addr % 65536))

/-- A write's answer: the master's result register takes it, and the master is answered (R33, R224). -/
def State.answer (s : State) (m : Master) (res : Reg) (c : Code) (item addr : Nat) : State :=
  (s.wr res (bk m 0) (resultWord c item addr)).emit (.written m addr c)

/-- A write's answer in a unit that has no result register. -/
def State.answered (s : State) (m : Master) (addr : Nat) (c : Code) : State := s.emit (.written m addr c)

/-- A write of a register of an absent resource: ignored and recorded (R13), and refused with ABSENT (R14). -/
def State.absentWrite (s : State) (m : Master) (res : Reg) (item addr : Nat) : State :=
  (absentMark addr s).answer m res .absent item addr

/-- The first refusal of a list of checks made in their order (R162, R224). -/
def firstCode : List (Bool × Code) → Code
  | [] => .accepted
  | (bad, c) :: t => if bad then c else firstCode t

/-! ## Time -/

/-- Full time as one number of nanoseconds (R118). -/
def State.total (s : State) : Nat := s.alm.sec * 1000000000 + s.alm.ns

/-- Short time (R118). -/
def State.short (s : State) : Nat := s.total % 2 ^ 32

/-- The wrap count (R118). -/
def State.wrap (s : State) : Nat := s.total / 2 ^ 32

/-- A stamp taken now. -/
def State.stampNow (s : State) : Stamp := { short := s.short }

/-! ## Power entries (R409, R412) -/

/-- A PARK or DORMANT entry has been accepted and is not complete: phases NOTICE to ALIGN of PWR_STAT. -/
def State.entering (s : State) : Bool :=
  let p := s.getF F.PWR_STAT_PHASE 0
  decide (1 ≤ p ∧ p ≤ 4)

end Sys2Proof.Machine
end

