-- ==== Sys2Proof/Machine/Memory.lean ====
section
/-!
DEFINITION. Machine/Memory.lean: the memories of data space that hold plain bytes (15_flilis_core.md, R431): SRAM, retention RAM, data flash
and OTP. A byte that nothing has written reads 0 (DESIGN CHOICE, assumption 6).
-/
namespace Sys2Proof.Machine

/-- What an unlisted address reads as: 0xFF in the key fields of OTP, which are all ones until written (R511), and 0 elsewhere
(DESIGN CHOICE, assumption 6). -/
def memBlank (a : Nat) : Byte := if 0x48000068 ≤ a ∧ a < 0x480000E8 then 0xFF else 0

/-- The canonical form of the memory: addresses rise strictly, and no cell holds what an unlisted address reads as. -/
def Memory.wf (m : List Host.Cell) : Bool := tabWf memBlank m

/-- The byte at an address. -/
def State.memByte (s : State) (a : Nat) : Byte := tabGet (memBlank a) s.mem a

/-- The state in which an address holds a byte. -/
def State.memByteSet (s : State) (a : Nat) (b : Byte) : State := { s with mem := tabSet (memBlank a) s.mem a b }

/-- `k` bytes from an address. -/
def State.memBytes (s : State) (a k : Nat) : List Byte := (List.range k).map fun i => s.memByte (a + i)

/-- Bytes stored from an address on. -/
def State.memBytesSet (s : State) : Nat → List Byte → State
  | _, [] => s
  | a, b :: t => (s.memByteSet a b).memBytesSet (a + 1) t

/-- A little-endian word of data space. -/
def State.memWord (s : State) (a : Nat) : Word := word (leNat (s.memBytes a 4))
def State.memWordSet (s : State) (a : Nat) (w : Word) : State := s.memBytesSet a (leBytes 4 w.toNat)

/-- OTP from a byte offset (R511). -/
def State.otp (s : State) (o k : Nat) : List Byte := s.memBytes (0x48000000 + o) k

/-- The words of OTP that read 0 through data space: the service credential and the transport key (R511). -/
def otpHidden (a : Nat) : Bool := decide (0x48000008 ≤ a ∧ a < 0x48000028)

/-- The memories of R431. -/
def inSram (a : Nat) : Bool := decide (0x20000000 ≤ a ∧ a < 0x20200000)
def inRetention (a : Nat) : Bool := decide (0x30000000 ≤ a ∧ a < 0x30010000)
def inDataFlash (a : Nat) : Bool := decide (0x40000000 ≤ a ∧ a < 0x40080000)
def inOtp (a : Nat) : Bool := decide (0x48000000 ≤ a ∧ a < 0x48001000)

end Sys2Proof.Machine
end

