-- ==== Sys2Proof/Machine/Od.lean ====
section
/-!
DEFINITION. Machine/Od.lean: the values that the object dictionary server holds itself, with no register behind them
(02_object_dictionary.md, R45, R47, R48): their defaults and the values in force.
-/
namespace Sys2Proof.Machine

/-- The key of a sub-entry. -/
def odKey (i sub : Nat) : Nat := i * 256 + sub

/-- What the server holds for a sub-entry, if it differs from its default. -/
def State.odRaw (s : State) (i sub : Nat) : Option Nat := tabGet none s.od (odKey i sub)

/-- The node-ID in force (R45). -/
def State.nodeId (s : State) : Nat := (s.odRaw 0x2002 2).getD 1

/-- The default of a communication object or transport setting (R45, R47, R48). PDOs 1 to 4 take the pre-defined connection set. PRESUMED from
CiA 301 (assumption 20): 0x1005 = 0x80 and 0x1012 = 0x100, neither producer nor, for TIME, consumer; 0x1014 = 0x80 + node-ID; transmission type 255. -/
def odDefault (node i sub : Nat) : Nat :=
  if i = 0x1005 then 0x80
  else if i = 0x1012 then 0x100
  else if i = 0x1014 then 0x80 + node
  else if i = 0x1017 then 1000
  else if i = 0x1200 then (if sub = 1 then 0x600 + node else if sub = 2 then 0x580 + node else 0)
  else if 0x1201 ≤ i ∧ i ≤ 0x1203 then (if sub = 1 ∨ sub = 2 then 0x80000000 else 0)
  else if 0x1400 ≤ i ∧ i < 0x1440 then
    (if sub = 1 then (if i < 0x1404 then 0x200 + 0x100 * (i - 0x1400) + node else 0x80000000) else if sub = 2 then 255 else 0)
  else if 0x1800 ≤ i ∧ i < 0x1840 then
    (if sub = 1 then (if i < 0x1804 then 0x180 + 0x100 * (i - 0x1800) + node else 0x80000000) else if sub = 2 then 255 else 0)
  else if i = 0x2002 then (if sub = 2 then 1 else if sub = 3 then 500 else 0)
  else if i = 0x2003 then (if sub = 2 then 1 else if sub = 4 then 10000 else 0)
  else if i = 0x4500 then (if sub = 0x7E then 0xC0A8600118 else if sub = 0x7F then 0xA9FE600110 else 0)
  else 0

/-- The value in force of a sub-entry that the server holds. -/
def State.odVal (s : State) (i sub : Nat) : Nat := (s.odRaw i sub).getD (odDefault s.nodeId i sub)

/-- The state in which a sub-entry holds a value. -/
def State.odSet (s : State) (i sub v : Nat) : State := { s with od := tabSet none s.od (odKey i sub) (some v) }

/-- A value waits for the event at which its sub-entry takes effect (R45, R385). -/
def State.odLater (s : State) (i sub v : Nat) : State := { s with odNext := tabSet none s.odNext (odKey i sub) (some v) }

/-- The event comes: a waiting value takes effect. -/
def State.odTake (s : State) (i sub : Nat) : State :=
  match tabGet none s.odNext (odKey i sub) with
  | some v => { (s.odSet i sub v) with odNext := tabSet none s.odNext (odKey i sub) none }
  | none => s

/-- A COB-ID that is in use: bit 31 clear. -/
def cobOn (v : Nat) : Bool := ! bitOf v 31

/-- The channel that CANopen runs on (R45). -/
def State.canOpenCh (s : State) : Nat := s.odVal 0x2002 1

/-- The state code of a CAN channel (R334, R349). -/
def State.canState (s : State) (n : Nat) : Nat := s.getF F.CAN_STAT_STATE n

/-- The channel is fitted and its domain on. -/
def State.canOn (s : State) (n : Nat) : Bool := s.dom.comms && canFitted s.variant n

/-- NORMAL or LOOPBACK: mailboxes are sent, and errors counted. -/
def State.canSends (s : State) (n : Nat) : Bool := s.canState n == 2 || s.canState n == 4

/-- The CANopen server can send a frame: the Core domain is on and its channel sends (R16, R46). -/
def State.coSends (s : State) : Bool := s.dom.core && s.canOn s.canOpenCh && s.canSends s.canOpenCh

/-! ## Restarts of the server (R45, R50, R58, R72) -/

/-- Transfers end without an answer, and nothing of them is written; what the sessions had received in part is dropped. -/
def dictDrop (s : State) : State :=
  { s with dict := { s.dict with
      sdo := [], rpdo := [], tpdo := [], appWait := []
      sess := s.dict.sess.map fun p => (p.1, p.2.map fun x => { x with part := none, wait := [] }) } }

/-- The server starts with the cores: stored values are in force, nothing is in transfer, the application range is empty. -/
def dictRestart (s : State) : State :=
  let s1 := dictDrop s
  { s1 with dict := { s1.dict with app := [], syncCtr := 0 }, od := s1.dict.storedOd, odNext := [], nmt := .preOperational, hbLost := [] }

/-- Every session closes without an answer (R58). -/
def sessionsClose (s : State) : State := { s with dict := { s.dict with sess := [] } }

/-! ## Refusals and aborts (R65 to R67) -/

/-- The number of a path: 1 CAN SDO, 2 RPDO, 3 Ethernet, 4 service session. -/
def pathCode : DPath → Nat
  | .sdo _ => 1
  | .rpdo => 2
  | .eth _ => 3
  | .service => 4

/-- A refusal is recorded in 0x2004 (R67). -/
def State.refusal (s : State) (p : DPath) (code i sub : Nat) : State :=
  { s with refused := { code := code, obj := i * 256 + sub, path := pathCode p, time := s.short } }

/-- An access is answered with an abort; 0x0800_0022 counts as a refusal with STATE, and 0x0800_0020 of the server's own carries no refusal
code of R66 (R67). -/
def State.objAborted (s : State) (p : DPath) (i sub abort : Nat) : State :=
  (if abort = 0x08000022 then s.refusal p 7 i sub else if abort = 0x08000020 then s.refusal p 0 i sub else s).emit (.objAbort p i sub abort)

/-- The abort code that a unit's answer becomes (R66, R161). -/
def Code.abort : Code → Nat
  | .accepted => 0
  | .state => 0x08000022
  | .invalid => 0x06090030
  | .unknownTag => 0x08000024
  | _ => 0x08000020

/-- A write is answered as its unit answered it: 0x0800_0020 and 0x0800_0022 count as refusals with the unit's code (R65 to R67). -/
def State.objDone (s : State) (p : DPath) (i sub : Nat) (c : Code) : State :=
  if c = .accepted then s.emit (.objWritten p i sub c)
  else if c.abort = 0x08000020 then (s.refusal p c.num i sub).emit (.objAbort p i sub c.abort)
  else s.objAborted p i sub c.abort

/-- Identifiers that the CANopen server consumes (R46, R48): NMT, SYNC, TIME, SDO requests, RPDOs and consumed heartbeats. -/
def State.canOpenTakes (s : State) (id : Nat) : Bool :=
  id == 0 || id == s.odVal 0x1005 0 % 2048 || id == s.odVal 0x1012 0 % 2048 ||
  (anyBelow 4 fun k => let c := s.odVal (0x1200 + k) 1; cobOn c && c % 2048 == id) ||
  (anyBelow 64 fun k => let c := s.odVal (0x1400 + k) 1; cobOn c && c % 2048 == id) ||
  (anyBelow 8 fun k => let c := s.odVal 0x1016 (k + 1); bitsOf c 16 8 != 0 && 0x700 + bitsOf c 16 7 == id)

end Sys2Proof.Machine
end

