-- ==== Sys2Proof/Machine/Services.lean ====
section
/-!
DEFINITION. Machine/Services.lean: what the units share beyond registers: record queues with a locked head, interrupt requests,
raised FCRU sources, the error register and EMCYs, protocol violations and the muting of partners.
-/
namespace Sys2Proof.Machine

/-! ## Record queues (R134, R339, R534) -/

/-- The key of a record queue. -/
def qKey : QId → Nat
  | .milestone => 0
  | .transition => 1
  | .valve => 2
  | .edge => 3
  | .field => 4
  | .faultLog => 5
  | .lin c => 8 + c
  | .can n q => 16 + 2 * n + q
  | .capture n => 64 + n

/-- How many records a queue holds. -/
def qCap : QId → Nat
  | .milestone => 64
  | .transition => 64
  | .valve => 32
  | .edge => 256
  | .field => 64
  | .faultLog => 32
  | .lin _ => 32
  | .can _ q => if q = 0 then 64 else 32
  | .capture _ => 4

/-- Where a queue's count of dropped records saturates. -/
def qLostMax : QId → Nat
  | .milestone => 65535
  | _ => 255

/-- The word and the bit of AGED in a queue's records (R134, R172, R302, R313, R322, R338, R355). A capture record is held as stamp,
count value and flags, with the flags where WCU_CAPn shows them (R188). -/
def qAgedAt : QId → Option (Nat × Nat)
  | .milestone => some (0, 27)
  | .edge => some (0, 7)
  | .field => some (0, 7)
  | .valve => some (0, 15)
  | .can _ _ => some (1, 13)
  | .lin _ => some (0, 25)
  | .capture _ => some (2, 9)
  | _ => none

/-- A record queue. -/
def State.q (s : State) (i : QId) : RecQ := tabGet {} s.queues (qKey i)

/-- The state in which a record queue holds something. -/
def State.setQ (s : State) (i : QId) (v : RecQ) : State := { s with queues := tabSet {} s.queues (qKey i) v }

/-- A record is offered: stored, or dropped and counted as lost when the queue is full; either way it takes a sequence number. -/
def State.offer (s : State) (i : QId) (ws : List Word) : State :=
  let q := s.q i
  if q.recs.length < qCap i then
    s.setQ i { q with recs := q.recs ++ [{ words := ws, at_ := s.up }], seq := q.seq + 1 }
  else s.setQ i { q with lost := sat (qLostMax i) (q.lost + 1), seq := q.seq + 1 }

/-- Word `k` of the head record; 0 in an empty queue. -/
def RecQ.word (q : RecQ) (k : Nat) : Word :=
  match q.recs with
  | [] => 0
  | r :: _ => r.words.getD k 0

/-- A read of the first word locks the head, if there is one. -/
def State.lockHead (s : State) (i : QId) : State :=
  match (s.q i).recs with
  | [] => s
  | _ :: _ => s.setQ i { s.q i with locked := true }

/-- A read of the last word releases a locked head and advances the queue. -/
def State.releaseHead (s : State) (i : QId) : State :=
  if (s.q i).locked then s.setQ i { s.q i with recs := (s.q i).recs.drop 1, locked := false } else s

/-- The head is returned and removed, whether locked or not (a dictionary read of the head record). -/
def State.popHead (s : State) (i : QId) : State :=
  s.setQ i { s.q i with recs := (s.q i).recs.drop 1, locked := false }

/-- LOST becomes 0. -/
def State.clearLost (s : State) (i : QId) : State := s.setQ i { s.q i with lost := 0 }

/-- A read of word `k` of a queue's window of `n` words: word 0 locks, the last word releases (R339). -/
def State.readWindow (s : State) (i : QId) (n k : Nat) : Word × State :=
  let w := (s.q i).word k
  if k = 0 then (w, s.lockHead i) else if k = n - 1 then (w, s.releaseHead i) else (w, s)

/-- A record with its AGED bit set. -/
def Rec.age (r : Rec) (at_ : Nat × Nat) : Rec :=
  { r with words := r.words.mapIdx fun j w => if j = at_.1 then putBits w at_.2 1 1 else w }

/-- AGED is set in every record of a queue; a locked record does not change (R134, R172, R339). -/
def RecQ.ageAll (i : QId) (q : RecQ) : RecQ :=
  match qAgedAt i with
  | none => q
  | some p => { q with recs := q.recs.mapIdx fun j x => if j = 0 ∧ q.locked then x else x.age p }

/-- AGED is set in the `k`-th record of a queue; a locked record does not change (R134, R172, R339). -/
def RecQ.ageOne (i : QId) (k : Nat) (q : RecQ) : RecQ :=
  match qAgedAt i with
  | none => q
  | some p => { q with recs := q.recs.mapIdx fun j x => if j = k ∧ ¬ (j = 0 ∧ q.locked) then x.age p else x }

/-- The queues whose records carry AGED, in the module (R134, R172, R355). -/
def agedQueues : List QId :=
  [.milestone, .edge, .field, .valve] ++ (List.range 32).map .capture ++ (List.range 4).map .lin ++
    (List.range 8).flatMap fun n => [.can n 0, .can n 1]

/-- Descriptor `k` of a receive ring: AGED is set in its word 1 where OWN is clear and it holds a frame (R374). -/
def ageDesc (k : Nat) (s : State) : State :=
  let w := tabGet 0 s.eth.desc (4 * k + 1)
  if bitOf w.toNat 31 || bitsOf w.toNat 0 11 == 0 then s
  else { s with eth := { s.eth with desc := tabSet 0 s.eth.desc (4 * k + 1) (putBits w 27 1 1) } }

/-- A step sets AGED at once in every record of those queues, and in the receive descriptors (R134, R374). -/
def State.ageQueues (s : State) : State :=
  let s1 := agedQueues.foldl (fun t i => if (t.q i).recs = [] then t else t.setQ i (RecQ.ageAll i (t.q i))) s
  [0, 2, 4].foldl (fun t r => (List.range 128).foldl (fun u d => ageDesc (128 * r + d) u) t) s1

/-! ## Full time in words -/

/-- A quotient rounded to the nearest integer, a half upwards. -/
def roundDiv (a : Int) (b : Nat) : Int := (2 * a + b) / (2 * (b : Int))

/-- The RTC's time now: seconds and subsecond in 1/32,768 s, at the rate that TRIM corrects (R142, R143). DEDUCED (assumption 50): XTAL_D runs at its
nominal rate. -/
def State.rtcNow (s : State) : Nat × Nat :=
  let rate := ((10000000 : Int) + signedOf 16 (s.getF F.NET_RTC_TRIM_TRIM 0)).toNat
  let t := s.alm.rtcSec * 32768 + s.alm.rtcSub + (s.up - s.alm.rtcAt) * 32768 * rate / 10000000000000000
  (t / 32768, t % 32768)

/-- The Almanac is stopped: the module is in PARK or DORMANT, so a record carries RTC time (R22, R407, R475). -/
def State.almStopped (s : State) : Bool := ! s.pwr.pll

/-- The time a record carries: SEC, NS and RTCT (R218, R475). -/
def State.recTime (s : State) : Nat × Nat × Bool :=
  if s.almStopped then
    let r := s.rtcNow
    (r.1, r.2 * 30517578125 / 1000000, true)
  else (s.alm.sec, s.alm.ns, false)

/-- Three words of full time: SEC low, SEC high, NS (R475). -/
def timeWords (t : Nat × Nat × Bool) : List Word := [word t.1, word (t.1 / 2 ^ 32 % 65536), word t.2.1]

/-! ## Interrupt requests, FCRU sources -/

/-- A unit's event requests its interrupt line (R446). -/
def State.request (s : State) (line : Nat) : State := { s with irq := tabSet false s.irq line true }

/-- A unit withdraws the request of its line. -/
def State.withdraw (s : State) (line : Nat) : State := { s with irq := tabSet false s.irq line false }

/-- A source is raised with its INFO; its FCRU event follows (R470). -/
def State.raise (s : State) (src info : Nat) : State := { s with raised := s.raised ++ [(src, word info)] }

/-! ## The Odometer's accumulators (R525, R526) -/

/-- The key of a count: group, item and field. -/
def odoKey (g i f : Nat) : Nat := g * 8192 + i * 32 + f

/-- An accumulator of the Odometer counts on, saturating. -/
def State.odoCount (s : State) (g i f k : Nat) : State :=
  { s with odoAcc := tabSet 0 s.odoAcc (odoKey g i f) (sat (2 ^ 32 - 1) (tabGet 0 s.odoAcc (odoKey g i f) + k)) }

/-! ## The error register and EMCYs (R56, R535) -/

/-- Bit 1: a channel latched off by a current cause, a feed without anything to shed, a shorted valve, a field overload. -/
def State.errCurrent (s : State) : Bool :=
  (anyBelow 96 fun n =>
    (s.getF F.OUT_STAT_STATE n == 6 || s.getF F.OUT_STAT_STATE n == 7) &&
      (let c := s.getF F.PROT_STAT_CAUSE n; c == 1 || c == 2 || c == 3 || c == 4)) ||
  (anyBelow 4 fun k => s.flag F.TOLL_STAT_NOSHED k) ||
  (anyBelow 24 fun v => s.getF F.VLV_STAT_STATE v == 7 && (let c := s.getF F.VLV_STAT_FCAUSE v; c == 1 || c == 4)) ||
  s.flag F.FIO_STATUS_OVLD 0

/-- Bit 2: the module supply outside the Full and Reduced bands, a command held off by its band, FLD_SUP low. -/
def State.errVoltage (s : State) : Bool :=
  ! (s.supply.module == .full || s.supply.module == .reduced) ||
  (anyBelow 96 fun n => s.flag F.OUT_STAT_BAND_HELD n) || s.flag F.FIO_STATUS_SUPLOW 0

/-- Bit 3: a junction latch, a valve faulted by its junction, a field driver too hot. -/
def State.errTemperature (s : State) : Bool :=
  (anyBelow 96 fun n => s.flag F.PROT_STAT_LATCH_J n) ||
  (anyBelow 24 fun v => s.getF F.VLV_STAT_STATE v == 7 && s.getF F.VLV_STAT_FCAUSE v == 2) ||
  s.flag F.FIO_STATUS_OVT 0

/-- The error register 0x1001 as it stands (R535). -/
def State.errorReg (s : State) : Nat :=
  let c := s.errCurrent
  let v := s.errVoltage
  let t := s.errTemperature
  let k := (anyBelow 8 fun n => s.getF F.CAN_STAT_FC n != 0) || s.hbLost.any (fun x => x.2) ||
    s.fcru.partners.any (fun p => p.muted)
  let m := (anyBelow 6 fun w => s.rd .FCRU_PEND w != 0) || s.flag F.FCRU_STAT_SAFE 0
  b01 (c || v || t || k || m) + 2 * b01 c + 4 * b01 v + 8 * b01 t + 16 * b01 k + 128 * b01 m

/-- The EMCY inhibit time 0x1015 in units of 100 µs; the identifier of EMCYs; whether the COB-ID 0x1014 and the channel let them out (R46, R48). -/
def State.emcyTime (s : State) : Nat := s.odVal 0x1015 0
def State.emcyId (s : State) : Nat := s.odVal 0x1014 0 % 2048
def State.emcyOn (s : State) : Bool := cobOn (s.odVal 0x1014 0) && s.coSends

/-- The eight bytes of an EMCY sent now (R56). -/
def State.emcyBytes (s : State) (e : Emcy) : List Byte :=
  leBytes 2 e.code ++ [byte (if e.code = 0 then 0 else s.errorReg), byte e.b3] ++ leBytes 2 e.index ++ [byte e.sub, 0]

/-- An EMCY leaves: the frame is sent, the error field takes it, and the inhibit time starts if one is set (R48, R56). -/
def State.emcyOut (s : State) (e : Emcy) : State :=
  let s1 := { s with
    errors := if e.code = 0 then s.errors else ((e.code + 65536 * (e.b3 * 256 + s.errorReg)) :: s.errors).take 16,
    emcyInhibit := s.emcyTime != 0 }
  if s.emcyOn then s1.emit (.emcy s.canOpenCh s.emcyId (s.emcyBytes e)) else s1

/-- An EMCY is reported: sent at once, or kept until the inhibit time ends or the NMT state lets it out (R48, R49). While the Core domain is off
there is no server to report it (R16). DEDUCED (assumption 18): one raised in the stopped state is kept and sent when the node leaves it. -/
def State.emcy (s : State) (e : Emcy) : State :=
  if ! s.dom.core then s
  else if s.emcyInhibit || s.nmt == .stopped then { s with emcyWait := s.emcyWait ++ [e] } else s.emcyOut e

/-- The EMCY of error code `code` about an object. -/
def State.emcyObj (s : State) (code b3 index sub : Nat) : State := s.emcy { code := code, b3 := b3, index := index, sub := sub }

/-- After a command: when the error register has returned to 0, EMCY 0x0000 follows (R56, R535). -/
def settle (s : State) : State :=
  let e := s.errorReg != 0
  if e = s.errUp then s
  else if e then { s with errUp := true }
  else { s with errUp := false }.emcy { code := 0 }

/-- The end of a command that began in `s` and leaves `t`: the error register settles. What is set at manufacture (R5) and the queue of waiting
commands are no command's to change. -/
def finish (s t : State) : State := { (settle t) with ident := s.ident, pending := s.pending }

/-- The ordinary end of a meaning. -/
def ok (s t : State) : Host.Outcome State Fault Refusal := .next (finish s t)

/-! ## Frames of the CANopen server, and its TPDOs (R46, R49, R53) -/

/-- A CANopen frame is sent, if the channel sends (R46). -/
def coSend (id : Nat) (d : List Byte) (s : State) : State :=
  if s.coSends then s.emit (.canFrame s.canOpenCh (id % 2048) d) else s

/-- The entries of a mapping: index, sub-index and length in bytes. -/
def State.mapping (s : State) (i : Nat) : List (Nat × Nat × Nat) :=
  (List.range (s.odVal i 0)).map fun j =>
    let m := s.odVal i (j + 1)
    (m / 65536, m / 256 % 256, m % 256 / 8)

/-- A TPDO beside its objects. -/
def State.tp (s : State) (n : Nat) : Tpdo := tabGet {} s.dict.tpdo n
def setTp (n : Nat) (x : Tpdo) (s : State) : State := { s with dict := { s.dict with tpdo := tabSet {} s.dict.tpdo n x } }

/-- Field `sub` of a TPDO's communication parameters: 1 COB-ID, 2 type, 3 inhibit time, 5 event timer, 6 SYNC start value. -/
def State.tpdoPar (s : State) (n sub : Nat) : Nat := s.odVal (0x1800 + n) sub

/-- Whether CANopen runs on its channel at all. -/
def State.coOn (s : State) : Bool := s.dom.core && s.canOn s.canOpenCh

/-- A TPDO is valid: operational, its COB-ID enabled, something mapped. -/
def State.tpdoOn (s : State) (n : Nat) : Bool :=
  s.coOn && s.nmt == .operational && cobOn (s.tpdoPar n 1) && s.odVal (0x1A00 + n) 0 != 0

/-! ## Protocol violations (R480 to R482) -/

/-- Whether a partner is muted. -/
def State.mutedPartner (s : State) (iface who : Nat) : Bool :=
  s.fcru.partners.any fun p => p.iface == iface && p.who == who && p.muted

/-- A violation record goes into the log, which keeps the 64 newest (R482). -/
def State.vlogRecord (s : State) (iface code who : Nat) (mute : Bool) : State :=
  let t := s.recTime
  let w0 := word (iface + 0x10 * code + 0x1000 * b01 mute + 0x2000 * b01 t.2.2 + 0x10000 * (s.fcru.vseq % 65536))
  { s with fcru := { s.fcru with
      vlog := ((w0 :: word who :: timeWords t) :: s.fcru.vlog).take 64, vseq := s.fcru.vseq + 1 } }

/-- The partner's slot with a new violation: its times of the last 1,000 ms, newest first. -/
def partnerHit (up : Nat) (p : Partner) : Partner :=
  { p with times := up :: p.times.filter fun t => decide (up < t + 1000000000) }

/-- The slots after a violation: a known partner moves to the front; an unknown one takes a free slot or the slot whose
last violation is the oldest (R481). The list keeps the most recent partner first. -/
def partnersHit (up iface who : Nat) (l : List Partner) : List Partner :=
  match l.find? (fun p => p.iface == iface && p.who == who) with
  | some p => partnerHit up p :: l.filter fun q => !(q.iface == iface && q.who == who)
  | none => partnerHit up { iface := iface, who := who, times := [], muted := false } :: l.take 15

/-- A violation by a partner that is not muted: logged and counted; the 101st within a second mutes the partner, writes one more
record with MUTE, raises source 175 and sends EMCY 0xFF10 (R480, R481). -/
def State.violation (s : State) (iface code who : Nat) : State :=
  if s.mutedPartner iface who then s
  else
    let s0 := s.setF F.FCRU_VSTAT_TOTAL 0 (s.getF F.FCRU_VSTAT_TOTAL 0 + 1)
    let s1 := s0.vlogRecord iface code who false
    let ps := partnersHit s.up iface who s.fcru.partners
    let s2 := { s1 with fcru := { s1.fcru with partners := ps } }
    match ps with
    | [] => s2
    | p :: t =>
      if p.times.length ≤ 100 then s2
      else
        let s3 := { s2 with fcru := { s2.fcru with partners := { p with muted := true } :: t } }
        let s4 := (s3.countF F.FCRU_VSTAT_MUTES 0).vlogRecord iface code who true
        let s5 := s4.raise 175 (s3.fcru.vseq % 65536)
        s5.emcyObj 0xFF10 0 (if iface = 2 then who % 256 else 0) 0

/-- A violation that is also reported by EMCY 0xFF30 with its code in byte 3. -/
def State.violationEmcy (s : State) (iface code who : Nat) : State :=
  if s.mutedPartner iface who then s else (s.violation iface code who).emcyObj 0xFF30 code 0 0

end Sys2Proof.Machine
end

