-- ==== Sys2Proof/Machine/Requests.lean ====
section
/-!
DEFINITION. Machine/Requests.lean: how a milestone request is read (05_milestones_timers.md, R154, R157, R159): its items, its instants and
what it names. Tollgate, the valve groups and the CAN claims look into accepted requests through these.
-/
namespace Sys2Proof.Machine

/-! ## Milestone requests (R154, R157, R159) -/

/-- Word `k` of a request. -/
def MstEntry.word (e : MstEntry) (k : Nat) : Nat := (e.words.getD k 0).toNat

/-- An action item (R157). -/
structure MstItem where
  header : Nat
  mask : Nat
  val : Nat
deriving DecidableEq, Repr

def MstItem.type (i : MstItem) : Nat := i.header % 16
def MstItem.target (i : MstItem) : Nat := i.header / 256 % 8

/-- The items of a request: NITEMS of them, words 6, 9, 12 and 15 on. -/
def reqItems (w : Nat → Nat) : List MstItem :=
  (List.range (bitsOf (w 0) 18 3 |> sat 4)).map fun k => { header := w (6 + 3 * k), mask := w (7 + 3 * k), val := w (8 + 3 * k) }

def MstEntry.items (e : MstEntry) : List MstItem := reqItems e.word

/-- TAG, REC_EACH, repeat period in ns, repeat count. -/
def MstEntry.tag (e : MstEntry) : Nat := e.word 0 % 65536
def MstEntry.recEach (e : MstEntry) : Bool := bitOf (e.word 0) 17
def MstEntry.count (e : MstEntry) : Nat := e.word 5 % 65536
def MstEntry.periodNs (e : MstEntry) : Nat := if e.count = 0 then 0 else e.word 4 * 8

/-- Runs beyond the first; none when it runs until cancelled (R155). -/
def MstEntry.repeats (e : MstEntry) : Option Nat := if e.count = 0xFFFF then none else some e.count

/-- The instant of run `i` (R156). -/
def MstEntry.instant (e : MstEntry) (i : Nat) : Nat := e.first + i * e.periodNs

/-- The instant of the next run. -/
def MstEntry.next (e : MstEntry) : Nat := e.instant e.runs

/-- The next run is the last. -/
def MstEntry.lastRun (e : MstEntry) : Bool :=
  match e.repeats with
  | some k => decide (k ≤ e.runs)
  | none => false

/-- The live entries, by number. -/
def State.liveEntries (s : State) : List (Nat × MstEntry) :=
  s.mst.entries.filterMap fun p => p.2.map fun e => (p.1, e)

/-- Nothing of an entry runs any more (R174): its last run has been carried out, and the next tick frees it. -/
def MstEntry.over (e : MstEntry) : Bool :=
  e.ended && (match e.repeats with
    | some k => decide (k < e.runs)
    | none => false)

/-- The entries that hold reservations and runs: every live one but those whose last run is over. One that is cancelled keeps them until the next
tick (R173). -/
def State.openEntries (s : State) : List (Nat × MstEntry) := s.liveEntries.filter fun p => ! p.2.over

/-- The channels that a LEVEL item names, and those it switches on. -/
def MstItem.channels (i : MstItem) : List Nat :=
  if i.type = 1 then (onesUpTo 32 i.mask).map (· + 32 * i.target) else []
def MstItem.switchOns (i : MstItem) : List Nat :=
  if i.type = 1 then ((onesUpTo 32 i.mask).filter fun b => bitOf i.val b).map (· + 32 * i.target) else []

/-- An accepted milestone names the channel (R29). -/
def State.mstNames (s : State) (n : Nat) : Bool :=
  s.liveEntries.any fun p => p.2.items.any fun i => i.channels.contains n

/-- A live milestone names a mailbox in a CANTX item (R157, R344). -/
def State.mstNamesMb (s : State) (n m : Nat) : Bool :=
  s.liveEntries.any fun p => p.2.items.any fun i => i.type == 5 && i.target == n && bitOf i.mask m

end Sys2Proof.Machine
end

