-- ==== Sys2Proof/Machine/Claims.lean ====
section
/-!
DEFINITION. Machine/Claims.lean: the CAN filter pairs and mailboxes that the module's own units claim (11_can_lin.md, R337, R343, R344), and
what a change of a claim does.
-/
namespace Sys2Proof.Machine

/-- The index of pair `f` and of mailbox `m` of CANn in the register file. -/
def fltIx (n f : Nat) : Nat := n * 48 + f
def mbIx (n m : Nat) : Nat := n * 32 + m

/-- The state code of a mailbox: 0 EMPTY, 1 LOADED, 2 PENDING, 3 ACTIVE (R349). -/
def State.mbState (s : State) (n m : Nat) : Nat := s.getF F.MB_STAT_STATE (mbIx n m)

/-- The channels that the claiming settings name (R344). -/
def State.pairCh (s : State) : Nat := s.getF F.SVC_PCFG_PAIRCH 0
def State.deCh (s : State) : Nat := s.getF F.ACC_DE_DECH 0
def State.nmCh (s : State) (n : Nat) : Bool := bitOf (s.getF F.NET_CFG_NMCH 0) n
def State.syncCh (s : State) : Nat := s.getF F.ALM_CTRL_CANCH 0

/-- A claimed filter pair (R337). -/
def State.claimedPair (s : State) (n f : Nat) : Bool :=
  (n == s.canOpenCh && decide (f < 16)) || (n == s.pairCh && f == 45) || (s.nmCh n && f == 46) || (n == s.syncCh && f == 47)

/-- A claimed mailbox (R343). -/
def State.claimedMb (s : State) (n m : Nat) : Bool :=
  (n == s.canOpenCh && decide (m < 16)) || (n == s.pairCh && m == 27) || (accFitted s.variant && n == s.deCh && m == 28) ||
    (s.nmCh n && m == 29) || (n == s.syncCh && (m == 30 || m == 31))

/-- A standard data frame with this identifier matches a claimed pair of CANn and goes to its owner (R139, R337, R386, R524). -/
def State.claimTakes (s : State) (n id : Nat) : Bool :=
  (n == s.canOpenCh && s.canOpenTakes id) ||
  (n == s.pairCh && id == s.getF F.SVC_PCFG_PAIRID 0 + 1) ||
  (s.nmCh n && (let b := s.getF F.NET_NMID_BASE 0; decide (b ≤ id ∧ id ≤ b + 63))) ||
  (n == s.syncCh && (let i := s.getF F.ALM_CANSYNC_ID 0; id == i || id == i + 1))

/-- Mailboxes, as (channel, mailbox), that a change of settings would newly claim. -/
def newClaims (before after : State) : List (Nat × Nat) :=
  (List.range 8).flatMap fun n => ((List.range 32).filter fun m => after.claimedMb n m && ! before.claimedMb n m).map fun m => (n, m)

/-- A mailbox that a change would claim and that is PENDING or ACTIVE, or named by a live milestone: with it the change is refused (R344). -/
def busyClaim (before after : State) : Option (Nat × Nat) :=
  (newClaims before after).find? fun p => decide (2 ≤ before.mbState p.1 p.2) || before.mstNamesMb p.1 p.2
def claimBusy (before after : State) : Bool := (busyClaim before after).isSome

/-- A mailbox becomes EMPTY, its buffer blank and its settings at reset; a request that still stands ends with CANCELLED (R344). -/
def mbEmpty (n m : Nat) (s : State) : State :=
  let i := mbIx n m
  let out := if 2 ≤ s.mbState n m then 2 else s.getF F.MB_STAT_OUTCOME i
  let s1 := (s.wr .MB_CTRL i 0).wr .MB_STAT i (word (out * 16))
  { s1 with mbuf := s1.mbuf.filter fun p => p.1 / 18 != i }

/-- A filter pair becomes blank: disabled, with nothing waiting. -/
def pairEmpty (n f : Nat) (s : State) : State :=
  let i := fltIx n f
  [Reg.FLT_MATCH, .FLT_MASK, .FLT_CTRL].foldl (fun t r => (t.unhold r i).wr r i 0) s

/-- The apply point of a claim: mailboxes and pairs whose claim begins or ends lose their contents (R344). `before` is the state before the
setting changed. -/
def claimMove (before s : State) : State :=
  (List.range 8).foldl (fun t n =>
    let t1 := (List.range 32).foldl (fun t m => if s.claimedMb n m != before.claimedMb n m then mbEmpty n m t else t) t
    (List.range 48).foldl (fun t f => if s.claimedPair n f != before.claimedPair n f then pairEmpty n f t else t) t1) s

end Sys2Proof.Machine
end

