-- ==== Sys2Proof/Machine/Almanac.lean ====
section
/-!
DEFINITION. Machine/Almanac.lean: the Almanac (04_almanac.md): the tick, steps, latching reads, the addend, the servo and its sources, CAN
sync, gPTP, and the alignment of the RTC; with the meaning of each of their commands.
-/
namespace Sys2Proof.Machine

/-! ## The tick (R117, R118, R127) -/

/-- The UTC offset as a signed number. -/
def State.utcOffset (s : State) : Int := signedOf 16 (s.getF F.ALM_UTC_UTC_OFFSET 0)

/-- At the TAI second that begins the next UTC day the UTC offset changes by one and the leap flag clears (R141). -/
def leapApply (s : State) : State :=
  let off := s.utcOffset
  if s.flag F.ALM_UTC_LEAP61 0 ∧ ((s.alm.sec : Int) - (off + 1)) % 86400 = 0 then
    (s.setF F.ALM_UTC_UTC_OFFSET 0 (codeOf 16 (off + 1))).setB F.ALM_UTC_LEAP61 0 false
  else if s.flag F.ALM_UTC_LEAP59 0 ∧ ((s.alm.sec : Int) - (off - 1)) % 86400 = 0 then
    (s.setF F.ALM_UTC_UTC_OFFSET 0 (codeOf 16 (off - 1))).setB F.ALM_UTC_LEAP59 0 false
  else s

/-- A load of the RTC that is due happens at a whole second: the RTC takes SEC, and its subsecond becomes 0 (R143). -/
def rtcLoadNow (s : State) : State :=
  if s.alm.rtcLoad then
    { s with alm := { s.alm with rtcSec := s.alm.sec, rtcSub := 0, rtcAt := s.up, rtcValid := true, rtcLoad := false } }
  else s

/-- NS and its fraction after the addend has been added, before any rollover (R117, R127). -/
def tickSum (s : State) : Nat := (s.alm.ns * 2 ^ 32 + s.alm.frac) + s.alm.addend

/-- Whether the next tick brings NS to 1,000,000,000 or more. -/
def tickRolls (s : State) : Bool := decide (1000000000 ≤ tickSum s / 2 ^ 32)

/-- One tick: the addend is added to NS; at 1,000,000,000 or more that much is taken from NS and SEC increases by 1 (R117). A rollover
is a whole second, at which a leap second applies and a due load of the RTC happens (R141, R143). -/
def tick (s : State) : State :=
  let sum := tickSum s
  let n := sum / 2 ^ 32
  let f := sum % 2 ^ 32
  let u := s.up + 8
  if n < 1000000000 then { s with up := u, alm := { s.alm with ns := n, frac := f } }
  else rtcLoadNow (leapApply { s with up := u, alm := { s.alm with sec := s.alm.sec + 1, ns := n - 1000000000, frac := f } })

/-- Whether the Almanac's clock runs: XTAL_B and PLL_B stop in PARK and DORMANT (R22). -/
def State.almRuns (s : State) : Bool := s.dom.switch && ! s.almStopped

/-! ## Steps (R132, R134, R144) -/

/-- The milestone table is empty. -/
def State.tableEmpty (s : State) : Bool := s.mst.entries.isEmpty

/-- A step: SEC and NS take the new value in one tick, EPOCH increases by 1, and queued records become AGED. -/
def stepTo (sec ns : Nat) (s : State) : State :=
  let s1 := { s with alm := { s.alm with sec := sec, ns := ns, frac := 0, stepDue := none } }
  (s1.setF F.ALM_STATUS_EPOCH 0 (s1.getF F.ALM_STATUS_EPOCH 0 + 1)).ageQueues

/-- An accepted step that is due is carried out. -/
def stepIfDue (s : State) : State :=
  match s.alm.stepDue with
  | none => s
  | some p => stepTo p.1 p.2 s

/-- ALMANAC_STEP (R132). -/
def execAlmanacStep (s : State) : Host.Outcome State Fault Refusal := ok s (stepIfDue s)

/-! ## Latching reads (R123, R150) -/

/-- A read of ALM_SEC_LO: the live low seconds, and the latch set of the master. -/
def readSecLo (m : Master) (s : State) : Word × State :=
  (word s.alm.sec,
   (((s.wr .ALM_SEC_HI (bk m 0) (word (s.alm.sec / 2 ^ 32 % 65536))).wr .ALM_NS (bk m 0) (word s.alm.ns)).wr
      .ALM_SHORT_LAT (bk m 0) (word s.short)).wr .ALM_WRAP (bk m 0) (word s.wrap))

/-- A read of ALM_SHORT: the live short time, and the matching wrap count. -/
def readShort (m : Master) (s : State) : Word × State :=
  (word s.short, s.wr .ALM_WRAP (bk m 0) (word s.wrap))

/-- A master is answered with what it read. -/
def State.answerRead (m : Master) (addr : Nat) (p : Word × State) : State := p.2.emit (.value m addr p.1)

/-- ALM_SEC_LO_READ (R123). -/
def execAlmSecLoRead (m : Master) (s : State) : Host.Outcome State Fault Refusal :=
  ok s (State.answerRead m (Reg.addr .ALM_SEC_LO 0) (readSecLo m s))

/-- ALM_SHORT_READ (R123). -/
def execAlmShortRead (m : Master) (s : State) : Host.Outcome State Fault Refusal :=
  ok s (State.answerRead m (Reg.addr .ALM_SHORT 0) (readShort m s))

/-! ## The addend (R127, R128) -/

/-- The range of the addend. -/
def addendMin : Nat := 0x07FEF9DB23
def addendMax : Nat := 0x08010624DD

/-- An addend held in its range. -/
def addendClamp (n : Nat) : Nat := if n < addendMin then addendMin else if addendMax < n then addendMax else n

/-- A write to ALM_CTRL, the addend or ALM_CANSYNC is refused: REFUSED is set (R121). -/
def almRefuse (s : State) : State := s.setB F.ALM_STATUS_REFUSED 0 true

/-- The role in force (R120). -/
def State.role (s : State) : Nat := s.getF F.ALM_CTRL_ROLE 0

/-- A commit of a 40-bit addend by software: only in range, and only in role FREE. -/
def addendCommit (a : Nat) (s : State) : Code × State :=
  if a < addendMin ∨ addendMax < a then (.invalid, almRefuse s)
  else if s.role ≠ 0 then (.state, almRefuse s)
  else (.accepted, { s with alm := { s.alm with addend := a } })

/-- A write of ALM_ADDEND_HI commits its whole nanoseconds with the fraction last written to ALM_ADDEND_LO. -/
def addendHiWrite (v : Word) (s : State) : Code × State :=
  addendCommit (F.ALM_ADDEND_HI_INT.of v * 2 ^ 32 + (s.rd .ALM_ADDEND_LO 0).toNat) s

/-- ALM_ADDEND_WRITE (R128). -/
def execAlmAddendWrite (m : Master) (v : Word) (s : State) : Host.Outcome State Fault Refusal :=
  let r := addendHiWrite v s
  ok s (r.2.answered m (Reg.addr .ALM_ADDEND_HI 0) r.1)

/-! ## The servo (R129 to R131) -/

/-- The servo's state: 0 FREE, 1 ACQUIRE, 2 LOCKED, 3 HOLDOVER (R121). -/
def State.servo (s : State) : Nat := s.getF F.ALM_STATUS_SERVO 0

/-- The servo enters a state; the interrupt of a servo state change is requested (R446). -/
def servoTo (n : Nat) (s : State) : State :=
  if s.servo = n then s
  else
    let s1 := (s.setF F.ALM_STATUS_SERVO 0 n).request 33
    { s1 with alm := { s1.alm with lockRun := 0, holdSince := s.up } }

/-- The state that a write of ROLE gives the servo, entered in the next tick (R149). -/
def servoIfDue (s : State) : State :=
  match s.alm.servoDue with
  | none => s
  | some n => servoTo n { s with alm := { s.alm with servoDue := none } }

/-- The role whose bounds apply: a deferred grandmaster follows as in FOLLOW_AS (R137). -/
def State.servoRole (s : State) : Nat :=
  if s.role = 1 ∧ s.flag F.ALM_STATUS_GM_DEFERRED 0 then 2 else s.role

/-- Lock and unlock bounds in ns (R130). -/
def State.lockBound (s : State) : Int := if s.servoRole = 3 then 400 else 100
def State.unlockBound (s : State) : Int := if s.servoRole = 3 then 2000 else 1000

/-- The servo sets the addend; the last 16 values are kept (R129). -/
def servoAddendSet (a : Nat) (s : State) : State :=
  { s with alm := { s.alm with addend := a, addends := (a :: s.alm.addends).take 16 } }

/-- The servo corrects by its own law: a FREE VALUE within the range of R127. -/
def servoCorrect (s : State) : State := (servoAddendSet (addendClamp (Config.servoAddend s.fresh)) s).used

/-- ALM_OFFSET takes the measured offset, saturating (R122). -/
def offsetSet (off : Int) (s : State) : State :=
  s.wr .ALM_OFFSET 0 (word (codeOf 32 (clampInt (-2147483647) 2147483647 off)))

/-- A valid measurement of the offset in ns (R129, R132): the servo steps, slews, locks or unlocks. -/
def servoMeasure (off : Int) (s : State) : State :=
  let s := (offsetSet off s).setB F.ALM_STATUS_RTC_SEEDED 0 false
  let mag := off.natAbs
  if s.servo = 1 then
    if s.alm.set.stepThreshold * 1000 ≤ mag then
      let s := { s with alm := { s.alm with lockRun := 0 } }
      if s.tableEmpty then
        let t := ((s.total : Int) + off).toNat
        (stepTo (t / 1000000000) (t % 1000000000) s).setB F.ALM_STATUS_TIME_VALID 0 true
      else
        (servoAddendSet (if 0 < off then addendMax else addendMin) s).setB F.ALM_STATUS_SLEWING 0 true
    else if (mag : Int) ≤ s.lockBound then
      let s := servoCorrect { s with alm := { s.alm with lockRun := s.alm.lockRun + 1 } }
      if 8 ≤ s.alm.lockRun then
        ((servoTo 2 s).setB F.ALM_STATUS_SLEWING 0 false).setB F.ALM_STATUS_TIME_VALID 0 true
      else s
    else servoCorrect { s with alm := { s.alm with lockRun := 0 } }
  else if s.servo = 2 then
    if s.unlockBound < (mag : Int) then servoCorrect (servoTo 1 s) else servoCorrect s
  else if s.servo = 3 then servoTo 1 s
  else s

/-- The mean of a list of addends; the present addend where none is held. -/
def meanAddend (s : State) : Nat :=
  match s.alm.addends with
  | [] => s.alm.addend
  | l => l.sum / l.length

/-- SERVO_HOLDOVER_TIMEOUT (R129): three intervals pass without a valid measurement. -/
def execServoHoldoverTimeout (s : State) : Host.Outcome State Fault Refusal :=
  ok s (if s.servo = 1 ∨ s.servo = 2 then servoTo 3 { s with alm := { s.alm with addend := meanAddend s } } else s)

/-- ALM_HOLD: whole seconds in HOLDOVER; 0 in other states (R122). -/
def State.holdSeconds (s : State) : Nat := if s.servo = 3 then (s.up - s.alm.holdSince) / 1000000000 else 0

/-! ## ALM_CTRL (R120, R129, R132, R149) -/

/-- ROLE takes effect: from FREE to a source the servo acquires in the next tick; to FREE it stops then and the addend holds (R129, R149). -/
def roleSet (role : Nat) (s : State) : State :=
  let old := s.role
  let s := s.setF F.ALM_CTRL_ROLE 0 role
  let s := if role = 1 then s else s.setB F.ALM_STATUS_GM_DEFERRED 0 false
  if role = 0 then { s.setB F.ALM_STATUS_SLEWING 0 false with alm := { s.alm with servoDue := some 0 } }
  else if old = 0 then { s with alm := { s.alm with servoDue := some 1 } }
  else s

/-- The checks of a write of ALM_CTRL, in the order of R224. -/
def ctrlCheck (v : Word) (s : State) : Code :=
  let role := F.ALM_CTRL_ROLE.of v
  let px48 := s.variant == .px48
  firstCode
    [ (F.ALM_CTRL_STEP.on v && decide (1000000000 ≤ s.getF F.ALM_SET_NS_SET_NS 0), .invalid),
      (px48 && (role == 1 || role == 2 || F.ALM_CTRL_CANSYNC_TX.on v), .absent),
      (! canFitted s.variant (F.ALM_CTRL_CANCH.of v), .absent),
      ((F.ALM_CTRL_STEP.on v && (role != 0 || ! s.tableEmpty)) ||
        claimBusy s (s.setF F.ALM_CTRL_CANCH 0 (F.ALM_CTRL_CANCH.of v)), .state) ]

/-- A write of ALM_CTRL: refused whole, or ROLE, CANCH and CANSYNC_TX take effect at acceptance and an accepted STEP is due. -/
def almCtrlWrite (v : Word) (s : State) : Code × State :=
  match ctrlCheck v s with
  | .accepted =>
    let before := s
    let s := (claimMove before ((roleSet (F.ALM_CTRL_ROLE.of v) s).setF F.ALM_CTRL_CANCH 0 (F.ALM_CTRL_CANCH.of v))).setB
      F.ALM_CTRL_CANSYNC_TX 0 (F.ALM_CTRL_CANSYNC_TX.on v)
    let due := ((s.rd .ALM_SET_SEC_LO 0).toNat + s.getF F.ALM_SET_SEC_HI_SET_SEC_HI 0 * 2 ^ 32, s.getF F.ALM_SET_NS_SET_NS 0)
    (.accepted, if F.ALM_CTRL_STEP.on v then { s with alm := { s.alm with stepDue := some due } } else s)
  | c => (c, almRefuse s)

/-- ROLE (R149): a write of ALM_CTRL. -/
def execAlmRole (m : Master) (v : Word) (s : State) : Host.Outcome State Fault Refusal :=
  let r := almCtrlWrite v s
  ok s (r.2.answered m (Reg.addr .ALM_CTRL 0) r.1)

/-- STEP (R132): a write of ALM_CTRL with STEP set. -/
def execAlmStepWrite (m : Master) (v : Word) (s : State) : Host.Outcome State Fault Refusal :=
  let r := almCtrlWrite (v ||| word (2 ^ F.ALM_CTRL_STEP.lo)) s
  ok s (r.2.answered m (Reg.addr .ALM_CTRL 0) r.1)

/-! ## PPS and the time message (R135, R136) -/

/-- The UTC data of a source: offset, leap flags and validity (R141). Bits as in 0x2200:0B. -/
def utcSet (u : Nat) (s : State) : State :=
  s.wr .ALM_UTC 0 (word (u % 2 ^ 19))

/-- Whether an edge at time `t` takes a message: committed at least 10 ms and at most 990 ms before it (R135); one committed in the tick of an edge
is for the next edge, about 1 s later, within the 1 ms of R136 (R152; DEDUCED, assumption 50). -/
def TimeMessage.forEdge (m : TimeMessage) (t : Nat) : Bool :=
  decide (m.commit + 10000000 ≤ t ∧ t ≤ m.commit + (if m.atEdge then 1001000000 else 990000000))

/-- The message that an edge at time `t` takes. -/
def messageFor (t : Nat) (s : State) : Option TimeMessage := s.alm.message.filter (·.forEdge t)

/-- A message waiting at an edge in the tick of its commit applies to the next edge (R152). -/
def messageKept (s : State) : State :=
  match s.alm.message with
  | some m => if m.commit = s.total then { s with alm := { s.alm with message := some { m with atEdge := true } } } else s
  | none => s

/-- An edge is accepted within 1 s ± 1 ms of the previous accepted one; in ACQUIRE also with a committed message. -/
def ppsAccepted (t : Nat) (s : State) : Bool :=
  (match s.alm.lastPps with
   | some p => decide (p + 999000000 ≤ t ∧ t ≤ p + 1001000000)
   | none => false) || (s.servo == 1 && (messageFor t s).isSome)

/-- The second that an accepted edge is named for: the message's, else one more than the previous edge's (DEDUCED, assumption 12). -/
def ppsNamed (t : Nat) (s : State) : Option Nat :=
  match messageFor t s with
  | some m => some m.second
  | none => s.alm.ppsSecond.map (· + 1)

/-- The stamp of a PPS edge that is seen now, ns of full time: synchronizer and front end are taken off (R145). -/
def ppsStamp (s : State) : Nat := s.total - (16 + Config.ppsFrontEnd)

/-- A PPS edge. The time message gives the UTC data while the module takes PPS as its source (R135, R137, R141). -/
def ppsEdge (s : State) : State :=
  let t := ppsStamp s
  let m := messageFor t s
  let s := messageKept { s with alm := { s.alm with ppsAt := some s.up } }
  if ppsAccepted t s then
    let named := ppsNamed t s
    let s1 := match m with
      | some x =>
        let s0 := { s with alm := { s.alm with message := none } }
        if s.servoRole = 1 then utcSet x.utc s0 else s0
      | none => s
    let s2 := { s1 with alm := { s1.alm with lastPps := some t, ppsSecond := named } }
    let s3 := (s2.wr .ALM_PPS_STAMP 0 (word t)).setB F.ALM_STATUS_PPS_OK 0 true
    match named with
    | some n => if s3.servoRole = 1 then servoMeasure ((n * 1000000000 : Nat) - (t : Int)) s3 else s3
    | none => s3
  else { s with alm := { s.alm with ppsIgnored := s.alm.ppsIgnored + 1 } }

/-- PPS_EDGE (R136): PPS_IN is ignored while the Switch domain is off, and the Almanac takes nothing while it is stopped (R22, R80). -/
def execPpsEdge (s : State) : Host.Outcome State Fault Refusal := ok s (if s.almRuns then ppsEdge s else s)

/-- PPS_OK_TIMEOUT (R136): 3 s without an accepted edge. -/
def execPpsOkTimeout (s : State) : Host.Outcome State Fault Refusal := ok s (s.setB F.ALM_STATUS_PPS_OK 0 false)

/-- A write of 0x2200:0A commits the time message; an earlier one still waiting is discarded and counted (R135, R152, R153). -/
def timeMessageCommit (sec : Nat) (s : State) : Code × State :=
  if s.role ≠ 1 then (.state, s)
  else
    let n := if s.alm.message.isSome then s.alm.discarded + 1 else s.alm.discarded
    (.accepted, { s with alm := { s.alm with
      discarded := n
      message := some { second := sec % 2 ^ 48, utc := s.alm.utcStaged, commit := s.total, atEdge := s.alm.ppsAt == some s.up } } })

/-- TIME_MESSAGE_COMMIT (R135). -/
def execTimeMessageCommit (p : DPath) (sec : Nat) (s : State) : Host.Outcome State Fault Refusal :=
  let r := timeMessageCommit sec s
  ok s (r.2.objDone p 0x2200 0x0A r.1)

/-- TIME_MESSAGE_DISCARD (R135): no edge came in the message's window. -/
def execTimeMessageDiscard (s : State) : Host.Outcome State Fault Refusal :=
  ok s (match s.alm.message with
    | some _ => { s with alm := { s.alm with message := none, discarded := s.alm.discarded + 1 } }
    | none => s)

/-! ## CAN sync (R139, R140, R152) -/

/-- Bytes in big-endian order as a number. -/
def beNat (l : List Byte) : Nat := leNat l.reverse

/-- Bytes `i` to `i + k - 1` of a frame, big-endian. -/
def beField (d : List Byte) (i k : Nat) : Nat := beNat ((d.drop i).take k)

/-- Byte `i` of a frame. -/
def byteAt (d : List Byte) (i : Nat) : Nat := (d.getD i 0).toNat

/-- A TSYNC as a follower takes it: flags are its byte 1, bits [3:0]. -/
def tsyncOf (d : List Byte) (sof : Nat) : TsyncWait :=
  { seq := byteAt d 1 / 16, flags := byteAt d 1 % 16, utc := beField d 2 2, sof := sof }

/-- The CAN channel of the sync pair, whose partner is muted on interface 3 (R481). -/
def syncMuted (s : State) : Bool := s.mutedPartner 3 (s.getF F.ALM_CTRL_CANCH 0 * 65536)

/-- TSYNC (R139): received and stamped, awaiting its FUP; a TSYNC still waiting is discarded (R152). -/
def execTsync (d : List Byte) (sof : Nat) (s : State) : Host.Outcome State Fault Refusal :=
  ok s (if s.role = 3 ∧ d.length = 8 ∧ byteAt d 0 = 0x10 ∧ ! syncMuted s then
      { s with alm := { s.alm with tsync := some (tsyncOf d sof) } }
    else s)

/-- The second whose low 16 bits are `lo` and which lies nearest `ref` (R140). -/
def nearestSecond (lo ref : Nat) : Nat :=
  let a := ref / 65536 * 65536 + lo
  if a + 32768 < ref then a + 65536 else if ref + 32768 < a ∧ 65536 ≤ a then a - 65536 else a

/-- The reference second of R140: the Almanac's own while it is valid and LOCKED or in HOLDOVER; else the last TIME object's,
converted with the TSYNC's UTC offset. R140 bars a pair only where TIME_VALID is clear and the TIME object or UTC_VALID is lacking: DEDUCED
(assumption 50), with TIME_VALID set a TIME object is used though UTC_VALID is clear, and without one the Almanac's own second. -/
def syncReference (w : TsyncWait) (s : State) : Option Nat :=
  if s.flag F.ALM_STATUS_TIME_VALID 0 ∧ (s.servo = 2 ∨ s.servo = 3) then some s.alm.sec
  else match s.alm.timeObject with
    | some u => if w.flags % 2 = 1 ∨ s.flag F.ALM_STATUS_TIME_VALID 0 then some (Int.toNat ((u : Int) + signedOf 16 w.utc)) else none
    | none => if s.flag F.ALM_STATUS_TIME_VALID 0 then some s.alm.sec else none

/-- The UTC word of a TSYNC: offset in [15:0], LEAP61, LEAP59 and UTC_VALID as in ALM_UTC. -/
def tsyncUtc (w : TsyncWait) : Nat :=
  w.utc + 65536 * (w.flags / 4 % 2) + 131072 * (w.flags / 2 % 2) + 262144 * (w.flags % 2)

/-- A FUP received now. One of another SEQ is discarded and counted; the TSYNC goes on waiting for its own (R140, R152). -/
def fupReceive (d : List Byte) (s : State) : State :=
  let s1 := { s with alm := { s.alm with tsync := none } }
  match s.alm.tsync with
  | none => s
  | some w =>
    if byteAt d 1 / 16 ≠ w.seq then s.violation 3 0x05 (s.getF F.ALM_CTRL_CANCH 0 * 65536)
    else if w.sof + 100000000 < s.total then s1
    else
      match syncReference w s with
      | none => s1
      | some ref =>
        let sec := nearestSecond (beField d 6 2) ref
        let t : Nat := sec * 1000000000 + beField d 2 4 % 2 ^ 30 + s.getF F.ALM_CANSYNC_PROP 0
        servoMeasure ((t : Int) - (w.sof : Int)) (utcSet (tsyncUtc w) s1)

/-- FUP (R140). -/
def execFup (d : List Byte) (s : State) : Host.Outcome State Fault Refusal :=
  ok s (if s.role = 3 ∧ d.length = 8 ∧ byteAt d 0 = 0x18 ∧ ! syncMuted s then fupReceive d s else s)

/-- TSYNC_TIMEOUT (R152): no FUP within 100 ms. -/
def execTsyncTimeout (s : State) : Host.Outcome State Fault Refusal :=
  ok s { s with alm := { s.alm with tsync := none } }

/-- A frame of the sync pair leaves, while its channel takes part on its bus. DESIGN CHOICE (assumption 51): it leaves at once, and mailboxes 30 and
31 do not show it. -/
def canSyncSend (id : Nat) (d : List Byte) (s : State) : State :=
  let ch := s.getF F.ALM_CTRL_CANCH 0
  if s.canOn ch && s.canSends ch then s.emit (.canFrame ch id d) else s

/-- Whether this module produces the CAN sync pair (R120, R139). -/
def State.producesSync (s : State) : Bool := s.role == 1 && s.flag F.ALM_CTRL_CANSYNC_TX 0

/-- The data of a TSYNC sent now (R139). -/
def tsyncData (s : State) : List Byte :=
  let u := (s.rd .ALM_UTC 0).toNat
  let off := u % 65536
  [0x10, byte ((s.alm.txSeq * 16 : Nat) + 8 * b01 (s.servo == 2) + 4 * (u / 65536 % 2) + 2 * (u / 131072 % 2) + u / 262144 % 2),
   byte (off / 256), byte off, 0, 0, 0, 0]

/-- CAN_SYNC_PRODUCE (R139): the sync period ends; ALM_CANSYNC applies at the start of the next (R149), and a producer sends TSYNC. -/
def execCanSyncProduce (s : State) : Host.Outcome State Fault Refusal :=
  let s0 := s.applyHeld .ALM_CANSYNC 0
  ok s (if s0.producesSync then
      let s1 := canSyncSend (s0.getF F.ALM_CANSYNC_ID 0) (tsyncData s0) s0
      { s1 with alm := { s1.alm with txFup := some s0.alm.txSeq, txSeq := (s0.alm.txSeq + 1) % 16 } }
    else s0)

/-- The data of a FUP for a start of frame at `sof` ns of full time (R139). -/
def fupData (seq sof : Nat) : List Byte :=
  let ns := sof % 1000000000
  let sec := sof / 1000000000
  [0x18, byte (seq * 16)] ++ (leBytes 4 ns).reverse ++ (leBytes 2 sec).reverse

/-- CAN_SYNC_FUP_SEND (R139): the TSYNC's start-of-frame stamp is known. -/
def execCanSyncFupSend (sof : Nat) (s : State) : Host.Outcome State Fault Refusal :=
  ok s (match s.alm.txFup with
    | some q =>
      let s1 := canSyncSend (s.getF F.ALM_CANSYNC_ID 0 + 1) (fupData q sof) s
      { s1 with alm := { s1.alm with txFup := none } }
    | none => s)

/-! ## The ALM registers (R120 to R128, R149) -/

/-- The checks of ALM_CANSYNC (R125). -/
def cansyncOk (v : Word) : Bool :=
  let id := F.ALM_CANSYNC_ID.of v
  let per := F.ALM_CANSYNC_PERIOD.of v
  decide (1 ≤ id ∧ id ≤ 0x7FE ∧ 1 ≤ per ∧ per ≤ 32 ∧ F.ALM_CANSYNC_PROP.of v ≤ 1000)

/-- A write of an ALM register. Bits of read-only fields are ignored. -/
def almWrite (r : Reg) (n : Nat) (v : Word) (s : State) : Code × State :=
  match r with
  | .ALM_CTRL => almCtrlWrite v s
  | .ALM_STATUS => (.accepted, if F.ALM_STATUS_REFUSED.on v then s.setB F.ALM_STATUS_REFUSED 0 false else s)
  | .ALM_ADDEND_LO | .ALM_SET_SEC_LO | .ALM_SET_SEC_HI | .ALM_SET_NS => (.accepted, s.wrMasked r n v)
  | .ALM_ADDEND_HI => addendHiWrite v s
  | .ALM_CANSYNC =>
    if cansyncOk v then (.accepted, s.hold .ALM_CANSYNC 0 (v &&& word Reg.ALM_CANSYNC.desc.rw)) else (.invalid, almRefuse s)
  | .ALM_PHYCAL =>
    if F.ALM_PHYCAL_ATTRIB.of v = 3 then (.invalid, s)
    else (.accepted, s.hold .ALM_PHYCAL n v)
  | _ => (.accepted, s)

/-- The apply point of an ALM register: ATTRIB alone of ALM_PHYCALn comes into force (R149). -/
def almApply (r : Reg) (n : Nat) (s : State) : State :=
  match r, s.heldOf r n with
  | .ALM_PHYCAL, some h => (s.unhold r n).setF F.ALM_PHYCAL_ATTRIB n (F.ALM_PHYCAL_ATTRIB.of h)
  | _, _ => s.applyHeld r n

/-- A read of an ALM register: latched registers in the master's bank, live ones from the Almanac. -/
def almRead (m : Master) (r : Reg) (n : Nat) (s : State) : Word × State :=
  match r with
  | .ALM_SEC_LO => readSecLo m s
  | .ALM_SHORT => readShort m s
  | .ALM_SEC_HI | .ALM_NS | .ALM_SHORT_LAT | .ALM_WRAP => (s.rd r (bk m 0), s)
  | .ALM_ADDEND_LO => (word s.alm.addend, s)
  | .ALM_ADDEND_HI => (word (s.alm.addend / 2 ^ 32), s)
  | .ALM_HOLD => (word s.holdSeconds, s)
  | _ => (s.rd r n, s)

/-! ## gPTP (R137, R138, R146 to R148) -/

/-- The gPTP state of a port. -/
def State.ptpPort (s : State) (p : Nat) : PtpPort := tabGet {} s.alm.ports p

def State.setPtpPort (s : State) (p : Nat) (v : PtpPort) : State :=
  { s with alm := { s.alm with ports := tabSet {} s.alm.ports p v } }

/-- The ports a gPTP message goes out on, but one: the fitted ports that are up and asCapable, and the internal port, 8, while the switch runs
(R146). -/
def State.ptpPortsBut (s : State) (p : Nat) : List Nat :=
  (List.range 9).filter fun k => k != p &&
    (if k = 8 then s.dom.comms && s.variant != .px48 && s.flag F.ETH_CTRL_EN 0 && s.flag F.ETH_PCFG_EN 8 else ethFitted s.variant k && (s.ptpPort k).asCapable)

/-- All of them. -/
def State.ptpPorts (s : State) : List Nat := s.ptpPortsBut 9

/-! The stamps of a port refer to its MDI (R145): what the MAC takes is corrected by the PHY's factory latency and by the port's part of ADJ, which is
divided between ingress and egress in the factory ratio (R148). Units of 1/16 ns. -/

/-- ADJ of a port, and its parts. -/
def State.adj (s : State) (p : Nat) : Int := signedOf 12 (s.getF F.ALM_PHYCAL_ADJ p)
def State.adjIngress (s : State) (p : Nat) : Int := s.adj p * ((Config.phyRatio p % 65537 : Nat) : Int) / 65536
def State.adjEgress (s : State) (p : Nat) : Int := s.adj p - s.adjIngress p

/-- What is taken off an ingress stamp and put on an egress stamp. -/
def State.phyIn (s : State) (p : Nat) : Int := (Config.phyIngress p : Int) + s.adjIngress p
def State.phyOut (s : State) (p : Nat) : Int := (Config.phyEgress p : Int) + s.adjEgress p

/-- A short-time stamp of the MAC, corrected to the MDI: of a frame received, and of one sent. -/
def State.stampIn (s : State) (p t : Nat) : Nat := codeOf 32 (roundDiv ((t : Int) * 16 - s.phyIn p) 16)
def State.stampOut (s : State) (p t : Nat) : Nat := codeOf 32 (roundDiv ((t : Int) * 16 + s.phyOut p) 16)

/-- A gPTP message that is malformed, of another domain or on a port that is not asCapable counts as a violation (R147). -/
def ptpBad (s : State) (bad : Bool) (domain : Nat) (port : Nat) : Bool :=
  bad || domain != s.alm.set.domain || ! (s.ptpPort port).asCapable

/-- Whether the port is the slave port: the one the selected grandmaster is heard on. -/
def State.slavePort (s : State) (p : Nat) : Bool :=
  match s.alm.gm with
  | some a => a.port.val == p
  | none => false

/-- A duration scaled by the rate ratio, which is a FREE VALUE (R138, R147). -/
def rateScaled (k : Nat) (x : Int) : Int := x + x * Config.rateRatio k / 2 ^ 41

/-- The ingress stamp of a Sync at the MDI, in 1/16 ns. -/
def syncIngress (m : PtpSync) (s : State) : Int := (m.ingress : Int) * 16 - s.phyIn m.port.val

/-- The offset of a Sync: origin time, plus correction, plus mean link delay, minus ingress stamp, to the nearest ns (R138). The rate ratio scales the
duration measured on this module, which is the link delay; origin and correction come in the grandmaster's time, and a time of day is not scaled
(PRESUMED, assumption 50: 802.1AS-2020). -/
def syncOffset (m : PtpSync) (s : State) : Int :=
  roundDiv (((m.origin : Int) + m.corr) * 16 + rateScaled s.fresh (s.ptpPort m.port.val).delay - syncIngress m s) 16

/-- The correction field of a Sync that is forwarded: mean link delay and residence time, a FREE VALUE, are added (R147). -/
def syncCorrection (m : PtpSync) (s : State) : Int :=
  m.corr + roundDiv (rateScaled s.fresh ((s.ptpPort m.port.val).delay + Config.residence s.fresh * 16)) 16

/-- A Sync forwarded to the other ports: one-step in the frame itself, two-step in its Follow_Up (R147). -/
def syncForward (m : PtpSync) (s : State) : State :=
  let c := syncCorrection m s
  (s.emits ((s.ptpPortsBut m.port.val).map fun k => if m.twoStep then .ptpFollowUp k m.seq m.origin c else .ptpSync k m.origin c)).used

/-- A complete Sync on the slave port: measured for the follower servo, and forwarded. -/
def syncComplete (m : PtpSync) (s : State) : State :=
  let s := if s.servoRole = 2 then (servoMeasure (syncOffset m s) s).used else s
  syncForward m s

/-- An 802.1AS Sync or Follow_Up received. -/
def ptpSyncReceive (m : PtpSync) (s : State) : State :=
  if s.mutedPartner 6 m.port.val then s
  else if ptpBad s m.bad m.domain m.port.val then s.violation 6 0x0A m.port.val
  else if ! s.slavePort m.port.val then s
  else if m.followUp then
    match s.alm.twoStep with
    | some w =>
      if w.seq = m.seq ∧ w.port = m.port then
        syncComplete { w with origin := m.origin, corr := w.corr + m.corr } { s with alm := { s.alm with twoStep := none } }
      else s
    | none => s
  else if m.twoStep then
    { s.emits ((s.ptpPortsBut m.port.val).map fun k => .ptpSyncTwo k m.seq) with alm := { s.alm with twoStep := some m } }
  else syncComplete m s

/-- SYNC (R138). -/
def execPtpSync (m : PtpSync) (s : State) : Host.Outcome State Fault Refusal := ok s (ptpSyncReceive m s)

/-- The module is grandmaster of the gPTP domain: ROLE is GM and the BMCA selects no other (R137). -/
def State.isGrandmaster (s : State) : Bool := s.role == 1 && ! s.flag F.ALM_STATUS_GM_DEFERRED 0

/-- SYNC_TRANSMIT (R146): as grandmaster, a one-step Sync on every port. -/
def execSyncTransmit (s : State) : Host.Outcome State Fault Refusal :=
  ok s (if s.isGrandmaster then s.emits (s.ptpPorts.map fun k => .ptpSync k s.total 0) else s)

/-- The clock class announced in GM role (R137). -/
def State.clockClass (s : State) : Nat := if s.servo = 2 then 6 else if s.servo = 3 then 7 else 248

/-- The priority1 announced: 255 for a follower, which is not grandmaster-capable (R138). -/
def State.priority1 (s : State) : Nat := if s.role = 1 then s.alm.set.priority1 else 255

/-- The ranking of a clock, in the order the BMCA compares. -/
def rankOf (a : Announce) : List Nat :=
  [a.priority1, a.clockClass, a.accuracy, a.variance, a.priority2, a.identity, a.stepsRemoved]

/-- This module's own ranking. -/
def State.ownRank (s : State) : List Nat :=
  [s.priority1, s.clockClass, Config.clockAccuracy, Config.clockVariance, s.alm.set.priority2, Config.clockIdentity, 0]

/-- The first differing place decides; equal lists are not better. -/
def rankBetter : List Nat → List Nat → Bool
  | a :: s, b :: t => if a < b then true else if b < a then false else rankBetter s t
  | _, _ => false

/-- The UTC word of an Announce. -/
def announceUtc (a : Announce) : Nat :=
  codeOf 16 a.utcOffset + 65536 * b01 a.leap61 + 131072 * b01 a.leap59 + 262144 * b01 a.utcValid

/-- The BMCA with a new Announce: the selected clock is refreshed, or a better one takes its place. -/
def bmcaSelect (a : Announce) (s : State) : Option Announce :=
  match s.alm.gm with
  | some g =>
    if g.identity = a.identity ∨ g.port = a.port ∨ rankBetter (rankOf a) (rankOf g) then some a else some g
  | none => some a

/-- GM_DEFERRED and the servo after the BMCA has run: a grandmaster defers to a better clock, and acquires anew when it is selected
again; a change of grandmaster while LOCKED goes to ACQUIRE (R137, R152). -/
def bmcaAct (old : Option Announce) (s : State) : State :=
  match s.alm.gm with
  | none => s
  | some g =>
    let changed : Bool := match old with
      | some o => o.identity != g.identity
      | none => true
    if s.role = 1 then
      let defer := rankBetter (rankOf g) s.ownRank
      if defer = s.flag F.ALM_STATUS_GM_DEFERRED 0 then (if defer ∧ changed ∧ s.servo = 2 then servoTo 1 s else s)
      else servoTo 1 (s.setB F.ALM_STATUS_GM_DEFERRED 0 defer)
    else if s.role = 2 ∧ changed ∧ s.servo = 2 then servoTo 1 s
    else s

/-- An Announce received. -/
def announceReceive (a : Announce) (s : State) : State :=
  if s.mutedPartner 6 a.port.val then s
  else if ptpBad s a.bad a.domain a.port.val then s.violation 6 0x0A a.port.val
  else
    let old := s.alm.gm
    let sel := bmcaSelect a s
    let s1 := bmcaAct old { s with alm := { s.alm with gm := sel, gmAt := if sel = some a then s.up else s.alm.gmAt } }
    if s1.servoRole = 2 ∧ s1.slavePort a.port.val then utcSet (announceUtc a) s1 else s1

/-- ANNOUNCE (R137). -/
def execAnnounce (a : Announce) (s : State) : Host.Outcome State Fault Refusal := ok s (announceReceive a s)

/-- The selected clock is no longer heard: the BMCA selects this module again, and a deferred grandmaster returns to PPS in ACQUIRE (R137). -/
def gmLost (s : State) : State :=
  let s1 := { s with alm := { s.alm with gm := none, twoStep := none } }
  if s.role = 1 ∧ s.flag F.ALM_STATUS_GM_DEFERRED 0 then servoTo 1 (s1.setB F.ALM_STATUS_GM_DEFERRED 0 false) else s1

/-- The announce receipt timeout of the slave port: 3 announce intervals of 1 s (R146; PRESUMED, assumption 50: 802.1AS-2020's default of 3). -/
def gmExpire (s : State) : State := if s.alm.gm.isSome ∧ s.alm.gmAt + 3000000000 ≤ s.up then gmLost s else s

/-- An Announce on every port, with the clock quality of R137 and R138. -/
def announceSend (s : State) : State := s.emits (s.ptpPorts.map fun k => .ptpAnnounce k s.priority1 s.clockClass s.alm.set.priority2)

/-- ANNOUNCE_TRANSMIT (R146). -/
def execAnnounceTransmit (s : State) : Host.Outcome State Fault Refusal := ok s (announceSend (gmExpire s))

/-- PDELAY_REQUEST_TRANSMIT (R146). -/
def execPdelayRequestTransmit (p : Fin 8) (s : State) : Host.Outcome State Fault Refusal :=
  ok s (if ethFitted s.variant p.val ∧ (s.ptpPort p.val).linkUp then s.emit (.pdelayReq p.val) else s)

/-- One step of ADJ towards its target, by at most 1/16 ns per 8 s (R148). -/
def adjToward (cur target : Int) : Int := if cur < target then cur + 1 else if target < cur then cur - 1 else cur

/-- The calibration of a port after its baseline (R148): `delay` is the filtered mean link delay in 1/16 ns. -/
def phyAdjust (p delay : Nat) (s : State) : State :=
  let att := s.getF F.ALM_PHYCAL_ATTRIB p
  let base := s.getF F.ALM_PHYCAL_BASE p
  let cur := signedOf 12 (s.getF F.ALM_PHYCAL_ADJ p)
  let diff : Int := (delay : Int) - base
  let target := if att = 2 then diff else Int.tdiv diff 2
  let port := s.ptpPort p
  if att = 0 ∨ s.up < port.adjAt + 8000000000 then s
  else
    let want := adjToward cur target
    let adj := clampInt (-256) 256 want
    let s1 := (s.setF F.ALM_PHYCAL_ADJ p (codeOf 12 adj)).setPtpPort p { port with adjAt := s.up }
    if adj = 256 ∨ adj = -256 then
      let s2 := s1.setB F.ALM_PHYCAL_LIMIT p true
      if s.flag F.ALM_PHYCAL_LIMIT p then s2 else s2.raise (144 + p) (codeOf 12 adj)
    else s1.setB F.ALM_PHYCAL_LIMIT p false

/-- A peer-delay exchange completes with the filtered mean link delay in 1/16 ns (R146, R148). -/
def peerDelay (p delay : Nat) (s : State) : State :=
  let s := almApply .ALM_PHYCAL p s
  let port := s.ptpPort p
  let port1 := { port with delay := delay, exchanges := port.exchanges + 1, asCapable := decide (delay ≤ 800 * 16) }
  let s1 := s.setPtpPort p port1
  if port1.exchanges = 16 then
    ((s1.setF F.ALM_PHYCAL_BASE p delay).setB F.ALM_PHYCAL_BASE_VALID p true).setPtpPort p { port1 with adjAt := s.up }
  else if s1.flag F.ALM_PHYCAL_BASE_VALID p then phyAdjust p delay s1
  else s1

/-- PEER_DELAY_EXCHANGE (R148). -/
def execPeerDelayExchange (p : Fin 8) (delay : Nat) (s : State) : Host.Outcome State Fault Refusal :=
  ok s (if ethFitted s.variant p.val ∧ (s.ptpPort p.val).linkUp then peerDelay p.val delay s else s)

/-! ## The RTC and aged records (R134, R143) -/

/-- The RTC's present time as its starting point, so that a new TRIM acts from now on. -/
def State.rtcRebase (s : State) : State :=
  { s with alm := { s.alm with rtcSec := s.rtcNow.1, rtcSub := s.rtcNow.2, rtcAt := s.up } }

/-- The RTC is to be loaded at the Almanac's next whole second; while LOCKED its TRIM is updated from the comparison, a FREE VALUE (R143). -/
def rtcAlign (s : State) : State :=
  let s1 := { s with alm := { s.alm with rtcLoad := true } }
  if s.servo = 2 then
    (s1.rtcRebase.setF F.NET_RTC_TRIM_TRIM 0 (codeOf 16 (clampInt (-2000) 2000 (Config.rtcTrim s.fresh)))).used
  else s1

/-- RTC_ALIGN (R143): every 64 s while TIME_VALID is set. -/
def execRtcAlign (s : State) : Host.Outcome State Fault Refusal :=
  ok s (if s.flag F.ALM_STATUS_TIME_VALID 0 then rtcAlign s else s)

/-- The queue that a name of R134 stands for, where the module holds it as a record queue. -/
def stampQ : StampQueue → Option QId
  | .milestone => some .milestone
  | .lin c => some (.lin c.val)
  | .sinEdge => some .edge
  | .fioChange => some .field
  | .wcuCapture n => some (.capture n.val)
  | .vlvEvent => some .valve
  | .canQueue n q => some (.can n.val q.val)
  | .ethRing _ => none

end Sys2Proof.Machine
end

