-- ==== Sys2Proof/Machine/Sensing.lean ====
section
/-!
DEFINITION. Machine/Sensing.lean: the measurement of the channels (08_current_sensing.md): samples in class units, stage edges, the gain window
and the signature capture as the channels' own operations see them. The commands stand in SensingCommands.lean.
-/
namespace Sys2Proof.Machine

/-- The measurement of a channel. -/
def State.snsCh (s : State) (n : Nat) : SnsChan := tabGet {} s.sns n

def State.setSns (s : State) (n : Nat) (c : SnsChan) : State := { s with sns := tabSet {} s.sns n c }

/-- The unit of VALUE, µA (R261). -/
def snsUnit (n : Nat) : Nat := byClass n 10000 4000 1000

/-- VALUE as a signed number. -/
def State.snsValue (s : State) (n : Nat) : Int := signedOf 16 (s.getF F.SNS_VAL_VALUE n)

/-- The latest sample in mA; reverse current is negative (R105, R261). -/
def State.snsMa (s : State) (n : Nat) : Int := s.snsValue n * ((snsUnit n / 1000 : Nat) : Int)

/-- The reference of a gain window is removed before its close (R275). -/
def GainWin.abort (w : GainWin) : GainWin := { w with aborted := true }

/-- A capture in progress will be skipped (R271). -/
def SnsChan.skipped (c : SnsChan) : SnsChan := { c with cap := c.cap.map fun x => { x with skip := true } }

/-- A capture of the channel in progress will be skipped: its drive line has gone inactive (R271). -/
def sigSkip (n : Nat) (s : State) : State := s.setSns n (s.snsCh n).skipped

/-- The stage of a channel has switched: an edge for the samples (R261); a switch-off ends a gain window and a clean capture (R271, R275). -/
def snsEdge (n : Nat) (on : Bool) (s : State) : State :=
  let c := { s.snsCh n with edgeAt := some s.up }
  s.setSns n (if on then c else { c.skipped with win := c.win.map GainWin.abort })

/-- A stage edge fell inside the last `w` ns. -/
def State.snsEdgeIn (s : State) (n w : Nat) : Bool :=
  match (s.snsCh n).edgeAt with
  | some t => decide (s.up < t + w)
  | none => false

/-- The learning of a channel starts again (R272). -/
def sigForget (n : Nat) (s : State) : State :=
  let s1 := s.setSns n { s.snsCh n with relearn := false, sums := [], squares := [], mean := [], spread := [], peak := 0 }
  (((s1.setF F.SNS_SIGSTAT_LEARNED n 0).setB F.SNS_SIGSTAT_LEARNT n false).setF F.SNS_SIGPK_PEAK n 0).setF F.SNS_SIGHIST_DEGN n 0
    |>.setF F.SNS_SIGHIST_CHGN n 0

/-- A heavy or medium channel's stage switches on by an OFF→ON transition: a relearn takes effect and a capture begins (R271, R272). One that still
runs ends SKIPPED: its stage has switched off. `skip`: this one will be skipped. -/
def sigStart (n volt : Nat) (skip : Bool) (s : State) : State :=
  if 64 ≤ n then s
  else
    let s0 := if (s.snsCh n).cap.isSome then s.setF F.SNS_SIGSTAT_VERDICT n 4 else s
    let s1 := if (s0.snsCh n).relearn then sigForget n s0 else s0
    if s1.flag F.SNS_SIGCFG_SIG_EN n then
      let x : Capture :=
        { skip := skip, volt := volt, tol := s1.getF F.SNS_SIGCFG_TOL n, deg := s1.getF F.SNS_SIGCFG_DEG_LIM n,
          chg := s1.getF F.SNS_SIGCFG_CHG_LIM n }
      s1.setSns n { s1.snsCh n with cap := some x }
    else s1

/-- The feed of these channels dips or leaves the Full band: a gain window will be discarded and a capture is skipped (R271, R275). -/
def snsDisturb (l : List Nat) (s : State) : State :=
  l.foldl (fun t n =>
    let c := t.snsCh n
    t.setSns n { c.skipped with win := c.win.map fun w => { w with spoiled := true } }) s

/-- PARK entry reaches the Switch domain: every gain window ends as at a switch-off; no stage changes (R275). -/
def snsPark (s : State) : State :=
  (List.range 96).foldl (fun t n =>
    let c := t.snsCh n
    if c.win.isSome then t.setSns n { c with win := c.win.map GainWin.abort } else t) s

end Sys2Proof.Machine
end

