-- ==== Sys2Proof/Machine/Waveform.lean ====
section
/-!
DEFINITION. Machine/Waveform.lean: the waveform and capture unit (05_milestones_timers.md, R178 to R193): counters, compare channels, captures
and the writes and reads of the WCU registers. The commands of the unit stand in WaveformCommands.lean, where a waveform output also drives the
channels and field points that select it.
-/
namespace Sys2Proof.Machine

/-- A compare channel. -/
def State.tw (s : State) (n : Nat) : WcuChan := tabGet {} s.wcuChan n

def State.setTw (s : State) (n : Nat) (c : WcuChan) : State := { s with wcuChan := tabSet {} s.wcuChan n c }

/-- The counter is running. -/
def State.wcuRuns (s : State) (c : Nat) : Bool := s.flag F.WCU_STAT_RUN c

/-- The counter counts down. -/
def State.wcuDown (s : State) (c : Nat) : Bool := s.flag F.WCU_STAT_DIR c

def State.wcuCount (s : State) (c : Nat) : Nat := (s.rd .WCU_CNT c).toNat
def State.wcuTop (s : State) (c : Nat) : Nat := (s.rd .WCU_TOP c).toNat

/-- Up/down mode. -/
def State.wcuUpDown (s : State) (c : Nat) : Bool := s.flag F.WCU_CTRL_MODE c

/-- The channels of a counter (R178). -/
def wcuChans (c : Nat) : List Nat := [4 * c, 4 * c + 1, 4 * c + 2, 4 * c + 3]

/-- A prompt channel is channel 0 of its counter (R182). -/
def wcuPrompt (n : Nat) : Bool := n % 4 == 0

/-- TWn is a compare channel. -/
def State.twCompare (s : State) (n : Nat) : Bool := s.getF F.WCU_CCTRL_FUNC n == 1

/-- The level of TWn (R184): IDLE while the counter is stopped or FUNC is not compare; else the active state with OPOL applied. -/
def State.twLevel (s : State) (n : Nat) : Bool :=
  if s.twCompare n && s.wcuRuns (n / 4) then xor (s.tw n).active (s.flag F.WCU_CCTRL_OPOL n)
  else s.flag F.WCU_CCTRL_IDLE n

/-! ## Pending settings (R35, R180, R191) -/

/-- A channel's settings apply; ARM is not one of them. -/
def wcuCctrlApply (s : State) (n : Nat) : State :=
  match s.heldOf .WCU_CCTRL n with
  | none => s
  | some h =>
    let armed := s.getF F.WCU_CCTRL_ARM n
    ((s.unhold .WCU_CCTRL n).wr .WCU_CCTRL n h).setF F.WCU_CCTRL_ARM n armed

/-- Every setting pending for a counter's period boundary applies. -/
def wcuApplySettings (c : Nat) (s : State) : State :=
  (wcuChans c).foldl wcuCctrlApply (s.applyAll [.WCU_CTRL, .WCU_TOP] c)

/-- A setting of the counter or of one of its channels waits. -/
def State.wcuPend (s : State) (c : Nat) : Bool :=
  (s.heldOf .WCU_CTRL c).isSome || (s.heldOf .WCU_TOP c).isSome || (wcuChans c).any fun n => (s.heldOf .WCU_CCTRL n).isSome

/-! ## Matches (R183, R184) -/

/-- What a match does to the output: `down` is the direction in force. -/
def matchActive (omode : Nat) (upDown down : Bool) (cmp : Nat) (active : Bool) : Bool :=
  if omode = 0 then (if cmp = 0 then false else upDown && down)
  else if omode = 1 then true
  else if omode = 2 then false
  else !active

/-- A match of channel `n`. -/
def wcuMatch (n : Nat) (s : State) : State :=
  let c := n / 4
  let w := s.tw n
  let a := matchActive (s.getF F.WCU_CCTRL_OMODE n) (s.wcuUpDown c) (s.wcuDown c) (s.rd .WCU_CMP n).toNat w.active
  let s1 := s.setTw n { w with active := a, catchUp := false }
  if s.flag F.WCU_CCTRL_MIRQ n then s1.request c else s1

/-- The channel's catch-up match, where one is due. -/
def wcuCatchUp (s : State) (n : Nat) : State :=
  if (s.tw n).catchUp && s.twCompare n && s.wcuRuns (n / 4) then wcuMatch n s else s

/-- The match of a landing: the channel compares, its value is the count, and it is not suppressed. -/
def wcuLanding (s : State) (n : Nat) : State :=
  if s.twCompare n && ! (s.tw n).suppressed && (s.rd .WCU_CMP n).toNat == s.wcuCount (n / 4) then wcuMatch n s else s

/-- A PWM output at a landing on 0 (R184): active, unless CMP is 0; in up/down mode only a CMP above TOP makes it active there. -/
def pwmAtZero (s : State) (n : Nat) : State :=
  let c := n / 4
  let cmp := (s.rd .WCU_CMP n).toNat
  let w := s.tw n
  if s.getF F.WCU_CCTRL_OMODE n ≠ 0 ∨ ¬ s.twCompare n then s
  else if cmp = 0 then s.setTw n { w with active := false }
  else if s.wcuUpDown c then (if s.wcuTop c < cmp then s.setTw n { w with active := true } else s)
  else s.setTw n { w with active := true }

/-! ## Start, stop and step (R178, R180, R190) -/

/-- The output of a channel at a start (R184). -/
def twAtStart (s : State) (n : Nat) : State :=
  let a := s.getF F.WCU_CCTRL_OMODE n == 0 && (s.rd .WCU_CMP n) != 0
  s.setTw n { active := a, suppressed := false, catchUp := false }

/-- A start: the count is 0, counting up, pending settings apply, and a compare value of 0 matches. A running counter is unchanged. -/
def wcuStart (c : Nat) (s : State) : State :=
  if s.wcuRuns c then s
  else
    let s1 := wcuApplySettings c s
    let s2 := (s1.wr .WCU_CNT c 0).wr .WCU_STAT c (word 1)
    let s3 := (wcuChans c).foldl twAtStart s2
    (wcuChans c).foldl wcuLanding s3

/-- A stop: the count is 0, the direction up, every pending setting applies and every output is at IDLE. A stopped counter is unchanged. -/
def wcuStop (c : Nat) (s : State) : State :=
  if ! s.wcuRuns c then s
  else
    let s1 := wcuApplySettings c s
    let s2 := ((s1.wr .WCU_CNT c 0).setB F.WCU_STAT_RUN c false).setB F.WCU_STAT_DIR c false
    (wcuChans c).foldl (fun t n => t.setTw n {}) s2

/-- The count that the next step lands on. -/
def State.wcuNextCount (s : State) (c : Nat) : Nat :=
  let k := s.wcuCount c
  if s.wcuUpDown c then (if s.wcuDown c then k - 1 else k + 1)
  else if s.wcuTop c ≤ k then 0 else k + 1

/-- A landing on 0: settings apply, the period is counted, suppression ends, PWM outputs begin (R178, R183, R184). -/
def wcuBoundary (c : Nat) (s : State) : State :=
  let s1 := wcuApplySettings c s
  let s2 := (s1.setF F.WCU_STAT_PERIODS c (s1.getF F.WCU_STAT_PERIODS c + 1)).setB F.WCU_STAT_DIR c false
  let s3 := (wcuChans c).foldl (fun t n => t.setTw n { t.tw n with suppressed := false }) s2
  (wcuChans c).foldl pwmAtZero s3

/-- One count step of a running counter: catch-up matches, the landing, and the matches of the landing. -/
def wcuStep (c : Nat) (s : State) : State :=
  if ! s.wcuRuns c then s
  else
    let s := (wcuChans c).foldl wcuCatchUp s
    let k := s.wcuNextCount c
    let s1 := s.wr .WCU_CNT c (word k)
    let s2 := if k = 0 then wcuBoundary c s1
      else if s.wcuUpDown c && k == s.wcuTop c then s1.setB F.WCU_STAT_DIR c true
      else s1
    (wcuChans c).foldl wcuLanding s2

/-! ## Writes -/

/-- A compare value is ahead of the count (R182). -/
def cmpAhead (s : State) (c v : Nat) : Bool :=
  if s.wcuDown c then decide (v < s.wcuCount c) else decide (s.wcuCount c < v ∧ v ≤ s.wcuTop c)

/-- A write of WCU_CMPn: in force in the next cycle and classified anew (R182, R183, R186). -/
def wcuCmpWrite (n : Nat) (v : Word) (s : State) : State :=
  let c := n / 4
  let s1 := s.wr .WCU_CMP n v
  if ! (s.wcuRuns c && s.twCompare n) then s1
  else
    let w := s.tw n
    if s.wcuTop c < v.toNat then s1.setTw n { w with catchUp := false }
    else if cmpAhead s c v.toNat then s1.setTw n { w with suppressed := false, catchUp := false }
    else if wcuPrompt n then s1.setTw n { w with catchUp := true }
    else s1.setTw n { w with suppressed := true }

/-- A setting applies at once while the counter is stopped; else at its period boundary. -/
def wcuHold (r : Reg) (n c : Nat) (v : Word) (s : State) : State :=
  let s1 := s.hold r n v
  if s.wcuRuns c then s1 else wcuApplySettings c s1

/-- A write of WCU_CTRLc (R179, R180). -/
def wcuCtrlWrite (c : Nat) (v : Word) (s : State) : Code × State :=
  let code := firstCode
    [ (F.WCU_CTRL_MODE.on v && s.next .WCU_TOP c == 1, .invalid),
      (F.WCU_CTRL_EN.on v && tabGet false s.wcuBlocked c, .state) ]
  if code ≠ .accepted then (code, s)
  else
    let s1 := wcuHold .WCU_CTRL c c (v &&& word 0x3FFFE) s
    (.accepted, if F.WCU_CTRL_EN.on v then wcuStart c s1 else wcuStop c s1)

/-- A write of WCU_TOPc (R179). -/
def wcuTopWrite (c : Nat) (v : Word) (s : State) : Code × State :=
  let upDown := F.WCU_CTRL_MODE.on (s.next .WCU_CTRL c)
  if v = 0 ∨ (upDown ∧ v = 1) then (.invalid, s) else (.accepted, wcuHold .WCU_TOP c c v s)

/-- A capture source that is named by a code, and whether it is fitted (R185). -/
def capSrcOk (src : Nat) : Bool := decide (src ≤ 0x77)

def capSrcFitted (v : Variant) (src : Nat) : Bool :=
  if src < 0x40 then sinFitted v src else if src < 0x60 then fioFitted v (src - 0x40) else valveFitted v (src - 0x60)

/-- A write of WCU_CCTRLn (R185, R191): ARM acts at once, the other fields at the period boundary. -/
def wcuCctrlWrite (n : Nat) (v : Word) (s : State) : Code × State :=
  let src := F.WCU_CCTRL_SRC.of v
  let code := firstCode
    [ (F.WCU_CCTRL_FUNC.of v == 3 || ! capSrcOk src || F.WCU_CCTRL_EDGE.of v == 0 || F.WCU_CCTRL_VEVT.of v == 3, .invalid),
      (! capSrcFitted s.variant src, .absent) ]
  if code ≠ .accepted then (code, s)
  else
    let s1 := wcuHold .WCU_CCTRL n (n / 4) (v &&& word 0x37FFFF) s
    (.accepted, if F.WCU_CCTRL_ARM.on v then s1.setB F.WCU_CCTRL_ARM n true else s1)

/-- The named counters, all in one Switch cycle (R179, R180). -/
def wcuStartAll (mask : Nat) (s : State) : State := (onesUpTo 8 mask).foldl (fun t c => wcuStart c t) s
def wcuStopAll (mask : Nat) (s : State) : State := (onesUpTo 8 mask).foldl (fun t c => wcuStop c t) s

/-- A write of WCU_GSTART: refused whole when a named counter is held by the FCRU. -/
def wcuGstartWrite (v : Word) (s : State) : Code × State :=
  if reservedSet .WCU_GSTART v then (.invalid, s)
  else if (onesUpTo 8 v.toNat).any fun c => tabGet false s.wcuBlocked c then (.state, s)
  else (.accepted, wcuStartAll v.toNat s)

/-- A write of WCU_GSTOP. -/
def wcuGstopWrite (v : Word) (s : State) : Code × State := (.accepted, wcuStopAll v.toNat s)

/-- The ITEM of WCU_RESULT: a counter as c, a channel as 8 + n. -/
def wcuItem (r : Reg) (n : Nat) : Nat :=
  match r with
  | .WCU_CTRL | .WCU_TOP | .WCU_CNT | .WCU_STAT => n
  | .WCU_CCTRL | .WCU_CMP | .WCU_CAPH | .WCU_CAPV | .WCU_CAP => 8 + n
  | _ => 0

/-- A write of a WCU register. -/
def wcuWrite (r : Reg) (n : Nat) (v : Word) (s : State) : Code × State :=
  if reservedSet r v then (.invalid, s)
  else match r with
  | .WCU_CTRL => wcuCtrlWrite n v s
  | .WCU_TOP => wcuTopWrite n v s
  | .WCU_CCTRL => wcuCctrlWrite n v s
  | .WCU_CMP => (.accepted, wcuCmpWrite n v s)
  | .WCU_GSTART => wcuGstartWrite v s
  | .WCU_GSTOP => wcuGstopWrite v s
  | .WCU_CAP => (.accepted, if F.WCU_CAP_LOST_CLR.on v then s.clearLost (.capture n) else s)
  | _ => (.accepted, s)

/-! ## Captures (R187 to R189) -/

/-- Whether a channel takes an event: a capture channel of that source, whose EDGE or VEVT selects it, and which is armed if ONESHOT. -/
def capTakes (s : State) (n src : Nat) (rising : Bool) (vevt : Nat) : Bool :=
  s.getF F.WCU_CCTRL_FUNC n == 2 && s.getF F.WCU_CCTRL_SRC n == src &&
    (if 0x60 ≤ src then s.getF F.WCU_CCTRL_VEVT n == vevt
     else bitOf (s.getF F.WCU_CCTRL_EDGE n) (if rising then 0 else 1)) &&
    (! s.flag F.WCU_CCTRL_ONESHOT n || s.flag F.WCU_CCTRL_ARM n)

/-- The record: stamp, count, and LEVEL where WCU_CAPn shows it. -/
def capRecord (s : State) (n stamp : Nat) (rising : Bool) : List Word :=
  [word stamp, s.rd .WCU_CNT (n / 4), word (0x100 + 0x400 * b01 rising)]

/-- One channel takes an event of a source. -/
def captureOne (src stamp : Nat) (rising : Bool) (vevt : Nat) (s : State) (n : Nat) : State :=
  if capTakes s n src rising vevt then
    let s1 := s.offer (.capture n) (capRecord s n stamp rising)
    let s2 := if s.flag F.WCU_CCTRL_ONESHOT n then s1.setB F.WCU_CCTRL_ARM n false else s1
    if s.flag F.WCU_CCTRL_CIRQ n then s2.request (n / 4) else s2
  else s

/-- An event of a capture source reaches every channel that selects it; a valve event counts as rising (R188). -/
def capture (src stamp : Nat) (rising : Bool) (vevt : Nat) (s : State) : State :=
  (List.range 32).foldl (captureOne src stamp rising vevt) s

/-- A read of WCU_CAPHn: the head's stamp; the record is removed and latched for the master (R188). -/
def wcuCaphRead (m : Master) (n : Nat) (s : State) : Word × State :=
  match (s.q (.capture n)).recs with
  | [] => (0, s.wr .WCU_CAP (bk m n) 0)
  | r :: _ =>
    (r.words.getD 0 0,
     ((s.popHead (.capture n)).wr .WCU_CAPV (bk m n) (r.words.getD 1 0)).wr .WCU_CAP (bk m n) (r.words.getD 2 0))

/-- WCU_CAPn: the records queued and lost, and the master's latch. -/
def wcuCapWord (m : Master) (n : Nat) (s : State) : Word :=
  let q := s.q (.capture n)
  word (q.recs.length + 0x10000 * q.lost) ||| s.rd .WCU_CAP (bk m n)

/-- A read of a WCU register. -/
def wcuRead (m : Master) (r : Reg) (n : Nat) (s : State) : Word × State :=
  match r with
  | .WCU_CTRL => (putBits (s.rd r n) 0 1 (b01 (s.wcuRuns n)), s)
  | .WCU_STAT => (putBits (s.rd r n) 2 1 (b01 (s.wcuPend n)), s)
  | .WCU_CAPH => wcuCaphRead m n s
  | .WCU_CAPV => (s.rd r (bk m n), s)
  | .WCU_CAP => (wcuCapWord m n s, s)
  | .WCU_RESULT => (s.rd r (bk m 0), s)
  | .WCU_GSTART | .WCU_GSTOP => (0, s)
  | _ => (s.rd r n, s)

end Sys2Proof.Machine
end

