-- ==== Sys2Proof/Machine/Tollgate.lean ====
section
/-!
DEFINITION. Machine/Tollgate.lean: Tollgate's plan (07_channel_protection.md, R241 to R243; R166, R168): the reservations held by channels and
by accepted milestones, and the test whether a switch-on fits.
-/
namespace Sys2Proof.Machine

/-! ## Channels: class, feed, band -/

/-- A channel. -/
def State.ch (s : State) (n : Nat) : Chan := tabGet {} s.chan n

def State.setCh (s : State) (n : Nat) (c : Chan) : State := { s with chan := tabSet {} s.chan n c }

/-- The feed of a channel, FEED1 as 0 (R194). -/
def chFeed (n : Nat) : Nat := if n < 16 then n / 4 else if n < 64 then (n - 16) / 12 else (n - 64) / 8

/-- The channels of a feed in ascending order. -/
def feedChans (k : Nat) : List Nat := (List.range 96).filter fun n => chFeed n == k

/-- The band of a feed as its channels and valve groups follow it (R90). With both ground studs lost they switch off as in the Off band (R98). -/
def State.feedBand (s : State) (k : Nat) : Band := if 2 ≤ s.supply.studsLost then .off else tabGet .full s.supply.feeds k

/-- A switch-on is carried out in the Reduced and Full bands (R90). -/
def Band.admits (b : Band) : Bool := b == .reduced || b == .full

/-- Channels are off (R90). -/
def Band.dark (b : Band) : Bool := b == .off || b == .below6

/-- The state code of a channel (R203). -/
def State.chState (s : State) (n : Nat) : Nat := s.getF F.OUT_STAT_STATE n

/-! ## Reservations (R241) -/

/-- Whether a channel's switch-on is aligned, in the values that its next switch-on applies (R214). -/
def State.alignedNext (s : State) (n : Nat) : Bool :=
  let c := s.next .OUT_CFG n
  F.OUT_CFG_ALIGN.on c && F.OUT_CFG_SRC.of c == 2

/-- The channel is aligned in force: ALIGN is set and the source is MS (R214). -/
def State.alignedNow (s : State) (n : Nat) : Bool := s.flag F.OUT_CFG_ALIGN n && s.getF F.OUT_CFG_SRC n == 2

/-- How long a channel's reservation runs, ns: its inrush window, and TARGET before it when aligned. -/
def State.resLen (s : State) (n : Nat) : Nat :=
  F.OUT_INR_WIN.of (s.next .OUT_INR n) * 100000 +
    (if s.alignedNext n then F.OUT_ALN_TARGET.of (s.next .OUT_ALN n) * 100 else 0)

/-- A channel's reservation, 10 mA. -/
def State.planOf (s : State) (n : Nat) : Nat := F.PROT_TOLL_PLAN.of (s.next .PROT_TOLL n) * 10

/-- A reservation on a feed: its start and length in ns rounded outwards to slots of 100 µs, its amount in 10 mA, its period in ns
(0 for one run) and its repeats. -/
structure Res where
  feed : Nat
  start : Nat
  len : Nat
  amount : Nat
  period : Nat
  repeats : Option Nat
deriving DecidableEq, Repr

/-- A span of time rounded outwards to slots. -/
def slotRes (feed start len amount period : Nat) (repeats : Option Nat) : Res :=
  let a := start / 100000 * 100000
  let b := (start + len + 99999) / 100000 * 100000
  { feed := feed, start := a, len := b - a, amount := amount, period := period, repeats := repeats }

/-- The reservations that a channel holds now. -/
def State.resOf (s : State) (n : Nat) : List (Nat × Nat) := (s.ch n).res.filter fun r => decide (s.up < r.1)

/-- A channel's reservation is still held. -/
def State.reserved (s : State) (n : Nat) : Bool := (s.ch n).res.any fun r => decide (s.up < r.1)

/-- The reservations that channels hold now, each as one from now to its end. -/
def State.heldRes (s : State) : List Res :=
  s.chan.flatMap fun p => (p.2.res.filter fun r => decide (s.up < r.1)).map fun r => slotRes (chFeed p.1) s.total (r.1 - s.up) r.2 0 (some 0)

/-- What a request's switch-ons reserve in each run: channel, length and amount (R166, R241). -/
def State.planList (s : State) (items : List MstItem) : List (Nat × Nat × Nat) :=
  items.flatMap fun i => i.switchOns.map fun n => (n, s.resLen n, s.planOf n)

/-- Such reservations in the runs from instant `t` on. -/
def planRes (l : List (Nat × Nat × Nat)) (t period : Nat) (repeats : Option Nat) : List Res :=
  l.map fun p => slotRes (chFeed p.1) t p.2.1 p.2.2 period repeats

/-- The reservations of an accepted milestone's remaining runs (R168), as they were accepted (R252). -/
def MstEntry.reservations (e : MstEntry) : List Res := planRes e.plans e.next e.periodNs (e.repeats.map (· - e.runs))

/-- The reservations of every accepted milestone. -/
def State.mstRes (s : State) : List Res := s.openEntries.flatMap fun p => p.2.reservations

/-- The end of a reservation's last run; none when it repeats until cancelled. -/
def Res.last (r : Res) : Option Nat := r.repeats.map fun k => r.start + k * r.period + r.len

/-- Whether the span of a reservation's runs reaches a time. -/
def Res.reaches (r : Res) (t : Nat) : Bool :=
  match r.last with
  | some e => decide (t < e)
  | none => true

/-- How many runs of a reservation cover the slot at `t`, for a slot that recurs with period `p` (0: once) and repeats `q`. The test is arithmetic:
the spans of time overlap, and the distance is within a slot modulo the greatest common divisor of the periods (R164, R242). -/
def Res.covers (r : Res) (t p : Nat) (q : Option Nat) : Nat :=
  let g := Nat.gcd r.period p
  let ahead := match q with
    | some k => decide (t + k * p + 100000 ≤ r.start)
    | none => false
  if ! r.reaches t || ahead then 0
  else if g = 0 then 1
  else
    let m := (((t : Int) - r.start) % g).toNat
    if m < r.len ∨ g - m < 100000 then (if r.period = 0 then 1 else (r.len + r.period - 1) / r.period |> max 1) else 0

/-- The sum of reservations in a slot of a feed. -/
def slotLoad (rs : List Res) (feed t p : Nat) (q : Option Nat) : Nat :=
  (rs.map fun r => if r.feed = feed then r.covers t p q * r.amount else 0).sum

/-- The budget of a feed, 10 mA. -/
def State.budget (s : State) (k : Nat) : Nat := s.getF F.TOLL_CFG_BUDGET k * 100

/-- The planning base P of a feed, 10 mA. -/
def State.planBase (s : State) (k : Nat) : Nat := s.getF F.TOLL_CUR_BASE k

/-- The slots of a reservation. -/
def Res.slots (r : Res) : List Nat := (List.range (r.len / 100000)).map fun i => r.start + i * 100000

/-- New reservations fit in budgets when, in every slot of each, P plus everything reserved there with them is at most B (R242). -/
def State.fitsIn (s : State) (budget : Nat → Nat) (held new : List Res) : Bool :=
  new.all fun r => r.slots.all fun t =>
    decide (s.planBase r.feed + slotLoad (held ++ new) r.feed t r.period r.repeats ≤ budget r.feed)

/-- New reservations fit in the budgets in force. -/
def State.fitsWith (s : State) (held new : List Res) : Bool := s.fitsIn s.budget held new

/-- A switch-on of a channel fits now in a budget. -/
def State.fitsBudget (s : State) (b n : Nat) : Bool :=
  s.fitsIn (fun _ => b) (s.heldRes ++ s.mstRes) [slotRes (chFeed n) s.total (s.resLen n) (s.planOf n) 0 (some 0)]

/-- A switch-on of a channel fits now. -/
def State.fitsNow (s : State) (n : Nat) : Bool := s.fitsBudget (s.budget (chFeed n)) n

/-- PLANMAX: the highest sum of milestone reservations in any slot of a feed (R245). -/
def State.planMax (s : State) (k : Nat) : Nat :=
  let rs := s.mstRes.filter fun r => r.feed == k
  rs.foldl (fun m r => max m (slotLoad rs k r.start r.period r.repeats)) 0

/-- A channel takes a reservation of a length and an amount, beside those it still holds: an accepted one is held until its window ends, whatever
happens to the channel (R242). -/
def reserveAs (n len amount : Nat) (s : State) : State := s.setCh n { s.ch n with res := (s.up + len, amount) :: s.resOf n }

/-- A channel takes its reservation. -/
def reserve (n : Nat) (s : State) : State := reserveAs n (s.resLen n) (s.planOf n) s

/-- A channel's latest reservation ends with its window; an aligned one runs on to the end of its slots (R241). -/
def unreserve (n : Nat) (s : State) : State :=
  if s.alignedNow n then s else s.setCh n { s.ch n with res := (s.ch n).res.drop 1 }

/-! ## The list of waiting switch-ons (R243) -/

/-- PRIO of a channel. -/
def State.prio (s : State) (n : Nat) : Nat := s.getF F.PROT_TOLL_PRIO n

/-- Served before: higher PRIO, then lower channel number. -/
def State.servedBefore (s : State) (a b : Nat) : Bool :=
  if s.prio a = s.prio b then decide (a < b) else decide (s.prio b < s.prio a)

/-- A channel put into an order of service. -/
def State.insertServed (s : State) (n : Nat) : List Nat → List Nat
  | [] => [n]
  | a :: t => if s.servedBefore n a then n :: a :: t else a :: s.insertServed n t

/-- Channels in order of service. -/
def State.inService (s : State) (l : List Nat) : List Nat := l.foldl (fun acc n => s.insertServed n acc) []

/-- A DORMANT entry is past its HW phase: every stage is off, and none comes on (R413). -/
def State.outputsEnded (s : State) : Bool := s.getF F.PWR_STAT_PHASE 0 == 4 && s.getF F.PWR_STAT_TGT 0 == 2

/-- A switch-on begins to wait; WAIT is set. -/
def waitAdd (n : Nat) (deadline : Option Nat) (s : State) : State :=
  let w : TollWait := { chan := n, deadline := deadline, budget := s.budget (chFeed n) }
  if s.outputsEnded then s
  else { s.setB F.PROT_STAT_WAIT n true with tollWait := s.tollWait.filter (fun x => x.chan != n) ++ [w] }

/-- A channel no longer waits. -/
def waitDrop (n : Nat) (s : State) : State :=
  { s.setB F.PROT_STAT_WAIT n false with tollWait := s.tollWait.filter fun w => w.chan != n }

end Sys2Proof.Machine
end

