-- ==== Sys2Proof/Machine/Channels.lean ====
section
/-!
DEFINITION. Machine/Channels.lean: the power channels (06_power_channels.md) and the shared operations of their protection
(07_channel_protection.md): the router, the state machine of R203 to R207, transition records, edge alignment, run-on, SAFE and the bands,
the trip and the retry decision. The commands of the two units stand in ChannelCommands.lean and ProtectionCommands.lean.
-/
namespace Sys2Proof.Machine

/-! ## The router and the command (R197 to R204) -/

/-- The drive source in force: 0 LATCH, 1 TW, 2 MS, 3 DDIN. -/
def State.src (s : State) (n : Nat) : Nat := s.getF F.OUT_CFG_SRC n

/-- The source is the latch or the milestone-set level, whose command is inactive as soon as it reads so (R204). -/
def State.steadySrc (s : State) (n : Nat) : Bool := s.src n == 0 || s.src n == 2

/-- What the router selects: SRC, with TWSEL or DDSEL where the source uses it (R202). -/
def State.route (s : State) (n : Nat) : Nat × Nat :=
  (s.src n, if s.src n = 1 then s.getF F.OUT_CFG_TWSEL n else if s.src n = 3 then s.getF F.OUT_CFG_DDSEL n else 0)

/-- The selected drive line. -/
def State.drive (s : State) (n : Nat) : Bool :=
  if s.src n = 0 then s.flag F.OUT_STAT_LAT n
  else if s.src n = 1 then s.twLevel (s.getF F.OUT_CFG_TWSEL n)
  else if s.src n = 2 then s.flag F.OUT_STAT_MSL n
  else bitOf (s.getF F.OUT_INP_DDIN 0) (s.getF F.OUT_CFG_DDSEL n)

/-- The run-on timer runs (R210). -/
def State.runon (s : State) (n : Nat) : Bool := (s.ch n).runonEnd.isSome

/-- The command: the drive line, held active by run-on (R201). -/
def State.command (s : State) (n : Nat) : Bool := s.runon n || s.drive n

/-- The stage is on. -/
def State.stage (s : State) (n : Nat) : Bool := s.flag F.OUT_STAT_STAGE n

/-- The thermal latch: LATCH_J or LATCH_W (R236). -/
def State.thermal (s : State) (n : Nat) : Bool := s.flag F.PROT_STAT_LATCH_J n || s.flag F.PROT_STAT_LATCH_W n

/-- The SAFE reaction is raised. -/
def State.safeRaised (s : State) : Bool := s.flag F.OUT_INP_SAFE 0

/-- The safe level: 0 OFF, 1 ON, 2 HOLD. -/
def State.safeLevel (s : State) (n : Nat) : Nat := s.getF F.OUT_CFG_SAFELVL n

/-- The band of the channel's feed. -/
def State.chBand (s : State) (n : Nat) : Band := s.feedBand (chFeed n)

/-- INRUSH, ON or PWM. -/
def State.stageState (s : State) (n : Nat) : Bool := s.chState n == 1 || s.chState n == 2 || s.chState n == 3

/-- A configuration value waits (R221). -/
def chConfigRegs : List Reg := [.OUT_CFG, .OUT_THR, .OUT_INR, .OUT_RUNON, .OUT_ALN]
def chProtRegs : List Reg := [.PROT_WIRE, .PROT_RETRY, .PROT_TOLL, .PROT_LIM]
def State.chPend (s : State) (n : Nat) : Bool := chConfigRegs.any fun r => (s.heldOf r n).isSome

/-- Pending configuration takes effect (R204, R252). -/
def chApplyPending (n : Nat) (s : State) : State := s.applyAll (chConfigRegs ++ chProtRegs ++ [.SNS_SIGCFG]) n

/-! ## What the present Switch cycle has done (R205, R207, R251) -/

/-- A protection event of the present cycle: its retry decision comes with the next one. -/
def cycTrip (n : Nat) (s : State) : State := { s with cyc := { s.cyc with trips := s.cyc.trips ++ [n] } }
/-- A stage-on state was left by its command in the present cycle. -/
def cycOff (n : Nat) (s : State) : State := { s with cyc := { s.cyc with offs := n :: s.cyc.offs } }
/-- An inrush window ended in the present cycle. -/
def cycEnd (n : Nat) (s : State) : State := { s with cyc := { s.cyc with ends := n :: s.cyc.ends } }

/-! ## The last transition (R218, R221, R226) -/

/-- A bank's latch of the last transition: the words of OUT_LTHIn, OUT_LTNSn and OUT_TCNTn (R221, R226). -/
def latchTransition (b n : Nat) (s : State) : State :=
  let t := (s.ch n).last
  let hi := t.sec / 2 ^ 32 % 65536 + 0x10000 * b01 t.on + 0x20000 * b01 t.nocross + 0x40000 * b01 t.rtct
  ((s.wr .OUT_LTHI (n + 1024 * b) (word hi)).wr .OUT_LTNS (n + 1024 * b) (word t.ns)).wr .OUT_TCNT (n + 1024 * b)
    (word ((s.ch n).count % 65536))

/-- The packed last transition of 0x3100 + n:0E: SEC bits [31:0], NS, the direction and NOCROSS (R226). -/
def packedTransition (t : Transition) : Nat :=
  t.sec % 2 ^ 32 + 2 ^ 32 * t.ns + 2 ^ 62 * b01 t.on + 2 ^ 63 * b01 t.nocross

/-- A read of 0x3100 + n:0A or :0E in a bank: a new latch, and the value. -/
def lastTransitionIn (b n : Nat) (packed : Bool) (s : State) : Nat × State :=
  let t := (s.ch n).last
  (if packed then packedTransition t else t.sec, latchTransition b n s)

/-- Such a read on a path of the dictionary. -/
def lastTransitionRead (p : DPath) (n : Nat) (packed : Bool) (s : State) : Nat × State :=
  lastTransitionIn (masterBank (.dict p)) n packed s

/-- The bank of a TPDO's own latch (R226). -/
def tpdoBank (k : Nat) : Nat := 14 + k

/-- A TPDO that 0x3100 + n:0E alone is mapped into, of transmission type 254, is sent at a transition record of the channel, or waits for the end of its
inhibit time (R220). DESIGN CHOICE (assumption 18): any other event of a TPDO is its event timer. -/
def tpdoTransition (n : Nat) (s : State) : State :=
  if s.nmt != .operational then s else (List.range 64).foldl (fun t k =>
    if t.tpdoOn k && t.tpdoPar k 2 == 254 && t.mapping (0x1A00 + k) == [(0x3100 + n, 0x0E, 8)] then
      if (t.tp k).inhibit then setTp k { t.tp k with due := true } t
      else
        let r := lastTransitionIn (tpdoBank k) n true t
        setTp k { t.tp k with due := false, inhibit := t.tpdoPar k 3 != 0 } (coSend (t.tpdoPar k 1) (leBytes 8 r.1) r.2)
    else t) s

/-! ## Transition records (R218, R219) -/

/-- The four words of a transition record. -/
def transitionWords (s : State) (n : Nat) (e : Edge) (t : Transition) : List Word :=
  let w0 := n + 0x80 * b01 e.on + 0x100 * e.src + 0x400 * b01 e.aligned + 0x800 * b01 t.nocross +
    0x1000 * (if e.on then 0 else e.reason) + 0x8000 * b01 t.rtct + 0x10000 * ((s.q .transition).seq % 65536)
  [word w0, word t.sec, word (t.sec / 2 ^ 32 % 65536), word t.ns]

/-- A transition is recorded: the channel's last transition, the queue if TREC is set, and the TPDO that carries it. -/
def recordTransition (n : Nat) (e : Edge) (t : Transition) (s : State) : State :=
  let c := s.ch n
  let s1 := s.setCh n { c with last := t, count := c.count + 1 }
  tpdoTransition n (if s.flag F.OUT_CFG_TREC n then s1.offer .transition (transitionWords s n e t) else s1)

/-- Full time at a moment of the model clock. -/
def State.fullAt (s : State) (at_ : Nat) : Nat := s.total - (s.up - at_)

/-- A transition whose stage has switched before: in PARK it is recorded at once with RTC time, NOCROSS and RTCT; with the falling crossing that
followed the switching where one came; without one, its crossing is awaited, or it is recorded with the time of the switching and NOCROSS. -/
def edgePast (n : Nat) (e : Edge) (s : State) : State :=
  let c := s.ch n
  let at_ := c.fallAt.getD s.up
  let t := s.recTime
  if t.2.2 then recordTransition n e { sec := t.1, ns := t.2.1, on := e.on, nocross := true, rtct := true } s
  else match c.lastFall with
    | some f => recordTransition n e { sec := f.1, ns := f.2, on := e.on } s
    | none =>
      if s.up < at_ + 200000 then s.setCh n { c with awaited := c.awaited ++ [{ e with at_ := at_ }] }
      else
        let f := s.fullAt at_
        recordTransition n e { sec := f / 1000000000, ns := f % 1000000000, on := e.on, nocross := true } s

/-- The stage switches by a transition; its crossing is awaited (R218). -/
def edgeAwait (n : Nat) (e : Edge) (s : State) : State :=
  if s.almStopped then edgePast n e s
  else s.setCh n { s.ch n with awaited := (s.ch n).awaited ++ [e] }

/-- A delay counts as a measurement: an entry into INRUSH or a switch-off into OFF, in the Full band, in RUN or IDLE (R215). -/
def State.measurable (s : State) (n : Nat) : Bool := s.chBand n == .full && decide (s.getF F.PWR_STAT_STATE 0 ≤ 1)

/-- A transition of the stage now. `meas`: an entry into INRUSH or a switch-off into OFF. -/
def edge (n : Nat) (on aligned : Bool) (reason : Nat) (meas : Bool) (s : State) : State :=
  edgeAwait n { on := on, src := s.src n, aligned := aligned, reason := reason, at_ := s.up, measures := meas && s.measurable n } s

/-! ## Measured delays (R215) -/

/-- The mean of the measured delays. -/
def meanDelay (l : List (Nat × Nat)) : Nat := (l.map (·.1)).sum / l.length

/-- A valid measurement of a delay at a feed voltage (R215): held with up to seven before it; one at a voltage more than 2 V from the mean of the
held ones discards them all first. -/
def holdMeasurement (n : Nat) (on : Bool) (d volt : Nat) (s : State) : State :=
  let c := s.ch n
  let all := c.rise ++ c.fall
  let mean := if all = [] then volt else (all.map (·.2)).sum / all.length
  let far := decide (mean + 200 < volt ∨ volt + 200 < mean)
  let r0 := if far then [] else c.rise
  let f0 := if far then [] else c.fall
  let r := if on then ((d, volt) :: r0).take 8 else r0
  let f := if on then f0 else ((d, volt) :: f0).take 8
  let s1 := s.setCh n { c with rise := r, fall := f }
  if r.length = 8 ∧ f.length = 8 then
    ((s1.setF F.OUT_DLY_RISE n (sat 65535 (meanDelay r))).setF F.OUT_DLY_FALL n (sat 65535 (meanDelay f))).setB F.OUT_STAT_ALN_VALID n true
  else (s1.wr .OUT_DLY n (s1.rd .OUT_FDLY n)).setB F.OUT_STAT_ALN_VALID n false

/-! ## Switching -/

/-- The state code, and the stage. Every switch-off of the stage, those of PWM off phases included, is kept for off detection (R218). -/
def toState (n code : Nat) (s : State) : State :=
  (if code = 6 ∧ s.chState n ≠ 6 then s.odoCount 1 n 5 1 else s).setF F.OUT_STAT_STATE n code
def stageTo (n : Nat) (on : Bool) (s : State) : State :=
  if s.stage n = on then s
  else
    let s1 := (snsEdge n on s).setB F.OUT_STAT_STAGE n on
    if on then s1 else s1.setCh n { s1.ch n with fallAt := some s.up, lastFall := none, fallDly := none }

/-- An entry into OFF other than by shedding resets the retry count, the back-off kept, SCHOLD, SHED and TOLL_REF (R239). -/
def offCleared (n : Nat) (s : State) : State :=
  let s1 := s.setCh n { s.ch n with backoffKept := none, backoffEnd := 0 }
  (((s1.setF F.PROT_STAT_USED n 0).setB F.PROT_STAT_SCHOLD n false).setB F.PROT_STAT_SHED n false).setB F.PROT_STAT_TOLL_REF n false

/-- The inrush window no longer runs; a pause of its envelope detector ends with it, and the feed's DIP gives no further one (R231). -/
def inrushStop (n : Nat) (s : State) : State :=
  let s1 := if s.flag F.PROT_STAT_PAUSED n then s.setCh n { s.ch n with dipSpent := true } else s
  (s1.setB F.OUT_STAT_INR n false).setB F.PROT_STAT_PAUSED n false

/-- The window of an aligned channel starts when its stage switches (R214); here the envelope comes into force, and a feed in DIP pauses it, if the
channel has not had its pause of that DIP (R231). -/
def inrushStart (n : Nat) (s : State) : State :=
  (s.setB F.OUT_STAT_INR n true).setB F.PROT_STAT_PAUSED n (s.flag F.TOLL_STAT_DIP (chFeed n) && ! (s.ch n).dipSpent)

/-- The inserted delay of an aligned channel in ns, and whether it was clamped at 0 (R214): the difference is rounded to a tick of 8 ns. -/
def insertedDelay (n : Nat) (on : Bool) (s : State) : Nat × Bool :=
  let d := if on then s.getF F.OUT_DLY_RISE n else s.getF F.OUT_DLY_FALL n
  let i : Int := (s.getF F.OUT_ALN_TARGET n * 100 : Nat) - (d : Int)
  if i < 0 then (0, true) else ((i.toNat + 4) / 8 * 8, false)

/-- The stage of an aligned channel waits for its inserted delay; one released no later than an earlier one joins its release (R217). -/
def alignWait (n : Nat) (on : Bool) (s : State) : State :=
  let d := insertedDelay n on s
  let c := s.ch n
  let rel := s.up + d.1
  let l := match c.aligned with
    | [] => [(rel, on)]
    | (r, b) :: t => if rel ≤ r then [(r, on)] else (r, b) :: t ++ [(rel, on)]
  (s.setCh n { c with aligned := l }).setB F.OUT_STAT_ALN_SAT n d.2

/-- Nothing waits in an inserted delay any more (R217). -/
def alignDrop (n : Nat) (s : State) : State :=
  if (s.ch n).aligned = [] then s else s.setCh n { s.ch n with aligned := [] }

/-- An edge waits in an inserted delay. -/
def State.alignPending (s : State) (n : Nat) : Bool := ! (s.ch n).aligned.isEmpty

/-- The feed voltage of a channel, 10 mV. -/
def State.chVolt (s : State) (n : Nat) : Nat := s.getF F.TOLL_VOLT_VOLT (chFeed n)

/-- Whether the channel in its state follows its drive line with the stage. -/
def State.follows (s : State) (n : Nat) : Bool :=
  let st := s.chState n
  (st == 2 || st == 3 || (st == 8 && s.safeLevel n == 2)) && ! s.steadySrc n && ! s.runon n

/-- The feed of a channel is in the Full band and not in DIP. -/
def State.feedClean (s : State) (n : Nat) : Bool := s.chBand n == .full && ! s.flag F.TOLL_STAT_DIP (chFeed n)

/-- The stage comes on with its window and its signature capture: `safe`, a SAFE switch-on, which is no entry into INRUSH (R206, R215, R271). A feed
that is not clean at the switch-on skips the capture, too. Where the channel follows a TW or DDIN line that is in an off phase, its stage comes on with
the line (R203). -/
def stageUp (n : Nat) (aligned safe : Bool) (s : State) : State :=
  edge n true aligned 0 (! safe) (sigStart n (s.chVolt n) (safe || ! s.feedClean n) (inrushStart n (stageTo n (! s.follows n || s.drive n) s)))

/-- The stage of a TW or DDIN channel takes the level of its line in an off phase of PWM (R204). -/
def followLine (n : Nat) (s : State) : State := stageTo n (s.drive n && ! (s.chBand n).dark && ! s.thermal n) s

/-- The stage switches on with its record and its window; an aligned one, by a gate command, after its delay (R214). -/
def stageOn (n : Nat) (gate : Bool) (s : State) : State :=
  if gate && s.alignedNow n then alignWait n true s else stageUp n false s.safeRaised (alignDrop n s)

/-- An OFF→ON transition (R204, R205, R239): pending configuration applies and the channel enters INRUSH, or SAFE while SAFE is raised. -/
def inrushCore (n : Nat) (gate : Bool) (s : State) : State :=
  let s := chApplyPending n (waitDrop n s)
  let s := ((s.setB F.PROT_STAT_SHED n false).setB F.PROT_STAT_TOLL_REF n false).setB F.OUT_STAT_BAND_HELD n false
  let s := (s.setB F.PROT_STAT_SCHOLD n false).setCh n { s.ch n with span := none }
  stageOn n gate (toState n (if s.safeRaised then 8 else 3) (s.odoCount 1 n 0 1))

/-- An OFF→ON transition with its reservation. -/
def enterInrush (n : Nat) (s : State) : State := inrushCore n false (reserve n s)

/-- The channels of a feed whose restart SCHOLD holds are queued once no channel of the feed is in INRUSH (R239). -/
def scholdRelease (k : Nat) (s : State) : State :=
  if (feedChans k).any fun n => s.chState n == 3 then s
  else (feedChans k).foldl (fun t n =>
    if t.flag F.PROT_STAT_SCHOLD n then waitAdd n none (t.setB F.PROT_STAT_SCHOLD n false) else t) s

/-- The stage goes off by a transition with a reason; an aligned switch-off by a gate command waits for its delay. A stage that is off in a PWM off
phase has its switch-off recorded from the drive line's fall (R218). -/
def stageOff (n reason : Nat) (gate : Bool) (s : State) : State :=
  if gate && s.alignedNow n then alignWait n false s
  else if s.stage n then edge n false false reason (reason == 0 || reason == 4) (stageTo n false (alignDrop n s))
  else if s.stageState n && ! s.alignPending n then
    edgePast n { on := false, src := s.src n, aligned := false, reason := reason, at_ := s.up, measures := false } s
  else alignDrop n s

/-- A stage-on state is left: no window, no span of over-threshold samples. -/
def stageLeft (n code : Nat) (s : State) : State :=
  let s1 := toState n code (inrushStop n s)
  scholdRelease (chFeed n) (s1.setCh n { s1.ch n with span := none })

/-! ## SAFE (R206, R207) -/

/-- The stage of a channel in SAFE comes on where the band and the thermal latch let it (R90, R236). It takes its reservation without a test. -/
def safeStageOn (n : Nat) (s : State) : State :=
  if s.outputsEnded || s.stage n || ! (s.chBand n).admits || s.thermal n then s
  else
    let s1 := ((s.setB F.OUT_STAT_BAND_HELD n false).setB F.PROT_STAT_SHED n false).setB F.PROT_STAT_TOLL_REF n false
    stageUp n false true (reserve n ((s1.odoCount 1 n 0 1).setCh n { s1.ch n with span := none }))

/-- The level that a LATCH or MS channel keeps in HOLD: that of its last command, where an edge waits in its inserted delay (R217; DEDUCED,
assumption 47). -/
def State.holdLevel (s : State) (n : Nat) : Bool :=
  match (s.ch n).aligned.getLast? with
  | some p => p.2
  | none => s.stage n

/-- SAFE is raised on one channel. -/
def safeEnter (n : Nat) (s : State) : State :=
  if s.chState n = 0 ∨ s.stageState n then
    let h := s.holdLevel n
    let s1 := toState n 8 (alignDrop n ((waitDrop n s).setB F.OUT_STAT_BAND_HELD n false))
    if s.safeLevel n = 0 then inrushStop n (if s1.stage n then edge n false false 2 false (stageTo n false s1) else s1)
    else if s.safeLevel n = 1 then safeStageOn n s1
    else if h = s1.stage n then s1
    else if h then safeStageOn n s1
    else inrushStop n (edge n false false 2 false (stageTo n false s1))
  else s

/-- The channel is OFF, other than by shedding; while SAFE is raised a channel in OFF takes its safe level (R205, R206; DEDUCED, assumption 47). -/
def toOff (n : Nat) (s : State) : State :=
  let s1 := offCleared n (toState n 0 s)
  if s1.safeRaised then safeEnter n s1 else s1

/-! ## Leaving the stage-on states (R205) -/

/-- The channel enters OFF from a stage-on state, by its command or another switch-off. -/
def enterOff (n reason : Nat) (gate : Bool) (s : State) : State :=
  toOff n (stageLeft n 0 (cycOff n (stageOff n reason gate s)))

/-- A TW or DDIN channel goes OFF after off detection: its switch-off carries the last falling crossing (R218), whose delay is a measurement
(R215). -/
def enterOffDetected (n : Nat) (s : State) : State :=
  let s1 := edgePast n { on := false, src := s.src n, aligned := false, reason := 0, at_ := s.up, measures := false }
    (stageTo n false (alignDrop n s))
  let s2 := match (s.ch n).fallDly with
    | some m => holdMeasurement n false m.1 m.2 s1
    | none => s1
  toOff n (stageLeft n 0 (cycOff n s2))

/-! ## The retry decision (R205, R238, R239) -/

/-- The back-off before restart `a`, ns (R238). -/
def State.backoff (s : State) (n a : Nat) : Nat :=
  let base := s.getF F.PROT_RETRY_BACKOFF n * 10000000
  sat 600000000000 (if s.flag F.PROT_RETRY_DOUBLE n then base * 2 ^ (a - 1) else base)

/-- LOCKED_OFF: EMCY 0xFF40, and by the retry decision the channel's FCRU source (R239, R255, R470). -/
def lockOff (n : Nat) (source : Bool) (s : State) : State :=
  let s1 := waitDrop n (toState n 7 s)
  let s2 := if source then s1.raise n (s1.getF F.PROT_STAT_CAUSE n) else s1
  s2.emcyObj 0xFF40 0 (0x3200 + n) 0x11

/-- RETRY_WAIT is entered or resumed with a back-off in ns; with no attempt left the channel locks off. -/
def retryWait (n back : Nat) (s : State) : State :=
  if s.getF F.PROT_RETRY_ATTEMPTS n ≤ s.getF F.PROT_STAT_USED n then lockOff n true s
  else
    let s1 := toState n 5 s
    s1.setCh n { s1.ch n with backoffEnd := s1.up + back, backoffKept := none }

/-- THERMAL_LATCH is entered, and the channel's FCRU source raised (R470); a remaining back-off is kept (R239). -/
def toThermal (n : Nat) (kept : Option Nat) (s : State) : State :=
  let s1 := toState n 6 (waitDrop n (s.setB F.PROT_STAT_SCHOLD n false))
  (s1.setCh n { s1.ch n with backoffKept := kept }).raise n (s1.getF F.PROT_STAT_CAUSE n)

/-- The retry decision in TRIPPED. -/
def retryDecision (n : Nat) (s : State) : State :=
  if s.thermal n then toThermal n none s
  else retryWait n (s.backoff n (s.getF F.PROT_STAT_USED n + 1)) s

/-- The command that the retry rules look at: the safe level while SAFE is raised (R239). -/
def State.retryCommand (s : State) (n : Nat) : Bool :=
  if s.safeRaised then (s.safeLevel n == 1 || (s.safeLevel n == 2 && (s.ch n).act)) else (s.ch n).act

/-- A restart waits in Tollgate's queue, or first for the end of its neighbours' inrushes after a short (R239). -/
def restartQueue (n : Nat) (s : State) : State :=
  if s.getF F.PROT_STAT_CAUSE n = 1 ∧ (feedChans (chFeed n)).any (fun j => j != n && s.chState j == 3) then
    s.setB F.PROT_STAT_SCHOLD n true
  else waitAdd n none s

/-! ## The command of a channel in OFF (R205, R243, R244) -/

/-- The stagger of the channel's feed, ns. -/
def State.stagger (s : State) (n : Nat) : Nat := s.getF F.TOLL_CFG_STAGGER (chFeed n) * 100000

/-- Tollgate refuses a commanded switch-on (R244). -/
def tollRefuse (n : Nat) (s : State) : State :=
  let s1 := (waitDrop n s).setB F.PROT_STAT_TOLL_REF n true
  ((s1.countF F.TOLL_CNT_REFUSED (chFeed n)).request 10).emcyObj 0xFF43 0 (0x3200 + n) 0x0E

/-- A commanded switch-on: it fits at once, or waits in its stagger (R243). -/
def commanded (n : Nat) (s : State) : State :=
  if s.fitsNow n then enterInrush n s else waitAdd n (some (s.up + s.stagger n)) s

/-- The command of a channel in OFF is active: the band, the thermal latch and Tollgate decide (R205). Nothing comes on any more in a DORMANT entry
after its HW phase (R413). -/
def tryOn (n : Nat) (s : State) : State :=
  if s.outputsEnded || s.flag F.PROT_STAT_TOLL_REF n || s.flag F.PROT_STAT_SHED n || s.flag F.PROT_STAT_WAIT n then s
  else if ! (s.chBand n).admits then s.setB F.OUT_STAT_BAND_HELD n true
  else if s.thermal n then toThermal n none s
  else commanded n s

/-! ## The command changes (R202, R204, R205) -/

/-- The stage of a TW or DDIN channel follows its drive line; PWM edges are no transitions (R204). Run-on holds it on (R211). -/
def stageFollow (n : Nat) (s : State) : State :=
  if s.follows n then followLine n s
  else if s.runon n && ! s.steadySrc n && s.stageState n then
    stageTo n (! (s.chBand n).dark && ! s.thermal n) (if s.drive n then s else sigSkip n s)
  else s

/-- ON or PWM by source, run-on counting as ON (R202, R205). -/
def State.onCode (s : State) (n : Nat) : Nat := if s.steadySrc n || s.runon n then 1 else 2

/-- The state matches the source where the command does not change (R202). -/
def matchSource (n : Nat) (s : State) : State :=
  if s.chState n = 1 ∨ s.chState n = 2 then toState n (s.onCode n) s else s

/-- The command has become active. -/
def commandOn (n : Nat) (s : State) : State := if s.chState n = 0 then tryOn n s else stageFollow n s

/-- The command is inactive in the sense of R204: `detected`, by off detection of a TW or DDIN line; `gate`, by a gate command. While SAFE is raised
the safe level stands for the command of a channel that protection holds (R205, R239). -/
def commandOff (n : Nat) (detected gate : Bool) (s : State) : State :=
  let st := s.chState n
  if s.stageState n then (if detected then enterOffDetected n s else enterOff n 0 gate s)
  else if st = 4 ∨ st = 5 ∨ st = 6 ∨ st = 7 then (if s.safeRaised && s.safeLevel n != 2 then s else toOff n (waitDrop n s))
  else if st = 0 then (offCleared n (waitDrop n s)).setB F.OUT_STAT_BAND_HELD n false
  else s

/-- The channel follows its command: an active command begins, an inactive one ends at once for LATCH and MS, and a TW or DDIN stage follows its
line. -/
def commandFollow (n : Nat) (gate : Bool) (s : State) : State :=
  let c := s.ch n
  let cmd := s.command n
  if cmd && ! c.act then commandOn n (s.setCh n { c with act := true })
  else if ! cmd && c.act && s.steadySrc n then commandOff n false gate (s.setCh n { c with act := false })
  else stageFollow n (matchSource n s)

/-- An OFF→ON transition of a channel whose stage is off in a stage-on state (R202): at once where nothing forbids it, else by way of OFF. -/
def reOn (n : Nat) (s : State) : State :=
  let s1 := s.setCh n { s.ch n with act := true }
  if (s.chBand n).admits && ! s.thermal n && s.fitsNow n then enterInrush n s1
  else
    let s2 := enterOff n 0 false s1
    if s2.chState n = 0 then tryOn n s2 else s2

/-- A change of SRC, TWSEL or DDSEL has applied (R202): in a stage-on state whose stage is off, an active new command is an OFF→ON transition. -/
def routeFollow (n : Nat) (s : State) : State :=
  if s.stageState n && s.command n && ! s.stage n && ! s.alignPending n then reOn n s else commandFollow n false s

/-- The channel after a change that began in `before`: by R202 where the router selects another line, else by its command. -/
def configFollow (n : Nat) (gate : Bool) (before s : State) : State :=
  if s.route n = before.route n then commandFollow n gate s else routeFollow n s

/-- The channel after any change of what it depends on: its command, and once more where pending configuration has changed its router. A TW or DDIN
source that pending configuration has selected sets the stage by its line. -/
def chanUpdate (n : Nat) (gate : Bool) (s : State) : State :=
  let s1 := commandFollow n gate s
  if s1.route n = s.route n then s1 else routeFollow n s1

/-- The channel after its configuration has changed. -/
def chanReconfigure (n : Nat) (before s : State) : State :=
  let s1 := configFollow n false before s
  if s1.route n = s.route n then s1 else routeFollow n s1

/-- Several channels, in order of service (R250). -/
def chansUpdate (l : List Nat) (s : State) : State := (s.inService l).foldl (fun t n => chanUpdate n false t) s

/-- The fitted channels that meet a test. -/
def State.chansWhere (s : State) (p : Nat → Bool) : List Nat :=
  (List.range 96).filter fun n => chanFitted s.variant n && p n

/-- A waveform output has changed: the channels that select it follow. -/
def twUpdate (before after : State) : State :=
  chansUpdate (after.chansWhere fun n => after.src n == 1 &&
    before.twLevel (after.getF F.OUT_CFG_TWSEL n) != after.twLevel (after.getF F.OUT_CFG_TWSEL n)) after

/-! ## SAFE clears (R205) -/

/-- SAFE clears on one channel: by its command in the sense of R204 and its stage. An inrush window that runs goes on to its end. Of the channels that
protection holds, one whose command is inactive goes to OFF, and one whose back-off has ended is queued. -/
def safeLeave (n : Nat) (s : State) : State :=
  let st := s.chState n
  let act := (s.ch n).act
  if st = 8 then
    if act && (s.stage n || s.follows n) then stageFollow n (toState n (s.onCode n) s)
    else if act then tryOn n (toState n 0 (inrushStop n s))
    else toOff n (stageLeft n 0 (if s.stage n then stageOff n 0 false s else s))
  else if (st = 5 ∨ st = 6 ∨ st = 7) ∧ ! act then toOff n (waitDrop n s)
  else if st = 5 ∧ (s.ch n).backoffEnd ≤ s.up ∧ ! s.flag F.PROT_STAT_WAIT n ∧ ! s.flag F.PROT_STAT_SCHOLD n then restartQueue n s
  else s

/-- SAFE is raised or cleared on every fitted channel. -/
def safeRaiseAll (s : State) : State :=
  (s.chansWhere fun _ => true).foldl (fun t n => safeEnter n t) (s.setB F.OUT_INP_SAFE 0 true)
def safeClearAll (s : State) : State :=
  (s.chansWhere fun _ => true).foldl (fun t n => safeLeave n t) (s.setB F.OUT_INP_SAFE 0 false)

/-! ## Supply bands (R90 to R93) -/

/-- A command that the band now holds off: active, and neither refused by Tollgate nor shed. -/
def State.bandHolds (s : State) (n : Nat) : Bool := (s.ch n).act && ! s.flag F.PROT_STAT_TOLL_REF n && ! s.flag F.PROT_STAT_SHED n

/-- The feed's band holds a channel off, or lets it come back. -/
def bandChannel (n : Nat) (s : State) : State :=
  let st := s.chState n
  if (s.chBand n).dark then
    if s.stageState n then
      let s1 := offCleared n (stageLeft n 0 (stageOff n 3 false s))
      s1.setB F.OUT_STAT_BAND_HELD n (s.ch n).act
    else if st = 8 then (if s.stage n then edge n false false 3 false (inrushStop n (stageTo n false s)) else s)
    else if st = 0 then
      let s1 := if s.stage n then stageOff n 3 false s else s
      if s.bandHolds n then (waitDrop n s1).setB F.OUT_STAT_BAND_HELD n true else s1
    else s
  else if (s.chBand n).admits then
    if st = 0 ∧ s.flag F.OUT_STAT_BAND_HELD n then
      let s1 := s.setB F.OUT_STAT_BAND_HELD n false
      if s.thermal n then toThermal n none s1 else waitAdd n none s1
    else if st = 8 ∧ s.safeLevel n = 1 then safeStageOn n s
    else if st = 8 ∧ s.safeLevel n = 2 then
      (if s.steadySrc n || s.runon n then (if (s.ch n).act then safeStageOn n s else s) else stageFollow n s)
    else stageFollow n s
  else s

/-- The code of a band in TOLL_STATk.BAND (R254). -/
def Band.code : Band → Nat
  | .full => 0
  | .reduced => 1
  | .hold => 2
  | .off => 3
  | .over => 4
  | .below6 => 5

/-- A feed enters a band: its channels follow. -/
def feedBandChannels (k : Nat) (b : Band) (s : State) : State :=
  let s0 := { s with supply := { s.supply with feeds := tabSet .full s.supply.feeds k b } }.setF F.TOLL_STAT_BAND k b.code
  let s1 := if b == .full then s0 else snsDisturb (feedChans k) s0
  (s1.chansWhere fun n => chFeed n == k).foldl (fun t n => bandChannel n t) s1

/-! ## Milestone gate commands (R27, R28, R92) -/

/-- A LEVEL action on a channel with the plan it reserved: the channel after it, and whether it was applied. DEDUCED (assumption 47): a gate-off for a
channel whose feed is dark is not applied (R93), and as in R92 the milestone-set level then keeps its value, also where protection holds the channel. -/
def gateCommand (n : Nat) (on : Bool) (plan : Option (Nat × Nat)) (s : State) : Bool × State :=
  let st := s.chState n
  let s := match plan with
    | some p => if on then reserveAs n p.1 p.2 s else s
    | none => s
  let t := s.setB F.OUT_STAT_MSL n on
  if s.safeRaised then (false, s)
  else if (s.chBand n).dark then (false, s)
  else if s.src n ≠ 2 then (true, t)
  else if on then
    if st = 4 ∨ st = 5 ∨ st = 6 ∨ st = 7 then (false, chanUpdate n true t)
    else if st = 0 ∧ ! (s.chBand n).admits then (false, s)
    else if st = 0 ∧ s.thermal n then (false, toThermal n none (t.setCh n { t.ch n with act := true }))
    else if st = 0 then
      let u := inrushCore n true (t.setCh n { t.ch n with act := true })
      (true, if u.route n = t.route n then u else routeFollow n u)
    else (true, chanUpdate n true t)
  else if st = 4 ∨ st = 5 ∨ st = 6 ∨ st = 7 then
    (true, if t.command n then t else commandOff n false true (t.setCh n { t.ch n with act := false }))
  else (true, chanUpdate n true t)

/-! ## Trips (R205, R239, R240) -/

/-- The place of a cause in the order of R240. -/
def causeRank (c : Nat) : Nat := if c = 1 then 0 else if c = 5 then 1 else if c = 4 then 2 else if c = 3 then 3 else 4

/-- The last switch-off that awaits its crossing is one of protection (R207). -/
def reasonProtection (l : List Edge) : List Edge :=
  match l.reverse with
  | [] => []
  | e :: t => (if e.on then e :: t else { e with reason := 1, measures := false } :: t).reverse

/-- A channel enters TRIPPED with a cause; its retry decision comes in the next cycle. -/
def tripped (n cause : Nat) (s : State) : State :=
  cycTrip n ((s.setF F.PROT_STAT_CAUSE n cause).request 10)

/-- A protection event (R205, R207, R240): in a stage-on state, or where the stage conducts. A second one in the same cycle counts by the order of
causes; one in the cycle in which the command has switched the stage off is recorded as a trip. -/
def trip (n cause : Nat) (s : State) : State :=
  if n ∈ s.cyc.trips then (if causeRank cause < causeRank (s.getF F.PROT_STAT_CAUSE n) then s.setF F.PROT_STAT_CAUSE n cause else s)
  else if s.stageState n || s.stage n then tripped n cause (stageLeft n 4 (stageOff n 1 false s))
  else if s.chState n = 0 ∧ n ∈ s.cyc.offs then
    tripped n cause (toState n 4 (s.setCh n { s.ch n with awaited := reasonProtection (s.ch n).awaited }))
  else s

/-- The cycle after a protection event: it counts in the Odometer by its cause, and the retry decision is taken; with the command inactive the channel
goes to OFF (R205, R207, R525). -/
def tripDecide (s : State) (n : Nat) : State :=
  let cause := s.getF F.PROT_STAT_CAUSE n
  let s1 := if cause = 1 then s.odoCount 1 n 4 1 else if cause = 2 ∨ cause = 3 then s.odoCount 1 n 3 1 else s
  if s1.chState n ≠ 4 then s1
  else if s1.retryCommand n then retryDecision n s1
  else toOff n s1

/-- The next Switch cycle: the retry decisions of the last one, the lower channel first. -/
def nextCycle (s : State) : State := (s.chansWhere fun n => s.cyc.trips.contains n).foldl tripDecide { s with cyc := {} }

/-! ## The thermal latch (R235, R236, R239) -/

/-- A channel in RETRY_WAIT whose thermal latch sets (R239). A back-off that has ended keeps nothing (R249). -/
def thermalRetry (n : Nat) (s : State) : State :=
  if s.chState n = 5 ∧ s.thermal n then
    let c := s.ch n
    toThermal n (if s.up < c.backoffEnd then some (c.backoffEnd - s.up) else none) s
  else s

/-- The thermal latch has become set: a channel in RETRY_WAIT enters THERMAL_LATCH; an aligned one that waits to switch on does not (R249); a stage
that follows its line goes off. Then EMCY 0xFF41 (R255). -/
def thermalSet (before : State) (n : Nat) (s : State) : State :=
  if before.thermal n then s
  else
    let s1 := thermalRetry n s
    let s2 := if s1.chState n = 3 ∧ ! s1.stage n ∧ s1.alignPending n then toThermal n none (stageLeft n 3 (alignDrop n s1)) else stageFollow n s1
    (s2.request 10).emcyObj 0xFF41 0 (0x3200 + n) 0x0E

/-- The latch of a channel has cleared (R236, R239): one in THERMAL_LATCH resumes its retries, or goes to OFF; one in SAFE takes its level. -/
def thermalCleared (n : Nat) (s : State) : State :=
  if s.chState n = 6 ∧ ! s.thermal n then
    if s.retryCommand n then
      match (s.ch n).backoffKept with
      | some k => retryWait n k s
      | none => retryWait n (s.backoff n (s.getF F.PROT_STAT_USED n + 1)) s
    else toOff n s
  else if s.chState n = 8 ∧ s.safeLevel n = 1 ∧ ! s.thermal n then safeStageOn n s
  else stageFollow n s

end Sys2Proof.Machine
end

