-- ==== Sys2Proof/Machine/ChannelCommands.lean ====
section
/-!
DEFINITION. Machine/ChannelCommands.lean: the writes and reads of the OUT registers (R221 to R224) and the meanings of the channel commands
(06_power_channels.md).
-/
namespace Sys2Proof.Machine

/-! ## Writes (R221, R222, R224) -/

/-- The latch of a channel takes a level, and the channel follows. -/
def latchSet (n : Nat) (b : Bool) (s : State) : State := s.setB F.OUT_STAT_LAT n b

/-- A latch write names a channel in SAFE: it would change that channel's latch (R206). -/
def latchRefused (s : State) (n : Nat) (b : Bool) : Bool := s.chState n == 8 && s.flag F.OUT_STAT_LAT n != b

/-- A write of OUT_LVLn or 0x3100 + n:02. -/
def outLvlWrite (n : Nat) (v : Word) (s : State) : Code × State :=
  let b := F.OUT_LVL_LEVEL.on v
  let code := firstCode [(reservedSet .OUT_LVL v, .invalid), (latchRefused s n b, .state)]
  if code = .accepted then (code, chanUpdate n false (latchSet n b s)) else (code, s)

/-- A bank write: `want` gives the level that a channel's latch takes, none where the write leaves it. It is refused whole, for a 1 of an absent
channel or a channel in SAFE; the lowest refused channel is reported (R222, R224). A 1 of an absent channel is recorded as an access to the written address. -/
def bankWrite (j v addr : Nat) (want : Nat → Option Bool) (s : State) : Code × Nat × State :=
  let named := (onesUpTo 32 v).map (· + 32 * j)
  match named.find? fun n => ! chanFitted s.variant n with
  | some n => (.absent, n, absentMark addr s)
  | none =>
    let chans := ((List.range 32).map (· + 32 * j)).filter fun n => chanFitted s.variant n
    match chans.find? (fun n => match want n with | some b => latchRefused s n b | none => false) with
    | some n => (.state, n, s)
    | none =>
      let changed := chans.filter fun n => (want n).isSome
      let s1 := changed.foldl (fun t n => match want n with | some b => latchSet n b t | none => t) s
      (.accepted, 0, chansUpdate changed s1)

/-- OUT_LATBj: every latch of the bank; OUT_LATSj: the named latches are set; OUT_LATCj: they are cleared. -/
def latbWrite (j : Nat) (v : Word) (s : State) : Code × Nat × State :=
  bankWrite j v.toNat (Reg.addr .OUT_LATB j) (fun n => some (bitOf v.toNat (n - 32 * j))) s
def latsWrite (j : Nat) (v : Word) (s : State) : Code × Nat × State :=
  bankWrite j v.toNat (Reg.addr .OUT_LATS j) (fun n => if bitOf v.toNat (n - 32 * j) then some true else none) s
def latcWrite (j : Nat) (v : Word) (s : State) : Code × Nat × State :=
  bankWrite j v.toNat (Reg.addr .OUT_LATC j) (fun n => if bitOf v.toNat (n - 32 * j) then some false else none) s

/-- Every pending value of the channel applies at once, and the channel follows (R202, R221). -/
def outApplyNow (n : Nat) (s : State) : State :=
  chanReconfigure n s (chApplyPending n s)

/-- A write of OUT_APPLYn. -/
def outApplyWrite (n : Nat) (v : Word) (s : State) : Code × State :=
  if reservedSet .OUT_APPLY v then (.invalid, s)
  else (.accepted, if F.OUT_APPLY_APPLY.on v then outApplyNow n s else s)

/-- The range of the overcurrent threshold in 10 mA and of the inrush window in 0.1 ms (R195). -/
def thrOk (n thr : Nat) : Bool := decide (byClass n 100 20 5 ≤ thr ∧ thr ≤ byClass n 6000 2000 600)
def winOk (n win : Nat) : Bool := decide (1 ≤ win ∧ win ≤ byClass n 200 200 100)

/-- The range checks of a channel's configuration registers. -/
def outCfgOk (r : Reg) (n : Nat) (v : Word) : Bool :=
  match r with
  | .OUT_CFG => F.OUT_CFG_SAFELVL.of v != 3 && F.OUT_CFG_OFFDET.of v != 0
  | .OUT_THR => thrOk n (F.OUT_THR_THR.of v)
  | .OUT_INR => winOk n (F.OUT_INR_WIN.of v)
  | .OUT_ALN => decide (300 ≤ F.OUT_ALN_TARGET.of v ∧ F.OUT_ALN_TARGET.of v ≤ 1000)
  | _ => true

/-- A configuration value is held; with IMM set it applies in the first Switch cycle after acceptance (R221). -/
def holdImm (r : Reg) (n : Nat) (v : Word) (s : State) : State :=
  let s1 := s.hold r n (v &&& word 0x7FFFFFFF)
  if bitOf v.toNat 31 then s1.applyHeld r n else s1

/-- A safe level changed with IMMEDIATE while the channel is in SAFE takes the stage to the new level (R206; DEDUCED, assumption 47). -/
def safeRelevel (n : Nat) (before s : State) : State :=
  if s.chState n = 8 ∧ s.safeLevel n ≠ before.safeLevel n then
    if s.safeLevel n = 0 then inrushStop n (if s.stage n then edge n false false 2 false (stageTo n false s) else s)
    else if s.safeLevel n = 1 then safeStageOn n s
    else if s.steadySrc n || s.runon n then s
    else stageFollow n s
  else s

/-- A write of a channel's configuration register (R224, R29, R200). -/
def outCfgWrite (r : Reg) (n : Nat) (v : Word) (s : State) : Code × State :=
  let code := firstCode
    [ (reservedSet r v || ! outCfgOk r n v, .invalid),
      (r == .OUT_CFG && F.OUT_CFG_SRC.of v != 2 && s.mstNames n, .conflict) ]
  if code = .accepted then
    let s1 := holdImm r n v s
    (code, if bitOf v.toNat 31 then safeRelevel n s (chanReconfigure n s s1) else s1)
  else (code, s)

/-- A write of an OUT register: the code, the channel concerned, and the state. -/
def outWrite (r : Reg) (n : Nat) (v : Word) (s : State) : Code × Nat × State :=
  match r with
  | .OUT_CFG | .OUT_THR | .OUT_INR | .OUT_RUNON | .OUT_ALN => let p := outCfgWrite r n v s; (p.1, n, p.2)
  | .OUT_APPLY => let p := outApplyWrite n v s; (p.1, n, p.2)
  | .OUT_LVL => let p := outLvlWrite n v s; (p.1, n, p.2)
  | .OUT_LATB => latbWrite n v s
  | .OUT_LATS => latsWrite n v s
  | .OUT_LATC => latcWrite n v s
  | .OUT_TRQSTAT =>
    if reservedSet r v then (.invalid, 0, s)
    else (.accepted, 0, if F.OUT_TRQSTAT_LOST_CLR.on v then s.clearLost .transition else s)
  | .OUT_STGB | .OUT_INP | .OUT_RESULT | .OUT_TRQ => (.accepted, 0, s)
  | _ => (.accepted, n, s)

/-- A write answered in OUT_RESULT. -/
def outAnswered (m : Master) (r : Reg) (n : Nat) (p : Code × Nat × State) : State :=
  p.2.2.answer m .OUT_RESULT p.1 p.2.1 (r.addr n)

/-- A write that reaches an OUT register; one to an absent channel's registers is ignored, and answered with ABSENT (R13, R14, R224). -/
def outAccess (m : Master) (r : Reg) (n : Nat) (v : Word) (s : State) : State :=
  if regFitted s.variant r n then outAnswered m r n (outWrite r n v s) else s.absentWrite m .OUT_RESULT n (r.addr n)

/-! ## Reads -/

/-- Seconds of run-on remaining, a begun second counting whole (R221). -/
def State.runonRem (s : State) (n : Nat) : Nat :=
  match (s.ch n).runonEnd with
  | some e => (e - s.up + 999999999) / 1000000000
  | none => 0

/-- OUT_STATn (R221). -/
def outStat (n : Nat) (s : State) : Word :=
  let w := s.rd .OUT_STAT n
  let w := putBits w 4 1 (b01 (s.command n))
  let w := putBits w 5 1 (b01 (s.drive n))
  let w := putBits w 9 1 (b01 (s.runon n))
  let w := putBits w 10 1 (b01 (s.chPend n))
  putBits w 15 1 (b01 (s.chState n == 8 && s.safeLevel n == 2 && s.steadySrc n))

/-- A bank of bits, one per channel of the bank. -/
def bankBits (j : Nat) (p : Nat → Bool) : Word :=
  word (((List.range 32).map fun b => if p (32 * j + b) then 2 ^ b else 0).sum)

/-- A read of OUT_LTSECn: the low seconds; the rest is latched for the master (R221). -/
def readLtsec (m : Master) (n : Nat) (s : State) : Word × State :=
  (word (s.ch n).last.sec, latchTransition (masterBank m) n s)

/-- A read of an OUT register. -/
def outRead (m : Master) (r : Reg) (n : Nat) (s : State) : Word × State :=
  match r with
  | .OUT_CFG | .OUT_THR | .OUT_INR | .OUT_RUNON | .OUT_ALN | .OUT_FDLY | .OUT_DLY => (s.rd r n, s)
  | .OUT_APPLY | .OUT_LATS | .OUT_LATC => (0, s)
  | .OUT_LVL => (word (b01 (s.flag F.OUT_STAT_LAT n)), s)
  | .OUT_STAT => (outStat n s, s)
  | .OUT_RUNREM => (word (s.runonRem n), s)
  | .OUT_LTSEC => readLtsec m n s
  | .OUT_LTHI | .OUT_LTNS | .OUT_TCNT => (s.rd r (bk m n), s)
  | .OUT_LATB => (bankBits n fun k => s.flag F.OUT_STAT_LAT k, s)
  | .OUT_STGB => (bankBits n fun k => s.stage k, s)
  | .OUT_RESULT => (s.rd r (bk m 0), s)
  | .OUT_INP => (putBits (s.rd r 0) F.OUT_INP_IGN.lo 1 (s.getF F.NET_STAT_IGN 0), s)
  | .OUT_TRQ => s.readWindow .transition 4 n
  | .OUT_TRQSTAT => (word ((s.q .transition).recs.length + 0x10000 * (s.q .transition).lost), s)
  | _ => (s.rd r n, s)

/-! ## Commands -/

/-- OUT_LVL_WRITE (R197). -/
def execOutLvlWrite (m : Master) (n : Fin 96) (v : Word) (s : State) : Host.Outcome State Fault Refusal :=
  ok s (outAccess m .OUT_LVL n.val v s)

/-- OUT_LATB_WRITE (R222). -/
def execOutLatbWrite (m : Master) (j : Fin 3) (v : Word) (s : State) : Host.Outcome State Fault Refusal :=
  ok s (outAccess m .OUT_LATB j.val v s)

/-- OUT_LATS_WRITE (R222). -/
def execOutLatsWrite (m : Master) (j : Fin 3) (v : Word) (s : State) : Host.Outcome State Fault Refusal :=
  ok s (outAccess m .OUT_LATS j.val v s)

/-- OUT_LATC_WRITE (R222). -/
def execOutLatcWrite (m : Master) (j : Fin 3) (v : Word) (s : State) : Host.Outcome State Fault Refusal :=
  ok s (outAccess m .OUT_LATC j.val v s)

/-- APPLY (R221). -/
def execOutApply (m : Master) (n : Fin 96) (v : Word) (s : State) : Host.Outcome State Fault Refusal :=
  ok s (outAccess m .OUT_APPLY n.val v s)

/-- A filtered DDIN pin takes a level, and the channels that select it follow (R199). -/
def ddinSet (k : Nat) (high : Bool) (s : State) : State :=
  let s1 := s.setF ⟨.OUT_INP, k, 1⟩ 0 (b01 high)
  chansUpdate (s1.chansWhere fun n => s1.src n == 3 && s1.getF F.OUT_CFG_DDSEL n == k) s1

/-- DDIN_EDGE (R199): the pin is ignored while the Switch domain is off (R80). -/
def execDdinEdge (k : Fin 8) (high : Bool) (s : State) : Host.Outcome State Fault Refusal :=
  ok s (if s.dom.switch then ddinSet k.val high s else s)

/-- The inrush window of a channel ends (R205): the programmed threshold comes into force and the reservation ends. A pause of the detector ends with it,
and the span restarts (R249). -/
def inrushEnd (n : Nat) (s : State) : State :=
  if ! s.flag F.OUT_STAT_INR n then s
  else
    let s1 := unreserve n (inrushStop n s)
    let s2 := cycEnd n (if s.flag F.PROT_STAT_PAUSED n then s1.setCh n { s1.ch n with span := none } else s1)
    if s2.chState n = 3 then scholdRelease (chFeed n) (toState n (s2.onCode n) s2) else s2

/-- INRUSH_WINDOW_END (R205). -/
def execInrushWindowEnd (n : Fin 96) (s : State) : Host.Outcome State Fault Refusal := ok s (inrushEnd n.val s)

/-- A TW or DDIN line has stayed inactive for OFFDET (R204). -/
def offDetect (n : Nat) (s : State) : State :=
  if (s.ch n).act && ! s.command n && ! s.steadySrc n then commandOff n true false (s.setCh n { s.ch n with act := false }) else s

/-- OFF_DETECTED (R204). -/
def execOffDetected (n : Fin 96) (s : State) : Host.Outcome State Fault Refusal := ok s (offDetect n.val s)

/-- The stage counts as on for run-on: INRUSH, ON or PWM, or SAFE with the stage on (R210). -/
def State.countsOn (s : State) (n : Nat) : Bool := s.stageState n || (s.chState n == 8 && s.stage n)

/-- The filtered IGN falls: run-on timers start on the channels whose stage counts as on. -/
def runonStartAll (s : State) : State :=
  (s.chansWhere fun n => s.countsOn n && s.getF F.OUT_RUNON_RUNON n != 0).foldl
    (fun t n => chanUpdate n false
      (t.setCh n { t.ch n with runonEnd := some (t.up + t.getF F.OUT_RUNON_RUNON n * 1000000000) })) s

/-- A run-on timer ends: the command returns to the drive line. -/
def runonEnd (n : Nat) (s : State) : State :=
  if s.runon n then
    let s1 := s.setCh n { s.ch n with runonEnd := none }
    let s2 := chanUpdate n false s1
    if (s2.ch n).act && ! s2.command n then commandOff n false false (s2.setCh n { s2.ch n with act := false }) else s2
  else s

/-- Every run-on timer stops at a rise of IGN; the command returns to the drive line, whose off detection then runs as usual. -/
def runonStopAll (s : State) : State :=
  (s.chansWhere fun n => s.runon n).foldl (fun t n => chanUpdate n false (t.setCh n { t.ch n with runonEnd := none })) s

/-- RUNON_EXPIRY (R210). -/
def execRunonExpiry (n : Fin 96) (s : State) : Host.Outcome State Fault Refusal := ok s (runonEnd n.val s)

/-- The stage of an aligned channel takes a waiting level (R214, R217): one transition if the level changes. The window of a channel in INRUSH starts here,
also where a later gate command has left the stage on. The thermal latch keeps the stage off (R236). -/
def alignRelease (n : Nat) (s : State) : State :=
  match (s.ch n).aligned with
  | [] => s
  | (_, b) :: t =>
    let s1 := s.setCh n { s.ch n with aligned := t }
    if s1.stage n = b then (if b && s1.chState n == 3 && ! s1.flag F.OUT_STAT_INR n then inrushStart n s1 else s1)
    else if ! b then edge n false true 0 true (stageTo n false s1)
    else if s1.thermal n then s1
    else if s1.chState n = 3 then stageUp n true false s1
    else edge n true true 0 true (stageTo n true s1)

/-- ALIGN_DELAY_END (R214). -/
def execAlignDelayEnd (n : Fin 96) (s : State) : Host.Outcome State Fault Refusal := ok s (alignRelease n.val s)

/-- The output crosses 50 %: the oldest awaited transition of that direction is recorded and its delay measured; any other falling crossing is
that of a PWM edge, whose time and delay are kept for off detection (R215, R218). -/
def crossing (n : Nat) (rising : Bool) (s : State) : State :=
  let c := s.ch n
  match c.awaited with
  | e :: t =>
    if e.on = rising then
      let s1 := recordTransition n e { sec := s.alm.sec, ns := s.alm.ns, on := e.on } (s.setCh n { c with awaited := t })
      if e.measures && s.measurable n && decide (s.up ≤ e.at_ + 200000) then holdMeasurement n e.on (s.up - e.at_) (s.chVolt n) s1
      else s1
    else s
  | [] =>
    match c.fallAt with
    | some f =>
      if rising || s.stage n || c.lastFall.isSome then s
      else
        let d := if s.measurable n && decide (s.up ≤ f + 200000) then some (s.up - f, s.chVolt n) else none
        s.setCh n { c with lastFall := some (s.alm.sec, s.alm.ns), fallDly := d }
    | none => s

/-- OUTPUT_CROSSING (R218). -/
def execOutputCrossing (n : Fin 96) (rising : Bool) (s : State) : Host.Outcome State Fault Refusal := ok s (crossing n.val rising s)

/-- No crossing within 200 µs: the transition is recorded with the time of the switching and NOCROSS (R218). -/
def noCrossing (n : Nat) (s : State) : State :=
  let c := s.ch n
  match c.awaited with
  | e :: t =>
    let at_ := s.fullAt e.at_
    recordTransition n e { sec := at_ / 1000000000, ns := at_ % 1000000000, on := e.on, nocross := true }
      (s.setCh n { c with awaited := t })
  | [] => s

/-- NOCROSS (R218). -/
def execNoCross (n : Fin 96) (s : State) : Host.Outcome State Fault Refusal := ok s (noCrossing n.val s)

/-- OUT_TRQ0_READ (R219). -/
def execOutTrq0Read (m : Master) (s : State) : Host.Outcome State Fault Refusal :=
  ok s (State.answerRead m (Reg.addr .OUT_TRQ 0) (s.readWindow .transition 4 0))

/-- OUT_TRQ3_READ (R219). -/
def execOutTrq3Read (m : Master) (s : State) : Host.Outcome State Fault Refusal :=
  ok s (State.answerRead m (Reg.addr .OUT_TRQ 3) (s.readWindow .transition 4 3))

/-- OUT_TRQ_LOST_CLR (R222). -/
def execOutTrqLostClr (m : Master) (v : Word) (s : State) : Host.Outcome State Fault Refusal :=
  ok s (outAccess m .OUT_TRQSTAT 0 v s)

/-- OUT_LTSEC_READ (R221). -/
def execOutLtsecRead (m : Master) (n : Fin 96) (s : State) : Host.Outcome State Fault Refusal :=
  ok s (if chanFitted s.variant n.val then State.answerRead m (Reg.addr .OUT_LTSEC n.val) (readLtsec m n.val s)
    else State.answerRead m (Reg.addr .OUT_LTSEC n.val) (0, absentMark (Reg.addr .OUT_LTSEC n.val) s))

/-- LAST_TRANSITION_READ (R226). -/
def execLastTransitionRead (p : DPath) (n : Fin 96) (packed : Bool) (s : State) : Host.Outcome State Fault Refusal :=
  let sub := if packed then 0x0E else 0x0A
  ok s (if chanFitted s.variant n.val then
      let r := lastTransitionRead p n.val packed s
      r.2.emit (.objRead p (0x3100 + n.val) sub (leBytes (if packed then 8 else 6) r.1))
    else s.emit (.objAbort p (0x3100 + n.val) sub 0x06020000))

end Sys2Proof.Machine
end

