-- ==== Sys2Proof/Machine/ProtectionCommands.lean ====
section
/-!
DEFINITION. Machine/ProtectionCommands.lean: the writes and reads of the PROT and TOLL registers (R252 to R254), the feed current, and the
meanings of the protection and Tollgate commands (07_channel_protection.md).
-/
namespace Sys2Proof.Machine

/-! ## Registers (R252 to R254) -/

/-- The range checks of the protection registers (R252). -/
def protOk (r : Reg) (n : Nat) (v : Word) : Bool :=
  match r with
  | .PROT_WIRE =>
    let i := F.PROT_WIRE_IRATE.of v
    let t := F.PROT_WIRE_TAU.of v
    decide (5 ≤ i ∧ i ≤ 6000 ∧ 1 ≤ t ∧ t ≤ 3600)
  | .PROT_CPL => decide (F.PROT_CPL_KC.of v ≤ 64 ∧ F.PROT_CPL_BUNDLE.of v ≤ 16)
  | .PROT_RETRY =>
    let b := F.PROT_RETRY_BACKOFF.of v
    let t := F.PROT_RETRY_RESET_T.of v
    decide (1 ≤ b ∧ b ≤ 6000 ∧ 1 ≤ t ∧ t ≤ 600)
  | .PROT_TOLL => decide (F.PROT_TOLL_PLAN.of v ≤ byClass n 1800 600 150)
  | .PROT_LIM =>
    let o := F.PROT_LIM_OCF.of v
    let a := F.PROT_LIM_REARM.of v
    decide (1 ≤ o ∧ o ≤ 100 ∧ 10 ≤ a ∧ a ≤ 95)
  | _ => true

/-- A write of a protection register: PROT_CPLn waits for the next model step, the others as R221. -/
def protWrite (r : Reg) (n : Nat) (v : Word) (s : State) : Code × State :=
  match r with
  | .PROT_CPL => if reservedSet r v || ! protOk r n v then (.invalid, s) else (.accepted, s.hold r n v)
  | .PROT_WIRE | .PROT_RETRY | .PROT_TOLL | .PROT_LIM =>
    if reservedSet r v || ! protOk r n v then (.invalid, s) else (.accepted, holdImm r n v s)
  | _ => (.accepted, s)

/-- Back-off remaining, ms, a begun millisecond counting whole: that which runs in RETRY_WAIT, or was kept into THERMAL_LATCH. -/
def State.backoffRem (s : State) (n : Nat) : Nat :=
  if s.chState n = 5 then ((s.ch n).backoffEnd - s.up + 999999) / 1000000
  else if s.chState n = 6 then ((s.ch n).backoffKept.getD 0 + 999999) / 1000000
  else 0

/-- A read of a protection register. -/
def protRead (m : Master) (r : Reg) (n : Nat) (s : State) : Word × State :=
  match r with
  | .PROT_BOF => (word (s.backoffRem n % 2 ^ 24), s)
  | .PROT_RESULT => (s.rd r (bk m 0), s)
  | _ => (s.rd r n, s)

/-- A write of a Tollgate register; the feed is numbered from 1 in the result (R245, R254). A write that leaves BUDGET as it is writes no budget, and
is not tested against the plan (DEDUCED, assumption 47). -/
def tollWrite (r : Reg) (k : Nat) (v : Word) (s : State) : Code × State :=
  match r with
  | .TOLL_CFG =>
    let b := F.TOLL_CFG_BUDGET.of v
    let t := F.TOLL_CFG_RESTORE.of v
    let code := firstCode
      [ (reservedSet r v || ! decide (10 ≤ b ∧ b ≤ 150 ∧ F.TOLL_CFG_STAGGER.of v ≤ 20 ∧ 1 ≤ t ∧ t ≤ 100), .invalid),
        (F.TOLL_CFG_BUDGET.of (s.next .TOLL_CFG k) != b && decide (b * 100 < s.planBase k + s.planMax k), .toll) ]
    if code = .accepted then (code, s.hold r k v) else (code, s)
  | .TOLL_CLR =>
    if reservedSet r v then (.invalid, s) else (.accepted, if F.TOLL_CLR_CLR.on v then s.wr .TOLL_CNT k 0 else s)
  | _ => (.accepted, s)

/-- Channels of a feed presently shed. -/
def State.shedCount (s : State) (k : Nat) : Nat := ((feedChans k).filter fun n => s.flag F.PROT_STAT_SHED n).length

/-- A read of a Tollgate register. -/
def tollRead (m : Master) (r : Reg) (k : Nat) (s : State) : Word × State :=
  match r with
  | .TOLL_STAT => (putBits (s.rd r k) 16 5 (s.shedCount k), s)
  | .TOLL_PLAN => (word (sat 65535 (s.planMax k)), s)
  | .TOLL_CLR => (0, s)
  | .TOLL_RESULT => (s.rd r (bk m 0), s)
  | _ => (s.rd r k, s)

/-- A write that reaches a Tollgate register; one to an absent feed's is ignored, and answered with ABSENT (R13, R14). -/
def tollAccess (m : Master) (r : Reg) (k : Nat) (v : Word) (s : State) : State :=
  if regFitted s.variant r k then
    let p := tollWrite r k v s
    p.2.answer m .TOLL_RESULT p.1 (match r with | .TOLL_RESULT => 0 | _ => k + 1) (r.addr k)
  else s.absentWrite m .TOLL_RESULT (k + 1) (r.addr k)

/-- TOLL_CLR (R254). -/
def execTollClr (m : Master) (k : Fin 4) (v : Word) (s : State) : Host.Outcome State Fault Refusal :=
  ok s (tollAccess m .TOLL_CLR k.val v s)

/-- BUDGET (R245): a write of TOLL_CFGk. -/
def execTollBudget (m : Master) (k : Fin 4) (v : Word) (s : State) : Host.Outcome State Fault Refusal :=
  ok s (tollAccess m .TOLL_CFG k.val v s)

/-! ## The feed current (R241) -/

def State.tf (s : State) (k : Nat) : TollFeed := tabGet {} s.tollFeed k
def State.setTf (s : State) (k : Nat) (f : TollFeed) : State := { s with tollFeed := tabSet {} s.tollFeed k f }

/-- What a channel adds to its feed's current, mA: nothing for 1 ms after a short-circuit cut-off. -/
def State.feedShare (s : State) (n : Nat) : Int := if s.up < (s.ch n).cutUntil then 0 else s.snsMa n

/-- The feed current, mA: over every channel, or without those whose reservation is held. -/
def State.feedSum (s : State) (k : Nat) (unreserved : Bool) : Int :=
  ((s.tf k).valve : Int) + ((feedChans k).map fun n =>
    if ! chanFitted s.variant n || (unreserved && s.reserved n) then 0 else s.feedShare n).sum

/-- 1.25 × B, mA. -/
def State.overLimit (s : State) (k : Nat) : Nat := s.getF F.TOLL_CFG_BUDGET k * 1250

/-- The feed current is formed (every 20 µs); OVER follows it, and NOSHED clears with it. TOLL_CUR shows a negative sum as 0. -/
def feedFrame (k : Nat) (s : State) : State :=
  let i := s.feedSum k false
  let f := s.tf k
  let s1 := s.setTf k { f with cur := i, stepSum := f.stepSum + s.feedSum k true, stepNum := f.stepNum + 1 }
  let isOver := decide ((s.overLimit k : Int) < i)
  let s2 := (s1.setF F.TOLL_CUR_CUR k (sat 65535 (i / 10).toNat)).setB F.TOLL_STAT_OVER k isOver
  if isOver then s2 else s2.setB F.TOLL_STAT_NOSHED k false

/-! ## Short circuit, junction, DIP (R229, R231, R236) -/

/-- SHORT_CIRCUIT_CUTOFF (R229): the comparator acts while the stage conducts. -/
def shortCutoff (n : Nat) (s : State) : State :=
  if s.stage n then
    let s1 := s.setCh n { s.ch n with cutUntil := s.up + 1000000 }
    trip n 1 s1
  else s

def execShortCircuitCutoff (n : Fin 96) (s : State) : Host.Outcome State Fault Refusal :=
  ok s (if chanFitted s.variant n.val then shortCutoff n.val s else s)

/-- The junction reaches 170 °C: LATCH_J, and a protection event with cause 5 in a stage-on state (R228, R236). -/
def junctionHot (n : Nat) (tj : Int) (s : State) : State :=
  let s1 := (s.setF F.PROT_JT_TJ n (codeOf 16 tj)).setB F.PROT_STAT_LATCH_J n true
  thermalSet s n (trip n 5 s1)

/-- JUNCTION_OVERTEMP (R228, R236). -/
def execJunctionOvertemp (n : Fin 96) (tj : Int) (s : State) : Host.Outcome State Fault Refusal :=
  ok s (if chanFitted s.variant n.val then junctionHot n.val tj s else s)

/-- The junction is at or below 150 °C. -/
def junctionCool (n : Nat) (tj : Int) (s : State) : State :=
  let s1 := (s.setF F.PROT_JT_TJ n (codeOf 16 tj)).setB F.PROT_STAT_LATCH_J n false
  if s.thermal n && ! s1.thermal n then thermalCleared n s1 else s1

/-- JUNCTION_COOLED (R236). -/
def execJunctionCooled (n : Fin 96) (tj : Int) (s : State) : Host.Outcome State Fault Refusal :=
  ok s (if chanFitted s.variant n.val then junctionCool n.val tj s else s)

/-- The pause of a channel's envelope detector ends; its span restarts. `spent`: it lasted its 1 ms, and a new one needs DIP to clear and set
again (R231). -/
def pauseEnd (n : Nat) (spent : Bool) (s : State) : State :=
  if s.flag F.PROT_STAT_PAUSED n then
    (s.setB F.PROT_STAT_PAUSED n false).setCh n { s.ch n with span := none, dipSpent := spent }
  else if spent then s
  else s.setCh n { s.ch n with dipSpent := false }

/-- DIP sets: channels in INRUSH pause their envelope detectors. -/
def dipSet (k : Nat) (s : State) : State :=
  let s1 := snsDisturb (feedChans k) (s.setB F.TOLL_STAT_DIP k true)
  if s.flag F.TOLL_STAT_DIP k then s1
  else (feedChans k).foldl (fun t n => if t.flag F.OUT_STAT_INR n then t.setB F.PROT_STAT_PAUSED n true else t) s1

/-- DIP_SET (R231). -/
def execDipSet (k : Fin 4) (s : State) : Host.Outcome State Fault Refusal := ok s (if feedFitted s.variant k.val then dipSet k.val s else s)

/-- DIP_CLEAR (R231). -/
def execDipClear (k : Fin 4) (s : State) : Host.Outcome State Fault Refusal :=
  ok s ((feedChans k.val).foldl (fun t n => pauseEnd n false t) (s.setB F.TOLL_STAT_DIP k.val false))

/-- DIP_PAUSE_TIMEOUT (R231). -/
def execDipPauseTimeout (n : Fin 96) (s : State) : Host.Outcome State Fault Refusal := ok s (pauseEnd n.val true s)

/-! ## Overcurrent and envelope (R230) -/

/-- The envelope is in force: the window runs, or has ended in the present cycle (R207). -/
def State.enveloped (s : State) (n : Nat) : Bool := s.flag F.OUT_STAT_INR n || s.cyc.ends.contains n

/-- The threshold in force, mA: the class envelope (R195) while the window runs, else OUT_THRn.THR. -/
def State.threshold (s : State) (n : Nat) : Int :=
  if s.enveloped n then ((byClass n 180000 60000 15000 : Nat) : Int) else ((s.getF F.OUT_THR_THR n * 10 : Nat) : Int)

/-- A sample of a channel, taken at model clock `t` with the stage `on` or off (R230): with the stage on, the span begins, goes on, breaks or
completes; in a PWM off phase it is skipped; with the stage off otherwise there is no span. -/
def detect (n : Nat) (ma : Int) (t : Nat) (on : Bool) (s : State) : State :=
  if s.flag F.PROT_STAT_PAUSED n || s.flag F.PROT_STAT_BLIND n then s
  else if ! on then (if s.follows n then s else s.setCh n { s.ch n with span := none })
  else if ma ≤ s.threshold n then s.setCh n { s.ch n with span := none }
  else match (s.ch n).span with
    | none => s.setCh n { s.ch n with span := some t }
    | some t0 =>
      if t < t0 + s.getF F.PROT_LIM_OCF n * 100000 then s
      else trip n (if s.enveloped n then 3 else 2) s

/-! ## The wire model (R233 to R236) -/

/-- H = 1.0 in units of 2^-32 of 1/16,384, and the highest H. -/
def heatOne : Nat := 16384 * 2 ^ 32
def heatMax : Nat := 65535 * 2 ^ 32

/-- S of a channel over the step, in units of `heatOne`: the mean square over the squared rating; without a sample in the step, of the last one. -/
def State.wireS (s : State) (n : Nat) : Nat :=
  let c := s.ch n
  let i := s.getF F.PROT_WIRE_IRATE n * 10
  if c.sqNum = 0 then heatOne * ((s.snsMa n).natAbs * (s.snsMa n).natAbs) / (i * i) else heatOne * c.sqSum / (c.sqNum * (i * i))

/-- C of a channel: KC times the sum of S over the others of its bundle. -/
def State.wireC (s : State) (n : Nat) : Nat :=
  let b := s.getF F.PROT_CPL_BUNDLE n
  if b = 0 then 0
  else s.getF F.PROT_CPL_KC n * ((s.chansWhere fun j => j != n && s.getF F.PROT_CPL_BUNDLE j == b).map s.wireS).sum / 256

/-- H after a step of 100 µs. -/
def State.wireH (s : State) (n : Nat) : Nat :=
  let h := (s.ch n).heat
  let d : Int := ((s.wireS n + s.wireC n : Nat) : Int) - h
  (clampInt 0 heatMax ((h : Int) + d / ((s.getF F.PROT_WIRE_TAU n * 10000 : Nat) : Int))).toNat

/-- H of a channel takes a value: HEAT and WARN follow. -/
def heatSet (n h : Nat) (s : State) : State :=
  ((s.setCh n { s.ch n with heat := h, sqSum := 0, sqNum := 0 }).setF F.PROT_STAT_HEAT n (h / 2 ^ 32)).setB F.PROT_STAT_WARN n
    (decide (80 * heatOne ≤ 100 * h))

/-- LATCH_W by the heat of a channel (R235, R236): an event with cause 4 where the stage is on, else none. -/
def wireLatch (n : Nat) (s : State) : State :=
  let h := (s.ch n).heat
  if heatOne ≤ h then
    if s.flag F.PROT_STAT_LATCH_W n then s
    else
      let s1 := s.setB F.PROT_STAT_LATCH_W n true
      thermalSet s n (if s.stage n then trip n 4 s1 else s1)
  else if s.flag F.PROT_STAT_LATCH_W n && decide (100 * h ≤ s.getF F.PROT_LIM_REARM n * heatOne) then
    let s1 := s.setB F.PROT_STAT_LATCH_W n false
    if s1.thermal n then s1 else thermalCleared n s1
  else s

/-- A model step: coupling settings apply, every H moves with the currents of the step, then the latches. -/
def wireStep (s : State) : State :=
  let l := s.chansWhere fun _ => true
  let s1 := l.foldl (fun t n => t.applyHeld .PROT_CPL n) s
  let hs := l.map fun n => (n, s1.wireH n)
  let s2 := hs.foldl (fun t p => heatSet p.1 p.2 t) s1
  l.foldl (fun t n => wireLatch n t) s2

/-- WIRE_MODEL_STEP (R233). -/
def execWireModelStep (s : State) : Host.Outcome State Fault Refusal := ok s (if s.dom.switch then wireStep s else s)

/-! ## Retry (R238, R239) -/

/-- A back-off ends. -/
def backoffEnds (n : Nat) (s : State) : State :=
  if s.chState n = 5 ∧ s.retryCommand n ∧ ! s.flag F.PROT_STAT_WAIT n ∧ ! s.flag F.PROT_STAT_SCHOLD n then
    restartQueue n (s.setCh n { s.ch n with backoffEnd := 0 })
  else s

/-- BACKOFF_END (R239). -/
def execBackoffEnd (n : Fin 96) (s : State) : Host.Outcome State Fault Refusal := ok s (backoffEnds n.val s)

/-- RETRY_RESET (R239): RESET_T in ON or PWM without a protection event. -/
def execRetryReset (n : Fin 96) (s : State) : Host.Outcome State Fault Refusal :=
  ok s (if s.chState n.val = 1 ∨ s.chState n.val = 2 then s.setF F.PROT_STAT_USED n.val 0 else s)

/-! ## The planning step (R241 to R244, R250) -/

/-- P of a feed: the step's mean joins the means of the last 100 ms. -/
def planBaseStep (k : Nat) (s : State) : State :=
  let f := s.tf k
  let m := if f.stepNum = 0 then s.feedSum k true else f.stepSum / f.stepNum
  let l := (m :: f.means).take 1000
  (s.setTf k { f with stepSum := 0, stepNum := 0, means := l }).setF F.TOLL_CUR_BASE k (sat 65535 (l.sum / (l.length : Int) / 10).toNat)

/-- A switch-on that Tollgate places or takes: the OFF→ON transition, and the channel by its source where pending configuration has changed it (R202). -/
def switchOn (n : Nat) (s : State) : State :=
  let s1 := enterInrush n s
  if s1.route n = s.route n then s1 else routeFollow n s1

/-- A commanded switch-on that waits: it fits the budget in force when it began to wait (R250) and switches, or its stagger ends and it is refused. -/
def placeCommanded (s : State) (n : Nat) : State :=
  match s.tollWait.find? fun w => w.chan == n with
  | none => s
  | some w =>
    let dl := w.deadline.getD 0
    if s.chState n ≠ 0 ∨ ! (s.ch n).act then waitDrop n s
    else if ! (s.chBand n).admits then (waitDrop n s).setB F.OUT_STAT_BAND_HELD n true
    else if s.thermal n then toThermal n none s
    else if s.up ≤ dl ∧ s.fitsBudget w.budget n then switchOn n s
    else if dl < s.up + 100000 then tollRefuse n s
    else s

/-- A queued switch-on is taken when it fits. -/
def takeQueued (s : State) (n : Nat) : State :=
  let st := s.chState n
  if ! (st == 0 || st == 5) || ! (if st == 5 then s.retryCommand n else (s.ch n).act) then waitDrop n s
  else if ! (s.chBand n).admits then s
  else if s.thermal n then (if st = 0 then toThermal n none s else s)
  else if s.fitsNow n then
    if st = 5 then switchOn n ((s.setF F.PROT_STAT_USED n (sat 15 (s.getF F.PROT_STAT_USED n + 1))).odoCount 1 n 6 1)
    else switchOn n s
  else s

/-- The channels of a feed that wait, commanded or queued, in order of service. -/
def State.waiting (s : State) (k : Nat) (com : Bool) : List Nat :=
  s.inService ((s.tollWait.filter fun w => chFeed w.chan == k && w.deadline.isSome == com).map (·.chan))

/-- One feed's planning step. -/
def planFeed (s : State) (k : Nat) : State :=
  let s1 := planBaseStep k (s.applyHeld .TOLL_CFG k)
  let s2 := (s1.waiting k true).foldl placeCommanded s1
  (s2.waiting k false).foldl takeQueued s2

/-- The measured voltage of a feed, 10 mV, and the valve current on it, mA. -/
def feedMeasure (k : Nat) (p : Nat × Nat) (s : State) : State :=
  (s.setF F.TOLL_VOLT_VOLT k (sat 65535 p.1)).setTf k { s.tf k with valve := p.2 }

/-- PLANNING_STEP (R241): the feeds' measurements of the moment come with it. -/
def execPlanningStep (feeds : List (Nat × Nat)) (s : State) : Host.Outcome State Fault Refusal :=
  let l := (List.range 4).filter fun k => feedFitted s.variant k
  ok s (if s.dom.switch then
      let s1 := l.foldl (fun t k => match feeds[k]? with | some p => feedMeasure k p t | none => t) s
      l.foldl planFeed s1
    else s)

/-! ## Shedding and restore (R246 to R248) -/

/-- Shed before: lower PRIO, then higher channel number. -/
def State.shedBefore (s : State) (a b : Nat) : Bool := s.servedBefore b a

/-- A channel that may be shed (R246): its stage conducts under its command, PRIO is not 7, it is not in SAFE, and in INRUSH only with the
largest sample of the feed. -/
def State.sheddable (s : State) (n : Nat) : Bool :=
  let st := s.chState n
  s.prio n != 7 &&
    (st == 1 || st == 2 ||
      (st == 3 && (feedChans (chFeed n)).all fun j => ! chanFitted s.variant j || decide (s.snsMa j ≤ s.snsMa n)))

/-- A channel is shed: OFF with its command kept. -/
def shedOne (n : Nat) (s : State) : State :=
  let i := s.snsMa n
  let s1 := stageLeft n 0 (stageOff n 4 false s)
  let s2 := (s1.setB F.PROT_STAT_SHED n true).setF F.PROT_STAT_CAUSE n 6
  s2.setCh n { s2.ch n with iShed := i }

/-- Candidates are shed in their order until the rest is at most B: how many, the rest of the current, and the state. -/
def shedList (k : Nat) : List Nat → Nat × Int × State → Nat × Int × State
  | [], a => a
  | n :: t, (c, i, s) =>
    if i ≤ ((s.budget k * 10 : Nat) : Int) then (c, i, s) else shedList k t (c + 1, i - s.snsMa n, shedOne n s)

/-- The feed current that shedding starts from: without the samples of channels that their commands switched off in this cycle (R251). -/
def State.shedStart (s : State) (k : Nat) : Int :=
  (s.tf k).cur - ((s.chansWhere fun n => chFeed n == k && s.cyc.offs.contains n && ! s.stage n).map s.snsMa).sum

/-- Tollgate sheds on a feed. -/
def shed (k : Nat) (s : State) : State :=
  let l := (s.inService (s.chansWhere fun n => chFeed n == k && s.sheddable n)).reverse
  let r := shedList k l (0, s.shedStart k, s)
  let s1 := r.2.2
  let s2 := if (s1.overLimit k : Int) < r.2.1 ∧ ! s1.flag F.TOLL_STAT_NOSHED k then
      (s1.setB F.TOLL_STAT_NOSHED k true).raise (120 + k) (s.getF F.TOLL_CUR_CUR k)
    else s1
  if r.1 = 0 then s2 else ((s2.countF F.TOLL_CNT_SHEDS k).request 10).emcyObj 0xFF42 0 0x3400 (16 * (k + 1) + 4)

/-- SHEDDING (R246): the feed has been above 1.25 × B for more than 200 µs. -/
def execShedding (k : Fin 4) (s : State) : Host.Outcome State Fault Refusal :=
  ok s (if s.flag F.TOLL_STAT_OVER k.val && ! (s.feedBand k.val).dark then shed k.val s else s)

/-- The next channel to offer: shed, its command kept, not yet queued. -/
def State.offered (s : State) (k : Nat) : Option Nat :=
  (s.inService (s.chansWhere fun n => chFeed n == k && s.flag F.PROT_STAT_SHED n && (s.ch n).act && ! s.flag F.PROT_STAT_WAIT n)).head?

/-- A channel is offered for restore: it becomes a queued switch-on if the feed current plus its I_SHED is at most B. -/
def restoreOffer (k : Nat) (s : State) : State :=
  match s.offered k with
  | none => s
  | some n =>
    if (s.tf k).cur + (s.ch n).iShed ≤ ((s.budget k * 10 : Nat) : Int) then waitAdd n none s else s

/-- RESTORE_OFFER (R248): the feed current has stayed at or below B for RESTORE. -/
def execRestoreOffer (k : Fin 4) (s : State) : Host.Outcome State Fault Refusal :=
  ok s (if (s.tf k.val).cur ≤ ((s.budget k.val * 10 : Nat) : Int) then restoreOffer k.val s else s)

end Sys2Proof.Machine
end

