-- ==== Sys2Proof/Machine/SensingCommands.lean ====
section
/-!
DEFINITION. Machine/SensingCommands.lean: the writes and reads of the SNS registers (R277 to R279), and the meanings of the measurement
commands (08_current_sensing.md). A sample comes with its command as the converter's reading in µA, before the channel's offset and gain.
-/
namespace Sys2Proof.Machine

/-! ## Published samples (R259 to R261) -/

/-- The window of a sample in ns: 40 µs, or a light conversion of 1 µs. -/
def snsWindow (n : Nat) : Nat := if n < 64 then 40000 else 1000

/-- A reading with the offset and the gain in force, µA. -/
def State.snsScaled (s : State) (n : Nat) (raw : Int) : Int :=
  (raw - signedOf 16 (s.getF F.SNS_CAL_OFFSET n) * (snsUnit n : Nat)) * (s.getF F.SNS_CAL_GAIN n : Nat) / 32768

/-- The stamp of a sample taken now: the centre of its window. -/
def State.snsStamp (s : State) (n : Nat) : Nat := (s.short + 2 ^ 32 - snsWindow n / 2) % 2 ^ 32

/-- The gain and the offset in use are the factory values (R261, R270): those in force equal them (DEDUCED, assumption 48). -/
def State.snsFactory (s : State) (n : Nat) : Bool := s.rd .SNS_CAL n == Reg.reset .SNS_CAL n

/-- VALUE of a current, and whether it lies outside the range before SAT. -/
def snsCode (n : Nat) (ua : Int) : Nat × Bool :=
  let x := roundDiv ua (snsUnit n)
  let hi : Int := if n < 64 then 32767 else 32760
  (codeOf 16 (clampInt (-32768) hi x), decide (x < -32768 ∨ hi < x))

/-- The sample that a reading taken now makes. -/
def State.sample (s : State) (n : Nat) (ua : Int) : CalSample :=
  { ua := ua, at_ := s.up, stamp := s.snsStamp n, edge := s.snsEdgeIn n (snsWindow n), on := s.stage n }

/-- The time that a sample stands for, ns: the sample period. -/
def snsPeriod (n : Nat) : Nat := if n < 64 then 20000 else 32000

/-- A published sample joins the channel's energy in mA at the feed voltage, whole Wh the Odometer; reverse current is taken off what is not yet whole
(R262, R525; DEDUCED, assumption 48). -/
def energyAdd (n : Nat) (s : State) : State :=
  let e := tabGet 0 s.odoEnergy n + s.snsMa n * ((s.chVolt n * (snsPeriod n / 1000) : Nat) : Int)
  let q := (e / 360000000000000).toNat
  let s1 := { s with odoEnergy := tabSet 0 s.odoEnergy n (e - q * 360000000000000) }
  if q = 0 then s1 else s1.odoCount 1 n 2 q

/-- A published sample with the stage on joins the on-hours, whole seconds the Odometer (R262, R525). -/
def onAdd (n : Nat) (s : State) : State :=
  let t := (s.snsCh n).onNs + snsPeriod n
  let s1 := s.setSns n { s.snsCh n with onNs := t % 1000000000 }
  if t < 1000000000 then s1 else s1.odoCount 1 n 1 (t / 1000000000)

/-- The channel whose sample ends the 20 µs frame of its feed: the highest fitted heavy or medium one. -/
def frameEnd (v : Variant) (n : Nat) : Bool :=
  decide (n < 64) && (feedChans (chFeed n)).all fun j => decide (j ≤ n) || decide (64 ≤ j) || ! chanFitted v j

/-- The word of SNS_VALn for a sample published as `ua`. -/
def State.valWord (s : State) (n : Nat) (x : CalSample) (ua : Int) (cal : Bool) : Word :=
  let c := snsCode n ua
  word (c.1 + 0x10000 * b01 cal + 0x40000 * b01 c.2 + 0x80000 * b01 (x.edge && decide (n < 64)) + 0x100000 * b01 (! x.on && ! x.edge) +
    0x200000 * b01 (s.snsFactory n))

/-- The wire model's sums take a sample: reverse current heats as forward current does (R233). -/
def wireAdd (n : Nat) (s : State) : State :=
  let ma := (s.snsMa n).natAbs
  s.setCh n { s.ch n with sqSum := (s.ch n).sqSum + ma * ma, sqNum := (s.ch n).sqNum + 1 }

/-- A sample is published as `ua`: the register and stamp, the wire model's sums, the Odometer, the detectors and the feed current use it. -/
def snsPublish (n : Nat) (x : CalSample) (ua : Int) (cal : Bool) (s : State) : State :=
  let s1 := (s.wr .SNS_VAL n (s.valWord n x ua cal)).setSns n { s.snsCh n with stamp := x.stamp }
  let s2 := energyAdd n (wireAdd n s1)
  let s3 := if x.on then onAdd n s2 else s2
  let s4 := detect n (s3.snsMa n) x.at_ x.on s3
  if frameEnd s4.variant n then feedFrame (chFeed n) s4 else s4

/-! ## Offset (R265) -/

/-- A clean off sample: the whole window at least 40 µs after the stage switched off. -/
def State.snsClean (s : State) (n : Nat) : Bool :=
  ! s.stage n && ! s.snsEdgeIn n (40000 + snsWindow n) && ! (decide (64 ≤ n) && s.flag F.SNS_STATUS_TESTER 0)

/-- An offset measurement: OFFSET moves by a quarter of the difference. -/
def offsetMeasured (n : Nat) (s : State) : State :=
  let l := (s.snsCh n).offs
  let u := (snsUnit n : Int) * l.length
  let o := signedOf 16 (s.getF F.SNS_CAL_OFFSET n)
  let o2 := roundDiv (3 * o * u + l.sum) (4 * u).toNat
  ((s.setSns n { s.snsCh n with offs := [] }).setF F.SNS_CAL_OFFSET n (codeOf 16 o2)).setB F.SNS_CSTAT_OFS_OLD n false

/-- A sample's part in the offset: a clean one is taken, up to eight make a measurement; any other ends what was begun. -/
def offsetSample (n : Nat) (raw : Int) (s : State) : State :=
  if s.snsClean n then
    let s1 := s.setSns n { s.snsCh n with offs := (s.snsCh n).offs ++ [raw] }
    if (s1.snsCh n).offs.length = 8 then offsetMeasured n s1 else s1
  else if (s.snsCh n).offs = [] then s else offsetMeasured n s

/-! ## Gain (R266 to R269) -/

/-- A feed's reference has failed its check: the gains of its channels are held (R266). -/
def State.refFaulty (s : State) (n : Nat) : Bool := bitOf (s.getF F.SNS_STATUS_REF_FAULT 0) (chFeed n)

/-- The conditions for opening a window at this sample (R266, R267). -/
def State.gainOpens (s : State) (n : Nat) : Bool :=
  let st := s.chState n
  s.flag F.SNS_CSTAT_GAIN_DUE n && (st == 1 || st == 2 || st == 8) && ! s.flag F.OUT_STAT_INR n && s.stage n &&
    ! s.snsEdgeIn n (snsWindow n) && s.feedClean n && decide (s.getF F.PWR_STAT_STATE 0 ≤ 1) &&
    ! s.refFaulty n && (decide (n < 64) || ! s.flag F.SNS_STATUS_TESTER 0)

/-- A feed's reference differs from the band-gap monitor by more than 0.3 % (R266). -/
def refFault (k : Nat) (s : State) : State :=
  ((s.setB ⟨.SNS_STATUS, 2 + k, 1⟩ 0 true).request 11).raise (124 + k) 0xFF

/-- GAIN_FAULT sets (R269). -/
def gainFault (n : Nat) (s : State) : State :=
  if s.flag F.SNS_CSTAT_GAIN_FAULT n then s
  else (((s.setB F.SNS_CSTAT_GAIN_FAULT n true).request 11).raise (124 + chFeed n) n).emcyObj 0xFF4A 0 0x3300 0x05

/-- The weights of a window's disturbed samples, in halves (R268). -/
def calWeights (n : Nat) : List Nat := if n < 64 then [1, 2, 1] else [2]

/-- The steady limit: 1 % of the class's continuous current, µA. -/
def steadyLimit (n : Nat) : Nat := byClass n 300000 100000 30000

/-- A calibration of a channel is over, accepted or rejected: GAIN_DUE clears, and an INTERVAL that waits is in force (R35; DEDUCED,
assumption 48). -/
def gainDone (n : Nat) (s : State) : State := (s.setB F.SNS_CSTAT_GAIN_DUE n false).applyHeld .SNS_CFG 0

/-- The measurement at the closing sample (R269): the gain at the opening, the sum of the disturbed readings less the replacements. A new gain that is
not taken ends the calibration as a rejection does, with REJ as it was (DEDUCED, assumption 48). -/
def gainJudge (n gain : Nat) (num : Int) (s : State) : State :=
  let ref : Int := 100000 * (if n < 64 then 2 else 1)
  if num ≤ 0 ∨ num < 50 * (ref - num).natAbs then
    let s1 := gainDone n (s.countF F.SNS_CSTAT_REJ n)
    if 4 ≤ s1.getF F.SNS_CSTAT_REJ n then gainFault n s1 else s1
  else
    let meas := roundDiv ((gain : Int) * ref) num.toNat
    let g := roundDiv (7 * (gain : Int) + meas) 8
    if 950 * 32768 ≤ g * 1000 ∧ g * 1000 ≤ 1050 * 32768 then
      let s1 := (s.setF F.SNS_CAL_GAIN n g.toNat).setSns n { s.snsCh n with gainAt := s.up }
      ((gainDone n s1).setF F.SNS_CSTAT_REJ n 0).setB F.SNS_CSTAT_GAIN_FAULT n false
    else gainFault n (gainDone n s)

/-- The replacements: the straight line between the sample at t0 and the closing one. -/
def calLine (a b : Int) : Nat → Nat → List CalSample → List (CalSample × Int)
  | _, _, [] => []
  | i, m, x :: t => (x, a + (b - a) * i / m) :: calLine a b (i + 1) m t

/-- Several CAL samples are published in their order. -/
def publishAll (n : Nat) (l : List (CalSample × Int)) (s : State) : State :=
  l.foldl (fun t p => snsPublish n p.1 p.2 true t) s

/-- The window of a channel, or none. -/
def winTo (n : Nat) (w : Option GainWin) (s : State) : State := s.setSns n { s.snsCh n with win := w }

/-- The window closes with a clean sample. A measurement is not made of one that was disturbed or loaded over (R275), and not while the feed's reference
is faulty (R266). -/
def gainClose (n : Nat) (w : GainWin) (x : CalSample) (s : State) : State :=
  let l := calLine w.first x.ua 1 (w.held.length + 1) w.held
  let s2 := snsPublish n x x.ua false (publishAll n l (winTo n none s))
  let num := (l.map fun p => p.1.ua - p.2).sum
  if w.spoiled || (s.heldOf .SNS_CAL n).isSome || s.refFaulty n || decide (steadyLimit n < (w.first - x.ua).natAbs) then s2
  else gainJudge n w.gain num s2

/-- The disturbed samples of a window without its reference (R275): each is its reading less the reference, scaled by G and by its weight, from the
`i`-th on. -/
def calReduced (n gain i : Nat) (l : List CalSample) : List (CalSample × Int) :=
  (l.zip ((calWeights n).drop i)).map fun p => (p.1, p.1.ua - (gain : Int) * 50000 * (p.2 : Int) / 32768)

/-- A sample of a window whose reference was removed early: what is held back goes out with it, still CAL where its place in the window makes it so; the
sample in the closing one's place ends the window, and nothing is measured (R275; the weights are those of R268: DEDUCED, assumption 48). -/
def gainAborted (n : Nat) (w : GainWin) (x : CalSample) (s : State) : State :=
  let l := w.held ++ [x]
  let s1 := publishAll n (calReduced n w.gain w.done l) s
  let k := w.done + l.length
  if (calWeights n).length < k then snsPublish n x x.ua false (winTo n none s1)
  else winTo n (some { w with held := [], done := k }) s1

/-- A sample in a window. -/
def winSample (n : Nat) (w : GainWin) (x : CalSample) (s : State) : State :=
  if w.aborted then gainAborted n w x s
  else if (calWeights n).length ≤ w.held.length then gainClose n w x s
  else winTo n (some { w with held := w.held ++ [x] }) s

/-- A sample outside a window: published, taken for the offset, and it opens a window where one is due. `refOk`: the band-gap comparison at a use of
the reference holds. -/
def plainSample (n : Nat) (raw : Int) (refOk : Bool) (x : CalSample) (s : State) : State :=
  let s1 := offsetSample n raw (snsPublish n x x.ua false s)
  if s1.gainOpens n then
    if refOk then winTo n (some { first := x.ua, gain := s1.getF F.SNS_CAL_GAIN n }) s1 else refFault (chFeed n) s1
  else s1

/-- The stored values that wait apply at a sample outside a window (R281). -/
def calApply (n : Nat) (s : State) : State := if (s.snsCh n).win.isSome then s else s.applyHeld .SNS_CAL n

/-- A sample of a channel. -/
def snsSample (n : Nat) (raw : Int) (refOk : Bool) (s : State) : State :=
  let s1 := calApply n s
  let x := s1.sample n (s1.snsScaled n raw)
  match (s1.snsCh n).win with
  | none => plainSample n raw refOk x s1
  | some w => winSample n w x s1

/-- SAMPLE_PUBLISH (R259). -/
def execSamplePublish (n : Fin 64) (raw : Int) (refOk : Bool) (s : State) : Host.Outcome State Fault Refusal :=
  ok s (if s.dom.switch && chanFitted s.variant n.val then snsSample n.val raw refOk s else s)

/-- A light reading at the steps of its range, µA (R260): 2 mA up to 8.190 A, 8 mA above; to the nearest step (DESIGN CHOICE, assumption 48). -/
def lightReading (raw : Int) : Int := if raw.natAbs ≤ 8190000 then 2000 * roundDiv raw 2000 else 8000 * roundDiv raw 8000

/-- One slot of the light scan: the channel of the slot is converted, an absent one is left unused. -/
def lightSlot (raw : Int) (refOk : Bool) (s : State) : State :=
  let n := 64 + s.snsSlot
  let s1 := { s with snsSlot := (s.snsSlot + 1) % 32 }
  if chanFitted s.variant n then snsSample n (lightReading raw) refOk s1 else s1

/-- LIGHT_CONVERSION (R260): the scan is paused during a tester session. -/
def execLightConversion (raw : Int) (refOk : Bool) (s : State) : Host.Outcome State Fault Refusal :=
  ok s (if s.dom.switch && ! s.flag F.SNS_STATUS_TESTER 0 then lightSlot raw refOk s else s)

/-- OFS_OLD (R265). -/
def execOfsOld (n : Fin 96) (s : State) : Host.Outcome State Fault Refusal :=
  ok s (if s.dom.switch && chanFitted s.variant n.val then s.setB F.SNS_CSTAT_OFS_OLD n.val true else s)

/-- GAIN_DUE (R267). -/
def execGainDue (n : Fin 96) (s : State) : Host.Outcome State Fault Refusal :=
  ok s (if s.dom.switch && chanFitted s.variant n.val then s.setB F.SNS_CSTAT_GAIN_DUE n.val true else s)

/-! ## The external tester (R263, R264) -/

/-- The light channels of the module. -/
def State.lights (s : State) : List Nat := s.chansWhere fun n => decide (64 ≤ n)

/-- A tester session begins: a light channel's window and what was begun of an offset measurement are dropped (R263, R275). -/
def testerStart (isel : Nat) (s : State) : State :=
  let s1 := ((s.setB F.SNS_STATUS_TESTER 0 true).setF F.SNS_STATUS_ISEL 0 isel).countF F.SNS_STATUS_SESSIONS 0
  s1.lights.foldl (fun t n =>
    ((t.setB F.SNS_VAL_STALE n true).setB F.PROT_STAT_BLIND n true).setSns n { t.snsCh n with win := none, offs := [] }) s1

/-- TESTER_SESSION_START (R263): with the Switch domain off the pins are ignored (R80). -/
def execTesterSessionStart (isel : Fin 32) (s : State) : Host.Outcome State Fault Refusal :=
  ok s (if ! s.dom.switch || s.flag F.SNS_STATUS_TESTER 0 then s else testerStart isel.val s)

/-- TESTER_SESSION_END (R264): the scan resumes; each STALE clears with the channel's next sample. -/
def execTesterSessionEnd (s : State) : Host.Outcome State Fault Refusal :=
  ok s (s.lights.foldl (fun t n => t.setB F.PROT_STAT_BLIND n false) ((s.setB F.SNS_STATUS_TESTER 0 false).setF F.SNS_STATUS_ISEL 0 0))

/-- ISEL_CHANGE (R110). -/
def execIselChange (isel : Fin 32) (s : State) : Host.Outcome State Fault Refusal :=
  ok s (if s.flag F.SNS_STATUS_TESTER 0 then s.setF F.SNS_STATUS_ISEL 0 isel.val else s)

/-- What ISENSE_L shows, nV, of the light channels' load currents in µA (R80, R110): nothing while it floats with the Switch domain off; 0 V away from
a session and for an absent channel; 0.12 V per ampere of the selected one. -/
def State.isensePin (s : State) (load : Nat → Int) : Option Int :=
  let n := 64 + s.getF F.SNS_STATUS_ISEL 0
  if ! s.dom.switch then none
  else if s.flag F.SNS_STATUS_TESTER 0 && chanFitted s.variant n then some (120 * load n)
  else some 0

/-! ## Signatures (R271 to R274) -/

/-- The integer square root of a number below 2^128. -/
def isqrt (n : Nat) : Nat :=
  ((List.range 64).reverse).foldl (fun r b => if (r + 2 ^ b) * (r + 2 ^ b) ≤ n then r + 2 ^ b else r) 0

/-- The largest of a list, 0 of an empty one. -/
def maxOf : List Int → Int
  | [] => 0
  | [a] => a
  | a :: b :: t => max a (maxOf (b :: t))

/-- The 128 samples of a capture, scaled by 24 V over the feed voltage. -/
def sigScaled (k volt : Nat) (x : List Int) : List Int :=
  (List.range 128).map fun i =>
    if volt = 0 then Config.scaledSample (k + i) (x.getD i 0) else roundDiv (x.getD i 0 * 2400) volt

/-- Pointwise sum of two curves; an empty one counts as zeros. -/
def addCurve (a b : List Int) : List Int := (List.range 128).map fun i => a.getD i 0 + b.getD i 0

/-- The learned curves from 32 captures, units of 1/32: the mean, three times the standard deviation, the peak. -/
def sigLearned (c : SnsChan) : SnsChan :=
  let sp := (List.range 128).map fun i =>
    let m := c.sums.getD i 0
    isqrt (9 * ((32 * c.squares.getD i 0 : Nat) - m * m : Int).toNat)
  { c with mean := c.sums, spread := sp, peak := maxOf c.sums }

/-- A capture joins the learning; the 32nd completes it, and base firmware stores the signature (R270). -/
def sigLearn (n : Nat) (x : List Int) (s : State) : State :=
  let c := s.snsCh n
  let sq := (List.range 128).map fun i => c.squares.getD i 0 + (x.getD i 0).natAbs * (x.getD i 0).natAbs
  let c1 := { c with sums := addCurve c.sums x, squares := sq, last := x }
  let k := s.getF F.SNS_SIGSTAT_LEARNED n + 1
  let s1 := s.setF F.SNS_SIGSTAT_LEARNED n k
  if k = 32 then
    let c2 := sigLearned c1
    ((s1.setSns n { c2 with stored := { c2.stored with sig := some (c2.mean, c2.spread, c2.peak) } }).setB F.SNS_SIGSTAT_LEARNT n true).setF F.SNS_SIGPK_PEAK n (codeOf 16 (roundDiv c2.peak 32))
  else s1.setSns n c1

/-- The divisor of a sample's deviation, units of 1/3,200 of a class unit. -/
def sigDen (c : SnsChan) (tol i : Nat) : Int := 100 * (c.spread.getD i 0 : Nat) + tol * c.peak

/-- The deviation index E, units of 2^-16; none where a divisor is not above 0. -/
def sigIndex (c : SnsChan) (tol : Nat) (x : List Int) : Option Nat :=
  if (List.range 128).any fun i => decide (sigDen c tol i ≤ 0) then none
  else
    let q := (List.range 128).map fun i =>
      let d := (32 * x.getD i 0 - c.mean.getD i 0).natAbs * 100
      d * d * 2 ^ 32 / ((sigDen c tol i).toNat * (sigDen c tol i).toNat)
    some (isqrt (q.sum / 128))

/-- A verdict is stored: HIST, TREND, the counts, the EMCYs. -/
def verdictSet (n v : Nat) (s : State) : State :=
  let old := s.getF F.SNS_SIGSTAT_VERDICT n
  let s1 := s.setF F.SNS_SIGSTAT_VERDICT n v
  if v = 4 then s1
  else
    let h := (s.getF F.SNS_SIGHIST_HIST n * 2 + (if v = 1 then 0 else 1)) % 256
    let tr := decide (4 ≤ (onesUpTo 8 h).length)
    let was := s.flag F.SNS_SIGHIST_TREND n
    let s2 := (s1.setF F.SNS_SIGHIST_HIST n h).setB F.SNS_SIGHIST_TREND n tr
    let s3 := if v = 2 then (s2.countF F.SNS_SIGHIST_DEGN n).odoCount 1 n 7 1
      else if v = 3 then (s2.countF F.SNS_SIGHIST_CHGN n).odoCount 1 n 8 1 else s2
    let s4 := if tr && ! was then s3.emcyObj 0xFF48 0 0x3300 (0x70 + n) else s3
    if v = 3 ∧ old ≠ 3 then s4.emcyObj 0xFF49 0 0x3300 (0x70 + n) else s4

/-- A later capture is judged (R273). -/
def sigJudge (n : Nat) (c : Capture) (x : List Int) (s : State) : State :=
  let l := s.snsCh n
  let e := (sigIndex l c.tol x).getD (Config.signatureIndex s.fresh)
  let pk := maxOf x
  let near := decide (2 * (32 * pk - l.peak).natAbs ≤ l.peak.natAbs)
  let v := if ! near || decide (c.chg * 65536 < 10 * e) then 3 else if c.deg * 65536 < 10 * e then 2 else 1
  let s1 := s.setSns n { l with last := x }
  let s2 := (if (sigIndex l c.tol x).isSome then s1 else s1.used).setF F.SNS_SIGSTAT_DEV n (sat 65535 (e / 256))
  verdictSet n v s2

/-- The end of a capture: skipped, learned or judged. -/
def captureEnd (n : Nat) (x : List Int) (s : State) : State :=
  match (s.snsCh n).cap with
  | none => s
  | some c =>
    let s1 := s.setSns n { s.snsCh n with cap := none }
    if c.skip then verdictSet n 4 s1
    else
      let y := sigScaled s.fresh c.volt x
      let s2 := (if c.volt = 0 then { s1 with fresh := s1.fresh + 128 } else s1).setF F.SNS_SIGPK_LASTPK n (codeOf 16 (maxOf y))
      if s2.flag F.SNS_SIGSTAT_LEARNT n then sigJudge n c y s2 else verdictSet n 0 (sigLearn n y s2)

/-- SIGNATURE_CAPTURE_END (R273). -/
def execSignatureCaptureEnd (n : Fin 64) (x : List Int) (s : State) : Host.Outcome State Fault Refusal := ok s (captureEnd n.val x s)

/-! ## Registers (R277, R278) -/

/-- Sample `i` of a curve in class units: 0 the last capture, 1 the mean, 2 the spread. -/
def curveAt (c : SnsChan) (curve i : Nat) : Int :=
  if curve = 0 then c.last.getD i 0
  else if curve = 1 then roundDiv (c.mean.getD i 0) 32
  else roundDiv ((c.spread.getD i 0 : Nat) : Int) 32

/-- Word `w` of a curve. -/
def curveWord (c : SnsChan) (curve w : Nat) : Word := word (codeOf 16 (curveAt c curve (2 * w)) + 65536 * codeOf 16 (curveAt c curve (2 * w + 1)))

/-- A write of SNS_SIGSEL by a master: the channel's curve is latched for it. -/
def sigselWrite (b : Nat) (v : Word) (s : State) : Code × State :=
  let n := F.SNS_SIGSEL_CHAN.of v
  let cu := F.SNS_SIGSEL_CURVE.of v
  let code := firstCode
    [ (reservedSet .SNS_SIGSEL v || cu == 3 || decide (64 ≤ n), .invalid), (! chanFitted s.variant n, .absent) ]
  if code = .accepted then
    (code, (List.range 64).foldl (fun t w => t.wr .SNS_CURVE (w + 1024 * b) (curveWord (s.snsCh n) cu w)) (s.wr .SNS_SIGSEL (1024 * b) v))
  else (code, s)

/-- A write of SNS_SIGCFGn (R277). -/
def sigcfgWrite (n : Nat) (v : Word) (s : State) : Code × State :=
  let tol := F.SNS_SIGCFG_TOL.of v
  let deg := F.SNS_SIGCFG_DEG_LIM.of v
  let chg := F.SNS_SIGCFG_CHG_LIM.of v
  if 64 ≤ n then (if v = 0 then .accepted else .invalid, s)
  else if reservedSet .SNS_SIGCFG v || ! decide (1 ≤ tol ∧ tol ≤ 50 ∧ 5 ≤ deg ∧ deg ≤ 100 ∧ deg + 1 ≤ chg ∧ chg ≤ 200) then (.invalid, s)
  else
    let s1 := s.hold .SNS_SIGCFG n (v &&& word 0x7FFFFFFF)
    (.accepted, s1.setSns n { s1.snsCh n with relearn := F.SNS_SIGCFG_RELEARN.on v })

/-- A write of a measurement register: the code, the channel concerned, and the state. -/
def snsWrite (m : Master) (r : Reg) (n : Nat) (v : Word) (s : State) : Code × Nat × State :=
  match r with
  | .SNS_CAL => (.accepted, n, s.hold r n v)
  | .SNS_SIGCFG => let p := sigcfgWrite n v s; (p.1, n, p.2)
  | .SNS_SIGSTAT | .SNS_SIGPK | .SNS_SIGHIST => (if 64 ≤ n ∧ v ≠ 0 then .invalid else .accepted, n, s)
  | .SNS_CFG =>
    let i := F.SNS_CFG_INTERVAL.of v
    if reservedSet r v || ! decide (1 ≤ i ∧ i ≤ 600) then (.invalid, 0, s) else (.accepted, 0, s.hold r 0 v)
  | .SNS_SIGSEL => let p := sigselWrite (masterBank m) v s; (p.1, F.SNS_SIGSEL_CHAN.of v, p.2)
  | .SNS_CURVE => (.accepted, 0, s)
  | _ => (.accepted, n, s)

/-- A write that reaches a measurement register; one to an absent channel's is ignored, and answered with ABSENT (R13, R14). -/
def snsAccess (m : Master) (r : Reg) (n : Nat) (v : Word) (s : State) : State :=
  if regFitted s.variant r n then
    let p := snsWrite m r n v s
    p.2.2.answer m .SNS_RESULT p.1 p.2.1 (r.addr n)
  else s.absentWrite m .SNS_RESULT n (r.addr n)

/-- GAIN_AGE now. -/
def State.gainAge (s : State) (n : Nat) : Nat := sat 65535 ((s.up - (s.snsCh n).gainAt) / 1000000000)

/-- A read of SNS_VALn: the sample; its stamp is latched for the master. -/
def snsValRead (m : Master) (n : Nat) (s : State) : Word × State :=
  (s.rd .SNS_VAL n, s.wr .SNS_STAMP (bk m n) (word (s.snsCh n).stamp))

/-- A read of a measurement register. -/
def snsRead (m : Master) (r : Reg) (n : Nat) (s : State) : Word × State :=
  match r with
  | .SNS_VAL => snsValRead m n s
  | .SNS_STAMP | .SNS_RESULT | .SNS_SIGSEL | .SNS_CURVE => (s.rd r (bk m n), s)
  | .SNS_CSTAT => (putBits (s.rd r n) 16 16 (s.gainAge n), s)
  | .SNS_SIGCFG | .SNS_SIGSTAT | .SNS_SIGPK | .SNS_SIGHIST => (if 64 ≤ n then 0 else s.rd r n, s)
  | _ => (s.rd r n, s)

/-- RELEARN (R272): a write of SNS_SIGCFGn. -/
def execRelearn (m : Master) (n : Fin 96) (v : Word) (s : State) : Host.Outcome State Fault Refusal :=
  ok s (snsAccess m .SNS_SIGCFG n.val v s)

/-- SNS_SIGSEL (R278). -/
def execSnsSigsel (m : Master) (v : Word) (s : State) : Host.Outcome State Fault Refusal := ok s (snsAccess m .SNS_SIGSEL 0 v s)

/-- SNS_VAL_READ (R277). -/
def execSnsValRead (m : Master) (n : Fin 96) (s : State) : Host.Outcome State Fault Refusal :=
  ok s (if chanFitted s.variant n.val then State.answerRead m (Reg.addr .SNS_VAL n.val) (snsValRead m n.val s)
    else State.answerRead m (Reg.addr .SNS_VAL n.val) (0, absentMark (Reg.addr .SNS_VAL n.val) s))

/-- Whether GAIN or OFFSET has changed by more than 0.1 % of range from the values last saved: of the 65,536 values of its field (DEDUCED,
assumption 48). -/
def calMoved (now saved : Word) : Bool :=
  let g (w : Word) : Int := (F.SNS_CAL_GAIN.of w : Nat)
  let o (w : Word) : Int := signedOf 16 (F.SNS_CAL_OFFSET.of w)
  decide (65 < (g now - g saved).natAbs ∨ 65 < (o now - o saved).natAbs)

/-- Base firmware stores the calibration in data flash where it has changed (R270). -/
def calSave (s : State) : State :=
  (s.chansWhere fun n => calMoved (s.rd .SNS_CAL n) ((s.snsCh n).stored.cal.getD (Reg.reset .SNS_CAL n))).foldl
    (fun t n => t.setSns n { t.snsCh n with stored := { (t.snsCh n).stored with cal := some (t.rd .SNS_CAL n) } }) s

/-- A stored signature is in force again. -/
def sigLoad (n : Nat) (g : List Int × List Nat × Int) (s : State) : State :=
  let s1 := s.setSns n { s.snsCh n with mean := g.1, spread := g.2.1, peak := g.2.2 }
  ((s1.setF F.SNS_SIGSTAT_LEARNED n 32).setB F.SNS_SIGSTAT_LEARNT n true).setF F.SNS_SIGPK_PEAK n (codeOf 16 (roundDiv g.2.2 32))

/-- The record of a channel is loaded; of one that fails its check nothing is, and the signature is discarded (R270). Whether it passes is free. -/
def recordLoad (n : Nat) (s : State) : State :=
  let r := (s.snsCh n).stored
  if r = {} then s
  else
    let s1 := s.used
    if Config.calRecordOk s.fresh then
      let s2 := match r.cal with | some w => s1.hold .SNS_CAL n w | none => s1
      match r.sig with | some g => sigLoad n g s2 | none => s2
    else s1.setSns n { s1.snsCh n with stored := {} }

/-- Base firmware loads the stored calibration; LOADED is set (R270). -/
def calLoad (s : State) : State := ((s.chansWhere fun _ => true).foldl (fun t n => recordLoad n t) s).setB F.SNS_STATUS_LOADED 0 true

end Sys2Proof.Machine
end

