-- ==== Sys2Proof/Machine/Valves.lean ====
section
/-!
DEFINITION. Machine/Valves.lean: the valve groups (09_valve_drivers.md): settings and their apply points, starts and their deferral, the event
profile, diagnostics, faults, records, the registers of R306, and the meanings of the valve commands.
-/
namespace Sys2Proof.Machine

/-! ## Valves and groups -/

def State.vlv (s : State) (v : Nat) : Valve := tabGet {} s.valve v
def State.setVlv (s : State) (v : Nat) (x : Valve) : State := { s with valve := tabSet {} s.valve v x }

/-- The event of a valve changes. -/
def setEvent (v : Nat) (e : ValveEvent) (s : State) : State := s.setVlv v { s.vlv v with event := e }

/-- The state code of a valve (R300). -/
def State.vState (s : State) (v : Nat) : Nat := s.getF F.VLV_STAT_STATE v
def vlvTo (v code : Nat) (s : State) : State := s.setF F.VLV_STAT_STATE v code

/-- Coil current as the regulation holds it, 10 mA. -/
def vlvCur (v c : Nat) (s : State) : State := s.setF F.VLV_STAT_CUR v (sat 65535 c)

/-- The valves of a group. -/
def groupValves (g : Nat) : List Nat := [4 * g, 4 * g + 1, 4 * g + 2, 4 * g + 3]

/-- The feed of a group, FEED1 as 0 (R82). -/
def groupFeed (g : Nat) : Nat := g % 2

/-- EN in force. -/
def State.vEnabled (s : State) (v : Nat) : Bool := s.flag F.VLV_MODE_EN v

/-- The occupancy of a group (R286). -/
def State.occupancy (s : State) (g : Nat) : Nat := ((groupValves g).filter fun v => s.vEnabled v).length

/-- A valve is in an event or waits. -/
def State.vBusy (s : State) (v : Nat) : Bool :=
  let c := s.vState v
  decide (1 ≤ c ∧ c ≤ 6)

/-- TMAX of a valve's next boost in ns: in the profile of its running event, or of the one that begins with the boost (R288). -/
def State.tmaxNext (s : State) (v : Nat) : Nat :=
  F.VLV_TIM_TMAX.of (if s.vBusy v && s.vState v != 1 then s.rd .VLV_TIM v else s.next .VLV_TIM v) * 100000
def State.tmaxNs (s : State) (v : Nat) : Nat := s.getF F.VLV_TIM_TMAX v * 100000
def State.minoffNs (s : State) (g : Nat) : Nat := s.getF F.VLV_GCFG_MINOFF g * 100000

/-- A recharge window applies in the group (R292). -/
def State.recharges (s : State) (g : Nat) : Bool := decide (3 ≤ s.occupancy g)

/-! ## Settings (R286, R288) -/

/-- The profile of a valve comes into force; EN stays as it is until the group's apply point. -/
def profileApply (v : Nat) (s : State) : State :=
  let s1 := (s.applyHeld .VLV_CUR v).applyHeld .VLV_TIM v
  match s1.heldOf .VLV_MODE v with
  | none => s1
  | some w =>
    let s2 := s1.wr .VLV_MODE v (putBits w 0 1 (s1.getF F.VLV_MODE_EN v))
    if s2.rd .VLV_MODE v = w then s2.unhold .VLV_MODE v else s2

/-- EN of a valve comes into force: a disabled valve reads DISABLED. -/
def enSet (v : Nat) (b : Bool) (s : State) : State :=
  let s1 := s.setB F.VLV_MODE_EN v b
  let s2 := if b then (if s.vState v = 8 then vlvTo v 0 s1 else s1) else (vlvTo v 8 s1).setF F.VLV_STAT_FCAUSE v 0
  s2.setF F.VLV_GSTAT_OCC (v / 4) (s2.occupancy (v / 4))

def enApply (v : Nat) (s : State) : State :=
  match s.heldOf .VLV_MODE v with
  | none => s
  | some w =>
    let s1 := if F.VLV_MODE_EN.on w = s.vEnabled v then s else enSet v (F.VLV_MODE_EN.on w) s
    if s1.rd .VLV_MODE v = w then s1.unhold .VLV_MODE v else s1

/-- The group's apply point: the first moment at which no event runs in the group (R35, R286). -/
def groupApply (g : Nat) (s : State) : State :=
  if (groupValves g).any fun v => s.vBusy v then s
  else (groupValves g).foldl (fun t v => enApply v t) (s.applyHeld .VLV_GCFG g)

/-! ## Boosts running, promised and held (R290 to R293) -/

/-- The ends of the boosts running or promised in a group, each its start plus its TMAX, in ns from now; `but` is left out. -/
def State.boostEnds (s : State) (g but : Nat) : List Nat :=
  (groupValves g).filterMap fun u =>
    if u = but then none
    else if s.vState u = 2 then some ((s.vlv u).boostAt + s.tmaxNs u - s.up)
    else if s.vState u = 1 || s.flag F.VLV_STAT_RPEND u then some ((s.vlv u).promise + s.tmaxNext u - s.up)
    else none

/-- Runs of an entry from now on, in ns from now, up to a horizon. -/
def runsWithin : Nat → Nat → Nat → Nat → Option Nat → List Nat
  | 0, _, _, _, _ => []
  | k + 1, t, period, horizon, left =>
    if horizon < t then []
    else if period = 0 ∨ left = some 0 then [t]
    else t :: runsWithin k (t + period) period horizon (left.map (· - 1))

/-- The longest that a deferral and a boost reach, ns. -/
def boostHorizon : Nat := 100000000

/-- The boosts that accepted milestones hold in a group: start in ns from now, and TMAX. -/
def State.heldBoosts (s : State) (g : Nat) : List (Nat × Nat) :=
  s.liveEntries.flatMap fun p => p.2.items.flatMap fun i =>
    if i.type = 3 then
      ((groupValves g).filter fun v => bitOf i.mask v && bitOf i.val v).flatMap fun v =>
        (runsWithin 1024 (p.2.next - s.total) p.2.periodNs boostHorizon (p.2.repeats.map (· - p.2.runs))).map fun t => (t, s.tmaxNext v)
    else []

/-- An accepted milestone holds a start in the group (R286). -/
def State.groupHeld (s : State) (g : Nat) : Bool :=
  s.liveEntries.any fun p => p.2.items.any fun i => i.type == 3 && (groupValves g).any fun v => bitOf i.mask v && bitOf i.val v

/-- A boost held by a milestone does not let a boost of length `len` begin at `t`: they overlap, or with a recharge window the boost would
end less than MINOFF before it. -/
def boostMeets (t len minoff : Nat) (b : Nat × Nat) : Bool := decide (t < b.1 + b.2 ∧ b.1 < t + len + minoff)

/-- The first moment from `t` on that no held boost forbids: after one that does, and its recharge window (R293). -/
def pastHeld (len minoff : Nat) (l : List (Nat × Nat)) : Nat → Nat → Nat
  | 0, t => t
  | k + 1, t =>
    match l.find? (boostMeets t len minoff) with
    | none => t
    | some b => pastHeld len minoff l k (b.1 + b.2 + minoff)

/-- The predicted deferral of a start, ns (R293). -/
def State.deferral (s : State) (v : Nat) : Nat :=
  let g := v / 4
  let restart := decide (4 ≤ s.vState v)
  let w := if s.recharges g then s.minoffNs g else 0
  let ends := s.boostEnds g v
  let t0 := ends.foldl max 0
  let t1 := if restart && s.recharges g then (if ends = [] then tabGet 0 s.rechgEnd g - s.up else t0 + w) else t0
  let held := s.heldBoosts g
  pastHeld (s.tmaxNext v) w held held.length t1

/-- Boost is free for a valve that waits: a band that lets an event start, no boost in the group, no recharge window for a restart, none held too
near (R90, R290, R292, R293). -/
def State.boostNow (s : State) (v : Nat) : Bool :=
  let g := v / 4
  let w := if s.recharges g then s.minoffNs g else 0
  (s.feedBand (groupFeed g)).admits && ! s.flag F.VLV_GSTAT_BOOST g &&
    ! (decide (4 ≤ s.vState v) && s.recharges g && s.flag F.VLV_GSTAT_RECHG g) &&
    (s.heldBoosts g).all fun b => ! boostMeets 0 (s.tmaxNext v) w b

/-! ## Records (R302) -/

/-- The four words of a record. -/
def valveWords (s : State) (v : Nat) (e : ValveEvent) : List Word :=
  [ word (v + 0x20 * e.lastPh + 0x100 * e.ttpv + 0x400 * e.stroke + 0x1000 * e.fin + 0x10000 * ((s.q .valve).seq % 65536)),
    word (if e.lastPh = 0 then 0 else e.start),
    word (sat 65535 e.ttp + 0x10000 * sat 255 e.restarts + 0x1000000 * b01 e.feedpath + 0x2000000 * b01 e.deferred),
    word s.short ]

/-- VLV_RESv of a record. -/
def valveRes (e : ValveEvent) : Word :=
  word (e.lastPh + 8 * e.ttpv + 0x20 * e.stroke + 0x80 * e.fin + 0x400 * b01 e.feedpath + 0x800 * b01 e.deferred + 0x10000 * sat 65535 e.ttp)

/-- An event ends with its record, its result and its EMCYs. -/
def valveRecord (v : Nat) (s : State) : State :=
  let e := (s.vlv v).event
  let s1 := (s.offer .valve (valveWords s v e)).wr .VLV_RES v (valveRes e)
  let s2 := if e.stroke = 2 then (s1.countF F.VLV_CNT_NOSTK v).emcyObj 0xFF51 0 (0x3800 + v) 0x10 else s1
  let s3 := if e.ttpv = 2 ∨ e.ttpv = 3 then s2.emcyObj 0xFF52 0 (0x3800 + v) 0x10 else s2
  setEvent v {} s3

/-- The event in progress takes an END. -/
def endWith (v fin : Nat) (s : State) : State := setEvent v { (s.vlv v).event with fin := fin } s

/-- The last phase reached. -/
def phaseTo (v ph : Nat) (s : State) : State := setEvent v { (s.vlv v).event with lastPh := max ph (s.vlv v).event.lastPh } s

/-- A valve event for the capture channels: 0 peak, 1 stroke dip, 2 phase end (R303). -/
def valveCapture (v ev : Nat) (s : State) : State := capture (0x60 + v) s.short true ev s

/-! ## Phases (R287, R300) -/

/-- The boost rail does not carry the boost: FEEDPATH, or the Reduced band. -/
def State.feedForced (s : State) (v : Nat) : Bool :=
  s.flag F.VLV_GSTAT_FEEDPATH (v / 4) || s.feedBand (groupFeed (v / 4)) == .reduced

/-- A valve enters BOOST: a new event from IDLE or WAIT, else a restart, which ends the phase it comes from (R303). A boost that takes the feed path by
its own SUPPLY is judged (R297). -/
def enterBoost (v : Nat) (s : State) : State :=
  let st := s.vState v
  let fresh := decide (st = 0 ∨ st = 1)
  let s1 := if fresh then profileApply v s else valveCapture v 2 s
  let x := s1.vlv v
  let forced := s1.feedForced v && ! s1.flag F.VLV_MODE_SUPPLY v
  let e := if fresh then
      { start := s1.short, lastPh := 1, feedpath := forced || s1.flag F.VLV_MODE_SUPPLY v, deferred := decide (st = 1) }
    else { x.event with restarts := x.event.restarts + 1 }
  let s2 := s1.setVlv v { x with event := e, boostAt := s1.up, restart := ! fresh, forcedFeed := forced, dip := false }
  let s3 := if fresh then (s2.countF F.VLV_CNT_EVENTS v).odoCount 5 v 0 1 else s2
  (((vlvTo v 2 s3).setB F.VLV_STAT_RPEND v false).setB F.VLV_GSTAT_BOOST (v / 4) true).setF F.VLV_GSTAT_BVALVE (v / 4) v

/-- A BOOST phase ends: the phase end event, and the group's recharge window. -/
def boostEnd (v : Nat) (s : State) : State :=
  let g := v / 4
  let s1 := valveCapture v 2 ((s.setB F.VLV_GSTAT_BOOST g false).setF F.VLV_GSTAT_BVALVE g 0)
  if s.recharges g ∧ s.minoffNs g ≠ 0 then
    { s1.setB F.VLV_GSTAT_RECHG g true with rechgEnd := tabSet 0 s1.rechgEnd g (s.up + s.minoffNs g) }
  else s1

/-- The stroke is judged at the end of a BOOST that is not a restart (R298). -/
def strokeJudge (v : Nat) (s : State) : State :=
  let x := s.vlv v
  if x.restart || ! s.flag F.VLV_MODE_STK_EN v then s
  else setEvent v { x.event with stroke := if x.dip then 1 else 2 } s

/-- The phase that a valve leaves ends: a BOOST is judged for its stroke and frees the group; a wait is no phase (R298, R303). -/
def leavePhase (v : Nat) (s : State) : State :=
  if s.vState v = 2 then boostEnd v (strokeJudge v s) else if s.vState v = 1 then s else valveCapture v 2 s

/-- A valve switches off: fast, or as OFFMODE says; a pending restart is dropped. -/
def valveOff (v fin : Nat) (fast : Bool) (s : State) : State :=
  let s1 := endWith v fin (leavePhase v s)
  (vlvTo v (if fast || ! s.flag F.VLV_MODE_OFFMODE v then 5 else 6) s1).setB F.VLV_STAT_RPEND v false

/-- A wait ends without a boost: the record has LASTPH NONE. -/
def waitCancel (v fin : Nat) (s : State) : State :=
  groupApply (v / 4) (vlvTo v 0 (valveRecord v (endWith v fin s)))

/-- An off command (R300). -/
def offCommand (v : Nat) (s : State) : State :=
  let st := s.vState v
  if st = 1 then waitCancel v 0 s
  else if st = 2 ∨ st = 3 ∨ st = 4 then valveOff v 0 false s
  else if st = 5 ∨ st = 6 then s.setB F.VLV_STAT_RPEND v false
  else s

/-- SAFE, the Off band or a forced power entry act on a valve: OFF_FAST, or IDLE from WAIT (R300). -/
def cutEvent (v fin : Nat) (s : State) : State :=
  let st := s.vState v
  if st = 1 then waitCancel v fin s
  else if st = 2 ∨ st = 3 ∨ st = 4 then valveOff v fin true s
  else if st = 5 ∨ st = 6 then (vlvTo v 5 (endWith v fin s)).setB F.VLV_STAT_RPEND v false
  else s

/-- Every fitted valve that meets a test. -/
def State.valvesWhere (s : State) (p : Nat → Bool) : List Nat := (List.range 24).filter fun v => valveFitted s.variant v && p v

/-- SAFE is raised: valves with SAFEOFF switch off. -/
def valvesSafe (s : State) : State := (s.valvesWhere fun v => s.flag F.VLV_MODE_SAFEOFF v).foldl (fun t v => cutEvent v 5 t) s

/-- A feed enters Off: the valves of its groups switch off. -/
def valvesBand (k : Nat) (s : State) : State := (s.valvesWhere fun v => groupFeed (v / 4) == k).foldl (fun t v => cutEvent v 4 t) s

/-- An OFF phase is complete: its end, and the record of the event. -/
def offComplete (v : Nat) (s : State) : State := vlvCur v 0 (valveRecord v (phaseTo v 4 (valveCapture v 2 s)))

/-- The current has fallen below 50 mA in OFF (R300). A valve that CHANNEL_OFF has disabled in an event has that event's record now (R470). -/
def currentDecayed (v : Nat) (s : State) : State :=
  let st := s.vState v
  if st = 8 ∧ (s.vlv v).event.fin = 3 then offComplete v s
  else if st = 5 ∨ st = 6 then
    let s1 := offComplete v s
    if s.flag F.VLV_STAT_RPEND v then (vlvTo v 1 s1).setB F.VLV_STAT_RPEND v false
    else groupApply (v / 4) (vlvTo v 0 s1)
  else s

/-- A forced power entry ends every event with its record at once (R300). -/
def valvesForced (s : State) : State :=
  (s.valvesWhere fun v => s.vBusy v).foldl (fun t v => currentDecayed v (cutEvent v 6 t)) s

/-! ## Starts (R291 to R296) -/

/-- A start is refused with STATE (R295). -/
def State.startBarred (s : State) (v : Nat) : Bool :=
  ! (s.feedBand (groupFeed (v / 4))).admits || s.vState v == 7 || s.flag F.VLV_GSTAT_HSFAULT (v / 4) || ! s.vEnabled v ||
    (s.safeRaised && s.flag F.VLV_MODE_SAFEOFF v) || s.entering

/-- A start that is not a milestone action: its code, whether it was deferred, and the state (R293). -/
def startCommand (v : Nat) (s : State) : Code × Bool × State :=
  let g := v / 4
  let st := s.vState v
  if s.startBarred v then (.state, false, s)
  else if st = 2 ∨ st = 3 ∨ st = 1 ∨ s.flag F.VLV_STAT_RPEND v then (.accepted, false, s)
  else
    let d := s.deferral v
    if d = 0 then (.accepted, false, enterBoost v s)
    else if d ≤ s.getF F.VLV_GCFG_MAXDEF g * 100000 then
      let s1 := (s.setVlv v { s.vlv v with promise := s.up + d }).countF F.VLV_GCNT_DEFERRED g
      (.accepted, true, if st = 0 then vlvTo v 1 s1 else s1.setB F.VLV_STAT_RPEND v true)
    else (.groupBusy, false, s.countF F.VLV_GCNT_BUSY g)

/-- The starts of a mask in ascending order, decided whole: at the first refusal, its code, its valve and the state before the write, with its
refusal counted. -/
def startMask : List Nat → State → State → Code × Nat × Bool × State
  | [], _, t => (.accepted, 0, false, t)
  | v :: l, s, t =>
    match startCommand v t with
    | (.accepted, d, u) =>
      let r := startMask l s u
      (r.1, r.2.1, d || r.2.2.1, r.2.2.2)
    | (c, _, _) => (c, v, false, if c = .groupBusy then s.countF F.VLV_GCNT_BUSY (v / 4) else s)

/-- A write of VLV_STARTM (R296). -/
def startmWrite (w : Word) (s : State) : Code × Nat × Bool × State :=
  let l := onesUpTo 24 w.toNat
  if reservedSet .VLV_STARTM w then (.invalid, 0, false, s)
  else match l.find? fun v => ! valveFitted s.variant v with
    | some v => (.absent, v, false, s)
    | none => startMask l s s

/-- A write of VLV_OFFM (R296). -/
def offmWrite (w : Word) (s : State) : Code × Nat × Bool × State :=
  let l := onesUpTo 24 w.toNat
  if reservedSet .VLV_OFFM w then (.invalid, 0, false, s)
  else match l.find? fun v => ! valveFitted s.variant v with
    | some v => (.absent, v, false, s)
    | none => (.accepted, 0, false, l.foldl (fun t v => offCommand v t) s)

/-- A write of VLV_CMDv. -/
def vlvCmdWrite (v : Nat) (w : Word) (s : State) : Code × Nat × Bool × State :=
  let start := F.VLV_CMD_START.on w
  let off := F.VLV_CMD_OFF.on w
  if reservedSet .VLV_CMD w || (start && off) then (.invalid, v, false, s)
  else if start then let r := startCommand v s; (r.1, v, r.2.1, r.2.2)
  else if off then (.accepted, v, false, offCommand v s)
  else (.accepted, v, false, s)

/-- A milestone VALVE start, and whether it was applied (R171, R291, R294, R304). -/
def milestoneStart (v : Nat) (s : State) : Bool × State :=
  let st := s.vState v
  if s.startBarred v then (false, s)
  else if st = 2 ∨ st = 3 then (true, s)
  else if s.flag F.VLV_GSTAT_BOOST (v / 4) then (false, s)
  else (true, enterBoost v s)

/-- A waiting valve finds boost free (R300). -/
def boostFreed (v : Nat) (s : State) : State :=
  if (s.vState v = 1 ∨ s.flag F.VLV_STAT_RPEND v) ∧ s.boostNow v then enterBoost v s else s

/-! ## The course of a boost (R297, R298, R300) -/

/-- TTP of the present BOOST, ns. -/
def State.ttpNs (s : State) (v : Nat) : Nat := s.up - (s.vlv v).boostAt

/-- TTP verdict of a boost that reached its peak, and its bin in the Odometer. -/
def ttpJudge (v : Nat) (s : State) : State :=
  let x := s.vlv v
  if x.restart then s
  else
    let t := s.ttpNs v
    let e := { x.event with ttp := t / 1000 }
    if x.forcedFeed then setEvent v e s
    else
      let ver := if t < s.getF F.VLV_TIM_TMIN v * 100000 then 2 else 1
      (setEvent v { e with ttpv := ver } s).odoCount 5 v (1 + min 15 (16 * t / s.tmaxNs v)) 1

/-- The current reaches PEAK. -/
def peakReached (v : Nat) (s : State) : State :=
  if s.vState v = 2 then
    let s1 := strokeJudge v (ttpJudge v (valveCapture v 0 s))
    vlvCur v (s.getF F.VLV_CUR_PEAK v) (phaseTo v 2 (vlvTo v 3 (boostEnd v s1)))
  else s

/-- A valve enters FAULT: the record, the FCRU source, the EMCY (R299). -/
def valveFault (v cause : Nat) (s : State) : State :=
  let running := s.vBusy v
  let s1 := if running then valveRecord v (endWith v 3 (leavePhase v s)) else s
  let s2 := ((vlvTo v 7 s1).setF F.VLV_STAT_FCAUSE v cause).setB F.VLV_STAT_RPEND v false
  let s3 := (vlvCur v 0 s2).raise (96 + v) cause
  groupApply (v / 4) (if cause = 4 then s3 else s3.emcyObj 0xFF50 0 (0x3800 + v) 0x14)

/-- No peak by TMAX: the TTP is a FREE VALUE (R297, R302). -/
def ttpLate (v : Nat) (s : State) : State :=
  let x := s.vlv v
  if x.restart then s
  else
    let e := { x.event with ttp := Config.lateTtp s.fresh }
    if x.forcedFeed then (setEvent v e s).used
    else ((setEvent v { e with ttpv := 3 } s).used).odoCount 5 v 16 1

/-- TMAX passes in BOOST with a coil current in 10 mA. -/
def tmaxPassed (v cur : Nat) (s : State) : State :=
  if s.vState v = 2 then
    if cur < 10 then valveFault v 3 s
    else
      let s1 := ttpLate v (vlvCur v cur s)
      if s.flag F.VLV_MODE_LATEACT v then valveOff v 2 false s1
      else vlvCur v (s.getF F.VLV_CUR_HOLD v) (phaseTo v 3 (vlvTo v 4 (boostEnd v (strokeJudge v s1))))
  else s

/-- A stroke dip is detected in BOOST. -/
def strokeDip (v cur : Nat) (s : State) : State :=
  if s.vState v = 2 ∧ ! (s.vlv v).restart then
    valveCapture v 1 ((vlvCur v cur s).setVlv v { s.vlv v with dip := true })
  else s

/-- DWELL passes. -/
def dwellPassed (v : Nat) (s : State) : State :=
  if s.vState v = 3 then vlvCur v (s.getF F.VLV_CUR_HOLD v) (phaseTo v 3 (vlvTo v 4 (valveCapture v 2 s))) else s

/-- HOLDMAX passes. -/
def holdmaxPassed (v : Nat) (s : State) : State :=
  if s.vState v = 4 ∧ s.getF F.VLV_MODE_HOLDMAX v ≠ 0 then valveOff v 1 false s else s

/-- The group's high side cuts off: every enabled valve of the group enters FAULT. -/
def highSideCut (g : Nat) (s : State) : State :=
  let s1 := s.setB F.VLV_GSTAT_HSFAULT g true
  let s2 := ((groupValves g).filter fun v => s.vEnabled v && s.vState v != 7).foldl (fun t v => valveFault v 4 t) s1
  s2.emcyObj 0xFF53 0 (0x3900 + g) 0x04

/-- The group's capacitor no longer counts: the converter is off (R285). -/
def boostOff (s : State) : State := (List.range 6).foldl (fun t g => t.setB F.VLV_GSTAT_FEEDPATH g true) s

/-- The boost converter runs (R284): the module supply is in the Full band, and the module is in RUN or IDLE. -/
def State.boostRuns (s : State) : Bool :=
  s.supply.module == .full && s.dom.switch && decide (s.getF F.PWR_STAT_STATE 0 ≤ 1) && ! s.boostCut

/-! ## Registers (R306) -/

/-- CLR of a group. -/
def groupClear (g : Nat) (s : State) : State :=
  (groupValves g).foldl (fun t v =>
    if t.vState v = 7 then (vlvTo v 0 t).setF F.VLV_STAT_FCAUSE v 0 else t) (s.setB F.VLV_GSTAT_HSFAULT g false)

/-- A write of VLV_GCLRg. -/
def gclrWrite (g : Nat) (w : Word) (s : State) : Code × State :=
  if reservedSet .VLV_GCLR w then (.invalid, s)
  else
    let s1 := if F.VLV_GCLR_CLR.on w then groupApply g (groupClear g s) else s
    (.accepted, if F.VLV_GCLR_CNTCLR.on w then s1.wr .VLV_GCNT g 0 else s1)

/-- The range checks of the profile and group settings (R288, R306). -/
def vlvOk (r : Reg) (w : Word) : Bool :=
  match r with
  | .VLV_CUR =>
    let p := F.VLV_CUR_PEAK.of w
    let h := F.VLV_CUR_HOLD.of w
    decide (50 ≤ p ∧ p ≤ 1200 ∧ 30 ≤ h ∧ h ≤ 400)
  | .VLV_TIM =>
    let a := F.VLV_TIM_TMIN.of w
    let b := F.VLV_TIM_TMAX.of w
    decide (1 ≤ a ∧ a ≤ 249 ∧ a + 1 ≤ b ∧ b ≤ 250 ∧ F.VLV_TIM_DWELL.of w ≤ 250)
  | .VLV_MODE => let d := F.VLV_MODE_DIPMIN.of w; decide (2 ≤ d ∧ d ≤ 50)
  | .VLV_GCFG =>
    let r := F.VLV_GCFG_RAIL.of w
    decide (36 ≤ r ∧ r ≤ 60 ∧ F.VLV_GCFG_MINOFF.of w ≤ 100 ∧ F.VLV_GCFG_MAXDEF.of w ≤ 100)
  | _ => true

/-- A write of a profile or group setting. -/
def vlvSetWrite (r : Reg) (n : Nat) (w : Word) (s : State) : Code × State :=
  if reservedSet r w || ! vlvOk r w then (.invalid, s)
  else
    match r with
    | .VLV_MODE =>
      if s.groupHeld (n / 4) && F.VLV_MODE_EN.on w != F.VLV_MODE_EN.on (s.next .VLV_MODE n) then (.conflict, s)
      else (.accepted, groupApply (n / 4) (s.hold r n w))
    | .VLV_GCFG => (.accepted, groupApply n (s.hold r n w))
    | _ => (.accepted, s.hold r n w)

/-- A write of a valve register: code, valve concerned, deferral, state. -/
def vlvWrite (r : Reg) (n : Nat) (w : Word) (s : State) : Code × Nat × Bool × State :=
  match r with
  | .VLV_CUR | .VLV_TIM | .VLV_MODE => let p := vlvSetWrite r n w s; (p.1, n, false, p.2)
  | .VLV_GCFG => let p := vlvSetWrite r n w s; (p.1, 4 * n, false, p.2)
  | .VLV_CMD => vlvCmdWrite n w s
  | .VLV_GCLR => let p := gclrWrite n w s; (p.1, 4 * n, false, p.2)
  | .VLV_STARTM => startmWrite w s
  | .VLV_OFFM => offmWrite w s
  | .VLV_EVQSTAT =>
    if reservedSet r w then (.invalid, 0, false, s)
    else (.accepted, 0, false, if F.VLV_EVQSTAT_LOST_CLR.on w then s.clearLost .valve else s)
  | .VLV_GSTAT | .VLV_GCNT => (.accepted, 4 * n, false, s)
  | .VLV_EVQ => (.accepted, 0, false, s)
  | _ => (.accepted, n, false, s)

/-- A write that reaches a valve register: VLV_RESULT has VALVE in [12:8] and DEFER in [15]. One to an absent valve's or group's is ignored, and answered
with ABSENT (R13, R14). -/
def vlvAccess (m : Master) (r : Reg) (n : Nat) (w : Word) (s : State) : State :=
  if regFitted s.variant r n then
    let p := vlvWrite r n w s
    let res := word (p.1.num + 0x100 * (p.2.1 % 32) + 0x8000 * b01 p.2.2.1 + 0x10000 * r.addr n)
    (p.2.2.2.wr .VLV_RESULT (bk m 0) res).emit (.written m (r.addr n) p.1)
  else s.absentWrite m .VLV_RESULT (match r with | .VLV_GCFG | .VLV_GSTAT | .VLV_GCLR | .VLV_GCNT => 4 * n | _ => n) (r.addr n)

/-- A read of a valve register. -/
def vlvRead (m : Master) (r : Reg) (n : Nat) (s : State) : Word × State :=
  match r with
  | .VLV_CMD | .VLV_GCLR | .VLV_STARTM | .VLV_OFFM => (0, s)
  | .VLV_RESULT => (s.rd r (bk m 0), s)
  | .VLV_BSTAT => (word (b01 s.boostRuns + 2 * b01 (decide (s.getF F.TOLL_VOLT_VOLT 0 < s.getF F.TOLL_VOLT_VOLT 1))), s)
  | .VLV_EVQ => s.readWindow .valve 4 n
  | .VLV_EVQSTAT => (word ((s.q .valve).recs.length + 0x10000 * (s.q .valve).lost), s)
  | _ => (s.rd r n, s)

/-! ## Commands -/

/-- START (R293): a write of VLV_CMDv. -/
def execVlvStart (m : Master) (v : Fin 24) (w : Word) (s : State) : Host.Outcome State Fault Refusal := ok s (vlvAccess m .VLV_CMD v.val w s)

/-- OFF (R300): a write of VLV_CMDv. -/
def execVlvOff (m : Master) (v : Fin 24) (w : Word) (s : State) : Host.Outcome State Fault Refusal := ok s (vlvAccess m .VLV_CMD v.val w s)

/-- VLV_STARTM (R296). -/
def execVlvStartm (m : Master) (w : Word) (s : State) : Host.Outcome State Fault Refusal := ok s (vlvAccess m .VLV_STARTM 0 w s)

/-- VLV_OFFM (R296). -/
def execVlvOffm (m : Master) (w : Word) (s : State) : Host.Outcome State Fault Refusal := ok s (vlvAccess m .VLV_OFFM 0 w s)

/-- BOOST_FREE (R300). -/
def execBoostFree (v : Fin 24) (s : State) : Host.Outcome State Fault Refusal := ok s (boostFreed v.val s)

/-- PEAK_REACHED (R300). -/
def execPeakReached (v : Fin 24) (s : State) : Host.Outcome State Fault Refusal := ok s (peakReached v.val s)

/-- STROKE_DIP (R298). -/
def execStrokeDip (v : Fin 24) (cur : Nat) (s : State) : Host.Outcome State Fault Refusal := ok s (strokeDip v.val cur s)

/-- TMAX_ELAPSED (R300). -/
def execTmaxElapsed (v : Fin 24) (cur : Nat) (s : State) : Host.Outcome State Fault Refusal := ok s (tmaxPassed v.val cur s)

/-- DWELL_ELAPSED (R300). -/
def execDwellElapsed (v : Fin 24) (s : State) : Host.Outcome State Fault Refusal := ok s (dwellPassed v.val s)

/-- HOLDMAX_ELAPSED (R300). -/
def execHoldmaxElapsed (v : Fin 24) (s : State) : Host.Outcome State Fault Refusal := ok s (holdmaxPassed v.val s)

/-- VALVE_CURRENT_DECAYED (R300). -/
def execValveCurrentDecayed (v : Fin 24) (s : State) : Host.Outcome State Fault Refusal := ok s (currentDecayed v.val s)

/-- RECHARGE_WINDOW_END (R292). -/
def execRechargeWindowEnd (g : Fin 6) (s : State) : Host.Outcome State Fault Refusal :=
  ok s { s.setB F.VLV_GSTAT_RECHG g.val false with rechgEnd := tabSet 0 s.rechgEnd g.val 0 }

/-- VALVE_SHORT (R299). -/
def execValveShort (v : Fin 24) (s : State) : Host.Outcome State Fault Refusal :=
  ok s (if s.vBusy v.val then valveFault v.val 1 s else s)

/-- VALVE_JUNCTION_OVERTEMP (R299). -/
def execValveJunctionOvertemp (v : Fin 24) (s : State) : Host.Outcome State Fault Refusal :=
  ok s (if s.vBusy v.val then valveFault v.val 2 s else s)

/-- HIGH_SIDE_CUTOFF (R299). -/
def execHighSideCutoff (g : Fin 6) (s : State) : Host.Outcome State Fault Refusal :=
  ok s (if groupFitted s.variant g.val then highSideCut g.val s else s)

/-- CLR (R299): a write of VLV_GCLRg. -/
def execVlvClr (m : Master) (g : Fin 6) (w : Word) (s : State) : Host.Outcome State Fault Refusal := ok s (vlvAccess m .VLV_GCLR g.val w s)

/-- CNTCLR (R306): a write of VLV_GCLRg. -/
def execVlvCntclr (m : Master) (g : Fin 6) (w : Word) (s : State) : Host.Outcome State Fault Refusal := ok s (vlvAccess m .VLV_GCLR g.val w s)

/-- VLV_EVQ0_READ (R302). -/
def execVlvEvq0Read (m : Master) (s : State) : Host.Outcome State Fault Refusal :=
  ok s (State.answerRead m (Reg.addr .VLV_EVQ 0) (s.readWindow .valve 4 0))

/-- VLV_EVQ3_READ (R302). -/
def execVlvEvq3Read (m : Master) (s : State) : Host.Outcome State Fault Refusal :=
  ok s (State.answerRead m (Reg.addr .VLV_EVQ 3) (s.readWindow .valve 4 3))

/-- VLV_EVQ_LOST_CLR (R306). -/
def execVlvEvqLostClr (m : Master) (w : Word) (s : State) : Host.Outcome State Fault Refusal := ok s (vlvAccess m .VLV_EVQSTAT 0 w s)

/-- The capacitor of a group reads a voltage in 0.1 V: the clamp holds it at or below RAIL + 5 V, and at RAIL - 2 V the rail is available (R284, R285). -/
def capacitorAt (g capv : Nat) (s : State) : State :=
  let rail := s.getF F.VLV_GCFG_RAIL g * 10
  let s1 := s.setF F.VLV_GSTAT_CAPV g (min capv (rail + 50))
  if rail ≤ capv + 20 then s1.setB F.VLV_GSTAT_FEEDPATH g false else s1

/-- BOOST_RAIL_AVAILABLE (R285): the capacitor's voltage comes with it, 0.1 V. -/
def execBoostRailAvailable (g : Fin 6) (capv : Nat) (s : State) : Host.Outcome State Fault Refusal :=
  ok s (if groupFitted s.variant g.val && s.boostRuns then capacitorAt g.val capv s else s)

end Sys2Proof.Machine
end

