-- ==== Sys2Proof/Machine/Inputs.lean ====
section
/-!
DEFINITION. Machine/Inputs.lean: the switch inputs and the field points (10_inputs_field_io.md): filters, records, refresh and timeout, the
common fault bit, the registers of R318, R319 and R328, and the meanings of their commands. The level change and the resistor conversion, which
also trigger cab access, stand in IoSpace.lean.
-/
namespace Sys2Proof.Machine

/-! ## Switch inputs (R309 to R314) -/

def State.si (s : State) (n : Nat) : Input := tabGet {} s.sin n
def State.setSi (s : State) (n : Nat) (x : Input) : State := { s with sin := tabSet {} s.sin n x }

def State.sinMode (s : State) (n : Nat) : Nat := s.getF F.SIN_CFG_MODE n
def State.sinLevel (s : State) (n : Nat) : Bool := s.flag F.SIN_STAT_LEVEL n
def State.sinPos (s : State) (n : Nat) : Nat := s.getF F.SIN_STAT_POS n

/-- The level that the pin asks for: the reading, inverted by INV (R309). -/
def State.sinTarget (s : State) (n : Nat) : Bool := s.flag F.SIN_STAT_RAW n != s.flag F.SIN_CFG_INV n

/-- Short time less a correction in ns (R145). -/
def State.shortLess (s : State) (d : Nat) : Nat := (s.short + 2 ^ 32 - d) % 2 ^ 32

/-- LEVEL takes a value; the level banks follow. -/
def sinLevelTo (n : Nat) (b : Bool) (s : State) : State :=
  (s.setB F.SIN_STAT_LEVEL n b).setB ⟨if n < 32 then .SIN_LVLB0 else .SIN_LVLB1, n % 32, 1⟩ 0 b

/-- An edge record is offered; the first drop after LOST was 0 sends EMCY 0xFF60 (R313). -/
def edgeOffer (n stamp : Nat) (resume : Bool) (s : State) : State :=
  let q := s.q .edge
  let w0 := word (n + 0x40 * b01 (s.sinLevel n) + 0x100 * (if s.sinMode n = 2 then s.sinPos n else 0) + 0x1000 * b01 resume +
    0x10000 * (q.seq % 65536))
  let s1 := s.offer .edge [w0, word stamp]
  if q.lost = 0 ∧ (s1.q .edge).lost = 1 then s1.emcyObj 0xFF60 0 0x4000 0xC6 else s1

/-- EDGE selects a change of direction. -/
def State.edgeSelects (s : State) (n : Nat) (rising : Bool) : Bool :=
  if s.sinMode n = 2 then s.getF F.SIN_CFG_EDGE n != 0 else bitOf (s.getF F.SIN_CFG_EDGE n) (if rising then 0 else 1)

/-- A change of LEVEL in mode 0 or 1 (R310, R313): the record, and the capture channels. -/
def levelChange (n : Nat) (b : Bool) (stamp : Nat) (resume : Bool) (s : State) : State :=
  let s1 := capture n stamp b 0 (sinLevelTo n b s)
  if s1.edgeSelects n b then edgeOffer n stamp resume s1 else s1

/-- A run ends; RUN follows. -/
def runDrop (n : Nat) (s : State) : State := (s.setSi n { s.si n with run := none }).setB F.SIN_STAT_RUN n false

/-- Mode 3: LEVEL follows the pin; a rising edge counts and gives a period (R312). -/
def pulseEdge (n : Nat) (stamp : Nat) (s : State) : State :=
  let b := s.sinTarget n
  if b = s.sinLevel n then s
  else
    let s1 := capture n stamp b 0 (sinLevelTo n b s)
    if b then
      let at_ := s.total - 336
      let per := match (s.si n).rise with
        | some t => if 42900000000 < at_ - t then 0 else (at_ - t) / 10
        | none => 0
      ((s1.wr .SIN_CNT n (s1.rd .SIN_CNT n + 1)).wr .SIN_PER n (word per)).setSi n { s1.si n with rise := some at_ }
    else s1

/-- A pin crosses its threshold (R310): in modes 0 and 1 a run begins or breaks. -/
def pinCrossing (n : Nat) (raw : Bool) (s : State) : State :=
  let mode := s.sinMode n
  if mode = 2 then s
  else
    let s1 := s.setB F.SIN_STAT_RAW n raw
    let stamp := s.shortLess 336
    if mode = 3 then pulseEdge n stamp s1
    else if s1.sinTarget n = s1.sinLevel n then runDrop n s1
    else if (s1.si n).run.isSome then s1
    else (s1.setSi n { s1.si n with run := some stamp }).setB F.SIN_STAT_RUN n true

/-- A debounce run has lasted DEBOUNCE (R310). -/
def runEnd (n : Nat) (s : State) : State :=
  match (s.si n).run with
  | none => s
  | some stamp => levelChange n (s.sinTarget n) stamp false (runDrop n s)

/-! ### Resistor-coded inputs (R311) -/

/-- Band `b` of an input, in force. -/
def State.band (s : State) (n b : Nat) : Word := s.rd .SIN_BAND (8 * n + b)

/-- The position of a reading: the band it lies in, 15 above the converter's range. -/
def State.posOf (s : State) (n : Nat) : Option Nat → Nat
  | none => 15
  | some r =>
    match (List.range 8).find? fun b =>
        let w := s.band n b
        F.SIN_BAND_EN.on w && decide (F.SIN_BAND_LOW.of w ≤ r ∧ r ≤ F.SIN_BAND_HIGH.of w) with
    | some b => b + 1
    | none => 0

/-- POS takes a value: LEVEL, the record and the capture channels; a change to POS 0 counts as falling. After a restart on an exit the record is due where
POS differs from that at the entry (R317). -/
def posChange (n pos stamp : Nat) (s : State) : State :=
  let rs := (s.si n).resume
  let moved := pos != s.sinPos n
  let s1 := sinLevelTo n (decide (1 ≤ pos ∧ pos ≤ 8)) (s.setF F.SIN_STAT_POS n pos)
  let s2 := s1.setSi n { s1.si n with resume := none }
  let at_ := rs.getD stamp
  let rec_ := match rs with
    | some _ => decide ((s.si n).atEntry.2 ≠ pos)
    | none => true
  let s3 := if moved then capture n stamp (decide (pos ≠ 0)) 0 s2 else s2
  if rec_ && s3.edgeSelects n (decide (pos ≠ 0)) then edgeOffer n at_ rs.isSome s3 else s3

/-- A conversion of an input of mode 2. Until POS is confirmed after an exit, DEBOUNCE counts from the restart (R317). -/
def resConversion (n : Nat) (ohms : Option Nat) (s : State) : State :=
  if s.sinMode n ≠ 2 then s
  else
    let s1 := s.setF F.SIN_STAT_RES n (match ohms with | some r => sat 0xFFFF r | none => 0xFFFF)
    let p := s1.posOf n ohms
    let x := s1.si n
    if p = s1.sinPos n ∧ x.resume.isNone then
      (s1.setSi n { x with candN := 0 }).setB F.SIN_STAT_RUN n false
    else
      let y : Input := if x.candN ≠ 0 ∧ x.cand = p then { x with candN := x.candN + 1 }
        else { x with cand := p, candN := 1, candStamp := s1.short, candAt := if x.candN = 0 ∧ x.resume.isSome then x.candAt else s1.up }
      if 2 ≤ y.candN ∧ y.candAt + s1.getF F.SIN_CFG_DEBOUNCE n * 1000 ≤ s1.up then
        posChange n p y.candStamp ((s1.setSi n { y with candN := 0 }).setB F.SIN_STAT_RUN n false)
      else (s1.setSi n y).setB F.SIN_STAT_RUN n true

/-! ### Settings (R35, R314) -/

/-- A filter restarts from the present pin level (R314): LEVEL takes it, and a change offers a record stamped now. -/
def filterRestart (n : Nat) (resume : Bool) (s : State) : State :=
  let s1 := (s.setSi n { s.si n with run := none, candN := 0 }).setB F.SIN_STAT_RUN n false
  if s1.sinMode n = 2 then (if resume then s1.setSi n { s1.si n with resume := some s1.short, candAt := s1.up } else s1)
  else if s1.sinMode n = 3 then sinLevelTo n (s1.sinTarget n) s1
  else if s1.sinTarget n = s1.sinLevel n then s1
  else levelChange n (s1.sinTarget n) s1.short resume s1

/-- RAW in a new mode (R309, R318): 0 in mode 2; modes 0 and 3 share their thresholds, and low is closed in the one; against other thresholds the
reading is a FREE VALUE. -/
def rawTo (n old : Nat) (s : State) : State :=
  let new := s.sinMode n
  if new = 2 then s.setB F.SIN_STAT_RAW n false
  else if old + new = 3 ∧ (old = 0 ∨ old = 3) then s.setB F.SIN_STAT_RAW n (! s.flag F.SIN_STAT_RAW n)
  else (s.setB F.SIN_STAT_RAW n (Config.pinReading s.fresh)).used

/-- The configuration of an input applies at a filter step; a new mode begins without a position, an edge or a resistance. -/
def sinApply (n : Nat) (s : State) : State :=
  let s1 := s.applyHeld .SIN_CFG n
  let s2 := if s1.sinMode n = s.sinMode n then s1
    else
      let t := rawTo n (s.sinMode n) ((s1.setF F.SIN_STAT_POS n 0).setSi n { s1.si n with rise := none })
      let t := if s1.sinMode n = 2 then sinLevelTo n false t else t
      (t.wr .SIN_PER n 0).setF F.SIN_STAT_RES n 0
  filterRestart n false s2

/-- Band `b` of every input whose new value waits applies. -/
def bandApply (b : Nat) (s : State) : State :=
  (List.range 64).foldl (fun t n =>
    if (t.heldOf .SIN_BAND (8 * n + b)).isSome then filterRestart n false (t.applyHeld .SIN_BAND (8 * n + b)) else t) s

/-- The check of a band (R311): HIGH not below LOW, and no overlap with another enabled band of the input. -/
def bandOk (s : State) (n b : Nat) (w : Word) : Bool :=
  decide (F.SIN_BAND_LOW.of w ≤ F.SIN_BAND_HIGH.of w) &&
    (! F.SIN_BAND_EN.on w || (List.range 8).all fun c =>
      let u := s.next .SIN_BAND (8 * n + c)
      c == b || ! F.SIN_BAND_EN.on u || decide (F.SIN_BAND_HIGH.of u < F.SIN_BAND_LOW.of w ∨ F.SIN_BAND_HIGH.of w < F.SIN_BAND_LOW.of u))

/-- The check of a configuration (R309, R315). -/
def sinCfgOk (w : Word) : Bool :=
  let mode := F.SIN_CFG_MODE.of w
  (mode != 3 || F.SIN_CFG_DEBOUNCE.of w == 0) && (! F.SIN_CFG_POLL.on w || decide (mode < 2))

/-- A write of a switch-input register: code, input concerned, state. -/
def sinWrite (m : Master) (r : Reg) (n : Nat) (w : Word) (s : State) : Code × Nat × State :=
  match r with
  | .SIN_CFG => if reservedSet r w || ! sinCfgOk w then (.invalid, n, s) else (.accepted, n, s.hold r n w)
  | .SIN_EQSTAT => if reservedSet r w then (.invalid, 0, s) else (.accepted, 0, if F.SIN_EQSTAT_LOST_CLR.on w then s.clearLost .edge else s)
  | .SIN_EQCFG => if reservedSet r w || decide (256 < F.SIN_EQCFG_THR.of w) then (.invalid, 0, s) else (.accepted, 0, s.wr r 0 w)
  | .SIN_BSEL =>
    let i := F.SIN_BSEL_INPUT.of w
    let code := firstCode [(reservedSet r w, .invalid), (! sinFitted s.variant i, .absent)]
    (code, i, if code = .accepted then s.wr r (bk m 0) w else s)
  | .SIN_BAND =>
    let i := F.SIN_BSEL_INPUT.of (s.rd .SIN_BSEL (bk m 0))
    if reservedSet r w || ! bandOk s i n w then (.invalid, i, s) else (.accepted, i, s.hold r (8 * i + n) w)
  | _ => (.accepted, n, s)

/-- A write that reaches a switch-input register; one to an absent input's is ignored, and answered with ABSENT (R13, R14). -/
def sinAccess (m : Master) (r : Reg) (n : Nat) (w : Word) (s : State) : State :=
  if regFitted s.variant r n then
    let p := sinWrite m r n w s
    p.2.2.answer m .SIN_RESULT p.1 p.2.1 (r.addr n)
  else s.absentWrite m .SIN_RESULT n (r.addr n)

/-- A read of a switch-input register. -/
def sinRead (m : Master) (r : Reg) (n : Nat) (s : State) : Word × State :=
  match r with
  | .SIN_EQ0 => s.readWindow .edge 2 0
  | .SIN_EQ1 => s.readWindow .edge 2 1
  | .SIN_EQSTAT => (word ((s.q .edge).recs.length + 0x10000 * (s.q .edge).lost), s)
  | .SIN_RESULT | .SIN_BSEL => (s.rd r (bk m 0), s)
  | .SIN_BAND => (s.band (F.SIN_BSEL_INPUT.of (s.rd .SIN_BSEL (bk m 0))) n, s)
  | _ => (s.rd r n, s)

/-- SIN_PIN_CROSSING (R310): the reading against the mode's thresholds. -/
def execSinPinCrossing (n : Fin 64) (raw : Bool) (s : State) : Host.Outcome State Fault Refusal :=
  ok s (if s.dom.switch && ! s.almStopped && sinFitted s.variant n.val then pinCrossing n.val raw s else s)

/-- SIN_PERIOD_TIMEOUT (R312). -/
def execSinPeriodTimeout (n : Fin 64) (s : State) : Host.Outcome State Fault Refusal :=
  ok s (if s.sinMode n.val = 3 then s.wr .SIN_PER n.val 0 else s)

/-- SIN_EQ0_READ (R313). -/
def execSinEq0Read (m : Master) (s : State) : Host.Outcome State Fault Refusal :=
  ok s (State.answerRead m (Reg.addr .SIN_EQ0 0) (sinRead m .SIN_EQ0 0 s))

/-- SIN_EQ1_READ (R313). -/
def execSinEq1Read (m : Master) (s : State) : Host.Outcome State Fault Refusal :=
  ok s (State.answerRead m (Reg.addr .SIN_EQ1 0) (sinRead m .SIN_EQ1 0 s))

/-- SIN_EQ_LOST_CLR (R319). -/
def execSinEqLostClr (m : Master) (w : Word) (s : State) : Host.Outcome State Fault Refusal := ok s (sinAccess m .SIN_EQSTAT 0 w s)

/-- The head record of a queue leaves through the dictionary: its bytes, or abort 0x0800_0024 from an empty queue (R177, R193, R329, R330). -/
def headRead (p : DPath) (index sub : Nat) (i : QId) (s : State) : State :=
  match (s.q i).recs with
  | [] => s.emit (.objAbort p index sub 0x08000024)
  | r :: _ => (s.popHead i).emit (.objRead p index sub (r.words.flatMap fun w => leBytes 4 w.toNat))

/-- EDGE_RECORD_READ (R329). -/
def execEdgeRecordRead (p : DPath) (s : State) : Host.Outcome State Fault Refusal := ok s (headRead p 0x4000 0xC5 .edge s)

/-! ## Field points (R321 to R327) -/

def State.fp (s : State) (p : Nat) : Input := tabGet {} s.fio p
def State.setFp (s : State) (p : Nat) (x : Input) : State := { s with fio := tabSet {} s.fio p x }

/-- Bit `p` of a 32-bit register. -/
def portBit (r : Reg) (p : Nat) : Fld := ⟨r, p, 1⟩

def State.fioIsOut (s : State) (p : Nat) : Bool := s.flag F.FIO_CFG_DIR p
def State.fioIn (s : State) (p : Nat) : Bool := s.flag (portBit .FIO_IN p) 0
def State.fioPin (s : State) (p : Nat) : Bool := s.flag (portBit .FIO_PIN p) 0
def State.toState (s : State) : Nat := s.getF F.FIO_STATUS_TOSTATE 0

/-- The fitted points that meet a test. -/
def State.pointsWhere (s : State) (t : Nat → Bool) : List Nat := (List.range 32).filter fun p => fioFitted s.variant p && t p

/-- The value asked of an output: its image bit, or its waveform (R323). -/
def State.fioAsked (s : State) (p : Nat) : Bool :=
  if s.flag F.FIO_CFG_TWEN p then s.twLevel (s.getF F.FIO_CFG_TWSEL p) else s.flag (portBit .FIO_OUT p) 0

/-- The level that an output is driven to (R323, R325, R327). -/
def State.fioDriven (s : State) (p : Nat) : Bool :=
  let st := s.toState
  let want := if s.fioForced || st == 2 then s.flag F.FIO_CFG_SAFE p
    else if st = 0 then false
    else if st = 3 then s.flag F.FIO_CFG_PARKHOLD p && s.fioAsked p
    else s.fioAsked p
  s.fioIsOut p && s.dom.field && decide (s.supply.studsLost < 2) && ! tabGet false s.fioPause p && ! tabGet false s.fioHot p && want

/-- A change record is offered (R322). -/
def fieldOffer (p stamp : Nat) (resume : Bool) (s : State) : State :=
  s.offer .field [word (p + 0x40 * b01 (s.fioIn p) + 0x1000 * b01 resume + 0x10000 * ((s.q .field).seq % 65536)), word stamp]

/-- The filtered level of an input changes: its bit, the flag and the record that COS selects, the interrupt, the capture channels. -/
def fieldChange (p : Nat) (b : Bool) (stamp : Nat) (resume : Bool) (s : State) : State :=
  let s1 := capture (0x40 + p) stamp b 0 (s.setB (portBit .FIO_IN p) 0 b)
  if bitOf (s.getF F.FIO_CFG_COS p) (if b then 0 else 1) then
    let s2 := fieldOffer p stamp resume (s1.setB (portBit .FIO_COSF p) 0 true)
    if s.flag F.FIO_CFG_COSIRQ p then s2.request 14 else s2
  else s1

/-- A field pin crosses its switching point (R322): the pin bit; on an input a run begins or breaks. -/
def fieldCrossing (p : Nat) (high : Bool) (s : State) : State :=
  let s1 := s.setB (portBit .FIO_PIN p) 0 high
  if s1.fioIsOut p then s1
  else if high = s1.fioIn p then s1.setFp p { s1.fp p with run := none }
  else if (s1.fp p).run.isSome then s1
  else s1.setFp p { s1.fp p with run := some (s1.shortLess 1216) }

/-- A field filter's run has lasted FILTER. -/
def fieldRunEnd (p : Nat) (s : State) : State :=
  match (s.fp p).run with
  | none => s
  | some stamp => fieldChange p (s.fioPin p) stamp false (s.setFp p { s.fp p with run := none })

/-- A field filter restarts from the present pin level (R322, R325). -/
def fieldRestart (p : Nat) (resume : Bool) (s : State) : State :=
  let s1 := s.setFp p { s.fp p with run := none }
  if s1.fioIsOut p then s1.setB (portBit .FIO_IN p) 0 false
  else if s1.fioPin p = s1.fioIn p then s1
  else fieldChange p (s1.fioPin p) s1.short resume s1

/-! ### Refresh and timeout (R324, R325) -/

/-- A refresh is taken: configuration applies, and the state becomes RUN. -/
def refresh (s : State) : State :=
  let changed := s.pointsWhere fun p => (s.heldOf .FIO_CFG p).isSome
  let s1 := (changed.foldl (fun t p => t.applyHeld .FIO_CFG p) s).applyHeld .FIO_TOCFG 0
  let s2 := changed.foldl (fun t p => fieldRestart p false t) s1
  if s.toState = 3 then s2 else s2.setF F.FIO_STATUS_TOSTATE 0 1

/-- The lowest absent point that a written word names. -/
def absentPoint (s : State) (w : Word) : Option Nat := (onesUpTo 32 w.toNat).find? fun p => ! fioFitted s.variant p

/-- The new image would set an output with PARKHOLD to 1 during an entry to DORMANT (R412). -/
def parkHeldRise (s : State) (image : Word) : Bool :=
  s.entering && s.getF F.PWR_STAT_TGT 0 == 2 &&
    anyBelow 32 fun p => s.flag F.FIO_CFG_PARKHOLD p && s.fioIsOut p && bitOf image.toNat p && ! s.flag (portBit .FIO_OUT p) 0

/-- A refresh write of the image: `image` gives the new word; FIO_OUT alone leaves TIMEOUT. -/
def imageWrite (r : Reg) (w image : Word) (s : State) : Code × Nat × State :=
  match absentPoint s w with
  | some p => (.absent, p, s)
  | none =>
    if r != .FIO_OUT && s.toState == 2 then (.state, 0, s)
    else if parkHeldRise s image then (.state, 0, s)
    else (.accepted, 0, (refresh s).wr .FIO_OUT 0 image)

/-- A write of FIO_KICK. -/
def kickWrite (w : Word) (s : State) : Code × Nat × State :=
  if reservedSet .FIO_KICK w then (.invalid, 0, s)
  else if s.toState = 2 then (.state, 0, s)
  else (.accepted, 0, if F.FIO_KICK_KICK.on w then refresh s else s)

/-- A milestone FIELD item writes image bits (R323): the points it was applied to. -/
def fieldItem (mask val : Nat) (s : State) : Nat × State :=
  if ! s.dom.field || s.toState == 2 then (0, s)
  else (mask, (onesUpTo 32 mask).foldl (fun t p => t.setB (portBit .FIO_OUT p) 0 (bitOf val p)) s)

/-- The communication timer expires (R325). -/
def timerExpires (s : State) : State :=
  if s.toState = 1 then
    (((s.setF F.FIO_STATUS_TOSTATE 0 2).countF F.FIO_STATUS_TOCNT 0).request 15 |>.raise 169 0).emcyObj 0xFF62 0 0x4100 0x24
  else s

/-! ### The common fault bit (R327) -/

/-- A cause holds. -/
def State.fioCause (s : State) : Bool := s.flag F.FIO_STATUS_SUPLOW 0 || s.flag F.FIO_STATUS_OVLD 0 || s.flag F.FIO_STATUS_OVT 0

/-- A cause changes: FAULT sets when it sets. -/
def causeSet (f : Fld) (b : Bool) (s : State) : State :=
  let s1 := s.setB f 0 b
  if b && ! s.flag f 0 && ! s.flag F.FIO_STATUS_FAULT 0 then
    let s2 := s1.setB F.FIO_STATUS_FAULT 0 true
    ((s2.request 15).raise 168 (bitsOf (s2.rd .FIO_STATUS 0).toNat 1 3)).emcyObj 0xFF61 0 0x4100 0x24
  else s1

/-- OVLD and OVT from the points. -/
def ovldUpdate (s : State) : State := causeSet F.FIO_STATUS_OVLD (s.fioPause.any fun x => x.2) s
def ovtUpdate (s : State) : State := causeSet F.FIO_STATUS_OVT (s.fioHot.any fun x => x.2) s

/-- A write of FIO_STATUS: a 1 clears FAULT while no cause holds. -/
def faultWrite (w : Word) (s : State) : State :=
  if F.FIO_STATUS_FAULT.on w && ! s.fioCause then s.setB F.FIO_STATUS_FAULT 0 false else s

/-! ### Registers (R328) -/

/-- The check of a point's configuration (R321). -/
def fioCfgOk (w : Word) : Bool :=
  if F.FIO_CFG_DIR.on w then F.FIO_CFG_COS.of w == 0 && ! F.FIO_CFG_COSIRQ.on w else ! F.FIO_CFG_TWEN.on w

/-- A write of a field register: code, point concerned, state. -/
def fioWrite (r : Reg) (n : Nat) (w : Word) (s : State) : Code × Nat × State :=
  match r with
  | .FIO_CFG => if reservedSet r w || ! fioCfgOk w then (.invalid, n, s) else (.accepted, n, s.hold r n w)
  | .FIO_TOCFG =>
    let t := F.FIO_TOCFG_TIMEOUT.of w
    if reservedSet r w || ! decide (10 ≤ t ∧ t ≤ 2000) then (.invalid, 0, s) else (.accepted, 0, s.hold r 0 w)
  | .FIO_OUT => imageWrite r w w s
  | .FIO_OUTS => imageWrite r w (s.rd .FIO_OUT 0 ||| w) s
  | .FIO_OUTC => imageWrite r w (s.rd .FIO_OUT 0 &&& ~~~ w) s
  | .FIO_KICK => kickWrite w s
  | .FIO_COSF =>
    let c := s.rd .FIO_COSF 0 &&& ~~~ w
    let s1 := s.wr .FIO_COSF 0 c
    (.accepted, 0, if c = 0 then s1.withdraw 14 else s1)
  | .FIO_STATUS => if reservedSet r w then (.invalid, 0, s) else (.accepted, 0, faultWrite w s)
  | .FIO_CQSTAT => if reservedSet r w then (.invalid, 0, s) else (.accepted, 0, if F.FIO_CQSTAT_LOST_CLR.on w then s.clearLost .field else s)
  | _ => (.accepted, n, s)

/-- A write that reaches a field register: FIO_RESULT has POINT in [15:8]. One to an absent point's is ignored, and answered with ABSENT (R13, R14). -/
def fioAccess (m : Master) (r : Reg) (n : Nat) (w : Word) (s : State) : State :=
  if regFitted s.variant r n then
    let p := fioWrite r n w s
    (p.2.2.wr .FIO_RESULT (bk m 0) (word (p.1.num + 0x100 * (p.2.1 % 256) + 0x10000 * r.addr n))).emit (.written m (r.addr n) p.1)
  else s.absentWrite m .FIO_RESULT n (r.addr n)

/-- A read of a field register. -/
def fioRead (m : Master) (r : Reg) (n : Nat) (s : State) : Word × State :=
  match r with
  | .FIO_OUTS | .FIO_OUTC | .FIO_KICK => (0, s)
  | .FIO_RESULT => (s.rd r (bk m 0), s)
  | .FIO_CQ0 => s.readWindow .field 2 0
  | .FIO_CQ1 => s.readWindow .field 2 1
  | .FIO_CQSTAT => (word ((s.q .field).recs.length + 0x10000 * (s.q .field).lost), s)
  | _ => (s.rd r n, s)

/-! ### Commands -/

/-- FIO_PIN_CROSSING (R322): inputs are not sampled in PARKHELD. -/
def execFioPinCrossing (p : Fin 32) (high : Bool) (s : State) : Host.Outcome State Fault Refusal :=
  ok s (if s.dom.field && s.toState != 3 && fioFitted s.variant p.val then fieldCrossing p.val high s else s)

/-- FIO_INPUT_CHANGE (R322). -/
def execFioInputChange (p : Fin 32) (s : State) : Host.Outcome State Fault Refusal :=
  ok s (if s.dom.field && s.toState != 3 then fieldRunEnd p.val s else s)

/-- FIO_OUT (R325). -/
def execFioOut (m : Master) (w : Word) (s : State) : Host.Outcome State Fault Refusal := ok s (fioAccess m .FIO_OUT 0 w s)

/-- FIO_OUTS (R324). -/
def execFioOuts (m : Master) (w : Word) (s : State) : Host.Outcome State Fault Refusal := ok s (fioAccess m .FIO_OUTS 0 w s)

/-- FIO_OUTC (R324). -/
def execFioOutc (m : Master) (w : Word) (s : State) : Host.Outcome State Fault Refusal := ok s (fioAccess m .FIO_OUTC 0 w s)

/-- FIO_KICK (R324). -/
def execFioKick (m : Master) (w : Word) (s : State) : Host.Outcome State Fault Refusal := ok s (fioAccess m .FIO_KICK 0 w s)

/-- FIELD_TIMEOUT (R325). -/
def execFieldTimeout (s : State) : Host.Outcome State Fault Refusal := ok s (timerExpires s)

/-- FIO_CQ0_READ (R322). -/
def execFioCq0Read (m : Master) (s : State) : Host.Outcome State Fault Refusal :=
  ok s (State.answerRead m (Reg.addr .FIO_CQ0 0) (fioRead m .FIO_CQ0 0 s))

/-- FIO_CQ1_READ (R322). -/
def execFioCq1Read (m : Master) (s : State) : Host.Outcome State Fault Refusal :=
  ok s (State.answerRead m (Reg.addr .FIO_CQ1 0) (fioRead m .FIO_CQ1 0 s))

/-- FIO_CQ_LOST_CLR (R328). -/
def execFioCqLostClr (m : Master) (w : Word) (s : State) : Host.Outcome State Fault Refusal := ok s (fioAccess m .FIO_CQSTAT 0 w s)

/-- FIO_COSF_CLEAR (R328). -/
def execFioCosfClear (m : Master) (w : Word) (s : State) : Host.Outcome State Fault Refusal := ok s (fioAccess m .FIO_COSF 0 w s)

/-- FAULT (R327): a write of FIO_STATUS. -/
def execFioFault (m : Master) (w : Word) (s : State) : Host.Outcome State Fault Refusal := ok s (fioAccess m .FIO_STATUS 0 w s)

/-- SUPLOW (R327): FLD_SUP with its reading, 10 mV. -/
def execSuplow (low : Bool) (volt : Nat) (s : State) : Host.Outcome State Fault Refusal :=
  ok s (if s.dom.field then causeSet F.FIO_STATUS_SUPLOW low (s.setF F.FIO_SUPV_VOLT 0 (sat 65535 volt)) else s)

/-- OVLD (R327). -/
def execFioOvld (p : Fin 32) (s : State) : Host.Outcome State Fault Refusal :=
  ok s (if s.fioDriven p.val then ovldUpdate { s with fioPause := tabSet false s.fioPause p.val true } else s)

/-- FIO_OVERLOAD_RETRY (R327). -/
def execFioOverloadRetry (p : Fin 32) (s : State) : Host.Outcome State Fault Refusal :=
  ok s (ovldUpdate { s with fioPause := tabSet false s.fioPause p.val false })

/-- OVT (R327): a driver junction reaches 170 °C, or cools to 150 °C. -/
def execFioOvt (p : Fin 32) (hot : Bool) (s : State) : Host.Outcome State Fault Refusal :=
  ok s (if s.dom.field && fioFitted s.variant p.val then ovtUpdate { s with fioHot := tabSet false s.fioHot p.val hot } else s)

/-- FIELD_CHANGE_RECORD_READ (R330). -/
def execFieldChangeRecordRead (p : DPath) (s : State) : Host.Outcome State Fault Refusal := ok s (headRead p 0x4100 0x28 .field s)

end Sys2Proof.Machine
end

