-- ==== Sys2Proof/Machine/Can.lean ====
section
/-!
DEFINITION. Machine/Can.lean: the CAN FD channels (11_can_lin.md, R332 to R351): states, filters, receive queues, mailboxes, their registers
and the meanings of their commands. The reception of a frame, which can also confirm a wake, has its command in NetCommands.lean.
-/
namespace Sys2Proof.Machine

/-! ## States of a channel (R334, R336) -/

def canTo (n st : Nat) (s : State) : State := s.setF F.CAN_STAT_STATE n st

/-- The mailbox that is ACTIVE. -/
def State.activeMb (s : State) (n : Nat) : Option Nat := (List.range 32).find? fun m => s.mbState n m == 3

/-- IDLE: on the bus with no attempt in progress (DEDUCED, assumption 30; a frame of another node is seen only when it ends). -/
def State.canIdle (s : State) (n : Nat) : Bool :=
  (s.canSends n || s.canState n == 3 || s.canState n == 7) && (s.activeMb n).isNone

/-- An event bit of CANn_IRQ sets: 2 a request ended, 3 bus-off, 4 error passive, 5 a drop. -/
def canEvt (n b : Nat) (s : State) : State := s.setB ⟨.CAN_IRQ, b, 1⟩ n true

/-- CANn_IRQ: a queue at its threshold, and the events. -/
def State.canIrqWord (s : State) (n : Nat) : Nat :=
  let t0 := s.getF F.CAN_QCFG_THR0 n
  let t1 := s.getF F.CAN_QCFG_THR1 n
  b01 (t0 != 0 && decide (t0 ≤ (s.q (.can n 0)).recs.length)) + 2 * b01 (t1 != 0 && decide (t1 ≤ (s.q (.can n 1)).recs.length)) +
    4 * s.getF F.CAN_IRQ_EVT n

/-- The request of line 16 + n stands. -/
def State.canRequest (s : State) (n : Nat) : Bool := (word (s.canIrqWord n) &&& s.rd .CAN_IEN n) != 0

/-- The error counters take new values; FC follows, and EVT bit 4 marks the entry into error passive. -/
def countersTo (n tec rec_ : Nat) (s : State) : State :=
  let s1 := ((s.setF F.CAN_STAT_TEC n (sat 255 tec)).setF F.CAN_STAT_REC n (sat 255 rec_))
  let fc := if 255 < tec then 2 else if 127 < tec ∨ 127 < rec_ then 1 else 0
  let s2 := s1.setF F.CAN_STAT_FC n fc
  if fc = 1 ∧ s.getF F.CAN_STAT_FC n = 0 then canEvt n 4 s2 else s2

/-! ## Mailboxes (R342 to R347) -/

/-- Word `k` of a mailbox buffer. -/
def State.mbWord (s : State) (n m k : Nat) : Word := tabGet 0 s.mbuf (mbIx n m * 18 + k)
def State.mbWords (s : State) (n m : Nat) : List Word := (List.range 18).map (s.mbWord n m)

def State.mbFailure (s : State) (n m : Nat) : Nat := tabGet 0 s.mbFail (mbIx n m)
def mbFailed (n m out : Nat) (s : State) : State := { s with mbFail := tabSet 0 s.mbFail (mbIx n m) out }
def mbAbortSet (n m : Nat) (b : Bool) (s : State) : State := { s with mbAbort := tabSet false s.mbAbort (mbIx n m) b }

/-- A request ends: state, outcome, and the end bits. -/
def mbEnd (n m st out : Nat) (s : State) : State :=
  let i := mbIx n m
  let s1 := ((s.setF F.MB_STAT_STATE i st).setF F.MB_STAT_OUTCOME i out).setB F.MB_STAT_REREQ i false
  let s2 := mbAbortSet n m false (mbFailed n m 0 (s1.setB ⟨.CAN_TXEND, m, 1⟩ n true))
  if s2.flag F.MB_CTRL_TXIRQ i then canEvt n 2 s2 else s2

/-- A mailbox takes a request: PENDING, with its stamp; attempts count from 0. -/
def mbPend (n m : Nat) (ms : Bool) (s : State) : State :=
  let i := mbIx n m
  let s1 := ((s.setF F.MB_STAT_STATE i 2).setF F.MB_STAT_OUTCOME i 0).setF F.MB_STAT_ATTEMPTS i 0
  mbFailed n m 0 ((s1.setB F.MB_STAT_MS i ms).wr .MB_RQT i (word s.short))

/-- A request by REQ or by a milestone (R343, R347): whether it is taken, and the state. Requests that merge carry MS where one of them
came from a milestone, and RQT is the last one's time (DEDUCED, assumption 30). -/
def mbRequest (n m : Nat) (ms : Bool) (s : State) : Bool × State :=
  let i := mbIx n m
  match s.mbState n m with
  | 0 => (false, s)
  | 1 =>
    if s.canState n == 8 || (! ms && s.flag F.MB_CTRL_MSONLY i) then (false, s) else (true, mbPend n m ms s)
  | 2 => (true, (s.setB F.MB_STAT_MS i (ms || s.flag F.MB_STAT_MS i)).wr .MB_RQT i (word s.short))
  | _ => (true, ((s.setB F.MB_STAT_REREQ i true).setB F.MB_STAT_MS i (ms || (s.flag F.MB_STAT_REREQ i && s.flag F.MB_STAT_MS i))).wr
      .MB_RQT i (word s.short))

/-- The checks of LOAD (R342). -/
def mbLoadOk (w0 w1 : Word) : Bool :=
  let a := w0.toNat
  let ide := bitOf a 29
  let fdf := bitOf a 30
  let brs := bitOf a 31
  ! (bitOf w1.toNat 4 && fdf) && ! (brs && ! fdf) && (ide || bitsOf a 11 18 == 0) && bitsOf w1.toNat 5 27 == 0

/-- ABORT (R343). -/
def mbAborted (n m : Nat) (s : State) : State :=
  if s.mbState n m = 2 then
    mbEnd n m 1 (if s.getF F.MB_STAT_ATTEMPTS (mbIx n m) = 0 then 2 else s.mbFailure n m) s
  else if s.mbState n m = 3 then mbAbortSet n m true s
  else s

/-- The settings of a write of MB_CTRLm are stored. -/
def mbSettings (n m : Nat) (w : Word) (s : State) : State := s.wrMasked .MB_CTRL (mbIx n m) w

/-- A write of MB_CTRLm (R343, R349): its checks in their order, then one action. -/
def mbCtrlWrite (n m : Nat) (w : Word) (s : State) : Code × State :=
  let st := s.mbState n m
  let acts := (onesUpTo 4 w.toNat).length
  let load := F.MB_CTRL_LOAD.on w
  let code := firstCode
    [ (reservedSet .MB_CTRL w || decide (1 < acts), .invalid),
      (s.claimedMb n m, .state),
      ((load || F.MB_CTRL_CLEAR.on w) && decide (2 ≤ st), .state),
      (F.MB_CTRL_REQ.on w && s.entering, .state),
      (load && ! mbLoadOk (s.mbWord n m 0) (s.mbWord n m 1), .invalid) ]
  match code with
  | .accepted =>
    let i := mbIx n m
    let t := mbSettings n m w s
    if load then (.accepted, (t.setF F.MB_STAT_STATE i 1).setB F.MB_STAT_WIGN i false)
    else if F.MB_CTRL_CLEAR.on w then (.accepted, t.setF F.MB_STAT_STATE i 0)
    else if F.MB_CTRL_ABORT.on w then (.accepted, mbAborted n m t)
    else if F.MB_CTRL_REQ.on w then
      let r := mbRequest n m false t
      if r.1 then (.accepted, r.2) else (.state, s)
    else (.accepted, t)
  | c => (c, s)

/-- A write of word `k` of a buffer (R342): taken in EMPTY and LOADED, ignored with WIGN in PENDING and ACTIVE, ignored in a claimed
mailbox (R343). -/
def mbBufWrite (n m k : Nat) (w : Word) (s : State) : State :=
  if s.claimedMb n m then s
  else if 2 ≤ s.mbState n m then s.setB F.MB_STAT_WIGN (mbIx n m) true
  else { (s.setF F.MB_STAT_STATE (mbIx n m) 0) with mbuf := tabSet 0 s.mbuf (mbIx n m * 18 + k) w }

/-- The arbitration field of a buffer as a number: the lower wins on the bus (R345). -/
def arbKey (w0 w1 : Word) : Nat :=
  let a := w0.toNat
  let rtr := b01 (bitOf w1.toNat 4)
  if bitOf a 29 then bitsOf a 18 11 * 2 ^ 21 + 2 ^ 20 + 2 ^ 19 + bitsOf a 0 18 * 2 + rtr
  else bitsOf a 0 11 * 2 ^ 21 + rtr * 2 ^ 20

/-- The lower key wins, and the earlier mailbox between equal keys. -/
def bestKey (key : Nat → Nat) : List Nat → Option Nat
  | [] => none
  | m :: t =>
    match bestKey key t with
    | none => some m
    | some b => if key b < key m then some b else some m

/-- The mailbox that is selected (R345). -/
def State.selectMb (s : State) (n : Nat) : Option Nat :=
  let pend := (List.range 32).filter fun m => s.mbState n m == 2
  if s.flag F.CAN_MODE_TXPRI n then pend.head? else bestKey (fun m => arbKey (s.mbWord n m 0) (s.mbWord n m 1)) pend

/-- Every PENDING mailbox ends, with an outcome (R335, R348). -/
def pendingEnd (n out : Nat) (s : State) : State :=
  (List.range 32).foldl (fun t m => if t.mbState n m = 2 then mbEnd n m 1 out t else t) s

/-- The attempt of the ACTIVE mailbox fails (R343): `out` is LOST_ARB or ERROR. -/
def attemptFails (n m out : Nat) (s : State) : State :=
  let i := mbIx n m
  if s.flag F.MB_CTRL_ONESHOT i || tabGet false s.mbAbort i then mbEnd n m 1 out s
  else mbFailed n m out (s.setF F.MB_STAT_STATE i 2)

/-! ## Receiving (R337 to R341) -/

/-- The number of data bytes of a length code (R338). -/
def dlcBytes (fdf : Bool) (dlc : Nat) : Nat :=
  if dlc ≤ 8 then dlc
  else if fdf then (match dlc with | 9 => 12 | 10 => 16 | 11 => 20 | 12 => 24 | 13 => 32 | 14 => 48 | _ => 64)
  else 8

/-- Word 0 of a record. -/
def frameWord0 (f : CanFrame) : Nat :=
  f.id % 2 ^ 29 + 2 ^ 29 * b01 f.ide + 2 ^ 30 * b01 f.fdf + 2 ^ 31 * b01 f.brs

/-- F: word 0 with RTR in bit 30 (R337). -/
def frameFilter (f : CanFrame) : Word :=
  word (f.id % 2 ^ 29 + 2 ^ 29 * b01 f.ide + 2 ^ 30 * b01 f.rtr + 2 ^ 31 * b01 f.brs)

/-- Bytes in words, the first byte lowest. -/
def bytesWords : Nat → List Byte → List Word
  | 0, _ => []
  | k + 1, l => word (leNat (l.take 4)) :: bytesWords k (l.drop 4)

/-- The data bytes that the length code covers; a remote frame has none. -/
def frameBytes (f : CanFrame) : List Byte :=
  if f.rtr then [] else f.data.take (dlcBytes f.fdf f.dlc)

/-- A frame matches an unclaimed pair that is enabled. -/
def State.pairTakes (s : State) (n k : Nat) (f : CanFrame) : Bool :=
  let i := fltIx n k
  ! s.claimedPair n k && s.flag F.FLT_CTRL_EN i &&
    ((frameFilter f ^^^ s.rd .FLT_MATCH i) &&& s.rd .FLT_MASK i) == 0

/-- The record of a frame stored through pair `k`; COUNT is added when the record is read or locked. -/
def canRecord (f : CanFrame) (k : Nat) (lostf : Bool) : List Word :=
  [word (frameWord0 f),
   word (f.dlc % 16 + 2 ^ 4 * dlcBytes f.fdf (f.dlc % 16) + 2 ^ 11 * b01 f.rtr + 2 ^ 12 * b01 f.esi + 2 ^ 14 * k + 2 ^ 27 * b01 lostf),
   word f.sof] ++ bytesWords 16 (frameBytes f)

/-- The EMCY of the first drop: 0x8110 on the CANopen channel, 0xFF71 on another (R340). -/
def dropEmcy (n q : Nat) (s : State) : State :=
  s.emcyObj (if n = s.canOpenCh then 0x8110 else 0xFF71) 0 (0x4400 + n) (6 + q)

/-- A frame is stored in a queue, or dropped because it is full (R340). -/
def canStore (n k : Nat) (f : CanFrame) (s : State) : State :=
  let i := fltIx n k
  let q := s.getF F.FLT_CTRL_Q i
  let key := 2 * n + q
  let before := s.q (.can n q)
  let s1 := s.offer (.can n q) (canRecord f k (tabGet false s.canLostf key))
  if before.recs.length < qCap (.can n q) then
    ({ s1 with canLostf := tabSet false s1.canLostf key false }).countF F.FLT_HITS_HITS i
  else
    let s2 := canEvt n 5 { s1 with canLostf := tabSet false s1.canLostf key true }
    if before.lost = 0 then dropEmcy n q s2 else s2

/-- Filter settings that waited apply at the end of a frame (R35, R337). -/
def filtersApply (n : Nat) (s : State) : State :=
  (List.range 48).foldl (fun t f => t.applyAll [.FLT_MATCH, .FLT_MASK, .FLT_CTRL] (fltIx n f)) s

/-- A valid frame passes the filters (R337): to a claimed pair's owner, whose own command follows; to a queue; or to nothing. -/
def canFilter (n : Nat) (f : CanFrame) (s : State) : State :=
  if ! f.ide && ! f.rtr && s.claimTakes n f.id then s
  else
    match (List.range 48).find? fun k => s.pairTakes n k f with
    | some k => canStore n k f s
    | none => s.countF F.CAN_NOMATCH_COUNT n

/-- REC after a valid reception, under ISO 11898-1 (PRESUMED, assumption 30): one less, or from 119 to 127 where it stood above 127. -/
def recLess (n : Nat) (s : State) : State :=
  let r := s.getF F.CAN_STAT_REC n
  let t := s.getF F.CAN_STAT_TEC n
  if r = 0 then s
  else if r ≤ 127 then countersTo n t (r - 1) s
  else (countersTo n t (119 + Config.recAfter s.fresh % 9) s).used

/-- A frame of another node becomes valid on the bus (R334, R337). -/
def canReceive (n : Nat) (f : CanFrame) (s : State) : State :=
  let st := s.canState n
  if ! s.canOn n then s
  else if st = 2 then filtersApply n (recLess n (canFilter n f s))
  else if st = 3 ∨ st = 7 then filtersApply n (canFilter n f s)
  else filtersApply n s

/-- The frame of a mailbox as it is received by the module itself. -/
def State.ownFrame (s : State) (n m sof : Nat) : CanFrame :=
  let w0 := (s.mbWord n m 0).toNat
  let w1 := (s.mbWord n m 1).toNat
  { id := w0 % 2 ^ 29, ide := bitOf w0 29, fdf := bitOf w0 30, brs := bitOf w0 31, rtr := bitOf w1 4,
    esi := s.getF F.CAN_STAT_FC n != 0 && bitOf w0 30, dlc := w1 % 16,
    data := (List.range 16).flatMap fun k => leBytes 4 (s.mbWord n m (2 + k)).toNat, sof := sof }

/-! ### Queue windows (R339) -/

/-- A word with COUNT in [26:20]. -/
def withCount (w : Word) (c : Nat) : Word := putBits w 20 7 c

/-- The head is locked, with COUNT taken (R339). -/
def canLock (n q : Nat) (s : State) : State :=
  let x := s.q (.can n q)
  if x.locked then s
  else
    match x.recs with
    | [] => s
    | r :: t =>
      let r' := { r with words := r.words.mapIdx fun j w => if j = 1 then withCount w x.recs.length else w }
      s.setQ (.can n q) { x with recs := r' :: t, locked := true }

/-- A read of word `k` of a queue window. Word 1 of an unlocked head shows the present COUNT (DEDUCED, assumption 30). -/
def canWindow (n q k : Nat) (s : State) : Word × State :=
  let x := s.q (.can n q)
  let w := if k = 1 ∧ ! x.locked ∧ x.recs ≠ [] then withCount (x.word 1) x.recs.length else x.word k
  if k = 0 then (w, canLock n q s) else if k = 18 then (w, s.releaseHead (.can n q)) else (w, s)

/-- A dictionary read of a head record (R341, R359): an empty queue has no data, a locked head is refused. -/
def recordRead (p : DPath) (index sub : Nat) (i : QId) (show_ : List Word → List Word) (s : State) : State :=
  match (s.q i).recs with
  | [] => s.objAborted p index sub 0x08000024
  | r :: _ =>
    if (s.q i).locked then s.objAborted p index sub 0x08000022
    else (s.popHead i).emit (.objRead p index sub ((show_ r.words).flatMap fun w => leBytes 4 w.toNat))

/-! ## Registers (R335, R349) -/

/-- The nominal bit and the data bit in CAN cycles. -/
def btnCycles (w : Word) : Nat := F.CAN_BTN_BRP.of w * (1 + F.CAN_BTN_TSEG1.of w + F.CAN_BTN_TSEG2.of w)
def btdCycles (w : Word) : Nat := F.CAN_BTD_BRP.of w * (1 + F.CAN_BTD_TSEG1.of w + F.CAN_BTD_TSEG2.of w)

/-- The limits of the nominal bit timing. -/
def btnOk (w : Word) : Bool :=
  let t2 := F.CAN_BTN_TSEG2.of w
  decide (1 ≤ F.CAN_BTN_BRP.of w ∧ F.CAN_BTN_BRP.of w ≤ 32 ∧ 2 ≤ F.CAN_BTN_TSEG1.of w ∧ F.CAN_BTN_TSEG1.of w ≤ 256 ∧ 1 ≤ t2 ∧ t2 ≤ 128 ∧
    1 ≤ F.CAN_BTN_SJW.of w ∧ F.CAN_BTN_SJW.of w ≤ t2 ∧ 80 ≤ btnCycles w ∧ btnCycles w ≤ 640)

/-- The limits of the data bit timing. -/
def btdOk (w : Word) : Bool :=
  let t2 := F.CAN_BTD_TSEG2.of w
  decide (1 ≤ F.CAN_BTD_BRP.of w ∧ F.CAN_BTD_BRP.of w ≤ 32 ∧ 1 ≤ F.CAN_BTD_TSEG1.of w ∧ F.CAN_BTD_TSEG1.of w ≤ 32 ∧ 1 ≤ t2 ∧ t2 ≤ 16 ∧
    1 ≤ F.CAN_BTD_SJW.of w ∧ F.CAN_BTD_SJW.of w ≤ t2 ∧ 10 ≤ btdCycles w)

/-- CONFIG comes into force (R335): MODE 0, requests cancelled, counters 0. -/
def configEnter (n : Nat) (s : State) : State :=
  let s1 := (s.applyHeld .CAN_MODE n).setF F.CAN_MODE_MODE n 0
  let s2 := countersTo n 0 0 (pendingEnd n 2 (canTo n 0 s1))
  { s2 with canRecover := tabSet false s2.canRecover n false }

/-- A write of CANn_MODE (R335). -/
def canModeAccept (n : Nat) (w : Word) (s : State) : Code × State :=
  let mode := F.CAN_MODE_MODE.of w
  let st := s.canState n
  let onlyMode0 := mode == 0 && (w &&& ~~~ 7) == (s.rd .CAN_MODE n &&& ~~~ 7)
  if 4 < mode then (.invalid, s)
  else if st = 0 then
    let s1 := s.wr .CAN_MODE n w
    (.accepted, canTo n (if mode = 1 ∨ mode = 2 then 1 else if mode = 3 then 4 else if mode = 4 then 5 else 0) s1)
  else if onlyMode0 && st != 7 then
    (.accepted, if st = 8 then configEnter n (s.wr .CAN_MODE n w) else s.hold .CAN_MODE n w)
  else (.state, s)

/-- A write of bit timing: only in CONFIG, within its limits. -/
def canTimingAccept (r : Reg) (n : Nat) (w : Word) (good : Bool) (s : State) : Code × State :=
  if ! good then (.invalid, s) else if s.canState n = 0 then (.accepted, s.wr r n w) else (.state, s)

/-- A write of RECOVER: recovery starts in BUS_OFF while ABOR is clear. -/
def recoverStart (n : Nat) (s : State) : State :=
  if s.canState n = 8 ∧ ! s.flag F.CAN_MODE_ABOR n then { s with canRecover := tabSet false s.canRecover n true } else s

/-- A write of a filter register; a claimed pair refuses it. -/
def filterAccept (r : Reg) (i : Nat) (w : Word) (s : State) : Code × State :=
  if s.claimedPair (i / 48) (i % 48) then (.state, s) else (.accepted, s.hold r i w)

/-- The filter pair or mailbox that a CAN register belongs to; 0 for none. -/
def canItem (r : Reg) (n : Nat) : Nat :=
  match r with
  | .FLT_MATCH | .FLT_MASK | .FLT_CTRL | .FLT_HITS => n % 48
  | .MB_CTRL | .MB_STAT | .MB_TS | .MB_RQT => n % 32
  | _ => 0

/-- A write of a CAN register: code, pair or mailbox concerned, state. -/
def canWrite (r : Reg) (n : Nat) (w : Word) (s : State) : Code × Nat × State :=
  let at0 := fun (p : Code × State) => (p.1, 0, p.2)
  if reservedSet r w then (.invalid, canItem r n, s)
  else match r with
  | .CAN_MODE => at0 (canModeAccept n w s)
  | .CAN_ERR => (.accepted, 0, if F.CAN_ERR_RECOVER.on w then recoverStart n s else s)
  | .CAN_BTN => at0 (canTimingAccept r n w (btnOk w && decide (btdCycles (s.rd .CAN_BTD n) ≤ btnCycles w)) s)
  | .CAN_BTD => at0 (canTimingAccept r n w (btdOk w && decide (btdCycles w ≤ btnCycles (s.rd .CAN_BTN n))) s)
  | .CAN_QSTAT => (.accepted, 0, if F.CAN_QSTAT_LOST_CLR.on w then s.clearLost (.can (n / 2) (n % 2)) else s)
  | .CAN_QCFG =>
    if decide (64 < F.CAN_QCFG_THR0.of w) || decide (32 < F.CAN_QCFG_THR1.of w) then (.invalid, 0, s)
    else (.accepted, 0, s.wr r n w)
  | .CAN_IEN => (.accepted, 0, s.wr r n w)
  | .CAN_IRQ | .CAN_TXEND => (.accepted, 0, s.wr r n (s.rd r n &&& ~~~ (w &&& word r.desc.w1c)))
  | .FLT_MATCH | .FLT_MASK | .FLT_CTRL => let p := filterAccept r n w s; (p.1, n % 48, p.2)
  | .MB_CTRL => let p := mbCtrlWrite (n / 32) (n % 32) w s; (p.1, n % 32, p.2)
  | _ => (.accepted, 0, s)

/-- The channel that a CAN register belongs to. -/
def canChan (r : Reg) (n : Nat) : Nat :=
  match r with
  | .CAN_QSTAT => n / 2
  | .FLT_MATCH | .FLT_MASK | .FLT_CTRL | .FLT_HITS => n / 48
  | .MB_CTRL | .MB_STAT | .MB_TS | .MB_RQT => n / 32
  | _ => n

/-- A write that reaches a CAN register: CANn_RESULT has ITEM in [13:8]. An absent channel has no CANn_RESULT; its master is answered with ABSENT
(R13, R14). -/
def canAccess (m : Master) (r : Reg) (n : Nat) (w : Word) (s : State) : State :=
  if regFitted s.variant r n then
    let p := canWrite r n w s
    (p.2.2.wr .CAN_RESULT (bk m (canChan r n)) (word (p.1.num + 0x100 * (p.2.1 % 64) + 0x10000 * r.addr n))).emit
      (.written m (r.addr n) p.1)
  else (absentMark (r.addr n) s).answered m (r.addr n) .absent

/-- A read of a CAN register. Settings of a claimed pair that its owner's rules leave open are free values (R344). -/
def canRead (m : Master) (r : Reg) (n : Nat) (s : State) : Word × State :=
  match r with
  | .CAN_STAT => (putBits (s.rd r n) 6 1 (b01 (s.canIdle n)), s)
  | .CAN_ERR => (putBits (s.rd r n) 4 1 0, s)
  | .CAN_QSTAT =>
    let x := s.q (.can (n / 2) (n % 2))
    (word (x.recs.length + 0x80 * b01 x.locked + 0x10000 * x.lost), s)
  | .CAN_IRQ => (word (s.canIrqWord n), s)
  | .CAN_TXPEND => (word (((List.range 32).map fun k => if 2 ≤ s.mbState n k then 2 ^ k else 0).sum), s)
  | .CAN_RESULT => (s.rd r (bk m n), s)
  | .FLT_MATCH | .FLT_MASK =>
    if s.claimedPair (n / 48) (n % 48) then (word (Config.ownerFilter s.fresh), s.used) else (s.rd r n, s)
  | .FLT_CTRL =>
    if s.claimedPair (n / 48) (n % 48) then (word (1 + 2 * (Config.ownerFilter s.fresh % 2)), s.used) else (s.rd r n, s)
  | _ => (s.rd r n, s)

/-! ### Message RAM (R350) -/

/-- A read of the word at byte offset `o` of CANn's message RAM: the windows, the buffers; other offsets read 0. -/
def canRamRead (n o : Nat) (s : State) : Word × State :=
  if ! canFitted s.variant n then (0, s)
  else if o < 76 then canWindow n 0 (o / 4) s
  else if 0x80 ≤ o ∧ o < 0x80 + 76 then canWindow n 1 ((o - 0x80) / 4) s
  else if 0x100 ≤ o ∧ o < 0x100 + 0x50 * 32 ∧ (o - 0x100) % 0x50 < 72 then
    (s.mbWord n ((o - 0x100) / 0x50) ((o - 0x100) % 0x50 / 4), s)
  else (0, s)

/-- A write of the word at byte offset `o`: only buffers take it. -/
def canRamWrite (n o : Nat) (w : Word) (s : State) : State :=
  if canFitted s.variant n ∧ 0x100 ≤ o ∧ o < 0x100 + 0x50 * 32 ∧ (o - 0x100) % 0x50 < 72 then
    mbBufWrite n ((o - 0x100) / 0x50) ((o - 0x100) % 0x50 / 4) w s
  else s

/-! ## Bus-off (R336, R361, R362) -/

/-- TEC passes 255: requests end with BUS_OFF, the entry counts and is reported. -/
def busOff (n : Nat) (s : State) : State :=
  let s1 := (List.range 32).foldl (fun t m => if 2 ≤ t.mbState n m then mbEnd n m 1 6 t else t) (canTo n 8 s)
  let s2 := canEvt n 3 ((s1.countF F.CAN_ERR_BOFF n).odoCount 9 n 0 1)
  let s3 := { s2 with canRecover := tabSet false s2.canRecover n (s2.flag F.CAN_MODE_ABOR n) }
  let s4 := s3.raise (160 + n) (s3.getF F.CAN_ERR_BOFF n)
  if n = s.canOpenCh then s4 else s4.emcyObj 0xFF70 0 (0x4400 + n) 5

/-! ## Commands -/

/-- CAN_MODE_WRITE (R335). -/
def execCanModeWrite (m : Master) (n : Fin 8) (w : Word) (s : State) : Host.Outcome State Fault Refusal :=
  ok s (canAccess m .CAN_MODE n.val w s)

/-- CAN_CONFIG_ENTER (R335): an accepted MODE 0 applies once no attempt is in progress. -/
def execCanConfigEnter (n : Fin 8) (s : State) : Host.Outcome State Fault Refusal :=
  ok s (if (s.heldOf .CAN_MODE n.val).isSome && (s.activeMb n.val).isNone then configEnter n.val s else s)

/-- CAN_INTEGRATE_COMPLETE (R336). -/
def execCanIntegrateComplete (n : Fin 8) (s : State) : Host.Outcome State Fault Refusal :=
  ok s (if s.canState n.val = 1 then canTo n.val (if s.getF F.CAN_MODE_MODE n.val = 2 then 3 else 2) s else s)

/-- What CANn_ERR.LEC records of an error: with protocol exceptions not handled, a recessive res bit is a form error (R332). -/
def State.lecOf (s : State) (n lec : Nat) : Nat := if lec = 7 ∧ ! s.flag F.CAN_MODE_PXHD n then 2 else lec

/-- CAN_ERROR (R334, R336, R343): the error, and the counters that ISO 11898-1 gives after it. Frozen and held counters keep their values. -/
def execCanError (n : Fin 8) (lec : Fin 8) (dph tx : Bool) (tec rec_ : Nat) (s : State) : Host.Outcome State Fault Refusal :=
  let st := s.canState n.val
  ok s (if ! s.canOn n.val || st == 0 || st == 6 || st == 8 || lec.val == 0 then s
    else
      let s1 := (s.setF F.CAN_ERR_LEC n.val (s.lecOf n.val lec.val)).setB F.CAN_ERR_DPH n.val dph
      let s2 := if s.canSends n.val then countersTo n.val tec rec_ s1 else s1
      let s3 := if s.canSends n.val && decide (255 < tec) then busOff n.val s2
        else
          match s2.activeMb n.val with
          | some m => if tx then attemptFails n.val m 4 s2 else s2
          | none => s2
      filtersApply n.val s3)

/-- CAN_BUS_OFF_RECOVERY (R336): the state that MODE gives, counters 0; on the CANopen channel EMCY 0x8140. -/
def execCanBusOffRecovery (n : Fin 8) (s : State) : Host.Outcome State Fault Refusal :=
  ok s (if s.canState n.val = 8 ∧ tabGet false s.canRecover n.val then
      let s1 := canTo n.val (if s.getF F.CAN_MODE_MODE n.val = 3 then 4 else 2) s
      let s2 := countersTo n.val 0 0 { s1 with canRecover := tabSet false s1.canRecover n.val false }
      if n.val = s.canOpenCh then s2.emcyObj 0x8140 0 0 0 else s2
    else s)

/-- RECOVER (R336): a write of CANn_ERR. -/
def execCanRecover (m : Master) (n : Fin 8) (w : Word) (s : State) : Host.Outcome State Fault Refusal :=
  ok s (canAccess m .CAN_ERR n.val (w ||| word (2 ^ F.CAN_ERR_RECOVER.lo)) s)

/-- The answer of a read of word `k` of a queue window. -/
def windowRead (m : Master) (n q k : Nat) (s : State) : State :=
  let r := if canFitted s.variant n then canWindow n q k s else (0, s)
  r.2.emit (.value m (0x60000000 + 0x1000 * n + 0x80 * q + 4 * k) r.1)

/-- CAN_QUEUE_WORD0_READ (R339). -/
def execCanQueueWord0Read (m : Master) (n : Fin 8) (q : Fin 2) (s : State) : Host.Outcome State Fault Refusal :=
  ok s (windowRead m n.val q.val 0 s)

/-- CAN_QUEUE_WORD18_READ (R339). -/
def execCanQueueWord18Read (m : Master) (n : Fin 8) (q : Fin 2) (s : State) : Host.Outcome State Fault Refusal :=
  ok s (windowRead m n.val q.val 18 s)

/-- CAN_QUEUE_LOST_CLR (R349). -/
def execCanQueueLostClr (m : Master) (n : Fin 8) (q : Fin 2) (w : Word) (s : State) : Host.Outcome State Fault Refusal :=
  ok s (canAccess m .CAN_QSTAT (2 * n.val + q.val) w s)

/-- A read of 0x4400 + n:A0 or :A1: the head with the count of records held, removed (R341, R359). -/
def canRecordObj (p : DPath) (n q : Nat) (s : State) : State :=
  recordRead p (0x4400 + n) (0xA0 + q) (.can n q)
    (fun ws => ws.mapIdx fun j w => if j = 1 then withCount w (s.q (.can n q)).recs.length else w) s

/-- CAN_QUEUE_RECORD_READ (R341, R359). -/
def execCanQueueRecordRead (p : DPath) (n : Fin 8) (q : Fin 2) (s : State) : Host.Outcome State Fault Refusal :=
  ok s (if canFitted s.variant n.val then canRecordObj p n.val q.val s else s.objAborted p (0x4400 + n.val) (0xA0 + q.val) 0x06020000)

/-- MAILBOX_BUFFER_WRITE (R342). -/
def execMailboxBufferWrite (m : Master) (n : Fin 8) (b : Fin 32) (k : Fin 18) (w : Word) (s : State) :
    Host.Outcome State Fault Refusal :=
  let addr := 0x60000000 + 0x1000 * n.val + 0x100 + 0x50 * b.val + 4 * k.val
  ok s (if canFitted s.variant n.val then (mbBufWrite n.val b.val k.val w s).emit (.written m addr .accepted)
    else s.emit (.written m addr .accepted))

/-- LOAD (R342). -/
def execMbLoad (m : Master) (n : Fin 8) (b : Fin 32) (w : Word) (s : State) : Host.Outcome State Fault Refusal :=
  ok s (canAccess m .MB_CTRL (mbIx n.val b.val) (w ||| word (2 ^ F.MB_CTRL_LOAD.lo)) s)

/-- REQ (R343). -/
def execMbReq (m : Master) (n : Fin 8) (b : Fin 32) (w : Word) (s : State) : Host.Outcome State Fault Refusal :=
  ok s (canAccess m .MB_CTRL (mbIx n.val b.val) (w ||| word (2 ^ F.MB_CTRL_REQ.lo)) s)

/-- ABORT (R343). -/
def execMbAbort (m : Master) (n : Fin 8) (b : Fin 32) (w : Word) (s : State) : Host.Outcome State Fault Refusal :=
  ok s (canAccess m .MB_CTRL (mbIx n.val b.val) (w ||| word (2 ^ F.MB_CTRL_ABORT.lo)) s)

/-- CLEAR (R343). -/
def execMbClear (m : Master) (n : Fin 8) (b : Fin 32) (w : Word) (s : State) : Host.Outcome State Fault Refusal :=
  ok s (canAccess m .MB_CTRL (mbIx n.val b.val) (w ||| word (2 ^ F.MB_CTRL_CLEAR.lo)) s)

/-- CAN_TX_SELECT (R345): in NORMAL or LOOPBACK with no attempt in progress and no MODE 0 waiting. -/
def execCanTxSelect (n : Fin 8) (s : State) : Host.Outcome State Fault Refusal :=
  ok s (if s.canOn n.val && s.canSends n.val && (s.activeMb n.val).isNone && (s.heldOf .CAN_MODE n.val).isNone then
      match s.selectMb n.val with
      | some m => (s.setF F.MB_STAT_STATE (mbIx n.val m) 3).countF F.MB_STAT_ATTEMPTS (mbIx n.val m)
      | none => s
    else s)

/-- CAN_TX_SENT (R343): the frame is valid for the transmitter. -/
def execCanTxSent (n : Fin 8) (sof : Nat) (s : State) : Host.Outcome State Fault Refusal :=
  ok s (match s.activeMb n.val with
    | none => s
    | some m =>
      let i := mbIx n.val m
      let late := tabGet false s.mbAbort i
      let again := s.flag F.MB_STAT_REREQ i && ! late
      let s1 := (s.wr .MB_TS i (word sof)).emit (.canTx n.val m (s.mbWords n.val m))
      let s2 := mbEnd n.val m (if again then 2 else 1) (if late then 5 else 1) s1
      let s3 := if again then s2.setF F.MB_STAT_ATTEMPTS i 0 else s2
      let t := s.getF F.CAN_STAT_TEC n.val
      let s4 := countersTo n.val (t - 1) (s.getF F.CAN_STAT_REC n.val) s3
      let own := s.canState n.val == 4 || s.flag F.CAN_MODE_SELFRX n.val
      filtersApply n.val (if own then canFilter n.val (s.ownFrame n.val m sof) s4 else s4))

/-- CAN_TX_ARBITRATION_LOST (R343). -/
def execCanTxArbitrationLost (n : Fin 8) (s : State) : Host.Outcome State Fault Refusal :=
  ok s (match s.activeMb n.val with
    | none => s
    | some m => attemptFails n.val m 3 s)

end Sys2Proof.Machine
end

