-- ==== Sys2Proof/Machine/Lin.lean ====
section
/-!
DEFINITION. Machine/Lin.lean: the LIN commanders (11_can_lin.md, R352 to R358): slots, tables, results, records, states, their registers and
the meanings of their commands.
-/
namespace Sys2Proof.Machine

def State.ln (s : State) (c : Nat) : Lin := tabGet {} s.lin c
def State.setLn (s : State) (c : Nat) (x : Lin) : State := { s with lin := tabSet {} s.lin c x }

def State.linState (s : State) (c : Nat) : Nat := s.getF F.LIN_STAT_STATE c
def linTo (c st : Nat) (s : State) : State := s.setF F.LIN_STAT_STATE c st
def State.linTable (s : State) (c : Nat) : Nat := s.getF F.LIN_STAT_TABLE c

/-- The channel is fitted and its domain on. -/
def State.linOn (s : State) (c : Nat) : Bool := s.dom.comms && linFitted s.variant c

/-! ## Slots (R352) -/

/-- The key of word `k` of slot `i` of LINc. -/
def linKey (c i k : Nat) : Nat := (c * 64 + i) * 4 + k
def State.linWord (s : State) (c i k : Nat) : Word := tabGet 0 s.linSlots (linKey c i k)
def linWordSet (c i k : Nat) (w : Word) (s : State) : State := { s with linSlots := tabSet 0 s.linSlots (linKey c i k) w }

/-- Fields of word 0. -/
def slotId (w : Nat) : Nat := bitsOf w 0 6
def slotDir (w : Nat) : Bool := bitOf w 6
def slotLen (w : Nat) : Nat := bitsOf w 7 4
def slotType (w : Nat) : Nat := bitsOf w 12 2
def slotRetry (w : Nat) : Nat := bitsOf w 14 2
def slotRec (w : Nat) : Bool := bitOf w 16
def slotEn (w : Nat) : Bool := bitOf w 17
def slotDelay (w : Nat) : Nat := bitsOf w 18 8
def slotRestab (w : Nat) : Nat := bitsOf w 26 2

/-- The rules of word 0. -/
def slotOk (w : Nat) : Bool :=
  decide (1 ≤ slotLen w ∧ slotLen w ≤ 8 ∧ 1 ≤ slotDelay w) && bitsOf w 28 4 == 0 &&
  (match slotType w with
   | 0 => true
   | 1 => ! slotDir w
   | 2 => slotLen w == 8 && ((slotId w == 0x3C && slotDir w) || (slotId w == 0x3D && ! slotDir w))
   | _ => false)

/-- A write of word `k` of a slot in data space: word 1 is hardware's (R352). -/
def linSlotWrite (c i k : Nat) (w : Word) (s : State) : State := if k = 1 then s else linWordSet c i k w s

/-- A slot's last result, and its error count. -/
def slotResult (c i res : Nat) (err : Bool) (s : State) : State :=
  let w := s.linWord c i 1
  let n := sat 255 (bitsOf w.toNat 8 8 + b01 err)
  linWordSet c i 1 (word (res + 0x100 * n)) s

/-! ## Records (R355) -/

/-- A record is offered. -/
def linRecord (c slot : Nat) (w0 : Nat) (bytes : List Byte) (res tries : Nat) (stamp : Option Word) (s : State) : State :=
  let seq := (s.q (.lin c)).seq % 64
  let a := slotId w0 + 0x40 * b01 (slotDir w0) + 0x80 * (bytes.length % 16) + 0x800 * res + 0x4000 * (tries % 4) + 0x10000 * slot +
    0x400000 * s.linTable c + 0x1000000 * b01 stamp.isNone + 0x4000000 * seq
  s.offer (.lin c) ([word a, stamp.getD 0] ++ bytesWords 2 bytes)

/-! ## Tables (R353) -/

/-- The definition of table `t` in force. -/
def State.linDef (s : State) (c t : Nat) : Word := s.rd .LIN_TDEF (4 * c + t)

/-- Table `t` is in force at position `i`. -/
def linGoto (c t i : Nat) (s : State) : State := (s.setF F.LIN_STAT_TABLE c t).setLn c { s.ln c with idx := i }

/-- The waiting schedule control applies: a new table starts at its first slot (R35, R357). -/
def schApply (c : Nat) (s : State) : State :=
  let s1 := s.applyHeld .LIN_SCH c
  let t := s1.getF F.LIN_SCH_TABLE c
  if t = s1.linTable c ∨ (s.heldOf .LIN_SCH c).isNone then s1
  else
    let s2 := (s1.setF F.LIN_STAT_TABLE c t).setB F.LIN_STAT_RESOLVE c false
    s2.setLn c { s2.ln c with idx := 0, again := false, tries := 0, resolve := none, back := [] }

/-- Waiting table definitions apply at the end of the slot in progress. -/
def tdefApply (c : Nat) (s : State) : State := (List.range 4).foldl (fun t i => t.applyHeld .LIN_TDEF (4 * c + i)) s

/-- Past the last slot of a table: back from a resolution, on to NEXT, or round again. -/
def tableEnd (c : Nat) (s : State) : State :=
  let x := s.ln c
  match x.back with
  | (t, i) :: r =>
    let s1 := linGoto c t i (s.setLn c { x with back := r })
    if r.isEmpty then schApply c (s1.setB F.LIN_STAT_RESOLVE c false) else s1
  | [] =>
    let d := s.linDef c (s.linTable c)
    if F.LIN_TDEF_ONCE.on d then
      let nx := F.LIN_TDEF_NEXT.of d
      linGoto c nx 0 (s.setF F.LIN_SCH_TABLE c nx)
    else linGoto c (s.linTable c) 0 s

/-- A slot begins with its break, which requests the channel's interrupt: word 0 and published data are taken (R353, R355, R357). -/
def slotBegin (c i : Nat) (s : State) : State :=
  let w := s.linWord c i 0
  let data := ((leBytes 4 (s.linWord c i 2).toNat) ++ (leBytes 4 (s.linWord c i 3).toNat)).take (slotLen w.toNat)
  let x := s.ln c
  let s1 := (s.setF F.LIN_STAT_SLOT c i).setLn c
    { x with inSlot := true, inFrame := true, slot := i, w0 := w, data := data, stamp := none, again := false }
  (s1.request (24 + c)).emit (.linFrame c (slotId w.toNat) (if slotDir w.toNat then data else []))

/-- The next slot that runs, from the present position: slots with EN clear are skipped, broken ones record CONFIG (R352). The fuel bounds a
schedule without any slot that runs. -/
def nextSlot : Nat → Nat → State → State
  | 0, _, s => s
  | k + 1, c, s =>
    let x := s.ln c
    let d := s.linDef c (s.linTable c)
    if F.LIN_TDEF_LEN.of d ≤ x.idx then nextSlot k c (tableEnd c s)
    else
      let i := (F.LIN_TDEF_FIRST.of d + x.idx) % 64
      let w := (s.linWord c i 0).toNat
      if ! slotEn w then nextSlot k c (s.setLn c { x with idx := x.idx + 1 })
      else if ! slotOk w then
        nextSlot k c (linRecord c i w [] 7 0 none (slotResult c i 7 false (s.setLn c { x with idx := x.idx + 1 })))
      else slotBegin c i s

/-- The go-to-sleep command (R356). -/
def goToSleep (c : Nat) (s : State) : State :=
  let s1 := s.setLn c { s.ln c with inFrame := true, sleeping := true }
  s1.emit (.linFrame c 0x3C (byte 0 :: List.replicate 7 (byte 0xFF)))

/-- The position moves past the slot that ended: the same one for a retry, its resolution table after a collision. -/
def advance (c : Nat) (s : State) : State :=
  let x := s.ln c
  if ! x.inSlot then s
  else
    let s1 := s.setLn c { x with inSlot := false, resolve := none }
    if x.again then s1
    else
      match x.resolve with
      | some t =>
        let s2 := s1.setLn c { s1.ln c with back := (s.linTable c, x.idx + 1) :: x.back, tries := 0 }
        (linGoto c t 0 s2).setB F.LIN_STAT_RESOLVE c true
      | none => s1.setLn c { s1.ln c with idx := x.idx + 1, tries := 0 }

/-- RUN ends: IDLE, with no resolution running. -/
def linStop (c : Nat) (s : State) : State :=
  let s1 := (linTo c 1 s).setF F.LIN_STAT_TABLE c (s.getF F.LIN_SCH_TABLE c)
  (s1.setB F.LIN_STAT_RESOLVE c false).setLn c { s.ln c with resolve := none, back := [], waking := false }

/-- The slot in progress has ended: waiting values apply, a sleep or a stop takes effect, or the next slot begins. -/
def slotTurn (c : Nat) (s : State) : State :=
  let s1 := tdefApply c (advance c s)
  let stop := match s1.heldOf .LIN_SCH c with
    | some w => ! F.LIN_SCH_RUN.on w
    | none => ! s1.flag F.LIN_SCH_RUN c
  if (s1.ln c).sleepAsked then goToSleep c s1
  else if stop then linStop c (schApply c s1)
  else nextSlot 512 c (if (s1.ln c).back.isEmpty then schApply c s1 else s1)

/-! ## States (R356) -/

/-- The channel goes OFF. -/
def linOff (c : Nat) (s : State) : State := (linTo c 0 (s.setB F.LIN_STAT_RESOLVE c false)).setLn c { failed := (s.ln c).failed }

/-- RUN begins: the table in force starts at its first slot. -/
def linStart (c : Nat) (s : State) : State :=
  let s1 := (linTo c 2 s).setF F.LIN_STAT_TABLE c (s.getF F.LIN_SCH_TABLE c)
  (s1.setB F.LIN_STAT_RESOLVE c false).setLn c { s.ln c with idx := 0, again := false, tries := 0, resolve := none, back := [] }

/-- EN takes a value. -/
def enTo (c : Nat) (on : Bool) (s : State) : State :=
  let s1 := s.setB F.LIN_CFG_EN c on
  if on && s.linState c == 0 then
    let s2 := linTo c 1 s1
    if s2.flag F.LIN_SCH_RUN c then linStart c s2 else s2
  else if on then s1.setLn c { s1.ln c with offAsked := false }
  else if s.linState c != 0 then
    if (s.ln c).inFrame then s1.setLn c { s1.ln c with offAsked := true } else linOff c s1
  else s1

/-- SLEEP: at once where no slot is in progress. -/
def sleepTo (c : Nat) (s : State) : State :=
  let s1 := s.setLn c { s.ln c with sleepAsked := true, waking := false }
  if (s1.ln c).inSlot || (s1.ln c).sleeping then s1 else goToSleep c s1

/-- The channel wakes: RUN, with the schedule 100 ms away. -/
def wakeTo (c : Nat) (s : State) : State :=
  let s1 := (linTo c 2 s).setB F.LIN_SCH_RUN c true
  s1.setLn c { s1.ln c with waking := true }

/-- A write of LIN_CFGc. -/
def linCfgWrite (c : Nat) (w : Word) (s : State) : Code × State :=
  let st := s.linState c
  let rate := F.LIN_CFG_RATE.of w
  let code := firstCode
    [ (reservedSet .LIN_CFG w || ! decide (1000 ≤ rate ∧ rate ≤ 20000), .invalid),
      (s.flag F.LIN_CFG_EN c && rate != s.getF F.LIN_CFG_RATE c, .state),
      (F.LIN_CFG_SLEEP.on w && st != 1 && st != 2, .state),
      (F.LIN_CFG_WAKE.on w && st != 3, .state) ]
  match code with
  | .accepted =>
    let s1 := enTo c (F.LIN_CFG_EN.on w) (s.setF F.LIN_CFG_RATE c rate)
    let s2 := if F.LIN_CFG_SLEEP.on w && F.LIN_CFG_EN.on w then sleepTo c s1 else s1
    (.accepted, if F.LIN_CFG_WAKE.on w && F.LIN_CFG_EN.on w then wakeTo c (s2.emit (.linPulse c)) else s2)
  | x => (x, s)

/-- A write of LIN_SCHc: it waits for the end of a slot in progress. -/
def linSchWrite (c : Nat) (w : Word) (s : State) : Code × State :=
  if reservedSet .LIN_SCH w then (.invalid, s)
  else if F.LIN_SCH_RUN.on w && s.entering then (.state, s)
  else if (s.ln c).inSlot || (s.ln c).sleeping then (.accepted, s.hold .LIN_SCH c w)
  else
    let s1 := schApply c (s.hold .LIN_SCH c w)
    let run := F.LIN_SCH_RUN.on w
    (.accepted,
      if run && s1.linState c == 1 then linStart c s1
      else if ! run && s1.linState c == 2 then linStop c s1
      else s1)

/-! ## Registers (R358) -/

/-- A write of a LIN register. -/
def linWrite (r : Reg) (n : Nat) (w : Word) (s : State) : Code × State :=
  if reservedSet r w then (.invalid, s)
  else match r with
  | .LIN_CFG => linCfgWrite n w s
  | .LIN_SCH => linSchWrite n w s
  | .LIN_TDEF =>
    let len := F.LIN_TDEF_LEN.of w
    if ! decide (1 ≤ len ∧ len ≤ 64 - F.LIN_TDEF_FIRST.of w) then (.invalid, s)
    else (.accepted, if (s.ln (n / 4)).inSlot then s.hold r n w else s.wr r n w)
  | .LIN_STAT => (.accepted, if F.LIN_STAT_WAKEREQ.on w then s.setB F.LIN_STAT_WAKEREQ n false else s)
  | .LIN_BRKTS => (.accepted, if (s.ln n).inFrame && ! (s.ln n).sleeping then s.setLn n { s.ln n with stamp := some w } else s)
  | .LIN_RQSTAT => (.accepted, if F.LIN_RQSTAT_LOST_CLR.on w then s.clearLost (.lin n) else s)
  | _ => (.accepted, s)

/-- The channel that a LIN register belongs to. -/
def linChan (r : Reg) (n : Nat) : Nat :=
  match r with
  | .LIN_TDEF | .LIN_RQ => n / 4
  | .LIN_RESULT => 0
  | _ => n

/-- A write that reaches a LIN register; one to an absent channel's is ignored, and answered with ABSENT (R13, R14). -/
def linAccess (m : Master) (r : Reg) (n : Nat) (w : Word) (s : State) : State :=
  if regFitted s.variant r n then
    let p := linWrite r n w s
    p.2.answer m .LIN_RESULT p.1 (linChan r n) (r.addr n)
  else s.absentWrite m .LIN_RESULT (linChan r n) (r.addr n)

/-- A read of a LIN register. -/
def linRead (m : Master) (r : Reg) (n : Nat) (s : State) : Word × State :=
  match r with
  | .LIN_BRKTS => (0, s)
  | .LIN_RQ => s.readWindow (.lin (n / 4)) 4 (n % 4)
  | .LIN_RQSTAT => (word ((s.q (.lin n)).recs.length + 0x10000 * (s.q (.lin n)).lost), s)
  | .LIN_RESULT => (s.rd r (bk m 0), s)
  | _ => (s.rd r n, s)

/-! ## The end of a frame (R354) -/

/-- The results that repeat a frame: 1 to 5, but for no response in an event-triggered slot. -/
def linRetried (w0 res : Nat) : Bool := decide (2 ≤ res ∧ res ≤ 5) || (res == 1 && slotType w0 != 1)

/-- The bytes transferred: of what the commander published, as many as went out; of a response, at most LEN. -/
def linBytes (x : Lin) (bytes : List Byte) : List Byte :=
  if slotDir x.w0.toNat then x.data.take bytes.length else bytes.take (slotLen x.w0.toNat)

/-- A frame of the schedule ends with a result and the bytes transferred. -/
def frameEnds (c res : Nat) (got : List Byte) (s : State) : State :=
  let x := s.ln c
  let w0 := x.w0.toNat
  let bytes := linBytes x got
  let quiet := res == 1 && slotType w0 == 1
  let err := res != 0 && ! quiet
  let retry := linRetried w0 res && decide (x.tries < slotRetry w0)
  let s1 := slotResult c x.slot res err s
  let s2 := if err then s1.countF F.LIN_STAT_ERRCNT c else s1
  let s3 := if res = 0 ∧ ! slotDir w0 then
      linWordSet c x.slot 3 ((bytesWords 2 bytes).getD 1 0) (linWordSet c x.slot 2 ((bytesWords 2 bytes).getD 0 0) s2)
    else s2
  let s4 := if (res == 0 && slotRec w0) || err then linRecord c x.slot w0 bytes res x.tries x.stamp s3 else s3
  let last := linRetried w0 res && ! retry
  let s5 := if last && ! x.failed.contains x.slot then s4.emcyObj 0xFF72 0 0x4480 (9 + c) else s4
  let failed := if res = 0 then x.failed.filter (· != x.slot) else if last && ! x.failed.contains x.slot then x.slot :: x.failed else x.failed
  s5.setLn c { x with
    inFrame := false, stamp := none, failed := failed, again := retry, tries := if retry then x.tries + 1 else x.tries,
    resolve := if res = 6 ∧ slotType w0 = 1 then some (slotRestab w0) else none }

/-! ## Commands -/

/-- LIN_EN (R356): a write of LIN_CFGc. -/
def execLinEn (m : Master) (c : Fin 4) (w : Word) (s : State) : Host.Outcome State Fault Refusal := ok s (linAccess m .LIN_CFG c.val w s)

/-- LIN_RUN (R356): a write of LIN_SCHc. -/
def execLinRun (m : Master) (c : Fin 4) (w : Word) (s : State) : Host.Outcome State Fault Refusal := ok s (linAccess m .LIN_SCH c.val w s)

/-- LIN_SLEEP (R356). -/
def execLinSleep (m : Master) (c : Fin 4) (w : Word) (s : State) : Host.Outcome State Fault Refusal :=
  ok s (linAccess m .LIN_CFG c.val (w ||| word (2 ^ F.LIN_CFG_SLEEP.lo)) s)

/-- LIN_WAKE (R356). -/
def execLinWake (m : Master) (c : Fin 4) (w : Word) (s : State) : Host.Outcome State Fault Refusal :=
  ok s (linAccess m .LIN_CFG c.val (w ||| word (2 ^ F.LIN_CFG_WAKE.lo)) s)

/-- LIN_BUS_WAKE (R356). -/
def execLinBusWake (c : Fin 4) (s : State) : Host.Outcome State Fault Refusal :=
  ok s (if s.linOn c.val && s.linState c.val == 3 then wakeTo c.val (s.setB F.LIN_STAT_WAKEREQ c.val true) else s)

/-- LIN_WAKE_RESUME (R356): the table in force goes on at its position. -/
def execLinWakeResume (c : Fin 4) (s : State) : Host.Outcome State Fault Refusal :=
  ok s (if s.linOn c.val && (s.ln c.val).waking then slotTurn c.val (s.setLn c.val { s.ln c.val with waking := false }) else s)

/-- LIN_SLOT_START (R353). -/
def execLinSlotStart (c : Fin 4) (s : State) : Host.Outcome State Fault Refusal :=
  let x := s.ln c.val
  ok s (if s.linOn c.val && s.linState c.val == 2 && ! x.inFrame && ! x.waking then slotTurn c.val s else s)

/-- LIN_FRAME_END (R354, R356). -/
def execLinFrameEnd (c : Fin 4) (result : Fin 7) (data : List Byte) (s : State) : Host.Outcome State Fault Refusal :=
  let x := s.ln c.val
  ok s (if ! s.linOn c.val || ! x.inFrame then s
    else
      let s1 := if x.sleeping then
          (linTo c.val 3 ((schApply c.val s).setB F.LIN_SCH_RUN c.val false)).setLn c.val
            { (schApply c.val s).ln c.val with inFrame := false, inSlot := false, sleeping := false, sleepAsked := false }
        else frameEnds c.val result.val data s
      if x.offAsked then linOff c.val s1 else s1)

/-- LIN_BRKTS_WRITE (R355). -/
def execLinBrktsWrite (m : Master) (c : Fin 4) (w : Word) (s : State) : Host.Outcome State Fault Refusal :=
  ok s (linAccess m .LIN_BRKTS c.val w s)

/-- A read of word `k` of the head window; an absent channel reads 0 and marks the access (R13). -/
def linHeadRead (m : Master) (c k : Nat) (s : State) : State :=
  let a := Reg.addr .LIN_RQ (4 * c + k)
  State.answerRead m a (if linFitted s.variant c then linRead m .LIN_RQ (4 * c + k) s else (0, absentMark a s))

/-- LIN_RQ0_READ (R355). -/
def execLinRq0Read (m : Master) (c : Fin 4) (s : State) : Host.Outcome State Fault Refusal := ok s (linHeadRead m c.val 0 s)

/-- LIN_RQ3_READ (R355). -/
def execLinRq3Read (m : Master) (c : Fin 4) (s : State) : Host.Outcome State Fault Refusal := ok s (linHeadRead m c.val 3 s)

/-- LIN_RQ_LOST_CLR (R358). -/
def execLinRqLostClr (m : Master) (c : Fin 4) (w : Word) (s : State) : Host.Outcome State Fault Refusal :=
  ok s (linAccess m .LIN_RQSTAT c.val w s)

/-- LIN_RECORD_READ (R360). -/
def execLinRecordRead (p : DPath) (c : Fin 4) (s : State) : Host.Outcome State Fault Refusal :=
  ok s (if linFitted s.variant c.val then recordRead p 0x4480 (0x15 + c.val) (.lin c.val) id s
    else s.objAborted p 0x4480 (0x15 + c.val) 0x06090011)

end Sys2Proof.Machine
end

