-- ==== Sys2Proof/Machine/Ethernet.lean ====
section
/-!
DEFINITION. Machine/Ethernet.lean: the Ethernet switch (12_ethernet_switch.md, R364 to R375, R377 to R385): forwarding, queues, shaping,
mirroring, the internal port's rings, the registers, and the meanings of their commands. The service port stands in Service.lean.
-/
namespace Sys2Proof.Machine

/-! ## Frames -/

/-- A value as big-endian bytes. -/
def beBytes (k n : Nat) : List Byte := (leBytes k n).reverse

/-- The bytes of a frame without its FCS. -/
def frameBytesOut (f : EthFrame) (tag : Option (Nat × Nat)) : List Byte :=
  beBytes 6 f.dst ++ beBytes 6 f.src ++
    (match tag with
     | some (pcp, vid) => [byte 0x81, byte 0] ++ beBytes 2 (pcp * 8192 + vid)
     | none => []) ++ beBytes 2 f.etype ++ f.payload

/-- Length from destination address to FCS, with the tag given. -/
def frameLen (f : EthFrame) (tagged : Bool) : Nat := 18 + 4 * b01 tagged + f.payload.length

/-- The length as received. -/
def frameLenIn (f : EthFrame) : Nat := frameLen f f.tag.isSome

/-- A frame read from bytes without FCS; one tag is processed. -/
def frameOfBytes (l : List Byte) (sfd : Nat) : EthFrame :=
  let t := beNat ((l.drop 12).take 2)
  if t = 0x8100 then
    let tci := beNat ((l.drop 14).take 2)
    { dst := beNat (l.take 6), src := beNat ((l.drop 6).take 6), tag := some (tci / 8192, tci % 4096),
      etype := beNat ((l.drop 16).take 2), payload := l.drop 18, bad := false, sfd := sfd }
  else
    { dst := beNat (l.take 6), src := beNat ((l.drop 6).take 6), tag := none, etype := t, payload := l.drop 14, bad := false, sfd := sfd }

/-- Group addresses, and the broadcast address. -/
def isGroup (mac : Nat) : Bool := bitOf mac 40
def isBroadcast (mac : Nat) : Bool := mac == 2 ^ 48 - 1

/-- An ARP frame that asks for an address. -/
def arpFor (f : EthFrame) (ip : Nat) : Bool := f.etype == 0x0806 && beNat ((f.payload.drop 24).take 4) == ip

/-- An unfragmented IPv4 UDP datagram to port 41731 at an address. -/
def udpFor (f : EthFrame) (ip : Nat) : Bool :=
  let b := fun k => (f.payload.getD k 0).toNat
  f.etype == 0x0800 && b 0 / 16 == 4 && b 9 == 17 && (b 6 % 64 * 256 + b 7) == 0 &&
    beNat ((f.payload.drop 16).take 4) == ip && beNat ((f.payload.drop (4 * (b 0 % 16) + 2)).take 2) == 41731

/-! ## Ports and counters (R364, R383) -/

def setEth (e : Eth) (s : State) : State := { s with eth := e }

/-- A counter of a port: frame and byte counts modulo 2^32, discards saturating. -/
def State.ethCnt (s : State) (p k : Nat) : Nat := tabGet 0 s.eth.cnt (16 * p + k)
def ethCount (p k d : Nat) (s : State) : State :=
  let v := s.ethCnt p k + d
  if p = 9 ∧ 5 < k then s else setEth { s.eth with cnt := tabSet 0 s.eth.cnt (16 * p + k) (if k < 4 then v % 2 ^ 32 else sat 65535 v) } s

/-- The numbers of the counters. -/
def cRxf := 0
def cRxb := 1
def cTxf := 2
def cTxb := 3
def cFcs := 4
def cOversize := 5
def cRunt := 6
def cVlan := 7
def cNobuf := 8
def cLinkdn := 9
def cMirdrop := 10

/-- The rate of a port, kbit/s. -/
def portRate (p : Nat) : Nat := if p < 6 then 100000 else 1000000

/-- Forwarding is enabled. -/
def State.ethEn (s : State) : Bool := s.dom.comms && s.variant != .px48 && s.flag F.ETH_CTRL_EN 0

/-- A port can send and receive: the internal port while it and the switch are enabled (DEDUCED, assumption 32: the EN of ETH_STAT.LINK bit 8), another one
fitted, enabled and with its link up. -/
def State.portUp (s : State) (p : Nat) : Bool :=
  if p = 8 then s.ethEn && s.flag F.ETH_PCFG_EN 8
  else ethFitted s.variant p && s.flag F.ETH_PCFG_EN p && s.flag F.ETH_PSTAT_LINK p

/-! ## Buffer cells (R371) -/

/-- An egress queue. -/
def State.eq (s : State) (p q : Nat) : List EthQ := tabGet [] s.eth.queues (8 * p + q)
def setEq (p q : Nat) (l : List EthQ) (s : State) : State := setEth { s.eth with queues := tabSet [] s.eth.queues (8 * p + q) l } s

def entryCells (e : EthQ) : Nat := e.rsv + e.pool

/-- Free cells; cells that a port's reservation and the pool have given out. -/
def State.freeCells (s : State) : Nat := 8192 - (s.eth.queues.map fun p => (p.2.map entryCells).sum).sum
def State.rsvUsed (s : State) (p : Nat) : Nat := ((List.range 8).map fun q => ((s.eq p q).map (·.rsv)).sum).sum
def State.poolUsed (s : State) : Nat := (s.eth.queues.map fun p => (p.2.map (·.pool)).sum).sum

/-- Cells that the ports reserve; an absent port reserves none. -/
def State.rsvSum (s : State) (rsv : Nat → Nat) : Nat :=
  ((List.range 9).map fun p => if p = 8 ∨ ethFitted s.variant p then rsv p else 0).sum
def State.poolSize (s : State) : Nat := 8192 - s.rsvSum (s.getF F.ETH_QRES_RSV)

/-- The queue of class A or B of a port. -/
def State.classQ (s : State) (p : Nat) (a : Bool) : Nat := if a then s.getF F.ETH_CBSA_QUEUE p else s.getF F.ETH_CBSB_QUEUE p
def State.slope (s : State) (p : Nat) (a : Bool) : Nat := if a then s.getF F.ETH_CBSA_IDLESLOPE p else s.getF F.ETH_CBSB_IDLESLOPE p

/-- Credit of a class at the present model clock: it rises while frames wait or it is negative, to its limit, and a positive one ends with the
queue (R370). -/
def State.creditNow (s : State) (p : Nat) (a : Bool) : Int :=
  let c := tabGet (0, 0) s.eth.credit (2 * p + b01 (! a))
  let v := c.1 + ((s.slope p a * (s.up - c.2) : Nat) : Int)
  let hi : Int := ((1522 * 8 * 1000000 * s.slope p a / portRate p : Nat) : Int)
  if s.eq p (s.classQ p a) = [] then (if 0 < v then 0 else v) else if hi < v then hi else v

def setCredit (p : Nat) (a : Bool) (v : Int) (at_ : Nat) (s : State) : State :=
  setEth { s.eth with credit := tabSet (0, 0) s.eth.credit (2 * p + b01 (! a)) (v, at_) } s

/-- A class whose queue was empty counts its credit from the frame that enters. -/
def creditFrom (p q : Nat) (s : State) : State :=
  if s.eq p q ≠ [] then s
  else if q = s.classQ p true then setCredit p true (s.creditNow p true) s.up s
  else if q = s.classQ p false then setCredit p false (s.creditNow p false) s.up s
  else s

/-- A frame takes its cells and enters a queue; false where it cannot have them all. -/
def enqueue (p q : Nat) (e : EthQ) (len : Nat) (s : State) : Bool × State :=
  let need := (len + 255) / 256
  let special := q == 7 || q == s.classQ p true || q == s.classQ p false
  let fromRsv := if special then sat (s.getF F.ETH_QRES_RSV p - s.rsvUsed p) need else 0
  let fromPool := need - fromRsv
  if s.poolSize < s.poolUsed + fromPool then (false, s)
  else
    let s1 := setEq p q (s.eq p q ++ [{ e with rsv := fromRsv, pool := fromPool }]) (creditFrom p q s)
    (true, setEth { s1.eth with low := if s1.freeCells < s1.eth.low then s1.freeCells else s1.eth.low } s1)

/-! ## Transmit jobs (R375) -/

/-- Word `k` of descriptor `d` of ring `r`. -/
def descKey (r d k : Nat) : Nat := (r * 128 + d) * 4 + k
def State.descWord (s : State) (r d k : Nat) : Word := tabGet 0 s.eth.desc (descKey r d k)
def setDesc (r d k : Nat) (w : Word) (s : State) : State := setEth { s.eth with desc := tabSet 0 s.eth.desc (descKey r d k) w } s

/-- A transmit descriptor is returned with its RESULT. -/
def jobReturn (r d res : Nat) (stamp : Option Nat) (s : State) : State :=
  let w1 := putBits (putBits (s.descWord r d 1) 31 1 0) 28 3 res
  let s1 := (setDesc r d 1 w1 s).request (28 + r / 2)
  match stamp with
  | some t => setDesc r d 2 (word t) s1
  | none => if res = 3 then setDesc r d 2 0 s1 else s1

def State.job (s : State) (r d : Nat) : Option EthJob := tabGet none s.eth.jobs (r * 128 + d)
def setJob (r d : Nat) (j : Option EthJob) (s : State) : State := setEth { s.eth with jobs := tabSet none s.eth.jobs (r * 128 + d) j } s

/-- One egress port of a job is done: sent with a stamp, or dropped. The last one returns the descriptor. -/
def jobDone (job : Option (Nat × Nat)) (p : Nat) (stamp : Option Nat) (s : State) : State :=
  match job with
  | none => s
  | some (r, d) =>
    match s.job r d with
    | none => s
    | some j =>
      let sent := match stamp, j.sent with
        | some t, none => some (p, t)
        | some t, some (p0, t0) => if p < p0 then some (p, t) else some (p0, t0)
        | none, x => x
      if j.left ≤ 1 then
        let s1 := setJob r d none s
        match sent with
        | some (_, t) => jobReturn r d 0 (some t) s1
        | none => jobReturn r d 3 none s1
      else setJob r d (some { left := j.left - 1, sent := sent }) s

/-! ## Forwarding (R366, R367) -/

/-- The valid VLAN entry of a VID. -/
def State.vlanOf (s : State) (vid : Nat) : Option Word :=
  ((List.range 32).map fun k => s.rd .ETH_VLAN k).find? fun w => F.ETH_VLAN_VALID.on w && F.ETH_VLAN_VID.of w == vid

def State.vlanMember (s : State) (vid p : Nat) : Bool :=
  match s.vlanOf vid with
  | some w => bitOf (F.ETH_VLAN_MEMBER.of w) p
  | none => false
def State.vlanUntag (s : State) (vid p : Nat) : Bool :=
  match s.vlanOf vid with
  | some w => bitOf (F.ETH_VLAN_UNTAG.of w) p
  | none => false

/-- The ports of a static entry for an address on a VLAN. -/
def State.staticPorts (s : State) (mac vid : Nat) : Option Nat :=
  ((List.range 64).find? fun e =>
    s.flag F.ETH_SA_CTL_VALID e && s.getF F.ETH_SA_HI_VID e == vid &&
      s.getF F.ETH_SA_HI_MAC_HI e * 2 ^ 32 + (s.rd .ETH_SA_LO e).toNat == mac).map fun e => s.getF F.ETH_SA_CTL_PORTS e

/-- The source address is learned; true where the table was full and took nothing (R366). -/
def learn (f : EthFrame) (vid p : Nat) (s : State) : Bool × State :=
  if isGroup f.src || ! s.flag F.ETH_CTRL_LEARN 0 || (s.staticPorts f.src vid).isSome then (false, s)
  else
    let rest := s.eth.learned.filter fun l => !(l.mac == f.src && l.vid == vid)
    if rest.length = s.eth.learned.length ∧ 2048 ≤ rest.length then (true, s.setB F.ETH_STAT_ATFULL 0 true)
    else (false, setEth { s.eth with learned := { mac := f.src, vid := vid, port := p } :: rest } s)

/-- The VLAN's members. -/
def State.floodPorts (s : State) (vid : Nat) : List Nat := (List.range 9).filter fun p => s.vlanMember vid p

/-- The egress ports of a frame, before the ingress port and ports that cannot send are left out. -/
def State.egressPorts (s : State) (f : EthFrame) (vid : Nat) (full : Bool) : List Nat :=
  if isBroadcast f.dst || full then s.floodPorts vid
  else
    match s.staticPorts f.dst vid with
    | some m => (List.range 9).filter fun p => bitOf m p
    | none =>
      match s.eth.learned.find? fun l => l.mac == f.dst && l.vid == vid with
      | some l => [l.port]
      | none => if isGroup f.dst && ! s.flag F.ETH_CTRL_MCFLOOD 0 then [] else s.floodPorts vid

/-- A mirror copy goes to queue 0 of the destination port, or counts MIRDROP (R372). -/
def mirrorCopy (f : EthFrame) (inPort : Nat) (s : State) : State :=
  let d := s.getF F.ETH_MIRROR_DST 0
  if ! s.portUp d then s
  else
    let r := enqueue d 0 { frame := f, vid := 0, pcp := 0, inPort := inPort, asIs := true } (frameLenIn f) s
    if r.1 then r.2 else ethCount d cMirdrop 1 s

/-- Mirroring of a port in a direction is on: bit 0 ingress, bit 1 egress. -/
def State.mirrors (s : State) (p bit : Nat) : Bool :=
  s.getF F.ETH_MIRROR_SRC 0 == p && bitOf (s.getF F.ETH_MIRROR_DIR 0) bit

/-- The queue of a priority: the map of R369, queue 7 for gPTP. -/
def State.queueOf (s : State) (f : EthFrame) (pcp : Nat) : Nat :=
  if f.etype = 0x88F7 then 7 else bitsOf (s.rd .ETH_QMAP 0).toNat (3 * pcp) 3

/-- A frame is queued at each egress port, or dropped there. -/
def queueAll (f : EthFrame) (vid pcp inPort : Nat) (job : Option (Nat × Nat)) (ports : List Nat) (s : State) : State :=
  ports.foldl (fun t p =>
    let r := enqueue p (t.queueOf f pcp) { frame := f, vid := vid, pcp := pcp, inPort := inPort, job := job } (frameLenIn f) t
    if r.1 then r.2 else jobDone job p none (ethCount p cNobuf 1 t)) s

/-- The VID and priority of a frame at its ingress port (R367). -/
def State.ingressTag (s : State) (p : Nat) (f : EthFrame) : Nat × Nat :=
  match f.tag with
  | some (pcp, vid) => (if vid = 0 then s.getF F.ETH_PCFG_PVID p else vid, pcp)
  | none => (s.getF F.ETH_PCFG_PVID p, s.getF F.ETH_PCFG_PRIO p)

/-- ACCEPT and ingress filtering let the frame in (R367). -/
def State.admits (s : State) (p : Nat) (f : EthFrame) (vid : Nat) : Bool :=
  let vidTagged := match f.tag with
    | some (_, v) => v != 0
    | none => false
  let a := s.getF F.ETH_PCFG_ACCEPT p
  !(a == 1 && ! vidTagged) && !(a == 2 && vidTagged) && (! s.flag F.ETH_PCFG_INGF p || s.vlanMember vid p)

/-- A checked frame is filtered, learned and queued. gPTP frames from a port go to the internal port alone: what crosses the module of them is
sent by the Almanac (R147). -/
def forward (p : Nat) (f : EthFrame) (job : Option (Nat × Nat)) (s : State) : State :=
  let t := s.ingressTag p f
  let drop := fun (u : State) => match job with
    | some (r, d) => jobReturn r d 3 none u
    | none => u
  if ! s.admits p f t.1 then drop (ethCount p cVlan 1 s)
  else
    let l := learn f t.1 p s
    let dests := if f.etype = 0x88F7 ∧ p ≠ 8 then [8] else l.2.egressPorts f t.1 l.1
    let ports := dests.filter fun q => q != p && l.2.portUp q
    match job with
    | some (r, d) => if ports.isEmpty then jobReturn r d 3 none l.2 else
        queueAll f t.1 t.2 p job ports (setJob r d (some { left := ports.length }) l.2)
    | none => queueAll f t.1 t.2 p none ports l.2

/-! ## Apply points (R35, R379) -/

/-- A frame boundary on a port: its waiting settings, the VLAN table and the queue map apply, and on its source port the mirror. -/
def boundary (p : Nat) (s : State) : State :=
  let s0 := s.applyAll [.ETH_PCFG, .ETH_CBSA, .ETH_CBSB] p
  let s1 := s0.applyHeld .ETH_QMAP 0
  let s2 := if F.ETH_MIRROR_SRC.of (s1.next .ETH_MIRROR 0) = p then s1.applyHeld .ETH_MIRROR 0 else s1
  (List.range 32).foldl (fun t k => t.applyHeld .ETH_VLAN k) s2

/-- A frame is received whole at a port, and forwarded while the switch is enabled (R366, R368, R372). -/
def frameIn (p : Nat) (f : EthFrame) (job : Option (Nat × Nat)) (s : State) : State :=
  let len := frameLenIn f
  let s1 := ethCount p cRxb len (ethCount p cRxf 1 s)
  let drop := fun (u : State) => match job with
    | some (r, d) => jobReturn r d 3 none u
    | none => u
  let s2 := if f.bad then drop (ethCount p cFcs 1 s1)
    else if len < 64 then drop (ethCount p cRunt 1 s1)
    else if 1522 < len then drop (ethCount p cOversize 1 s1)
    else if ! s1.ethEn then drop s1
    else
      let t := forward p f job s1
      if s1.mirrors p 0 then mirrorCopy f p t else t
  boundary p s2

/-! ## The internal port's receive rings (R373, R374) -/

/-- The ring that takes a frame at the internal port. -/
def State.rxRing (s : State) (f : EthFrame) (vid : Nat) : Nat :=
  let ip := s.odVal 0x4500 0x7E / 256
  if f.etype = 0x88F7 ∨ (vid = s.odVal 0x2003 2 ∧ (arpFor f ip || udpFor f ip)) then 0 else 2

/-- A frame is written into the next descriptor of a receive ring; false where none has OWN set. -/
def ringWrite (r : Nat) (f : EthFrame) (tag : Option (Nat × Nat)) (vid pcp inPort : Nat) (s : State) : Bool × State :=
  let size := s.getF F.ETH_RING_SIZE r
  let d := s.getF F.ETH_RING_NEXT r
  if size = 0 ∨ ! bitOf (s.descWord r d 1).toNat 31 then (false, s)
  else
    let bytes := frameBytesOut f tag
    let n := tabGet 0 s.eth.seq r
    let w1 := word (bytes.length % 2048 + 2 ^ 11 * b01 tag.isSome + 2 ^ 12 * pcp + 2 ^ 15 * vid)
    let s1 := s.memBytesSet (s.descWord r d 0).toNat bytes
    let s2 := setDesc r d 3 (word (inPort + 0x10000 * (n % 65536))) (setDesc r d 2 (word f.sfd) (setDesc r d 1 w1 s1))
    let s3 := setEth { s2.eth with seq := tabSet 0 s2.eth.seq r (n + 1) } s2
    (true, (s3.setF F.ETH_RING_NEXT r ((d + 1) % size)).request (28 + r / 2))

/-! ## Egress (R369, R370) -/

/-- A queue may send: it holds a frame, and a shaped class has credit. -/
def State.mayServe (s : State) (p q : Nat) : Bool :=
  s.eq p q != [] &&
    (if q != 0 && q == s.classQ p true && s.slope p true != 0 then decide (0 ≤ s.creditNow p true)
     else if q != 0 && q == s.classQ p false && s.slope p false != 0 then decide (0 ≤ s.creditNow p false)
     else true)

/-- A shaped class that sends `len` bytes spends credit for the time on the wire, preamble and gap included; the lower limit is that of a
frame of 1,522 bytes. -/
def spend (p : Nat) (a : Bool) (len : Nat) (s : State) : State :=
  let dur := (len + 20) * 8 * 1000000 / portRate p
  let cost : Int := (((portRate p - s.slope p a) * dur : Nat) : Int)
  let lo : Int := -(((portRate p - s.slope p a) * (1542 * 8 * 1000000 / portRate p) : Nat) : Int)
  let v := s.creditNow p a - cost
  setCredit p a (if v < lo then lo else v) (s.up + dur) s

/-- The frame at the head of queue `q` of port `p` leaves. -/
def sendHead (p q sfd : Nat) (s : State) : State :=
  match s.eq p q with
  | [] => s
  | e :: rest =>
    let tag := if e.asIs then e.frame.tag else if s.vlanUntag e.vid p then none else some (e.pcp, e.vid)
    let out : EthFrame := { e.frame with tag := tag }
    let len := frameLen e.frame tag.isSome
    let shaped := fun (u : State) =>
      if q == s.classQ p true && s.slope p true != 0 then spend p true len u
      else if q == s.classQ p false && s.slope p false != 0 then spend p false len u
      else u
    let s1 := setEq p q rest (shaped s)
    if p = 8 then
      let r := ringWrite (s.rxRing e.frame e.vid) e.frame tag e.vid e.pcp e.inPort s1
      if r.1 then
        let s2 := jobDone e.job p (some e.frame.sfd) (ethCount p cTxb len (ethCount p cTxf 1 r.2))
        if s.mirrors p 1 then mirrorCopy out p s2 else s2
      else jobDone e.job p none (ethCount p cNobuf 1 s1)
    else
      let s2 := (ethCount p cTxb len (ethCount p cTxf 1 s1)).emit (.ethFrame p (frameBytesOut out tag))
      let s3 := jobDone e.job p (some sfd) s2
      if s.mirrors p 1 then mirrorCopy { out with sfd := sfd } p s3 else s3

/-- Frames queued for a port are discarded with its link (R368, R378). -/
def queuesDrop (p : Nat) (s : State) : State :=
  (List.range 8).foldl (fun t q =>
    (t.eq p q).foldl (fun u e => jobDone e.job p none (ethCount p cLinkdn 1 u)) (setEq p q [] t)) s

/-- A port's link goes down; with it the baseline of its PHY calibration is lost, and a grandmaster heard there (R137, R148). -/
def linkDown (p : Nat) (s : State) : State :=
  if ! s.flag F.ETH_PSTAT_LINK p then s
  else
    let s1 := ((s.setB F.ETH_PSTAT_LINK p false).setB ⟨.ETH_STAT, p, 1⟩ 0 false).countF F.ETH_PSTAT_DOWNS p
    let s2 := (s1.setF F.ETH_PSTAT_SQI p 0).setB F.ALM_PHYCAL_BASE_VALID p false
    let s3 := s2.setPtpPort p { s2.ptpPort p with linkUp := false, asCapable := false, exchanges := 0 }
    queuesDrop p (if s3.slavePort p then gmLost s3 else s3)

/-! ## Transmit rings (R375) -/

/-- A transmit descriptor is taken: refused for its length or its buffer, or its frame enters the switch at port 8 (ring 5: the service port's
queue). -/
def takeDesc (r d : Nat) (s : State) : State :=
  let a := (s.descWord r d 0).toNat
  let len := bitsOf (s.descWord r d 1).toNat 0 11
  if ! decide (60 ≤ len ∧ len ≤ 1518) then jobReturn r d 1 none s
  else if ! (inSram a && inSram (a + len - 1)) then jobReturn r d 2 none s
  else
    let f := frameOfBytes (s.memBytes a len) s.short
    if r = 5 then
      if s.flag F.ETH_SVCSTAT_LINK 0 then
        setEq 9 0 (s.eq 9 0 ++ [{ frame := f, vid := 0, pcp := 0, inPort := 9, asIs := true, job := some (r, d) }])
          (setJob r d (some { left := 1 }) s)
      else jobReturn r d 3 none s
    else if s.portUp 8 then frameIn 8 f (some (r, d)) s
    else jobReturn r d 3 none s

/-- Descriptors with OWN set are taken in ring order; `k` bounds the round. -/
def takeAll : Nat → Nat → State → State
  | 0, _, s => s
  | k + 1, r, s =>
    let size := s.getF F.ETH_RING_SIZE r
    let d := s.getF F.ETH_RING_NEXT r
    if size = 0 ∨ ! bitOf (s.descWord r d 1).toNat 31 ∨ (s.job r d).isSome then s
    else takeAll k r ((takeDesc r d s).setF F.ETH_RING_NEXT r ((d + 1) % size))

/-! ## Registers (R381 to R384) -/

/-- The ports that are absent, as a mask, and whether one of a mask is. -/
def absentMask (v : Variant) : Nat := ((List.range 8).map fun p => if ethFitted v p then 0 else 2 ^ p).sum
def absentPorts (v : Variant) (mask : Nat) : Bool := (mask &&& absentMask v) != 0

/-- The checks of shaper settings (R370), with the values that both classes will have. -/
def cbsOk (p : Nat) (a b : Word) : Bool :=
  let qa := F.ETH_CBSA_QUEUE.of a
  let qb := F.ETH_CBSB_QUEUE.of b
  decide ((F.ETH_CBSA_IDLESLOPE.of a + F.ETH_CBSB_IDLESLOPE.of b) * 4 ≤ portRate p * 3) && qa != qb &&
    decide (1 ≤ qa ∧ qa ≤ 6 ∧ 1 ≤ qb ∧ qb ≤ 6)

/-- The checks of a VLAN entry (R384). -/
def vlanCode (k : Nat) (w : Word) (s : State) : Code :=
  let vid := F.ETH_VLAN_VID.of w
  let valid := F.ETH_VLAN_VALID.on w
  firstCode
    [ (reservedSet .ETH_VLAN w || (valid && (vid == 0 || vid == 4095 || (List.range 32).any fun j =>
        j != k && F.ETH_VLAN_VALID.on (s.next .ETH_VLAN j) && F.ETH_VLAN_VID.of (s.next .ETH_VLAN j) == vid)), .invalid),
      (absentPorts s.variant (F.ETH_VLAN_MEMBER.of w) || absentPorts s.variant (F.ETH_VLAN_UNTAG.of w), .absent) ]

/-- A write of a port's configuration: EN and ROLE at once, with a restart of the link; the rest at a frame boundary. -/
def pcfgWrite (p : Nat) (w0 : Word) (s : State) : Code × State :=
  let w := if p = 8 then putBits w0 1 1 0 else w0
  let pvid := F.ETH_PCFG_PVID.of w
  if reservedSet .ETH_PCFG w || ! decide (1 ≤ pvid ∧ pvid ≤ 4094) || F.ETH_PCFG_ACCEPT.of w == 3 then (.invalid, s)
  else
    let moved := F.ETH_PCFG_EN.on w != s.flag F.ETH_PCFG_EN p || F.ETH_PCFG_ROLE.of w != s.getF F.ETH_PCFG_ROLE p
    let s1 := if moved && p != 8 then linkDown p s else s
    let s2 := (s1.setB F.ETH_PCFG_EN p (F.ETH_PCFG_EN.on w)).setF F.ETH_PCFG_ROLE p (F.ETH_PCFG_ROLE.of w)
    (.accepted, s2.hold .ETH_PCFG p w)

/-- A write of a static entry's control word: with VALID its three words are checked and apply together (R384). -/
def staticWrite (e : Nat) (w : Word) (s : State) : Code × State :=
  if reservedSet .ETH_SA_CTL w then (.invalid, s)
  else if absentPorts s.variant (F.ETH_SA_CTL_PORTS.of w) then (.absent, s)
  else if F.ETH_SA_CTL_VALID.on w then
    let vid := F.ETH_SA_HI_VID.of (s.next .ETH_SA_HI e)
    if vid = 0 ∨ vid = 4095 then (.invalid, s)
    else (.accepted, (s.applyAll [.ETH_SA_LO, .ETH_SA_HI] e).wr .ETH_SA_CTL e w)
  else (.accepted, s.wr .ETH_SA_CTL e w)

/-- A write of a ring: a new SIZE only while no descriptor has OWN set; KICK on a transmit ring (R375, R378). -/
def ringAccess (r : Nat) (w : Word) (s : State) : Code × State :=
  let size := F.ETH_RING_SIZE.of w
  let old := s.getF F.ETH_RING_SIZE r
  if 128 < size then (.invalid, s)
  else if size ≠ old ∧ (List.range old).any fun d => bitOf (s.descWord r d 1).toNat 31 then (.state, s)
  else
    let s1 := if size = old then s else (s.setF F.ETH_RING_SIZE r size).setF F.ETH_RING_NEXT r 0
    (.accepted, if F.ETH_RING_KICK.on w && r % 2 == 1 then takeAll 128 r s1 else s1)

/-- A write of an ETH register. -/
def ethWrite (r : Reg) (n : Nat) (w : Word) (s : State) : Code × State :=
  if reservedSet r w then (.invalid, s)
  else match r with
  | .ETH_CTRL =>
    let age := F.ETH_CTRL_AGE.of w
    if decide (10 ≤ age ∧ age ≤ 1000) then (.accepted, s.wrMasked r 0 w) else (.invalid, s)
  | .ETH_QMAP =>
    if (List.range 8).any fun i => bitsOf w.toNat (3 * i) 3 == 7 then (.invalid, s) else (.accepted, s.hold r 0 (w &&& word r.desc.rw))
  | .ETH_MIRROR =>
    let src := F.ETH_MIRROR_SRC.of w
    let dst := F.ETH_MIRROR_DST.of w
    if decide (8 < src) || decide (7 < dst) || src == dst then (.invalid, s)
    else if absentPorts s.variant (2 ^ src) || absentPorts s.variant (2 ^ dst) then (.absent, s)
    else (.accepted, s.hold r 0 (w &&& word r.desc.rw))
  | .ETH_STAT => (.accepted, if F.ETH_STAT_ATFULL.on w then s.setB F.ETH_STAT_ATFULL 0 false else s)
  | .ETH_RING => ringAccess n w s
  | .ETH_PCFG => pcfgWrite n w s
  | .ETH_CBSA => if ! cbsOk n w (s.next .ETH_CBSB n) then (.invalid, s) else (.accepted, s.hold r n w)
  | .ETH_CBSB => if ! cbsOk n (s.next .ETH_CBSA n) w then (.invalid, s) else (.accepted, s.hold r n w)
  | .ETH_QRES =>
    let sum := s.rsvSum fun p => if p = n then F.ETH_QRES_RSV.of w else s.getF F.ETH_QRES_RSV p
    if reservedSet r w || decide (4096 < sum) then (.invalid, s) else (.accepted, s.wr r n w)
  | .ETH_CCLR =>
    if reservedSet r w then (.invalid, s)
    else (.accepted, if F.ETH_CCLR_CLR.on w then setEth { s.eth with cnt := s.eth.cnt.filter fun x => x.1 / 16 != n } s else s)
  | .ETH_VLAN =>
    match vlanCode n w s with
    | .accepted => (.accepted, s.hold r n w)
    | c => (c, s)
  | .ETH_SA_LO | .ETH_SA_HI => if reservedSet r w then (.invalid, s) else (.accepted, s.hold r n w)
  | .ETH_SA_CTL => staticWrite n w s
  | _ => (.accepted, s)

/-- The answer to a write of an ETH register: ETH_RESULT, where the module has a switch, with ITEM in [15:8]. -/
def ethAnswer (m : Master) (r : Reg) (n : Nat) (c : Code) (s : State) : State :=
  (if regFitted s.variant .ETH_RESULT 0 then s.wr .ETH_RESULT (bk m 0) (word (c.num + 0x100 * (n % 256) + 0x10000 * r.addr n)) else s).answered m
    (r.addr n) c

/-- A write that reaches an ETH register; one to an absent port's is ignored, and answered with ABSENT (R13, R14). -/
def ethAccess (m : Master) (r : Reg) (n : Nat) (w : Word) (s : State) : State :=
  if regFitted s.variant r n then
    let p := ethWrite r n w s
    ethAnswer m r n p.1 p.2
  else ethAnswer m r n .absent (absentMark (r.addr n) s)

/-- The eight counter words of a port (R383). On the service port only the first five count. -/
def State.counterWords (s : State) (p : Nat) : List Word :=
  let c := s.ethCnt p
  [word (c cRxf), word (c cRxb), word (c cTxf), word (c cTxb), word (c cFcs + 0x10000 * c cOversize), word (c cRunt + 0x10000 * c cVlan),
   word (c cNobuf + 0x10000 * c cLinkdn), word (c cMirdrop)]

/-- The registers of a port's counters in their order. -/
def counterRegs : List Reg := [.ETH_RXF, .ETH_RXB, .ETH_TXF, .ETH_TXB, .ETH_D1, .ETH_D2, .ETH_D3, .ETH_D4]

/-- A read of ETH_RXFp latches the others for the master. -/
def counterLatch (m : Master) (p : Nat) (s : State) : State :=
  (counterRegs.zip (s.counterWords p)).foldl (fun t x => t.wr x.1 (bk m p) x.2) s

/-- A read of an ETH register. -/
def ethRead (m : Master) (r : Reg) (n : Nat) (s : State) : Word × State :=
  match r with
  | .ETH_BUF =>
    (word (s.freeCells + 0x10000 * s.eth.low), setEth { s.eth with low := s.freeCells } s)
  | .ETH_RESULT => (s.rd r (bk m 0), s)
  | .ETH_STAT => (putBits (s.rd r 0) 8 1 (b01 (s.portUp 8)), s)
  | .ETH_PSTAT => (if n = 8 then word (b01 (s.portUp 8)) else s.rd r n, s)
  | .ETH_VLAN => (s.rd r n &&& ~~~ (word (absentMask s.variant * 0x201000)), s)
  | .ETH_RXF => ((s.counterWords n).getD 0 0, counterLatch m n s)
  | .ETH_RXB | .ETH_TXF | .ETH_TXB | .ETH_D1 | .ETH_D2 | .ETH_D3 | .ETH_D4 => (s.rd r (bk m n), s)
  | _ => (s.rd r n, s)

/-! ### Descriptor rings in data space (R373) -/

/-- A read of the word at byte offset `o` of the ring area; rings 0 to 3 read 0 on the PX-48 (R364). -/
def ringRead (o : Nat) (s : State) : Word :=
  if s.variant = .px48 ∧ o < 0x2000 then 0 else tabGet 0 s.eth.desc (o / 4)

/-- A write of the word at byte offset `o`. -/
def ringStore (o : Nat) (w : Word) (s : State) : State :=
  if s.variant = .px48 ∧ o < 0x2000 then s else setEth { s.eth with desc := tabSet 0 s.eth.desc (o / 4) w } s

/-! ## Commands -/

/-- ETH_FRAME_RECEIVED (R145, R366): stamped for the MDI, counted and checked at a port that is up. -/
def execEthFrameReceived (p : Fin 8) (f : EthFrame) (s : State) : Host.Outcome State Fault Refusal :=
  ok s (if s.dom.comms && s.portUp p.val then frameIn p.val { f with sfd := s.stampIn p.val f.sfd } none s else s)

/-- ETH_FRAME_TRANSMITTED (R145, R369): the highest queue that may send; port 8 is the internal port, port 9 the service port. -/
def execEthFrameTransmitted (p : Fin 10) (sfd : Nat) (s : State) : Host.Outcome State Fault Refusal :=
  ok s (if p.val = 9 then sendHead 9 0 sfd s
    else if s.portUp p.val then
      match (List.range 8).reverse.find? fun q => s.mayServe p.val q with
      | some q => boundary p.val (sendHead p.val q (if p.val = 8 then sfd else s.stampOut p.val sfd) s)
      | none => s
    else s)

/-- ETH_ADDRESS_AGE_OUT (R366). -/
def execEthAddressAgeOut (mac vid : Nat) (s : State) : Host.Outcome State Fault Refusal :=
  ok s (setEth { s.eth with learned := s.eth.learned.filter fun l => !(l.mac == mac && l.vid == vid) } s)

/-- ETH_LINK_UP (R148, R385): the link, its quality, and the network address that waited; port 9 is the service port. -/
def execEthLinkUp (p : Fin 10) (sqi : Fin 8) (s : State) : Host.Outcome State Fault Refusal :=
  ok s (if p.val = 9 then
      if s.dom.comms && s.flag F.ETH_SVCSTAT_EN 0 then (s.setB F.ETH_SVCSTAT_LINK 0 true).odTake 0x4500 0x7F else s
    else if s.dom.comms && ethFitted s.variant p.val && s.flag F.ETH_PCFG_EN p.val then
      let s0 := s.setB F.ALM_PHYCAL_BASE_VALID p.val false
      let s1 := ((s0.setB F.ETH_PSTAT_LINK p.val true).setF F.ETH_PSTAT_SQI p.val sqi.val).setB ⟨.ETH_STAT, p.val, 1⟩ 0 true
      (s1.setPtpPort p.val { s1.ptpPort p.val with linkUp := true, exchanges := 0 }).odTake 0x4500 0x7E
    else s)

/-- ETH_LINK_DOWN (R368, R148). -/
def execEthLinkDown (p : Fin 10) (s : State) : Host.Outcome State Fault Refusal :=
  ok s (if p.val = 9 then queuesDrop 9 (s.setB F.ETH_SVCSTAT_LINK 0 false) else if p.val = 8 then s else linkDown p.val s)

/-- KICK (R375). -/
def execEthKick (m : Master) (r : Fin 6) (w : Word) (s : State) : Host.Outcome State Fault Refusal :=
  ok s (ethAccess m .ETH_RING r.val (w ||| word (2 ^ F.ETH_RING_KICK.lo)) s)

/-- ETH_RXF_READ (R383). -/
def execEthRxfRead (m : Master) (p : Fin 10) (s : State) : Host.Outcome State Fault Refusal :=
  ok s (if regFitted s.variant .ETH_RXF p.val then State.answerRead m (Reg.addr .ETH_RXF p.val) (ethRead m .ETH_RXF p.val s)
    else absentMark (Reg.addr .ETH_RXF p.val) (State.answerRead m (Reg.addr .ETH_RXF p.val) (0, s)))

/-- ETH_CCLR (R383). -/
def execEthCclr (m : Master) (p : Fin 10) (w : Word) (s : State) : Host.Outcome State Fault Refusal :=
  ok s (ethAccess m .ETH_CCLR p.val w s)

/-- ETH_BUF_READ (R381). -/
def execEthBufRead (m : Master) (s : State) : Host.Outcome State Fault Refusal :=
  ok s (if regFitted s.variant .ETH_BUF 0 then State.answerRead m (Reg.addr .ETH_BUF 0) (ethRead m .ETH_BUF 0 s)
    else absentMark (Reg.addr .ETH_BUF 0) (State.answerRead m (Reg.addr .ETH_BUF 0) (0, s)))

/-- STATIC_ENTRY_VALID (R384). -/
def execStaticEntryValid (m : Master) (e : Fin 64) (w : Word) (s : State) : Host.Outcome State Fault Refusal :=
  ok s (ethAccess m .ETH_SA_CTL e.val (w ||| word (2 ^ F.ETH_SA_CTL_VALID.lo)) s)

end Sys2Proof.Machine
end

