-- ==== Sys2Proof/Machine/Cores.lean ====
section
/-!
DEFINITION. Machine/Cores.lean: the logical cores as the rest of the module sees them (15_flilis_core.md, R426 to R429, R441, R445, R446, R450 to
R453; 16_redundancy_faults.md, R460): which exist, their interrupt lines and event bits, the MPU and the I/O permission bitmap, their start, and
the CORE registers. The instructions stand in Flilis.lean.
-/
namespace Sys2Proof.Machine

/-! ## Logical cores (R426, R460) -/

/-- The boot mode in force: 0 SAFE, 1 DUAL, 2 QUAD. -/
def State.bootMode (s : State) : Nat := s.getF F.FCRU_PSTAT_MODE 0

/-- How many logical cores a boot mode forms (R460). -/
def coreCount (v : Variant) (mode : Nat) : Nat :=
  if mode = 2 then (if pairBFitted v then 4 else 2) else if mode = 1 then 2 else 1

/-- A logical core of the present boot mode. -/
def State.coreThere (s : State) (c : Nat) : Bool := decide (c < coreCount s.variant s.bootMode)

/-- A logical core's state. -/
def State.co (s : State) (c : Nat) : Core := tabGet {} s.core c

def State.setCo (s : State) (c : Nat) (x : Core) : State := { s with core := tabSet {} s.core c x }

/-- The pair of a logical core: A in SAFE, its own in DUAL (R460). -/
def corePair (mode c : Nat) : Nat := if mode = 1 then c else 0

/-- LVL, IE and MODE of STAT (R428). -/
def Core.lvl (x : Core) : Nat := bitsOf x.stat.toNat 6 4
def Core.ie (x : Core) : Bool := bitOf x.stat.toNat 5
def Core.app (x : Core) : Bool := bitOf x.stat.toNat 10

/-- The index of a banked CORE register of logical core `c`. -/
def coreIx (c n : Nat) : Nat := n + 1024 * c

/-! ## Event bits (R441) -/

/-- An event bit of a logical core sets: 0 SIGNAL, 1 MILESTONE, 2 NOTICE. -/
def coreEvent (c b : Nat) (s : State) : State := s.setB ⟨.CORE_EVT, b, 1⟩ (coreIx c 0) true

/-- An event code is delivered to a logical core: MST_EVTc takes it (R159, R170). -/
def evtDeliver (c code : Nat) (s : State) : State := (s.setF F.MST_EVT_CODE c code).setB F.MST_EVT_NEW c true

/-- The core can take an event: it is there, the Core domain is on and no RESET_CORE restart runs (R171). -/
def State.coreTakesEvent (s : State) (c : Nat) : Bool := s.coreThere c && s.dom.core && ! s.fcru.restarting

/-! ## Interrupt lines (R445, R446) -/

/-- A queue holds a record. -/
def State.qSome (s : State) (i : QId) : Bool := ! (s.q i).recs.isEmpty

/-- The SIN edge queue is at its threshold (R446). -/
def State.edgeRequest (s : State) : Bool :=
  let t := s.getF F.SIN_EQCFG_THR 0
  t != 0 && decide (t ≤ (s.q .edge).recs.length)

/-- A line is pending: lines of queues follow their queues, the others the request that an event raised (R446). -/
def State.linePending (s : State) (i : Nat) : Bool :=
  if i = 8 then s.qSome .milestone
  else if i = 9 then s.qSome .transition
  else if i = 12 then s.qSome .valve
  else if i = 13 then s.edgeRequest
  else if 16 ≤ i ∧ i < 24 then s.canRequest (i - 16)
  else if 46 ≤ i ∧ i < 64 then false
  else tabGet false s.irq i

/-- A line that its unit withdraws: entry does not clear its request. -/
def lineOfUnit (i : Nat) : Bool := i == 8 || i == 9 || i == 12 || i == 13 || i == 14 || (decide (16 ≤ i) && decide (i < 24))

/-- The logical core that a line targets; an absent one means logical core 0 (R453). -/
def State.lineCore (s : State) (i : Nat) : Nat :=
  let c := s.getF F.CORE_IRQ_TARGET i
  if s.coreThere c then c else 0

/-- The level of a line; 0 is disabled. -/
def State.lineLevel (s : State) (i : Nat) : Nat := s.getF F.CORE_IRQ_LVL i

/-- A line that would interrupt logical core `c` at a level above `lvl`. -/
def State.lineAbove (s : State) (c lvl i : Nat) : Bool := decide (lvl < s.lineLevel i) && s.linePending i && s.lineCore i == c

/-- Some line is pending above the core's level (R441, R442). -/
def State.coreInterrupted (s : State) (c : Nat) : Bool := anyBelow 128 fun i => s.lineAbove c (s.co c).lvl i

/-- The line that goes first: the highest level, and within a level the lowest line (R445). -/
def State.bestLine (s : State) (c : Nat) : Option Nat :=
  ((List.range 128).filter fun i => s.lineAbove c (s.co c).lvl i).foldl
    (fun b i => match b with
      | none => some i
      | some j => if s.lineLevel j < s.lineLevel i then some i else some j) none

/-- The line is being served at its level by some core (R453). -/
def State.lineActive (s : State) (i : Nat) : Bool := s.core.any fun p => p.2.serving.any fun q => q.2 == i + 1

/-! ## The MPU and the I/O permission bitmap (R451, R452) -/

/-- Region `j` of a logical core matches an address of a space. -/
def State.mpuMatch (s : State) (c j : Nat) (instr : Bool) (addr : Nat) : Bool :=
  let i := coreIx c j
  let g := addr / 256
  s.flag F.CORE_MPUB_EN i && s.flag F.CORE_MPUB_SPACE i == instr &&
    decide (s.getF F.CORE_MPUB_BASE i ≤ g ∧ g ≤ s.getF F.CORE_MPUL_LIMIT i)

/-- The kinds of access that a region permits. -/
inductive Perm where
  | rd
  | wr
  | ex
deriving DecidableEq, Repr

/-- The permission bit of a region. -/
def State.mpuAllows (s : State) (c j : Nat) (p : Perm) : Bool :=
  match p with
  | .rd => s.flag F.CORE_MPUB_RD (coreIx c j)
  | .wr => s.flag F.CORE_MPUB_WR (coreIx c j)
  | .ex => s.flag F.CORE_MPUB_EX (coreIx c j)

/-- The highest-numbered matching region decides; none permits nothing. -/
def State.mpuPermits (s : State) (c : Nat) (p : Perm) (instr : Bool) (addr : Nat) : Bool :=
  match ((List.range 8).reverse.find? fun j => s.mpuMatch c j instr addr) with
  | some j => s.mpuAllows c j p
  | none => false

/-- CORE_IOPM permits an I/O address. -/
def State.iopmPermits (s : State) (c addr : Nat) : Bool := bitOf (s.rd .CORE_IOPM (coreIx c (addr / 1024))).toNat (addr / 32 % 32)

/-! ## Start (R429) -/

/-- A logical core as it starts. -/
def coreFresh (up : Nat) : Core := { startAt := up }

/-- The banked CORE registers and the banked results of a starting core return to their reset values. -/
def coreBankClear (c : Nat) (s : State) : State :=
  let own : List Reg := [.CORE_CFG, .CORE_VBASE, .CORE_EVT, .CORE_RSD, .CORE_MPUB, .CORE_MPUL, .CORE_IOPM]
  { s with regs := s.regs.filter fun p =>
      ! (own.any fun r => r.ctorIdx == p.1 % 512 && decide (p.1 / 512 / 1024 = c)) }

/-- A logical core starts: PC 0, everything of R429 cleared. -/
def coreStart (c : Nat) (s : State) : State := (coreBankClear c s).setCo c (coreFresh s.up)

/-! ## CORE registers (R453) -/

/-- The reserved bits of a CORE register. -/
def coreReserved : Reg → Nat
  | .CORE_CFG => 0xFFFFFFFE
  | .CORE_VBASE => 0xFF000000
  | .CORE_RSD => 0xFFFFFF80
  | .CORE_IRQ => 0xFFFFFF00
  | r => r.desc.rsv

/-- A write of a CORE register; one with a reserved field that is not 0, or a level above 8, is ignored. -/
def coreWrite (m : Master) (r : Reg) (n : Nat) (w : Word) (s : State) : State :=
  if w.toNat &&& coreReserved r ≠ 0 then s
  else match r with
    | .CORE_SWSET => s.request (64 + F.CORE_SWSET_LINE.of w)
    | .CORE_RSD => s.wr r (bk m 0) (s.rd r (bk m 0) &&& ~~~ (w &&& word r.desc.w1c))
    | .CORE_IRQ => if 8 < F.CORE_IRQ_LVL.of w then s else s.wrMasked r n w
    | .CORE_CFG | .CORE_VBASE | .CORE_MPUB | .CORE_MPUL | .CORE_IOPM => s.wrMasked r (bk m n) w
    | _ => s

/-- A write that reaches a CORE register. -/
def coreAccess (m : Master) (r : Reg) (n : Nat) (w : Word) (s : State) : State :=
  (coreWrite m r n w s).answered m (r.addr n) .accepted

/-- A read of a CORE register. -/
def coreRead (m : Master) (r : Reg) (n : Nat) (s : State) : Word × State :=
  match r with
  | .CORE_ID => (word (masterBank m % 4 + 4 * s.bootMode), s)
  | .CORE_RSD => (s.rd r (bk m 0) ||| word (s.co (masterBank m)).depth, s)
  | .CORE_SWSET => (0, s)
  | .CORE_IPEND => (word (((List.range 32).map fun b => if s.linePending (32 * n + b) then 2 ^ b else 0).sum), s)
  | .CORE_IRQ => (s.rd r n ||| word (0x40 * b01 (s.linePending n) + 0x80 * b01 (s.lineActive n)), s)
  | _ => (s.rd r (bk m n), s)

/-! ## IDLE (R408) -/

/-- Every logical core waits in WAITEV or WTU. -/
def State.allWait (s : State) : Bool :=
  (List.range (coreCount s.variant s.bootMode)).all fun c => (s.co c).wait != .none

/-- The power state as PWR_STAT shows it: IDLE while every core waits and IDLEEN is set. -/
def State.powerState (s : State) : Nat :=
  let st := s.getF F.PWR_STAT_STATE 0
  if st = 0 ∧ s.flag F.PWR_CFG_IDLEEN 0 ∧ s.allWait then 1 else st

end Sys2Proof.Machine
end

