-- ==== Sys2Proof/Machine/Milestones.lean ====
section
/-!
DEFINITION. Machine/Milestones.lean: the milestone unit (05_milestones_timers.md, R154 to R177): admission, runs, completion records, cancels, the
MST registers and the meanings of the unit's commands.
-/
namespace Sys2Proof.Machine

/-! ## The table (R154, R174) -/

/-- Entry `e` of the table. -/
def State.entry (s : State) (e : Nat) : Option MstEntry := tabGet none s.mst.entries e

def State.setEntry (s : State) (e : Nat) (x : Option MstEntry) : State :=
  { s with mst := { s.mst with entries := tabSet none s.mst.entries e x } }

/-- The lowest free entry of the 64. -/
def State.freeEntry (s : State) : Option Nat := (List.range 64).find? fun e => (s.entry e).isNone

/-- The live milestone with a tag. -/
def State.tagged (s : State) (tag : Nat) : Option Nat := (s.liveEntries.find? fun p => p.2.tag == tag).map (·.1)

/-! ## The request (R157, R159, R162 step 1) -/

/-- Word `k` of a request. -/
def reqWord (ws : List Word) (k : Nat) : Nat := (ws.getD k 0).toNat

/-- The highest TARGET of a TYPE. -/
def targetMax (type : Nat) : Nat := if type = 1 then 2 else if type = 5 then 7 else 0

/-- The mask bits of a TYPE that name resources. -/
def maskBits (type : Nat) : Nat := if type = 2 then 0xFF else if type = 3 then 0xFFFFFF else if type = 7 then 0xF else 0xFFFFFFFF

/-- An item is well formed. -/
def itemOk (i : MstItem) : Bool :=
  decide (1 ≤ i.type ∧ i.type ≤ 7) && decide (i.target ≤ targetMax i.type) && bitsOf i.header 4 4 == 0 && bitsOf i.header 11 21 == 0 &&
    decide (i.mask ||| maskBits i.type = maskBits i.type)

/-- The resources that an item names, as (TYPE, number); those of a bank or a CAN channel count on from it. -/
def MstItem.resources (i : MstItem) : List (Nat × Nat) := (onesUpTo 32 i.mask).map fun b => (i.type, 32 * i.target + b)

/-- No resource stands twice in a list. -/
def noRepeat : List (Nat × Nat) → Bool
  | [] => true
  | a :: t => ! t.contains a && noRepeat t

/-- The request is well formed (R162, step 1). -/
def reqOk (s : State) (ws : List Word) : Bool :=
  let w := reqWord ws
  let tag := w 0 % 65536
  let items := reqItems w
  let count := w 5 % 65536
  decide (1 ≤ tag ∧ tag ≤ 0xFFFE) && (s.tagged tag).isNone &&
    decide (1 ≤ bitsOf (w 0) 18 3 ∧ bitsOf (w 0) 18 3 ≤ 4) && bitsOf (w 0) 21 11 == 0 && bitsOf (w 2) 16 16 == 0 &&
    bitsOf (w 3) 30 2 == 0 && bitsOf (w 5) 16 16 == 0 && (bitOf (w 0) 16 || decide (bitsOf (w 3) 0 30 ≤ 999999999)) &&
    (count == 0 || decide (1250 ≤ w 4)) && items.all itemOk && noRepeat (items.flatMap MstItem.resources)

/-- A named resource is fitted (R162, step 2). -/
def State.resFitted (s : State) (r : Nat × Nat) : Bool :=
  match r.1 with
  | 1 => chanFitted s.variant r.2
  | 3 => valveFitted s.variant r.2
  | 4 => fioFitted s.variant r.2
  | 5 => canFitted s.variant (r.2 / 32)
  | _ => true

/-- A named resource is barred by the module's state (R162, step 3). -/
def State.resBarred (s : State) (r : Nat × Nat) : Bool :=
  match r.1 with
  | 5 => s.claimedMb (r.2 / 32) (r.2 % 32)
  | 7 => ! s.coreThere r.2
  | _ => false

/-! ## Conflicts (R164) and valve groups (R167) -/

/-- Runs of one length: the first from now on, the length, the period (0 for one run) and the runs beyond the first. -/
structure Runs where
  start : Nat
  len : Nat
  period : Nat
  repeats : Option Nat
deriving DecidableEq, Repr

/-- The span of a set of runs reaches a time. -/
def Runs.reaches (a : Runs) (gap t : Nat) : Bool :=
  match a.repeats with
  | none => true
  | some k => decide (t < a.start + k * a.period + a.len + gap)

/-- Some run of one meets some run of the other, with a gap between them: spans overlap, and the distance modulo the greatest common divisor of
the periods is within the lengths (R164). -/
def runsMeet (gap : Nat) (a b : Runs) : Bool :=
  if ! (a.reaches gap b.start && b.reaches gap a.start) then false
  else
    let g := Nat.gcd a.period b.period
    if g = 0 then decide (b.start < a.start + a.len + gap ∧ a.start < b.start + b.len + gap)
    else
      let r := (((b.start : Int) - a.start) % g).toNat
      decide (r < a.len + gap ∨ g - r < b.len + gap)

/-- The tick in which a run is placed, counted from the present one (R156). -/
def placedTick (now t : Nat) : Nat := (t - now + 7) / 8

/-- The runs of a resource as R164 compares them: a channel in ticks, anything else within 16 ns. -/
def conflictRuns (level : Bool) (now t period : Nat) (repeats : Option Nat) : Runs :=
  if level then { start := placedTick now t, len := 1, period := period / 8, repeats := repeats }
  else { start := t, len := 16, period := period, repeats := repeats }

/-- A request at instant `t` conflicts with a live milestone; EVENT items never do. -/
def conflictsWith (now : Nat) (mine : List (Nat × Nat)) (t period : Nat) (repeats : Option Nat) (e : MstEntry) : Bool :=
  let shared := (e.items.flatMap MstItem.resources).filter fun r => r.1 != 7 && mine.contains r
  let meets := fun (level : Bool) =>
    runsMeet 0 (conflictRuns level now t period repeats) (conflictRuns level now e.next e.periodNs (e.repeats.map (· - e.runs)))
  (shared.any (fun r => r.1 == 1) && meets true) || (shared.any (fun r => r.1 != 1) && meets false)

/-- The router of a channel selects the milestone-set level, in force and in a SRC that waits for its apply point (R29, R200). -/
def State.selectsMs (s : State) (n : Nat) : Bool := s.src n == 2 && F.OUT_CFG_SRC.of (s.next .OUT_CFG n) == 2

/-- Step 6: a conflict, or a channel whose router does not select the milestone-set level (R29). -/
def State.conflicts (s : State) (items : List MstItem) (t period : Nat) (repeats : Option Nat) : Bool :=
  let mine := items.flatMap MstItem.resources
  (s.openEntries.any fun p => conflictsWith s.total mine t period repeats p.2) || mine.any fun r => r.1 == 1 && ! s.selectsMs r.2

/-- The valves that an item starts. -/
def MstItem.starts (i : MstItem) : List Nat := if i.type = 3 then (onesUpTo 24 i.mask).filter fun v => bitOf i.val v else []

/-- The boosts of a group that run or are promised, as runs in full time. -/
def State.boostRunsOf (s : State) (g : Nat) : List Runs :=
  (groupValves g).filterMap fun u =>
    let at_ := fun (m len : Nat) => some { start := s.total + m - s.up, len := len, period := 0, repeats := some 0 : Runs }
    if s.vState u = 2 then at_ (s.vlv u).boostAt (s.tmaxNs u)
    else if s.vState u = 1 || s.flag F.VLV_STAT_RPEND u then at_ (s.vlv u).promise (s.tmaxNext u)
    else none

/-- The boosts of a group that accepted milestones hold. -/
def State.entryBoosts (s : State) (g : Nat) : List Runs :=
  s.openEntries.flatMap fun p => p.2.items.flatMap fun i =>
    (i.starts.filter fun v => v / 4 == g).map fun v =>
      { start := p.2.next, len := s.tmaxNext v, period := p.2.periodNs, repeats := p.2.repeats.map (· - p.2.runs) }

/-- A list of boosts has none that meets a later one. -/
def noMeeting (gap : Nat) : List Runs → Bool
  | [] => true
  | a :: t => t.all (fun b => ! runsMeet gap a b) && noMeeting gap t

/-- The group takes every new boost without deferral (R167): none meets another, its own next run, or a recharge window. -/
def State.groupTakes (s : State) (g : Nat) (mine : List Runs) : Bool :=
  let gap := if s.recharges g then s.minoffNs g else 0
  noMeeting gap mine &&
    mine.all fun a =>
      (a.period == 0 || decide (a.len + gap ≤ a.period)) &&
        ! (s.recharges g && s.flag F.VLV_GSTAT_RECHG g && decide (a.start + s.up < s.total + tabGet 0 s.rechgEnd g)) &&
        (s.boostRunsOf g ++ s.entryBoosts g).all fun b => ! runsMeet gap a b

/-- Step 8 (R167). -/
def State.groupsBusy (s : State) (items : List MstItem) (t period : Nat) (repeats : Option Nat) : Bool :=
  anyBelow 6 fun g =>
    let mine := (items.flatMap MstItem.starts).filterMap fun v =>
      if v / 4 = g then some { start := t, len := s.tmaxNext v, period := period, repeats := repeats : Runs } else none
    ! mine.isEmpty && ! s.groupTakes g mine

/-! ## Admission (R162 to R166, R169) -/

/-- Steps 6 to 8 at an instant. -/
def State.placeCode (s : State) (items : List MstItem) (t period : Nat) (repeats : Option Nat) : Code :=
  firstCode
    [ (s.conflicts items t period repeats, .conflict),
      (! s.fitsWith (s.heldRes ++ s.mstRes) (planRes (s.planList items) t period repeats), .toll),
      (s.groupsBusy items t period repeats, .groupBusy) ]

/-- The first tick from `t` on that passes steps 6 to 8, or the code of the last tick tried (R165). -/
def State.searchPlace (s : State) (items : List MstItem) (period : Nat) (repeats : Option Nat) : Nat → Nat → Code × Nat
  | 0, t => (s.placeCode items t period repeats, t)
  | k + 1, t =>
    if s.placeCode items t period repeats = .accepted then (.accepted, t)
    else s.searchPlace items period repeats k (t + 8)

/-- The earliest admissible instant (R163). -/
def State.earliest (s : State) : Nat := s.total + 128

/-- The instant that a request states. -/
def reqInstant (ws : List Word) : Nat := (reqWord ws 1 + 2 ^ 32 * (reqWord ws 2 % 65536)) * 1000000000 + bitsOf (reqWord ws 3) 0 30

/-- The decision on a request: its code, and the instant at which it is placed. -/
def State.admission (s : State) (ws : List Word) : Code × Nat :=
  let w := reqWord ws
  let items := reqItems w
  let res := items.flatMap MstItem.resources
  let count := w 5 % 65536
  let period := if count = 0 then 0 else w 4 * 8
  let repeats := if count = 0xFFFF then none else some count
  let early := firstCode
    [ (! reqOk s ws, .invalid),
      (res.any fun r => ! s.resFitted r, .absent),
      (s.entering || res.any fun r => s.resBarred r, .state),
      (s.freeEntry.isNone, .msFull) ]
  if early ≠ .accepted then (early, 0)
  else if bitOf (w 0) 16 then s.searchPlace items period repeats (s.getF F.MST_CFG_ASAP_WIN 0 - 1) s.earliest
  else if reqInstant ws < s.earliest then (.past, 0)
  else (s.placeCode items (reqInstant ws) period repeats, reqInstant ws)

/-- The request as the entry's window shows it: with the placed instant (R165). -/
def placedWords (ws : List Word) (t : Nat) : List Word :=
  (List.range 18).map fun k =>
    if k = 1 then word (t / 1000000000) else if k = 2 then word (t / 1000000000 / 2 ^ 32 % 65536)
    else if k = 3 then word (t % 1000000000) else ws.getD k 0

/-- SUBMIT: the decision, the entry taken, and the state (R174). A step that is due comes first (R132, R151). -/
def submit (m : Master) (ws : List Word) (s0 : State) : Code × Nat × State :=
  let s := stepIfDue s0
  let d := s.admission ws
  match d.1, s.freeEntry with
  | .accepted, some e =>
    let x : MstEntry := { words := placedWords ws d.2, first := d.2, owner := m, plans := s.planList (reqItems (reqWord ws)) }
    (.accepted, e, (s.setEntry e (some x)).wr .MST_PLACED (bk m 0) (word d.2))
  | c, _ => (c, 0, s)

/-! ## Runs and records (R170 to R172) -/

/-- Bits for which an act is carried out in turn: those it was applied to, and the state. -/
def actOn (act : Nat → State → Bool × State) : List Nat → State → Nat × State
  | [], s => (0, s)
  | b :: l, s =>
    let p := act b s
    let r := actOn act l p.2
    (r.1 + (if p.1 then 2 ^ b else 0), r.2)

/-- A milestone starts or stops a counter (R171, R180). -/
def wcuItemAct (on : Bool) (c : Nat) (s : State) : Bool × State :=
  if on then (if tabGet false s.wcuBlocked c then (false, s) else (true, twUpdate s (wcuStart c s)))
  else (true, twUpdate s (wcuStop c s))

/-- A milestone starts a valve or switches it off (R93, R171, R294): neither is applied where the group's feed is in the Off band. -/
def valveItemAct (on : Bool) (v : Nat) (s : State) : Bool × State :=
  if on then milestoneStart v s
  else if s.vState v = 7 ∨ (s.feedBand (groupFeed (v / 4))).dark then (false, s)
  else (true, offCommand v s)

/-- A milestone requests a transmission (R171, R347). -/
def canItemAct (n m : Nat) (s : State) : Bool × State :=
  if ! s.dom.comms || s.claimedMb n m then (false, s) else mbRequest n m true s

/-- A milestone arms a capture channel (R171, R189). -/
def armItemAct (n : Nat) (s : State) : Bool × State :=
  if s.getF F.WCU_CCTRL_FUNC n = 2 then (true, s.setB F.WCU_CCTRL_ARM n true) else (false, s)

/-- A milestone event for a logical core (R170, R171). -/
def eventItemAct (code c : Nat) (s : State) : Bool × State :=
  if s.coreTakesEvent c then (true, coreEvent c 1 (evtDeliver c code s)) else (false, s)

/-- The reservation of a channel among those accepted with a milestone: length and amount. -/
def planFor (plans : List (Nat × Nat × Nat)) (n : Nat) : Option (Nat × Nat) := (plans.find? fun p => p.1 == n).map (·.2)

/-- An item is carried out, its switch-ons with their accepted reservations: its applied mask and the state. -/
def MstItem.run (plans : List (Nat × Nat × Nat)) (i : MstItem) (s : State) : Nat × State :=
  let bits := onesUpTo 32 i.mask
  match i.type with
  | 1 => actOn (fun b t => gateCommand (32 * i.target + b) (bitOf i.val b) (planFor plans (32 * i.target + b)) t) bits s
  | 2 => actOn (fun b t => wcuItemAct (bitOf i.val b) b t) bits s
  | 3 => actOn (fun b t => valveItemAct (bitOf i.val b) b t) bits s
  | 4 => fieldItem i.mask i.val s
  | 5 => actOn (fun b t => canItemAct i.target b t) bits s
  | 6 => actOn armItemAct bits s
  | 7 => actOn (fun b t => eventItemAct (i.val % 256) b t) bits s
  | _ => (0, s)

/-- Every item in order: their applied masks and the state. -/
def runItems (plans : List (Nat × Nat × Nat)) : List MstItem → State → List Nat × State
  | [], s => ([], s)
  | i :: l, s =>
    let p := i.run plans s
    let r := runItems plans l p.2
    (p.1 :: r.1, r.2)

/-- A completion record (R172). -/
def mstRecord (e : Nat) (x : MstEntry) (kind : Nat) (applied missed : List Nat) (s : State) : State :=
  let w0 := x.tag + 0x10000 * e + 0x1000000 * kind + 0x4000000 * b01 (missed.any (· != 0))
  let four := fun (l : List Nat) => (List.range 4).map fun k => word (l.getD k 0)
  s.offer .milestone ([word w0, word x.lastShort, word (sat 0xFFFFFFFF x.runs)] ++ four applied ++ four missed)

/-- A run of entry `e` (R170 to R174): its items, its record, and the entry after it; the next tick frees one whose last run this was. -/
def milestoneRun (e : Nat) (s : State) : State :=
  match s.entry e with
  | none => s
  | some x =>
    if ! s.almRuns || x.ended || decide (s.total < x.next) then s
    else
      let r := runItems x.plans x.items s
      let missed := (List.range x.items.length).map fun k => (x.items.map (·.mask)).getD k 0 - r.1.getD k 0
      let ends := x.cancelled != 0 || x.lastRun
      let y := { x with runs := x.runs + 1, lastShort := x.next % 2 ^ 32, ended := ends }
      let kind := if x.cancelled ≠ 0 then x.cancelled else if x.lastRun then 1 else 0
      let t := r.2.setEntry e (some y)
      if ends || x.recEach || missed.any (· != 0) then mstRecord e y kind r.1 missed t else t

/-! ## Cancelling (R173, R174, R414) -/

/-- Entry `e` is free; the runs it carried out stay in its window (R172). -/
def entryFree (e : Nat) (s : State) : State :=
  let runs := match s.entry e with | some x => x.runs | none => tabGet 0 s.mst.runs e
  { s with mst := { entries := tabSet none s.mst.entries e none, runs := tabSet 0 s.mst.runs e runs } }

/-- Entries whose last run or cancel was in the last tick are free (R173, R174). -/
def entriesFree (s : State) : State := ((s.liveEntries.filter fun p => p.2.ended).map (·.1)).foldl (fun t e => entryFree e t) s

/-- An entry is cancelled: it ends with its record and is free from the next tick, or ends after a run too near to stop; one that has ended already stays
as it is. `kind` is 2, or 3 for a forced power entry, which frees it at once (R174, R414). -/
def cancelEntry (kind e : Nat) (s : State) : State :=
  match s.entry e with
  | none => s
  | some x =>
    if x.ended then s
    else if s.earliest ≤ x.next then
      let t := mstRecord e x kind [] [] (s.setEntry e (some { x with ended := true }))
      if kind = 3 then entryFree e t else t
    else s.setEntry e (some { x with cancelled := max kind x.cancelled })

/-- CANCEL by tag. DEDUCED (assumption 23): a milestone is live until the tick after its end, and a cancel of it in between is accepted and does
nothing. -/
def cancelTag (tag : Nat) (s : State) : Code × State :=
  match s.tagged tag with
  | some e => (.accepted, cancelEntry 2 e s)
  | none => (.unknownTag, s)

/-- Every live milestone is cancelled. -/
def cancelAll (kind : Nat) (s : State) : State := (s.liveEntries.map (·.1)).foldl (fun t e => cancelEntry kind e t) s

/-! ## Registers (R159) -/

/-- The staged request of a master. -/
def State.staged (s : State) (m : Master) : List Word :=
  ([Reg.MST_REQ_CTRL, .MST_REQ_SEC_LO, .MST_REQ_SEC_HI, .MST_REQ_NS, .MST_REQ_PERIOD, .MST_REQ_COUNT].map fun r => s.rd r (bk m 0)) ++
    (List.range 4).flatMap fun k => [s.rd .MST_REQ_HDR (bk m k), s.rd .MST_REQ_MASK (bk m k), s.rd .MST_REQ_VAL (bk m k)]

/-- The decision on a command goes into the master's MST_RESULT. -/
def mstResult (m : Master) (c : Code) (e tag : Nat) (s : State) : State :=
  s.wr .MST_RESULT (bk m 0) (word (c.num + 0x100 * e + 0x8000 + 0x10000 * (tag % 65536)))

/-- A write of MST_CMD (R159, R160). -/
def mstCmdWrite (m : Master) (w : Word) (s : State) : Code × State :=
  let op := F.MST_CMD_OP.of w
  let tag := F.MST_CMD_TAG.of w
  if reservedSet .MST_CMD w then (.invalid, mstResult m .invalid 0 tag s)
  else if op = 1 then
    let ws := s.staged m
    let r := submit m ws s
    (r.1, mstResult m r.1 r.2.1 (reqWord ws 0) r.2.2)
  else if op = 2 then let r := cancelTag tag s; (r.1, mstResult m r.1 0 tag r.2)
  else if op = 3 then (.accepted, mstResult m .accepted 0 tag (cancelAll 2 s))
  else (.accepted, s)

/-- A write of an MST register. -/
def mstWrite (m : Master) (r : Reg) (n : Nat) (w : Word) (s : State) : Code × State :=
  match r with
  | .MST_CMD => mstCmdWrite m w s
  | .MST_REQ_CTRL | .MST_REQ_SEC_LO | .MST_REQ_SEC_HI | .MST_REQ_NS | .MST_REQ_PERIOD | .MST_REQ_COUNT | .MST_REQ_HDR | .MST_REQ_MASK
  | .MST_REQ_VAL => (.accepted, s.wr r (bk m n) w)
  | .MST_CFG =>
    let v := F.MST_CFG_ASAP_WIN.of w
    if reservedSet r w ∨ v < 125 ∨ 12500000 < v then (.invalid, s) else (.accepted, s.wr r 0 w)
  | .MST_SEL => if reservedSet r w then (.invalid, s) else (.accepted, s.wr r 0 w)
  | .MST_CQ_CLR =>
    if reservedSet r w then (.invalid, s) else (.accepted, if F.MST_CQ_CLR_LOST_CLR.on w then s.clearLost .milestone else s)
  | _ => (.accepted, s)

/-- A write that reaches an MST register. -/
def mstAccess (m : Master) (r : Reg) (n : Nat) (w : Word) (s : State) : State :=
  let p := mstWrite m r n w s
  p.2.answered m (r.addr n) p.1

/-- The live entries `lo` to `lo + 31` as bits. -/
def State.liveBits (s : State) (lo : Nat) : Nat := ((List.range 32).map fun b => if (s.entry (lo + b)).isSome then 2 ^ b else 0).sum

/-- Word `k` of the window on entry `e`: the request, runs, next and state (0x0520 to 0x0534); of a free entry its last run count (R172). -/
def State.windowWord (s : State) (e k : Nat) : Word :=
  match s.entry e with
  | none => if k = 18 then word (sat 0xFFFFFFFF (tabGet 0 s.mst.runs e)) else 0
  | some x =>
    if k < 18 then x.words.getD k 0
    else if k = 18 then word (sat 0xFFFFFFFF x.runs)
    else if k = 19 then word x.next
    else word 1

/-- A read of MST_EVTc clears NEW. -/
def evtRead (c : Nat) (s : State) : Word × State := (s.rd .MST_EVT c, s.setB F.MST_EVT_NEW c false)

/-- A read of an MST register. -/
def mstRead (m : Master) (r : Reg) (n : Nat) (s : State) : Word × State :=
  let sel := s.getF F.MST_SEL_SEL 0
  match r with
  | .MST_CMD | .MST_CQ_CLR => (0, s)
  | .MST_RESULT | .MST_PLACED => (s.rd r (bk m 0), s)
  | .MST_REQ_CTRL | .MST_REQ_SEC_LO | .MST_REQ_SEC_HI | .MST_REQ_NS | .MST_REQ_PERIOD | .MST_REQ_COUNT | .MST_REQ_HDR | .MST_REQ_MASK
  | .MST_REQ_VAL => (s.rd r (bk m n), s)
  | .MST_STATUS => (word (s.liveEntries.length + 0x100 * (s.q .milestone).recs.length + 0x10000 * (s.q .milestone).lost), s)
  | .MST_LIVE_LO => (word (s.liveBits 0), s)
  | .MST_LIVE_HI => (word (s.liveBits 32), s)
  | .MST_W_REQ => (s.windowWord sel n, s)
  | .MST_W_RUNS => (s.windowWord sel 18, s)
  | .MST_W_NEXT => (s.windowWord sel 19, s)
  | .MST_W_STATE => (s.windowWord sel 20, s)
  | .MST_CQ => s.readWindow .milestone 11 n
  | .MST_EVT => evtRead n s
  | _ => (s.rd r n, s)

/-! ## Requests over the dictionary (R177) -/

/-- A write of 0x2300:01: a request of another length than 18 words is aborted, and nothing is submitted. -/
def objSubmit (p : DPath) (ws : List Word) (s : State) : State :=
  if ws.length < 18 then s.objAborted p 0x2300 1 0x06070013
  else if 18 < ws.length then s.objAborted p 0x2300 1 0x06070012
  else
    let r := submit (.dict p) ws s
    (mstResult (.dict p) r.1 r.2.1 (reqWord ws 0) r.2.2).objDone p 0x2300 1 r.1

/-- A write of 0x2300:02: a tag outside its range is aborted as R69 gives. -/
def objCancel (p : DPath) (tag : Nat) (s : State) : State :=
  if tag = 0 then s.objAborted p 0x2300 2 0x06090032
  else if tag = 0xFFFF then s.objAborted p 0x2300 2 0x06090031
  else
    let r := cancelTag tag s
    (mstResult (.dict p) r.1 0 tag r.2).objDone p 0x2300 2 r.1

/-! ## Commands -/

/-- SUBMIT (R162): a write of MST_CMD with OP 1, or of a request to 0x2300:01. -/
def execMilestoneSubmit (m : Master) (req : Option (List Word)) (s : State) : Host.Outcome State Fault Refusal :=
  ok s (match m, req with
    | .dict p, some ws => objSubmit p ws s
    | _, _ => mstAccess m .MST_CMD 0 (word 1) s)

/-- CANCEL (R173). -/
def execMilestoneCancel (m : Master) (tag : Nat) (s : State) : Host.Outcome State Fault Refusal :=
  ok s (match m with
    | .dict p => objCancel p (tag % 65536) s
    | _ => mstAccess m .MST_CMD 0 (word (2 + 0x10000 * (tag % 65536))) s)

/-- CANCEL_ALL (R173). -/
def execMilestoneCancelAll (m : Master) (s : State) : Host.Outcome State Fault Refusal :=
  ok s (match m with
    | .dict p => (cancelAll 2 s).objDone p 0x2300 3 .accepted
    | _ => mstAccess m .MST_CMD 0 (word 3) s)

/-- MST_RESULT_READ (R160). -/
def execMstResultRead (m : Master) (s : State) : Host.Outcome State Fault Refusal :=
  ok s (State.answerRead m (Reg.addr .MST_RESULT 0) (mstRead m .MST_RESULT 0 s))

/-- MILESTONE_RUN (R170). -/
def execMilestoneRun (e : Fin 64) (s : State) : Host.Outcome State Fault Refusal := ok s (milestoneRun e.val s)

/-- MST_CQ0_READ (R172). -/
def execMstCq0Read (m : Master) (s : State) : Host.Outcome State Fault Refusal :=
  ok s (State.answerRead m (Reg.addr .MST_CQ 0) (mstRead m .MST_CQ 0 s))

/-- MST_CQ10_READ (R172). -/
def execMstCq10Read (m : Master) (s : State) : Host.Outcome State Fault Refusal :=
  ok s (State.answerRead m (Reg.addr .MST_CQ 10) (mstRead m .MST_CQ 10 s))

/-- LOST_CLR (R159). -/
def execMstLostClr (m : Master) (v : Word) (s : State) : Host.Outcome State Fault Refusal := ok s (mstAccess m .MST_CQ_CLR 0 v s)

/-- MST_EVT_READ (R159, R443). -/
def execMstEvtRead (m : Master) (c : Fin 4) (s : State) : Host.Outcome State Fault Refusal :=
  ok s (State.answerRead m (Reg.addr .MST_EVT c.val) (mstRead m .MST_EVT c.val s))

/-- COMPLETION_RECORD_READ (R177). -/
def execCompletionRecordRead (p : DPath) (s : State) : Host.Outcome State Fault Refusal := ok s (headRead p 0x2300 6 .milestone s)

end Sys2Proof.Machine
end

