-- ==== Sys2Proof/Machine/WaveformCommands.lean ====
section
/-!
DEFINITION. Machine/WaveformCommands.lean: the meanings of the WCU's commands (05_milestones_timers.md, R178 to R193). A change of a waveform
output reaches the channels that select it.
-/
namespace Sys2Proof.Machine

/-- A write that reaches a WCU register: answered in WCU_RESULT, and the channels follow the outputs (R179, R192). -/
def wcuAccess (m : Master) (r : Reg) (n : Nat) (v : Word) (s : State) : State :=
  let p := wcuWrite r n v s
  twUpdate s (p.2.answer m .WCU_RESULT p.1 (wcuItem r n) (r.addr n))

/-- One count step, with the channels following. -/
def wcuStepAll (c : Nat) (s : State) : State := twUpdate s (wcuStep c s)

/-- EN (R180): a write of WCU_CTRLc. -/
def execWcuEn (m : Master) (c : Fin 8) (v : Word) (s : State) : Host.Outcome State Fault Refusal := ok s (wcuAccess m .WCU_CTRL c.val v s)

/-- WCU_GSTART (R180). -/
def execWcuGstart (m : Master) (v : Word) (s : State) : Host.Outcome State Fault Refusal := ok s (wcuAccess m .WCU_GSTART 0 v s)

/-- WCU_GSTOP (R180). -/
def execWcuGstop (m : Master) (v : Word) (s : State) : Host.Outcome State Fault Refusal := ok s (wcuAccess m .WCU_GSTOP 0 v s)

/-- WCU_COUNT_STEP (R178). -/
def execWcuCountStep (c : Fin 8) (s : State) : Host.Outcome State Fault Refusal := ok s (wcuStepAll c.val s)

/-- WCU_PERIOD_BOUNDARY (R178): the step that lands on 0. -/
def execWcuPeriodBoundary (c : Fin 8) (s : State) : Host.Outcome State Fault Refusal :=
  ok s (if s.wcuRuns c.val && s.wcuNextCount c.val == 0 then wcuStepAll c.val s else s)

/-- WCU_TOP_TURNAROUND (R178): the step that lands on TOP in up/down mode. -/
def execWcuTopTurnaround (c : Fin 8) (s : State) : Host.Outcome State Fault Refusal :=
  ok s (if s.wcuRuns c.val && s.wcuUpDown c.val && ! s.wcuDown c.val && s.wcuNextCount c.val == s.wcuTop c.val then wcuStepAll c.val s else s)

/-- WCU_COMPARE_MATCH (R183): a catch-up match that is due, else the step that lands on the compare value. -/
def execWcuCompareMatch (n : Fin 32) (s : State) : Host.Outcome State Fault Refusal :=
  let c := n.val / 4
  ok s (if ! (s.wcuRuns c && s.twCompare n.val) then s
    else if (s.tw n.val).catchUp then twUpdate s (wcuCatchUp s n.val)
    else if s.wcuNextCount c == (s.rd .WCU_CMP n.val).toNat then wcuStepAll c s
    else s)

/-- WCU_CMP_WRITE (R182, R186). -/
def execWcuCmpWrite (m : Master) (n : Fin 32) (v : Word) (s : State) : Host.Outcome State Fault Refusal := ok s (wcuAccess m .WCU_CMP n.val v s)

/-- WCU_CAPH_READ (R188). -/
def execWcuCaphRead (m : Master) (n : Fin 32) (s : State) : Host.Outcome State Fault Refusal :=
  ok s (State.answerRead m (Reg.addr .WCU_CAPH n.val) (wcuRead m .WCU_CAPH n.val s))

/-- WCU_CAP_LOST_CLR (R188). -/
def execWcuCapLostClr (m : Master) (n : Fin 32) (v : Word) (s : State) : Host.Outcome State Fault Refusal := ok s (wcuAccess m .WCU_CAP n.val v s)

/-- ARM (R185, R189): a write of WCU_CCTRLn. -/
def execWcuArm (m : Master) (n : Fin 32) (v : Word) (s : State) : Host.Outcome State Fault Refusal := ok s (wcuAccess m .WCU_CCTRL n.val v s)

/-- A capture record as 0x2410 + n:0B gives it: stamp, count value and WCU_CAPn (R193). -/
def captureRead (p : DPath) (n : Nat) (s : State) : State :=
  match (s.q (.capture n)).recs with
  | [] => s.objAborted p (0x2410 + n) 0x0B 0x08000024
  | r :: _ =>
    let t := s.popHead (.capture n)
    let cap := word ((t.q (.capture n)).recs.length + 0x10000 * (t.q (.capture n)).lost) ||| r.words.getD 2 0
    t.emit (.objRead p (0x2410 + n) 0x0B ([r.words.getD 0 0, r.words.getD 1 0, cap].flatMap fun w => leBytes 4 w.toNat))

/-- CAPTURE_RECORD_READ (R193). -/
def execCaptureRecordRead (p : DPath) (n : Fin 32) (s : State) : Host.Outcome State Fault Refusal := ok s (captureRead p n.val s)

end Sys2Proof.Machine
end

