-- ==== Sys2Proof/Machine/DataSpace.lean ====
section
/-!
DEFINITION. Machine/DataSpace.lean: instruction space and data space as the cores and the block transfer engine reach them (15_flilis_core.md,
R430 to R432, R448, R449): their areas, loads and stores, and the traps of an access.
-/
namespace Sys2Proof.Machine

/-! ## Areas of data space (R431) -/

/-- The areas of data space. -/
inductive Area where
  | sram
  | retention
  | dataFlash
  | otp
  | canRam
  | linSlots
  | ethRings
deriving DecidableEq, Repr

/-- The area of a byte address; none where it is unassigned. -/
def areaOf (a : Nat) : Option Area :=
  if inSram a then some .sram else if inRetention a then some .retention else if inDataFlash a then some .dataFlash
  else if inOtp a then some .otp
  else if 0x60000000 ≤ a ∧ a < 0x60008000 then some .canRam
  else if 0x60008000 ≤ a ∧ a < 0x60009000 then some .linSlots
  else if 0x60010000 ≤ a ∧ a < 0x60013000 then some .ethRings
  else none

/-- Stores to an area are taken; data flash and OTP are programmed only through the SVC unit. -/
def Area.writable : Area → Bool
  | .dataFlash | .otp => false
  | _ => true

/-- Stores narrower than a word trap DALIGN in this range. -/
def wordOnly (a : Nat) : Bool := decide (0x60000000 ≤ a ∧ a < 0x60013000)

/-! ## Words and bytes -/

/-- A read of the aligned word at an address; one of message RAM can lock or release a record (R339). -/
def dataRead (a : Nat) (s : State) : Word × State :=
  match areaOf a with
  | some .canRam => canRamRead ((a - 0x60000000) / 0x1000) ((a - 0x60000000) % 0x1000) s
  | some .linSlots =>
    let o := a - 0x60008000
    (if linFitted s.variant (o / 0x400) then s.linWord (o / 0x400) (o % 0x400 / 16) (o % 16 / 4) else 0, s)
  | some .ethRings => (ringRead (a - 0x60010000) s, s)
  | some _ => (if otpHidden a then 0 else s.memWord a, s)
  | none => (0, s)

/-- A store of the aligned word at an address. A whole word stored leaves no ECC error behind. -/
def dataWrite (a : Nat) (w : Word) (s : State) : State :=
  match areaOf a with
  | some .canRam => canRamWrite ((a - 0x60000000) / 0x1000) ((a - 0x60000000) % 0x1000) w s
  | some .linSlots =>
    let o := a - 0x60008000
    if linFitted s.variant (o / 0x400) then linSlotWrite (o / 0x400) (o % 0x400 / 16) (o % 16 / 4) w s else s
  | some .ethRings => ringStore (a - 0x60010000) w s
  | some _ => { (s.memWordSet a w) with ecc := tabSet false s.ecc a false }
  | none => s

/-- The word at an address holds an uncorrectable ECC error. -/
def State.eccBad (s : State) (a : Nat) : Bool := tabGet false s.ecc (a / 4 * 4)

/-! ## Instruction space (R430) -/

/-- DESIGN CHOICE (assumption 7): an erased word of code flash reads as ones. -/
def flashBlank : Word := word 0xFFFFFFFF

/-- The key of a word address in `flash`: the active bank, then the inactive one. -/
def State.flashKey (s : State) (a : Nat) : Nat := (if a < 2 ^ 20 then s.flashBank else 1 - s.flashBank) * 2 ^ 20 + a % 2 ^ 20

/-- The instruction word at an address. -/
def State.flashWord (s : State) (a : Nat) : Word := tabGet flashBlank s.flash (s.flashKey a)

/-- The instruction word holds an uncorrectable ECC error. -/
def State.flashBad (s : State) (a : Nat) : Bool := tabGet false s.ecc (2 ^ 32 + s.flashKey a)

/-! ## Traps of an access (R448, R449, R451) -/

/-- An access of data space: its address, its bytes, and whether it stores. -/
structure Access where
  addr : Nat
  size : Nat
  store : Bool
deriving DecidableEq, Repr

/-- The causes of a data access in the order of R449: DALIGN, DADDR, MPU, ECC. -/
inductive DataCause where
  | align
  | address
  | mpu
  | ecc
deriving DecidableEq, Repr

/-- The trap code of a cause (R448). -/
def DataCause.code : DataCause → Nat
  | .align => 0x05
  | .address => 0x04
  | .mpu => 0x06
  | .ecc => 0x0B

/-- An access meets a cause, for a logical core in its present mode. -/
def State.meets (s : State) (c : Nat) (x : Access) : DataCause → Bool
  | .align => x.addr % x.size != 0 || (x.store && decide (x.size < 4) && wordOnly x.addr)
  | .address =>
    match areaOf x.addr with
    | none => true
    | some a => x.store && ! a.writable
  | .mpu => (s.co c).app && ! s.mpuPermits c (if x.store then .wr else .rd) false x.addr
  | .ecc => (! x.store || decide (x.size < 4)) && s.eccBad x.addr

/-- The first trap of an instruction's accesses: the cause that comes first in R449, and of two accesses that meet it the earlier one
(DEDUCED, assumption 11). -/
def State.dataTrap (s : State) (c : Nat) (l : List Access) : Option (Nat × Nat) :=
  ([DataCause.align, .address, .mpu, .ecc].findSome? fun k => (l.find? fun x => s.meets c x k).map fun x => (k.code, x.addr))

end Sys2Proof.Machine
end

