-- ==== Sys2Proof/Machine/Bte.lean ====
section
/-!
DEFINITION. Machine/Bte.lean: the block transfer engine (15_flilis_core.md, R454 to R459): its checks, its ends and its registers. The movement
of a word stands in BteCommands.lean, since a word may read or write any register.
-/
namespace Sys2Proof.Machine

/-- The state code of a channel: 0 IDLE, 1 BUSY, 2 DONE, 3 ABORTED, 4 ABORTED_POWER, 5 FAULT. -/
def State.bteState (s : State) (c : Nat) : Nat := s.getF F.BTE_STAT_STATE c

def State.bteBusy (s : State) (c : Nat) : Bool := s.bteState c == 1

/-! ## START (R454, R455) -/

/-- A side of a transfer: I/O space or data space, the first address, whether it is held. -/
structure Side where
  io : Bool
  addr : Nat
  fixed : Bool
deriving DecidableEq, Repr

/-- The two sides that DIR selects: source and destination. -/
def bteSides (dir src dst : Nat) (sfix dfix : Bool) : Side × Side :=
  ({ io := dir == 1, addr := src, fixed := sfix }, { io := dir == 2, addr := dst, fixed := dfix })

/-- The address of word `i` of a side. -/
def Side.at_ (d : Side) (i : Nat) : Nat := if d.fixed then d.addr else if d.io then d.addr + i else d.addr + 4 * i

/-- The unit whose range an I/O address lies in, with the CAN channel. -/
def unitSpan (a : Nat) : Option (IoUnit × Nat) := (unitOf a).map fun u => (u, if u = .CAN then a / 0x200 else 0)

/-- A side's range of `n` words is good: aligned, inside its space, in one area or one unit's range, and not flash as a destination. -/
def Side.inRange (d : Side) (n : Nat) (dst : Bool) : Bool :=
  let last := d.at_ (n - 1)
  if d.io then decide (last < 2 ^ 16) && (unitSpan d.addr).isSome && unitSpan d.addr == unitSpan last
  else d.addr % 4 == 0 && decide (last < 2 ^ 32) &&
    (match areaOf d.addr with
      | none => false
      | some a => areaOf last == some a && (! dst || a.writable))

/-- An application-mode owner's MPU or CORE_IOPM permits every address of the range. -/
def Side.permitted (s : State) (c : Nat) (d : Side) (n : Nat) (dst : Bool) : Bool :=
  let last := d.at_ (n - 1)
  if d.io then (List.range (last / 32 - d.addr / 32 + 1)).all fun i => s.iopmPermits c (32 * (d.addr / 32 + i))
  else (List.range (last / 256 - d.addr / 256 + 1)).all fun i =>
    s.mpuPermits c (if dst then .wr else .rd) false (256 * (d.addr / 256 + i))

/-- The mode and the logical core that a master starts a transfer with. -/
def bteOwner (m : Master) (s : State) : Nat × Bool :=
  match m with
  | .core c => (c.val, (s.co c.val).app)
  | _ => (0, false)

/-- The checks of a range of `n` words (R455). -/
def bteRangeOk (m : Master) (w : Word) (c n : Nat) (s : State) : Bool :=
  let d := bteSides (F.BTE_CTRL_DIR.of w) (s.rd .BTE_SRC c).toNat (s.rd .BTE_DST c).toNat (F.BTE_CTRL_SFIX.on w) (F.BTE_CTRL_DFIX.on w)
  let o := bteOwner m s
  d.1.inRange n false && d.2.inRange n true &&
    (! o.2 || (Side.permitted s o.1 d.1 n false && Side.permitted s o.1 d.2 n true))

/-- A transfer begins. -/
def bteBegin (m : Master) (c n : Nat) (s : State) : State :=
  let o := bteOwner m s
  (s.wr .BTE_STAT c (word (1 + 8 * b01 o.2 + 16 * o.1))).wr .BTE_RES c (word n)

/-- A transfer ends: its state code, and line 38 + c for the ends DONE, ABORTED and FAULT with IRQ set (R456). -/
def bteEnd (c code : Nat) (s : State) : State :=
  let t := s.setF F.BTE_STAT_STATE c code
  if code ≠ 4 ∧ s.flag F.BTE_CTRL_IRQ c then t.request (38 + c) else t

/-- A write of BTE_CTRLc (R455, R457). ABORT acts at a word boundary: between commands a channel always stands at one. -/
def bteCtrlWrite (m : Master) (c : Nat) (w : Word) (s : State) : Code × State :=
  let start := F.BTE_CTRL_START.on w
  let abort := F.BTE_CTRL_ABORT.on w
  let n := s.getF F.BTE_CNT_COUNT c
  if reservedSet .BTE_CTRL w || (start && abort) then (.invalid, s)
  else if abort then (.accepted, if s.bteBusy c then bteEnd c 3 s else s)
  else if s.bteBusy c || (start && s.entering) then (.state, s)
  else if ! start then (.accepted, s.wrMasked .BTE_CTRL c w)
  else if F.BTE_CTRL_DIR.of w = 3 ∨ 2 ^ 24 ≤ n then (.invalid, s)
  else if n = 0 then (.accepted, s)
  else if ! bteRangeOk m w c n s then (.invalid, s)
  else (.accepted, bteBegin m c n (s.wrMasked .BTE_CTRL c w))

/-- A write of a BTE register. -/
def bteWrite (m : Master) (r : Reg) (n : Nat) (w : Word) (s : State) : Code × State :=
  match r with
  | .BTE_CTRL => bteCtrlWrite m n w s
  | .BTE_SRC | .BTE_DST | .BTE_CNT =>
    if reservedSet r w then (.invalid, s) else if s.bteBusy n then (.state, s) else (.accepted, s.wrMasked r n w)
  | _ => (.accepted, s)

/-- A write that reaches a BTE register: answered in BTE_RESULT (R458). -/
def bteAccess (m : Master) (r : Reg) (n : Nat) (w : Word) (s : State) : State :=
  let p := bteWrite m r n w s
  p.2.answer m .BTE_RESULT p.1 (if r = .BTE_BUSY ∨ r = .BTE_RESULT then 0 else n) (r.addr n)

/-- The channels that are BUSY, as bits. -/
def State.bteBusyBits (s : State) : Nat := ((List.range 8).map fun c => if s.bteBusy c then 2 ^ c else 0).sum

/-- A read of a BTE register. -/
def bteRead (m : Master) (r : Reg) (n : Nat) (s : State) : Word × State :=
  match r with
  | .BTE_RESULT => (s.rd r (bk m 0), s)
  | .BTE_BUSY => (word s.bteBusyBits, s)
  | _ => (s.rd r n, s)

/-- Every BUSY channel ends: ABORTED at a core restart, ABORTED_POWER at a forced entry (R414, R472). -/
def bteStopAll (code : Nat) (s : State) : State := (List.range 8).foldl (fun t c => if t.bteBusy c then bteEnd c code t else t) s

/-- The channel that is served next: the first BUSY one in ascending order from the round-robin's place (R454). -/
def State.bteTurn (s : State) : Option Nat := ((List.range 8).map fun i => (s.bteNext + i) % 8).find? fun c => s.bteBusy c

/-- A word of a channel has been moved (R456). -/
def bteMoved (c : Nat) (s : State) : State :=
  let left := s.getF F.BTE_RES_RESID c - 1
  let t := { s.wr .BTE_RES c (word left) with bteNext := (c + 1) % 8 }
  if left = 0 then bteEnd c 2 t else t

/-- A word of a channel has failed: FAULT, with the trap code and the address (R456). -/
def bteFailed (c code addr : Nat) (s : State) : State :=
  bteEnd c 5 { (s.setF F.BTE_STAT_FCAUSE c code).wr .BTE_FADDR c (word addr) with bteNext := (c + 1) % 8 }

end Sys2Proof.Machine
end

