-- ==== Sys2Proof/Machine/Update.lean ====
section
/-!
DEFINITION. Machine/Update.lean: the SVC unit's state machines that other units reach (18_service_update_odometer.md): the update engine and its
journal (R512 to R518), the pairing record (R520 to R522), and the Odometer's copies (R525, R526).
-/
namespace Sys2Proof.Machine

/-! ## OTP (R511) -/

/-- The module's serial number. -/
def State.serial (s : State) : List Byte := s.otp 0 8

/-- A key field of OTP is written: not all ones. -/
def State.otpWritten (s : State) (o : Nat) : Bool := (s.otp o 64).any fun b => b != 0xFF

/-- The bits set in a list of bytes. -/
def bitsSet (l : List Byte) : Nat := (l.map fun b => (onesUpTo 8 b.toNat).length).sum

/-- The anti-rollback count. -/
def State.arbCount (s : State) : Nat := bitsSet (s.otp 0xE8 16)

/-- Byte `i` of a thermometer of `k` bits. -/
def thermoByte (k i : Nat) : Byte := byte (2 ^ (sat 8 (k - 8 * i)) - 1)

/-- The anti-rollback count is raised to `k` if it is lower. -/
def arbRaise (k : Nat) (s : State) : State :=
  if k ≤ s.arbCount then s else s.memBytesSet 0x480000E8 ((List.range 16).map (thermoByte (sat 128 k)))

/-! ## The Odometer's copies (R525, R526) -/

/-- The newer valid copy. -/
def State.odoCopy (s : State) : OdoCopy :=
  let a := s.svc.copyA
  let b := s.svc.copyB
  if a.valid && (! b.valid || decide (b.seq < a.seq)) then a else if b.valid then b else { seq := 0 }

/-- A count of the Odometer: the stored value with the accumulator added. -/
def State.odoValue (s : State) (g i f : Nat) : Nat :=
  sat (2 ^ 32 - 1) (tabGet 0 s.odoCopy.counts (odoKey g i f) + tabGet 0 s.odoAcc (odoKey g i f))

/-- The accumulators folded into counts. -/
def foldCounts (counts acc : Tab Nat) : Tab Nat :=
  acc.foldl (fun t p => tabSet 0 t p.1 (sat (2 ^ 32 - 1) (tabGet 0 t p.1 + p.2))) counts

/-- A save: the accumulators are folded in, the older copy takes the result, and the drive-enable counter is saved with it (R501, R526). -/
def odoSave (s : State) : State :=
  let c : OdoCopy := { seq := s.odoCopy.seq + 1, valid := true, counts := foldCounts s.odoCopy.counts s.odoAcc }
  let second := s.rtcNow.1
  let a := s.svc.copyA
  let b := s.svc.copyB
  let newerA := a.valid && (! b.valid || decide (b.seq < a.seq))
  let v := if newerA then { s.svc with copyB := c, savedAt := second } else { s.svc with copyA := c, savedAt := second }
  { s with svc := v, odoAcc := [], acc := { s.acc with deSaved := s.acc.deCount } }.request 36

/-! ## The update engine (R512 to R518) -/

def State.updState (s : State) : Nat := s.getF F.SVC_USTAT_STATE 0

/-- The engine changes state, and requests its line (R446; DESIGN CHOICE, assumption 40: the spec names the line and no event for it). -/
def updTo (st : Nat) (s : State) : State := (s.setF F.SVC_USTAT_STATE 0 st).request 35

/-- Byte `k` and a little-endian field of a header. -/
def hdrNat (h : List Byte) (o k : Nat) : Nat := leNat ((h.drop o).take k)

/-- MAJOR, MINOR and PATCH as journal word 2 shows them; 0 before the header has arrived. -/
def hdrVersion (h : List Byte) : Nat := hdrNat h 10 2 + 0x10000 * hdrNat h 9 1 + 0x1000000 * hdrNat h 8 1
def hdrSecver (h : List Byte) : Nat := hdrNat h 12 4
def hdrSetfmt (h : List Byte) : Nat := hdrNat h 16 2

/-- The header of the active bank: its last 512 bytes. -/
def State.activeHeader (s : State) : List Byte := (List.range 128).flatMap fun k => leBytes 4 (s.flashWord (2 ^ 20 - 128 + k)).toNat

/-- A journal record; SVC_USTAT.CODE shows its code (R518). -/
def journalAdd (ev code : Nat) (s : State) : State :=
  let h := s.svc.header
  let w : List Word := [word (ev + 0x10 * code + 0x100 * s.getF F.SVC_USTAT_PAGES 0), word s.svc.jseq, word (hdrVersion h), word (hdrSecver h),
    word (hdrSetfmt h + 0x10000 * (s.svc.setFmt % 65536))] ++ timeWords s.recTime
  { s with svc := { s.svc with journal := (w :: s.svc.journal).take 32, jseq := s.svc.jseq + 1 } }.setF F.SVC_USTAT_CODE 0 code

/-- The inactive bank is marked empty, and what was received of an image is dropped. -/
def bankEmptied (s : State) : State :=
  { s with svc := { s.svc with bankEmpty := true, header := [], received := 0, part := [] } }.setF F.SVC_USTAT_PAGES 0 0

/-- BEGIN (R514). -/
def updBegin (s : State) : Code × State :=
  if ¬ (s.updState = 0 ∨ s.updState = 5 ∨ s.updState = 6) ∨ s.entering then (.state, s)
  else (.accepted, updTo 1 (journalAdd 1 0 (bankEmptied s)))

/-- The bank is erased. -/
def updErased (s : State) : State :=
  if s.updState ≠ 1 then s
  else
    let bank := 1 - s.flashBank
    updTo 2 (journalAdd 2 0 { s with flash := s.flash.filter fun p => p.1 / 2 ^ 20 != bank })

/-- Words of the inactive bank from a word address on, from little-endian bytes. -/
def bankProgram (a : Nat) (bytes : List Byte) (s : State) : State :=
  let base := (1 - s.flashBank) * 2 ^ 20 + a
  (bytesWords ((bytes.length + 3) / 4) bytes).zipIdx.foldl
    (fun t p => { t with flash := tabSet flashBlank t.flash (base + p.2) p.1 }) s

/-- Whole pages of the bytes that have arrived are programmed, at most `fuel` of them. -/
def pagesProgram : Nat → State → State
  | 0, s => s
  | fuel + 1, s =>
    if s.svc.part.length < 4096 then s
    else
      let k := s.getF F.SVC_USTAT_PAGES 0
      let s1 := bankProgram (1024 * k) (s.svc.part.take 4096) s
      pagesProgram fuel ({ s1 with svc := { s1.svc with part := s1.svc.part.drop 4096 } }.setF F.SVC_USTAT_PAGES 0 (k + 1))

/-- Bytes of the image arrive: the header first, then the body, page by page. -/
def imageBytes (data : List Byte) (s : State) : State :=
  let need := 512 - s.svc.received
  let s1 := { s with svc := { s.svc with
    header := s.svc.header ++ data.take need, part := s.svc.part ++ data.drop need, received := s.svc.received + data.length } }
  pagesProgram (data.length / 4096 + 1) s1

/-- A segment of 0x4D00:02 (R514): the abort that answers it, 0 without one. The last one also programs the header and commits. -/
def imageSegment (offset : Nat) (data : List Byte) (last : Bool) (s : State) : Nat × State :=
  let resume := 512 + 4096 * s.getF F.SVC_USTAT_PAGES 0
  if s.updState ≠ 2 ∧ s.updState ≠ 3 then (0x08000022, s)
  else if offset ≠ (if s.updState = 3 then resume else s.svc.received) then (0x08000020, s)
  else if 4190720 < offset + data.length then (0x06070012, s)
  else
    let s0 := if s.updState = 3 then { s with svc := { s.svc with part := [], received := resume } } else s
    let s1 := updTo 2 (imageBytes data s0)
    if ! last then (0, s1)
    else
      let s2 := bankProgram (1024 * s1.getF F.SVC_USTAT_PAGES 0) s1.svc.part s1
      (0, updTo 4 (bankProgram (2 ^ 20 - 128) s2.svc.header s2))

/-- The transfer is interrupted: by the end of its session or by a forced entry (R414, R514). `power` names the forced entry. -/
def updInterrupt (power : Bool) (s : State) : State :=
  if s.updState = 2 then updTo 3 (journalAdd 3 (if power then 10 else 11) { s with svc := { s.svc with part := [] } })
  else if s.updState = 1 ∧ power then updTo 0 (journalAdd 3 10 (bankEmptied s))
  else s

/-- ABANDON (R514). -/
def updAbandon (s : State) : Code × State :=
  if s.updState = 0 ∨ 6 < s.updState then (.state, s) else (.accepted, updTo 0 (bankEmptied (journalAdd 10 0 s)))

/-- The body of the image in the inactive bank, as read back. -/
def State.bankBody (s : State) : List Byte :=
  let h := s.svc.header
  (List.range ((hdrNat h 20 4 + hdrNat h 24 4) / 4)).flatMap fun k => leBytes 4 (s.flashWord (2 ^ 20 + k)).toNat

/-- The header check of R513: fixed fields, zero fields, lengths. -/
def headerOk (s : State) : Bool :=
  let h := s.svc.header
  let b := hdrNat h 20 4
  let a := hdrNat h 24 4
  hdrNat h 0 4 == 0x5854424F && hdrNat h 4 1 == 1 && hdrNat h 18 2 == 0 && ((h.drop 124).take 324).all (· == 0) &&
    decide (hdrNat h 6 1 < 8) && decide (hdrNat h 7 1 < 2) &&
    b != 0 && b % 4096 == 0 && a % 4096 == 0 && decide (a + b ≤ 4190208) && s.svc.received == 512 + a + b

/-- The bit of a variant in VARIANTS. -/
def variantBit : Variant → Nat
  | .px96 => 0
  | .px64 => 1
  | .px48 => 2

/-- The signatures of an image (R512, R513). -/
def imageSigned (s : State) : Bool :=
  let h := s.svc.header
  let body := s.bankBody
  let base := body.take (hdrNat h 20 4)
  let hash := (h.drop 28).take 32
  let slot := hdrNat h 5 1
  Config.sha256 base == hash &&
    Config.ecdsaOk (s.otp 0x28 64) (Config.sha256 ((h.drop 12).take 4 ++ hash)) ((h.drop 60).take 64) &&
    (slot == 0 || (slot == 1 && s.otpWritten 0x68)) &&
    Config.ecdsaOk (s.otp (if slot = 0 then 0x28 else 0x68) 64) (Config.sha256 (h.take 448 ++ body)) ((h.drop 448).take 64)

/-- The checks of R513 in order: the code of the first that fails, 0 if all pass. -/
def imageCode (s : State) : Nat :=
  let h := s.svc.header
  if ! headerOk s then 1
  else if ! bitOf (hdrNat h 6 1) (variantBit s.variant) then 2
  else if ! imageSigned s then 3
  else if 128 < hdrSecver h ∨ hdrSecver h < s.arbCount then 4
  else if hdrSetfmt h < s.svc.setFmt then 5
  else if s.ecc.any (fun p => decide (2 ^ 32 + (1 - s.flashBank) * 2 ^ 20 ≤ p.1 ∧ p.1 < 2 ^ 32 + (2 - s.flashBank) * 2 ^ 20)) then 6
  else 0

/-- The checks end. -/
def updVerified (s : State) : State :=
  if s.updState ≠ 4 then s
  else
    let c := imageCode s
    if c = 0 then updTo 5 { (journalAdd 4 0 s) with svc := { (journalAdd 4 0 s).svc with bankEmpty := false } }
    else updTo 6 (journalAdd 5 c s)

/-- The swap itself: the boot record names the other bank (R515). -/
def banksSwap (s : State) : State := { s with flashBank := 1 - s.flashBank }

/-- The trial's run time, ns. -/
def State.trialTime (s : State) : Nat :=
  s.svc.trialNs + (match s.svc.trialFrom with | some a => s.up - a | none => 0)

/-- The settings area in force. -/
def State.settings (s : State) : Settings :=
  { fmt := s.svc.setFmt, od := s.dict.storedOd, regs := s.dict.storedRegs, src := s.dict.storedSrc, slots := s.dict.storedSlots,
    alm := s.dict.storedAlm }

/-- The first settings area is in force again, where the trial's image ran on the second (R516, R517). -/
def settingsBack (s : State) : State :=
  match s.svc.oldSet with
  | none => s
  | some a =>
    { s with
      svc := { s.svc with setFmt := a.fmt, oldSet := none }
      dict := { s.dict with storedOd := a.od, storedRegs := a.regs, storedSrc := a.src, storedSlots := a.slots, storedAlm := a.alm } }

/-- The trial run time as saved last: what was counted since is lost with the Core domain (R516). -/
def trialLost (s : State) : State := { s with svc := { s.svc with trialNs := s.svc.trialSaved, trialFrom := none } }

/-- The trial run time stops: no core runs. -/
def trialPause (s : State) : State := { s with svc := { s.svc with trialNs := s.trialTime, trialFrom := none } }

/-- The trial run time runs on: logical core 0 runs. -/
def trialRun (s : State) : State :=
  if s.updState = 7 ∧ s.svc.trialFrom.isNone then { s with svc := { s.svc with trialFrom := some s.up } } else s

/-- A revert but for the restart of the cores (R517). -/
def updRevert (code : Nat) (s : State) : State :=
  let s1 := updTo 0 (journalAdd 9 code (settingsBack (banksSwap s)))
  { s1 with svc := { s1.svc with reverted := true, trialNs := 0, trialFrom := none, migrated := false } }

/-- A restart of the cores for another cause ends a trial (R514). -/
def trialRestarted (s : State) : State := if s.updState = 7 then updRevert 9 s else s

/-- CONFIRM or AUTOCONF (R516). -/
def updConfirm (s : State) : Code × State :=
  if s.updState ≠ 7 ∨ ! s.svc.migrated then (.state, s)
  else
    let s1 := journalAdd 8 0 (arbRaise (hdrSecver s.activeHeader) s)
    (.accepted, updTo 0 { s1 with svc := { s1.svc with oldSet := none, trialNs := 0, trialFrom := none, migrated := false } })

/-! ## Pairing (R520 to R523) -/

/-- The transport key unwraps the drive key of a record. -/
def State.unwrapDrive (s : State) (r : List Byte) : Option (List Byte) := Config.keyUnwrap (s.otp 0x18 16) ((r.drop 28).take 24)

/-- The cause that the checks of R521 give; `fresh` for a new record. -/
def pairCause (r : List Byte) (isNew : Bool) (s : State) : Nat :=
  let key := (r.drop 56).take 64
  if r.length ≠ 184 ∨ beNat (r.take 2) ≠ 1 then 1
  else if ! Config.ecdsaOk key (Config.sha256 (r.take 120)) (r.drop 120) then 2
  else if (r.drop 20).take 8 ≠ s.serial then 3
  else if s.otpWritten 0xA8 ∧ s.otp 0xA8 64 ≠ key then 4
  else if (s.unwrapDrive r).isNone then 5
  else if isNew ∧ s.svc.record ≠ [] ∧ beNat ((r.drop 52).take 4) ≤ beNat ((s.svc.record.drop 52).take 4) then 6
  else 0

/-- SVC_STAT takes a cause and whether the module is paired. -/
def pairTo (cause : Nat) (paired : Bool) (s : State) : State := (s.setF F.SVC_STAT_CAUSE 0 cause).setB F.SVC_STAT_PAIRED 0 paired

def State.paired (s : State) : Bool := s.flag F.SVC_STAT_PAIRED 0

/-- A write of a pairing record (R522): whether it is stored. -/
def pairWrite (r : List Byte) (s : State) : Bool × State :=
  let c := pairCause r true s
  if c ≠ 0 then (false, s.setF F.SVC_STAT_CAUSE 0 c)
  else
    let s1 := if s.otpWritten 0xA8 then s else s.memBytesSet 0x480000A8 ((r.drop 56).take 64)
    (true, pairTo 0 true { s1 with svc := { s1.svc with record := r, driveKey := (s.unwrapDrive r).getD [] } })

/-- The check at a start of the cores ends (R522, R523). -/
def pairStartCheck (s : State) : State :=
  if ! s.svc.checking then s
  else
    let c := pairCause s.svc.record false s
    let s1 := pairTo c (c == 0) { s with svc := { s.svc with checking := false, driveKey := (s.unwrapDrive s.svc.record).getD [] } }
    if c = 0 then s1 else s1.emcyObj 0xFFB0 0 0x4D00 0x0A

end Sys2Proof.Machine
end

