-- ==== Sys2Proof/Machine/FaultCollection.lean ====
section
/-!
DEFINITION. Machine/FaultCollection.lean: pairs, the comparator test, resync, and the fault collection and reaction unit
(16_redundancy_faults.md, R460 to R488): sources, classes, reactions, SAFE, the fault log, the registers and the unit's commands.
-/
namespace Sys2Proof.Machine

/-! ## Sources (R470, R472) -/

/-- The bits of the reactions (R472). -/
def rLog : Nat := 1
def rIrq : Nat := 2
def rSwitch : Nat := 4
def rOff : Nat := 8
def rSafe : Nat := 16
def rReset : Nat := 32

/-- Defaults of a source: N, W in ms, MINOR and SEVERE reactions (R470). -/
def srcDefault (i : Nat) : Nat × Nat × Nat × Nat :=
  if i < 96 then (3, 3600000, 1, 3)
  else if i < 120 then (1, 3600000, 0, 3)
  else if i < 124 then (1, 1000, 0, 11)
  else if i < 128 then (1, 3600000, 0, 3)
  else if i < 130 then (2, 86400000, 7, 7)
  else if i = 130 then (1, 1, 0, 33)
  else if i = 131 then (1, 86400000, 0, 3)
  else if i < 136 then (1, 1000, 0, 33)
  else if i < 142 then (if i % 2 = 0 then (16, 86400000, 1, 3) else (1, 1000, 1, 3))
  else if i < 144 then (1, 1000, 0, 3)
  else if i < 152 then (1, 3600000, 0, 3)
  else if i < 160 then (1, 1000, 0, 3)
  else if i < 168 then (3, 60000, 1, 3)
  else if i = 168 then (1, 1000, 0, 3)
  else if i = 169 then (1, 1000, 0, 1)
  else if i = 170 then (1, 3600000, 0, 3)
  else if i < 173 then (1, 1000, 0, 19)
  else if i = 173 then (1, 1000, 0, 3)
  else if i = 174 then (3, 60000, 1, 3)
  else if i = 175 then (1, 1000, 0, 1)
  else (1, 1000, 0, 3)

/-- A source of a fitted resource (R470, R485). -/
def srcFitted (v : Variant) (i : Nat) : Bool :=
  if i < 96 then chanFitted v i
  else if i < 120 then valveFitted v (i - 96)
  else if i < 124 then feedFitted v (i - 120)
  else if i < 128 then feedFitted v (i - 124)
  else if i = 129 then pairBFitted v
  else if i = 143 then false
  else if 144 ≤ i ∧ i < 152 then ethFitted v (i - 144)
  else if 160 ≤ i ∧ i < 168 then canFitted v (i - 160)
  else decide (i < 192)

/-- A source with a resource that CHANNEL_OFF acts on. -/
def srcResource (i : Nat) : Bool := decide (i < 124) || (decide (144 ≤ i) && decide (i ≤ 168)) || i == 170

/-- The reactions allowed on a source. -/
def srcAllowed (i : Nat) : Nat :=
  rLog + rIrq + rSafe + rReset + (if i = 128 ∨ i = 129 then rSwitch else 0) + (if srcResource i then rOff else 0)

/-- The reactions forced on a source in a boot mode (R472). -/
def srcForced (v : Variant) (mode i : Nat) : Nat :=
  if i = 130 then rReset
  else if i = 128 ∨ i = 129 then (if mode = 0 ∧ pairBFitted v then rSwitch else if mode = 1 then rReset else 0)
  else 0

/-- A source. -/
def State.fsrc (s : State) (i : Nat) : FcruSrc := tabGet {} s.fcru.srcs i

def State.setFsrc (s : State) (i : Nat) (x : FcruSrc) : State := { s with fcru := { s.fcru with srcs := tabSet {} s.fcru.srcs i x } }

/-- The configuration held, as FCRU_SCFG shows it. -/
def State.srcCfg (s : State) (i : Nat) : Nat :=
  let d := srcDefault i
  (s.fsrc i).cfg.getD (d.1 + 0x100 * d.2.2.1 + 0x10000 * d.2.2.2)

def State.srcN (s : State) (i : Nat) : Nat := bitsOf (s.srcCfg i) 0 8
def State.srcMinor (s : State) (i : Nat) : Nat := bitsOf (s.srcCfg i) 8 6
def State.srcSevere (s : State) (i : Nat) : Nat := bitsOf (s.srcCfg i) 16 6

/-- The window in ms. -/
def State.srcWin (s : State) (i : Nat) : Nat := (s.fsrc i).win.getD (srcDefault i).2.1

/-- A set of reactions is within another. -/
def reactWithin (a b : Nat) : Bool := a ||| b == b

/-- The checks of a configuration (R472). -/
def srcCfgOk (v : Variant) (mode i w : Nat) : Bool :=
  let n := bitsOf w 0 8
  let minor := bitsOf w 8 6
  let severe := bitsOf w 16 6
  let forced := srcForced v mode i
  n != 0 && reactWithin minor (srcAllowed i) && reactWithin severe (srcAllowed i) && reactWithin forced severe &&
    (n == 1 || reactWithin forced minor)

/-- The forced bits are set in a source's configuration: at each start of the logical cores (R472). -/
def forceSource (s : State) (i : Nat) : State :=
  let f := srcForced s.variant s.bootMode i
  let w := s.srcCfg i
  let minor := if bitsOf w 0 8 = 1 then bitsOf w 8 6 else bitsOf w 8 6 ||| f
  let severe := bitsOf w 16 6 ||| f
  let w' := bitsOf w 0 8 + 0x100 * minor + 0x10000 * severe
  if w' = w then s else s.setFsrc i { s.fsrc i with cfg := some w' }

def forceAll (s : State) : State := [128, 129, 130].foldl forceSource s

/-! ## Restart of the cores (R429, R461, R468, R472) -/

/-- The pairs that a boot mode tests; none in QUAD. -/
def testedPairs (v : Variant) (mode : Nat) : List Nat := if mode = 2 then [] else if pairBFitted v then [0, 1] else [0]

/-- Every logical core restarts: the boot mode written for the next start comes into force, BTE transfers end, core-side requests and settings
return to reset, and the comparator test runs. What the cores sent before has left them. The module is unpaired until its record has been
checked again (R522), the drive-enable counter resumes above its saved value (R501), and a trial's run time stops (R516). -/
def coresReset (s0 : State) : State :=
  let mode := s0.getF F.FCRU_BOOTNX_NEXT 0
  let s := { (trialPause s0).setB F.SVC_STAT_PAIRED 0 false with
    svc := { (trialPause s0).svc with checking := true }
    acc := { s0.acc with deCount := s0.acc.deSaved + 65536 } }
  let s1 := bteStopAll 3 s
  let s2 := ((s1.setF F.FCRU_PSTAT_MODE 0 mode).setF F.FCRU_PSTAT_SWOVERS 0 0).setF F.FCRU_MISC_COUNT 0 0
  let s3 := s2.setF F.FCRU_PSTAT_RSYNC 0 0
  let run : CoreRun := if mode = 2 then .ready else .starting
  let s4 := (List.range 4).foldl (fun t c => t.setCo c { run := if c < coreCount s.variant mode then run else .stopped }) s3
  let s5 := { s4 with
    irq := s4.irq.filter fun p => p.1 < 64
    regs := s4.regs.filter fun p => p.1 % 512 != Reg.ctorIdx .CORE_IRQ
    fcru := { s4.fcru with restarting := true, testing := mode != 2 } }
  forceAll (dictRestart s5)

/-- A restart of the cores by a reaction, which also reverts a trial (R514, R517). -/
def coresRestart (s : State) : State := coresReset (trialRestarted s)

/-- The EMCYs that a start of the cores brings: a restart by RESET_CORE, a reverted update, an Odometer without its counts (R487, R517, R526). -/
def startEmcys (s : State) : State :=
  let s1 := if s.fcru.resetCore then s.emcyObj 0xFFA4 0 0x4A00 4 else s
  let s2 := if s1.svc.reverted then { (s1.emcyObj 0xFFB1 0 0x4D00 8) with svc := { s1.svc with reverted := false } } else s1
  let s2 := ((s2.setB F.ODO_STAT_COPYLOSS 0 (s2.svc.copyA.valid != s2.svc.copyB.valid)).setB F.ODO_STAT_FRESH 0
    (! s2.svc.copyA.valid && ! s2.svc.copyB.valid)).setB F.ODO_STAT_KEEPLOSS 0 s2.svc.keepLoss
  let s3 := if s2.flag F.ODO_STAT_FRESH 0 then s2.emcyObj 0xFFB2 0 0x4C00 1 else s2
  if s3.flag F.ODO_STAT_KEEPLOSS 0 then s3.emcyObj 0xFFB2 0 0x4C00 1 else s3

/-- The start of a logical core that is ready (R429). -/
def coreBegin (c : Nat) (s : State) : State :=
  if (s.co c).run != .ready || ! s.dom.core then s
  else
    let s1 := coreStart c (if c = 0 then trialRun s else s)
    let s2 := if s1.fcru.restarting then startEmcys s1 else s1
    { s2 with fcru := { s2.fcru with restarting := false, resetCore := false } }

/-- One pair's result of the comparator test. -/
def testResult (pair : Nat) (lane : Option Nat) (s : State) : State :=
  let pass := lane.isNone
  let s1 := if pair = 0 then (s.setB F.FCRU_PSTAT_AIN 0 pass).setB F.FCRU_PSTAT_AFAIL 0 (! pass)
    else (s.setB F.FCRU_PSTAT_BIN 0 pass).setB F.FCRU_PSTAT_BFAIL 0 (! pass)
  match lane with
  | none => s1
  | some l => s1.raise 131 (0x10000 * pair + l)

/-- A pair is in service. -/
def State.pairIn (s : State) (pair : Nat) : Bool :=
  if pair = 0 then s.flag F.FCRU_PSTAT_AIN 0 else s.flag F.FCRU_PSTAT_BIN 0 && pairBFitted s.variant

/-- The comparator test ends (R468): pairs that pass start their cores; with none passing it is repeated. -/
def testComplete (a b : Option Nat) (s : State) : State :=
  if ! s.fcru.testing then s
  else
    let pairs := testedPairs s.variant s.bootMode
    let s1 := pairs.foldl (fun t p => testResult p (if p = 0 then a else b) t) s
    let s2 := { s1 with fcru := { s1.fcru with testing := false } }
    let okA := s2.pairIn 0
    let okB := s2.pairIn 1 && pairs.contains 1
    let s3 := s2.setB F.FCRU_PSTAT_ACTIVE 0 (! okA && okB)
    if ! okA && ! okB then s3
    else if s.bootMode = 1 then
      (s3.setCo 0 { s3.co 0 with run := if okA then .ready else .stopped }).setCo 1 { s3.co 1 with run := if okB then .ready else .stopped }
    else s3.setCo 0 { s3.co 0 with run := .ready }

/-! ## Reactions (R470, R472 to R474) -/

/-- A channel is switched off into LOCKED_OFF by CHANNEL_OFF; no channel source follows, EMCY 0xFF40 does (R470). -/
def chanLockOff (n : Nat) (s : State) : State :=
  if ! chanFitted s.variant n || s.chState n == 7 then s
  else lockOff n false (stageLeft n 7 (stageOff n 1 false s))

/-- CHANNEL_OFF on a valve (R470). -/
def valveLockOff (v : Nat) (s : State) : State := enSet v false ((cutEvent v 3 s).unhold .VLV_MODE v)

/-- CHANNEL_OFF acts on a source's resource (R470). -/
def resourceOff (i : Nat) (s : State) : State :=
  if i < 96 then chanLockOff i s
  else if i < 120 then valveLockOff (i - 96) s
  else if i < 124 then
    ((feedChans (i - 120)).filter fun n => decide (s.prio n < 7)).foldl (fun t n => chanLockOff n t) s
  else if 144 ≤ i ∧ i < 152 then s.setB F.ETH_PCFG_EN (i - 144) false
  else if 152 ≤ i ∧ i < 160 then
    let t := twUpdate s (wcuStop (i - 152) s)
    { t with wcuBlocked := tabSet false t.wcuBlocked (i - 152) true }
  else if 160 ≤ i ∧ i < 168 then configEnter (i - 160) s
  else if i = 168 then { s with fioForced := true }
  else if i = 170 then boostOff { s with boostCut := true }
  else s

/-- A source is acknowledged: what its CHANNEL_OFF holds is released (R470). -/
def acknowledge (i : Nat) (s : State) : State :=
  let w := i / 32
  let s1 := s.setB ⟨.FCRU_PEND, i % 32, 1⟩ w false
  if 152 ≤ i ∧ i < 160 then { s1 with wcuBlocked := tabSet false s1.wcuBlocked (i - 152) false }
  else if i = 168 then { s1 with fioForced := false }
  else if i = 170 then { s1 with boostCut := false }
  else s1

def State.srcPending (s : State) (i : Nat) : Bool := s.flag ⟨.FCRU_PEND, i % 32, 1⟩ (i / 32)

/-- SAFE is raised by a source (R474). -/
def safeReact (i : Nat) (s : State) : State :=
  let s1 := { s with fcru := { s.fcru with safeBy := if s.fcru.safeBy.contains i then s.fcru.safeBy else i :: s.fcru.safeBy } }
  if s1.flag F.FCRU_STAT_SAFE 0 then s1
  else
    let s2 := (s1.setB F.FCRU_STAT_SAFE 0 true).setF F.FCRU_STAT_SAFESRC 0 i
    (valvesSafe (safeRaiseAll s2)).emcyObj 0xFFA1 0 0x4A00 4

/-- A fault record (R475). -/
def faultRecord (i sev reactions count : Nat) (info : Word) (s : State) : State :=
  let t := s.recTime
  let w0 := i + 0x100 * sev + 0x200 * reactions + 0x8000 * b01 t.2.2 + 0x10000 * count + 0x1000000 * ((s.q .faultLog).seq % 256)
  s.offer .faultLog ([word w0, info] ++ timeWords t)

/-- The reactions that act: SWITCHOVER has an effect only in SAFE mode with two pairs (R472). -/
def actingReactions (s : State) (r : Nat) : Nat :=
  if bitOf r 2 && ! (s.bootMode == 0 && pairBFitted s.variant) then r - rSwitch else r

/-- The reactions of an event (R472, R478). SWITCHOVER is carried out by the miscompare itself (R464). -/
def react (i sev r count : Nat) (info : Word) (s : State) : State :=
  let s1 := if bitOf r 3 then resourceOff i s else s
  let s2 := if bitOf r 4 then safeReact i s1 else s1
  let s3 := if bitOf r 0 then faultRecord i sev r count info s2 else s2
  let s4 := if bitOf r 1 then s3.request 37 else s3
  if bitOf r 5 then let t := coresRestart s4; { t with fcru := { t.fcru with resetCore := true } } else s4

/-- An event of a source (R471, R473): lost while a reaction of the source is in progress. -/
def fcruEvent (i : Nat) (info : Word) (s : State) : State :=
  let x := s.fsrc i
  if ! srcFitted s.variant i || x.busy then s
  else
    let count := if x.winEnd.isSome then sat 255 (x.count + 1) else 1
    let severe := decide (s.srcN i ≤ count)
    let r := actingReactions s (if severe then s.srcSevere i else s.srcMinor i)
    let y := { x with
      count := count, severe := severe, busy := r != 0, events := sat 0xFFFFFFFF (x.events + 1), info := info,
      winEnd := if x.winEnd.isSome then x.winEnd else some (s.up + s.srcWin i * 1000000) }
    let s1 := (s.setFsrc i y).setB ⟨.FCRU_PEND, i % 32, 1⟩ (i / 32) true
    let s2 := if severe then s1.setB ⟨.FCRU_SEV, i % 32, 1⟩ (i / 32) true else s1
    let s3 := (s2.countF F.FCRU_STAT_EVENTS 0).odoCount 10 i 0 1
    let s4 := react i (b01 severe) r count info s3
    if severe then s4.emcyObj 0xFFA0 0 0x4A00 (0x40 + i) else s4

/-- The oldest raised source is taken. -/
def fcruTake (s : State) : State :=
  match s.raised with
  | [] => s
  | (i, info) :: l => fcruEvent i info { s with raised := l }

/-- Sources whose condition arises outside what the model's commands bring about: ECC, parity, the boost capacitor, crystals. -/
def srcOutside (i : Nat) : Bool := (decide (136 ≤ i) && decide (i < 142)) || (decide (152 ≤ i) && decide (i < 160)) || (decide (170 ≤ i) && decide (i < 174))

/-- A window ends (R471). -/
def windowEnd (i : Nat) (s : State) : State :=
  if (s.fsrc i).winEnd.isSome then s.setFsrc i { s.fsrc i with winEnd := none, count := 0, severe := false } else s

/-- SAFE is cleared, if no source whose SAFE reaction has acted is pending (R474). -/
def safeClear (s : State) : Code × State :=
  if s.fcru.safeBy.any fun i => s.srcPending i then (.state, s)
  else
    let s1 := { s with fcru := { s.fcru with safeBy := [] } }
    let s2 := (s1.setB F.FCRU_STAT_SAFE 0 false).setF F.FCRU_STAT_SAFESRC 0 0
    (.accepted, if s.flag F.FCRU_STAT_SAFE 0 then safeClearAll s2 else s2)

/-! ## Miscompares and resync (R464 to R467) -/

/-- The pair that runs logical core 0 in SAFE: 0 for A, 1 for B. -/
def State.activePair (s : State) : Nat := s.getF F.FCRU_PSTAT_ACTIVE 0

def pairOut (pair : Nat) (s : State) : State :=
  if pair = 0 then s.setB F.FCRU_PSTAT_AIN 0 false else s.setB F.FCRU_PSTAT_BIN 0 false

/-- A logical core stops fetching. -/
def coreStop (c : Nat) (s : State) : State := s.setCo c { s.co c with run := .stopped }

/-- A pair miscompares on a lane (R464, R465). -/
def miscompare (pair lane : Nat) (s : State) : State :=
  if s.bootMode = 2 ∨ ! s.pairIn pair ∨ ! s.dom.core then s
  else
    let spare := s.bootMode == 0 && s.activePair != pair
    let s1 := ((s.setF F.FCRU_MISC_LANE 0 lane).setB F.FCRU_MISC_PAIR 0 (pair == 1)).setB F.FCRU_MISC_SPARE 0 spare
    let s2 := s1.countF F.FCRU_MISC_COUNT 0
    if s.bootMode = 1 then coreStop pair (s2.raise (128 + pair) lane)
    else if spare then pairOut pair (s2.raise (128 + pair) lane)
    else if s.pairIn (1 - pair) then
      let s3 := ((pairOut pair s2).setF F.FCRU_PSTAT_ACTIVE 0 (1 - pair)).countF F.FCRU_PSTAT_SWOVERS 0
      (s3.raise (128 + pair) lane).emcyObj 0xFFA2 0 0x4B00 1
    else coreStop 0 (s2.raise 130 lane)

/-- A division in progress completes (R438). -/
def divideComplete (c : Nat) (s : State) : State :=
  match (s.co c).div with
  | none => s
  | some (q, r) => s.setCo c { s.co c with quo := q, rem := r, div := none }

/-- A resync is asked for (R466, R467). -/
def resyncStart (s : State) : Code × State :=
  if ! pairBFitted s.variant then (.absent, s)
  else if s.bootMode ≠ 0 ∨ (s.pairIn 0 ∧ s.pairIn 1) ∨ s.getF F.FCRU_PSTAT_RSYNC 0 = 1 ∨ s.entering then (.state, s)
  else
    let s1 := s.setF F.FCRU_PSTAT_RSYNC 0 1
    (.accepted, if (s1.co 0).run = .running then s1.setCo 0 { s1.co 0 with run := .stalled } else s1)

/-- The steps of a resync end (R466): with the pair back and pair A active, or with the pair still out. -/
def resyncEnd (failed : Option Nat) (s : State) : State :=
  if s.getF F.FCRU_PSTAT_RSYNC 0 ≠ 1 then s
  else
    let pair := if s.pairIn 0 then 1 else 0
    let s1 := divideComplete 0 s
    let s2 := if (s1.co 0).run = .stalled then s1.setCo 0 { s1.co 0 with run := .running } else s1
    let s3 := match failed with
      | none =>
        let t := if pair = 0 then (s2.setB F.FCRU_PSTAT_AIN 0 true).setB F.FCRU_PSTAT_AFAIL 0 false
          else (s2.setB F.FCRU_PSTAT_BIN 0 true).setB F.FCRU_PSTAT_BFAIL 0 false
        (t.setF F.FCRU_PSTAT_ACTIVE 0 0).setF F.FCRU_PSTAT_RSYNC 0 2
      | some l =>
        let t := if pair = 0 then s2.setB F.FCRU_PSTAT_AFAIL 0 true else s2.setB F.FCRU_PSTAT_BFAIL 0 true
        (t.setF F.FCRU_PSTAT_RSYNC 0 3).raise 131 (0x10000 * pair + l)
    s3.emcyObj 0xFFA3 0 0x4B00 1

/-! ## Registers (R484) -/

/-- The source that a master has selected. -/
def State.fcruSel (s : State) (m : Master) : Nat := s.getF F.FCRU_SEL_SRC (bk m 0)

/-- The pending sources of a written word are acknowledged. -/
def pendClear (w : Nat) (v : Word) (s : State) : State := (onesUpTo 32 v.toNat).foldl (fun t b => acknowledge (32 * w + b) t) s

/-- A write of FCRU_SCFG: checked whole (R472). -/
def scfgWrite (i : Nat) (v : Word) (s : State) : Code × State :=
  if ! srcFitted s.variant i then (.absent, s)
  else if reservedSet .FCRU_SCFG v || ! srcCfgOk s.variant s.bootMode i v.toNat then (.invalid, s)
  else (.accepted, s.setFsrc i { s.fsrc i with cfg := some v.toNat })

/-- A write of FCRU_SWIN. -/
def swinWrite (i : Nat) (v : Word) (s : State) : Code × State :=
  if ! srcFitted s.variant i then (.absent, s)
  else if v.toNat = 0 ∨ 86400000 < v.toNat then (.invalid, s)
  else (.accepted, s.setFsrc i { s.fsrc i with win := some v.toNat })

/-- A write of FCRU_BOOTNX (R460, R461). -/
def bootnxWrite (v : Word) (s : State) : Code × State :=
  if reservedSet .FCRU_BOOTNX v ∨ v.toNat = 3 then (.invalid, s)
  else if v.toNat = 1 ∧ s.variant = .px48 then (.absent, s)
  else (.accepted, s.wr .FCRU_BOOTNX 0 v)

/-- A write of an FCRU register: code, source concerned, state. -/
def fcruWrite (m : Master) (r : Reg) (n : Nat) (v : Word) (s : State) : Code × Nat × State :=
  let sel := s.fcruSel m
  match r with
  | .FCRU_CTRL =>
    if reservedSet r v then (.invalid, 0, s)
    else if v = 0 then (.accepted, 0, s)
    else let p := safeClear s; (p.1, 0, p.2)
  | .FCRU_PEND => (.accepted, 0, pendClear n v s)
  | .FCRU_SEV => (.accepted, 0, s.wr r n (s.rd r n &&& ~~~ v))
  | .FCRU_SEL =>
    if 191 < v.toNat then (.invalid, v.toNat % 256, s)
    else if ! srcFitted s.variant v.toNat then (.absent, v.toNat, s)
    else (.accepted, v.toNat, s.wr r (bk m 0) v)
  | .FCRU_SCFG => let p := scfgWrite sel v s; (p.1, sel, p.2)
  | .FCRU_SWIN => let p := swinWrite sel v s; (p.1, sel, p.2)
  | .FCRU_RAISE =>
    if reservedSet r v then (.invalid, 176 + F.FCRU_RAISE_SRC.of v, s)
    else (.accepted, 176 + F.FCRU_RAISE_SRC.of v, s.raise (176 + F.FCRU_RAISE_SRC.of v) (F.FCRU_RAISE_INFO.of v))
  | .FCRU_LOGSTAT => if reservedSet r v then (.invalid, 0, s) else (.accepted, 0, if F.FCRU_LOGSTAT_LOST_CLR.on v then s.clearLost .faultLog else s)
  | .FCRU_VSEL => if reservedSet r v then (.invalid, 0, s) else (.accepted, 0, s.wr r (bk m 0) v)
  | .FCRU_RSYNC =>
    if reservedSet r v then (.invalid, 0, s)
    else if v = 0 then (.accepted, 0, s)
    else let p := resyncStart s; (p.1, 0, p.2)
  | .FCRU_BOOTNX => let p := bootnxWrite v s; (p.1, 0, p.2)
  | _ => (.accepted, 0, s)

/-- A write that reaches an FCRU register: FCRU_RESULT has the source in [15:8]. -/
def fcruAccess (m : Master) (r : Reg) (n : Nat) (v : Word) (s : State) : State :=
  let p := fcruWrite m r n v s
  (p.2.2.wr .FCRU_RESULT (bk m 0) (word (p.1.num + 0x100 * p.2.1 + 0x10000 * r.addr n))).emit (.written m (r.addr n) p.1)

/-- FCRU_SSTAT of a source. -/
def srcStat (i : Nat) (s : State) : Word :=
  let x := s.fsrc i
  word (x.count + 0x100 * b01 x.severe + 0x200 * b01 x.busy + 0x400 * b01 (s.srcPending i))

/-- FCRU_STAT with BUSY. -/
def fcruStat (s : State) : Word := putBits (s.rd .FCRU_STAT 0) 9 1 (b01 (s.fcru.srcs.any fun p => p.2.busy))

/-- FCRU_VSTAT with the partners muted now. -/
def fcruVstat (s : State) : Word := putBits (s.rd .FCRU_VSTAT 0) 24 5 (s.fcru.partners.filter (·.muted)).length

/-- FCRU_PSTAT; on the PX-48 pair B is never in service. -/
def fcruPstat (s : State) : Word := putBits (s.rd .FCRU_PSTAT 0) 2 1 (b01 (s.pairIn 1))

/-- A read of an FCRU register. -/
def fcruRead (m : Master) (r : Reg) (n : Nat) (s : State) : Word × State :=
  let sel := s.fcruSel m
  match r with
  | .FCRU_CTRL | .FCRU_RAISE | .FCRU_RSYNC | .FCRU_INJ => (0, s)
  | .FCRU_STAT => (fcruStat s, s)
  | .FCRU_SEL | .FCRU_RESULT | .FCRU_VSEL => (s.rd r (bk m 0), s)
  | .FCRU_SCFG => (word (s.srcCfg sel), s)
  | .FCRU_SWIN => (word (s.srcWin sel), s)
  | .FCRU_SSTAT => (srcStat sel s, s)
  | .FCRU_SCNT => (word (s.fsrc sel).events, s)
  | .FCRU_SINFO => ((s.fsrc sel).info, s)
  | .FCRU_LOG => s.readWindow .faultLog 5 n
  | .FCRU_LOGSTAT => (word ((s.q .faultLog).recs.length + 0x10000 * (s.q .faultLog).lost), s)
  | .FCRU_VREC => ((s.fcru.vlog.getD (s.getF F.FCRU_VSEL_REC (bk m 0)) []).getD n 0, s)
  | .FCRU_VSTAT => (fcruVstat s, s)
  | .FCRU_PSTAT => (fcruPstat s, s)
  | _ => (s.rd r n, s)

/-! ## Debug (R469) -/

/-- The JTAG port offers debug on a logical core: in service mode, at the debug positions of the boot mode, with pair A in service in SAFE. -/
def State.debugOn (s : State) (c : Nat) : Bool :=
  s.flag F.SVC_STAT_MODE 0 && s.coreThere c && s.dom.core && (s.bootMode != 0 || s.pairIn 0)

/-! ## Commands -/

/-- PAIR_MISCOMPARE (R464, R465). -/
def execPairMiscompare (pair : Fin 2) (lane : Fin 304) (s : State) : Host.Outcome State Fault Refusal := ok s (miscompare pair.val lane.val s)

/-- GO (R466, R467): a write of FCRU_RSYNC. -/
def execFcruRsyncGo (m : Master) (v : Word) (s : State) : Host.Outcome State Fault Refusal := ok s (fcruAccess m .FCRU_RSYNC 0 v s)

/-- RESYNC_COMPLETE (R466). -/
def execResyncComplete (failed : Option (Fin 304)) (s : State) : Host.Outcome State Fault Refusal := ok s (resyncEnd (failed.map (·.val)) s)

/-- COMPARATOR_TEST_COMPLETE (R468). -/
def execComparatorTestComplete (a b : Option (Fin 304)) (s : State) : Host.Outcome State Fault Refusal :=
  ok s (testComplete (a.map (·.val)) (b.map (·.val)) s)

/-- COMPARATOR_TEST_RETRY (R468): with no pair passing, the test runs again. -/
def execComparatorTestRetry (s : State) : Host.Outcome State Fault Refusal :=
  ok s (if (s.co 0).run = .starting ∧ s.bootMode ≠ 2 then { s with fcru := { s.fcru with testing := true } } else s)

/-- CORE_START (R429). -/
def execCoreStart (c : Fin 4) (s : State) : Host.Outcome State Fault Refusal := ok s (coreBegin c.val s)

/-- DEBUG_HALT (R469). -/
def execDebugHalt (c : Fin 4) (s : State) : Host.Outcome State Fault Refusal :=
  ok s (if s.debugOn c.val && (s.co c.val).run == .running then s.setCo c.val { s.co c.val with run := .halted } else s)

/-- DEBUG_RESUME (R469). -/
def execDebugResume (c : Fin 4) (s : State) : Host.Outcome State Fault Refusal :=
  ok s (if (s.co c.val).run = .halted then s.setCo c.val { s.co c.val with run := .running } else s)

/-- FCRU_SOURCE_EVENT (R470, R471): the oldest source raised by the module's units, or one whose condition arises outside them. -/
def execFcruSourceEvent (outside : Option (Fin 192 × Word)) (s : State) : Host.Outcome State Fault Refusal :=
  ok s (match outside with
    | none => fcruTake s
    | some p => if srcOutside p.1.val then fcruEvent p.1.val p.2 s else s)

/-- FCRU_WINDOW_END (R471). -/
def execFcruWindowEnd (src : Fin 192) (s : State) : Host.Outcome State Fault Refusal := ok s (windowEnd src.val s)

/-- SAFECLR (R474): a write of FCRU_CTRL. -/
def execFcruSafeclr (m : Master) (v : Word) (s : State) : Host.Outcome State Fault Refusal := ok s (fcruAccess m .FCRU_CTRL 0 v s)

/-- FCRU_PEND_CLEAR (R470). -/
def execFcruPendClear (m : Master) (w : Fin 6) (v : Word) (s : State) : Host.Outcome State Fault Refusal := ok s (fcruAccess m .FCRU_PEND w.val v s)

/-- FCRU_RAISE (R484). -/
def execFcruRaise (m : Master) (v : Word) (s : State) : Host.Outcome State Fault Refusal := ok s (fcruAccess m .FCRU_RAISE 0 v s)

/-- FCRU_SCFG (R472). -/
def execFcruScfg (m : Master) (v : Word) (s : State) : Host.Outcome State Fault Refusal := ok s (fcruAccess m .FCRU_SCFG 0 v s)

/-- FCRU_LOG0_READ (R475). -/
def execFcruLog0Read (m : Master) (s : State) : Host.Outcome State Fault Refusal :=
  ok s (State.answerRead m (Reg.addr .FCRU_LOG 0) (fcruRead m .FCRU_LOG 0 s))

/-- FCRU_LOG4_READ (R475). -/
def execFcruLog4Read (m : Master) (s : State) : Host.Outcome State Fault Refusal :=
  ok s (State.answerRead m (Reg.addr .FCRU_LOG 4) (fcruRead m .FCRU_LOG 4 s))

/-- FCRU_LOG_LOST_CLR (R484). -/
def execFcruLogLostClr (m : Master) (v : Word) (s : State) : Host.Outcome State Fault Refusal := ok s (fcruAccess m .FCRU_LOGSTAT 0 v s)

/-- FAULT_LOG_RECORD_READ (R485). -/
def execFaultLogRecordRead (p : DPath) (s : State) : Host.Outcome State Fault Refusal := ok s (headRead p 0x4A00 9 .faultLog s)

/-- MUTE_END (R481): the partner is no longer muted, and its count restarts. -/
def execMuteEnd (iface who : Nat) (s : State) : Host.Outcome State Fault Refusal :=
  ok s { s with fcru := { s.fcru with partners := s.fcru.partners.map fun p =>
    if p.iface == iface && p.who == who && p.muted then { p with muted := false, times := [] } else p } }

/-- FCRU_REACTION_COMPLETE (R473). -/
def execFcruReactionComplete (src : Fin 192) (s : State) : Host.Outcome State Fault Refusal := ok s (s.setFsrc src.val { s.fsrc src.val with busy := false })

end Sys2Proof.Machine
end

