-- ==== Sys2Proof/Machine/Access.lean ====
section
/-!
DEFINITION. Machine/Access.lean: cab access (17_cab_access.md, R489 to R509): triggers, attempts, rounds and their judgement, the rolling counter,
sessions, drive enable, antenna calibration, the ACC registers, and the unit's commands.
-/
namespace Sys2Proof.Machine

/-! ## Small things -/

def State.accState (s : State) : Nat := s.getF F.ACC_STAT_STATE 0
def accTo (st : Nat) (s : State) : State := s.setF F.ACC_STAT_STATE 0 st
def State.token (s : State) (t : Nat) : Option Token := tabGet none s.acc.tokens t
def State.accSlot (s : State) (k : Nat) : AccSlot := tabGet {} s.acc.slots k
def State.accCand (s : State) (t : Nat) : Option Nat := tabGet none s.acc.cand t
def setCand (t : Nat) (c : Option Nat) (s : State) : State := { s with acc := { s.acc with cand := tabSet none s.acc.cand t c } }
def State.ignHigh (s : State) : Bool := s.flag F.NET_STAT_IGN 0
def State.driveEnabled (s : State) : Bool := s.flag F.ACC_STAT_DE 0

/-- The unit is there and powered. -/
def State.accOn (s : State) : Bool := accFitted s.variant && s.dom.comms

/-! ## Records (R498) -/

/-- A record of an attempt or a session end; it raises line 34. -/
def accRecord (kind code : Nat) (s : State) : State :=
  let a := s.acc
  let who := match a.near with | some p => p.1 | none => 0
  let cm : Nat := match a.near with | some p => codeOf 16 (clampInt (-32768) 32767 p.2) | none => 0x7FFF
  let used := if code = 8 ∨ code = 9 then s.used else s
  let rounds := if kind = 0 ∧ (code = 8 ∨ code = 9) then Config.calRounds s.fresh else a.rounds
  let w0 := word (kind + 2 * code + 0x20 * a.ant + 0x40 * who + 0x1000 * (rounds % 8) + 0x8000 * b01 a.lockna + 0x10000 * (a.recSeq % 65536))
  { used with acc := { a with recs := (([w0, word cm] ++ timeWords s.recTime) :: a.recs).take 16, recSeq := a.recSeq + 1 } }.request 34

/-! ## The lock action (R500) -/

/-- The lock output takes a level: whether it was applied. -/
def lockOutput (type index : Nat) (on : Bool) (s : State) : Bool × State :=
  if type = 1 then
    if s.src index ≠ 0 ∨ ! chanFitted s.variant index then (false, s)
    else
      let w := word (2 ^ (index % 32))
      let r := if on then latsWrite (index / 32) w s else latcWrite (index / 32) w s
      (r.1 == .accepted, r.2.2)
  else if type = 2 then
    if ! fioFitted s.variant index || ! s.fioIsOut index then (false, s)
    else
      let r := fieldItem (2 ^ index) (if on then 2 ^ index else 0) s
      (r.1 != 0, r.2)
  else (true, s)

/-- The lock action at a grant. -/
def lockApply (s : State) : State :=
  let type := s.getF F.ACC_LOCK_TYPE 0
  let index := s.getF F.ACC_LOCK_INDEX 0
  let r := lockOutput type index true s
  let s1 := { r.2 with acc := { r.2.acc with lockna := ! r.1, lock := if r.1 then some (type, index) else none } }
  s1.setB F.ACC_STAT_LOCK 0 (r.1 && type != 0)

/-- The lock action withdrawn at the end of a session: of the output that the grant switched. -/
def lockWithdraw (s : State) : State :=
  match s.acc.lock with
  | none => s
  | some (type, index) =>
    let r := lockOutput type index false s
    { r.2 with acc := { r.2.acc with lockna := ! r.1, lock := none } }.setB F.ACC_STAT_LOCK 0 false

/-! ## Drive enable (R501, R502) -/

/-- A drive-enable frame; none while its channel cannot send. -/
def driveFrame (enabled : Bool) (s : State) : State :=
  let ch := s.deCh
  if ! s.canOn ch || ! s.canSends ch then s
  else
    let id := s.getF F.ACC_DE_DEID 0
    let data : List Byte := (leBytes 4 s.acc.deCount).reverse ++ [byte (b01 enabled), byte s.acc.deToken, 0, 0]
    { s with acc := { s.acc with deCount := (s.acc.deCount + 1) % 2 ^ 32 } }.emit
      (.canFdFrame ch id (data ++ Config.driveTag s.svc.driveKey id data))

/-- Drive enable is latched, and its first frame leaves. -/
def driveLatch (t : Nat) (s : State) : State :=
  driveFrame true ({ s with acc := { s.acc with deToken := t, deWait := true, withdraw := 0 } }.setB F.ACC_STAT_DE 0 true)

/-- Drive enable clears: three WITHDRAWN frames follow. -/
def driveClear (s : State) : State :=
  if s.driveEnabled then { s with acc := { s.acc with deWait := false, withdraw := 3 } }.setB F.ACC_STAT_DE 0 false else s

/-! ## Attempts (R491, R492) -/

/-- A trigger starts an attempt only then. -/
def State.attemptOk (s : State) : Bool :=
  s.accOn && s.flag F.ACC_CFG_EN 0 && s.paired && s.accState == 0 && ! s.entering

/-- What an attempt or a calibration starts from: the wake train on its antenna. -/
def trainStart (st ant : Nat) (s : State) : State :=
  (accTo st { s with acc := { s.acc with
    ant := ant, train := true, rounds := 0, collisions := 0, due := false, inRound := false, slots := [], cand := [], near := none,
    calTof := [], calBad := false, lockna := false } }).emit (.uwbTrain ant)

/-- A trigger from an input, the schedule or a wake. -/
def accTrigger (ant : Nat) (s : State) : State := if s.attemptOk then trainStart 1 ant s else s

/-- A round begins with its POLL and a fresh nonce. -/
def roundStart (s : State) : State :=
  let nonce := (List.range 16).map fun i => Config.randomByte (16 * s.fresh + i)
  { s.used with acc := { s.acc with
      train := false, due := false, inRound := true, rounds := s.acc.rounds + 1, slots := [], nonce := nonce } }.emit
    (.uwbPoll s.acc.ant nonce)

/-- An attempt ends without a session: every RESYNC clears, and its record is written. -/
def attemptEnd (code : Nat) (s : State) : State :=
  let s1 := (List.range 16).foldl (fun t i => t.setB F.ACC_TOK_RESYNC i false) s
  accTo 0 (accRecord 0 code { s1 with acc := { s1.acc with cand := [], due := false, inRound := false, train := false, slots := [] } })

/-- The door input rises or an entry is accepted during an attempt (R503). -/
def attemptAbort (s : State) : State := if s.accState = 1 ∨ s.accState = 2 then attemptEnd 7 s else s

/-! ## Judgement (R493 to R497) -/

/-- The module's reply time: FINAL leaves 5.0 ms after the POLL (R492), in ps. -/
def finalAt : Int := 5000000000

/-- The uncorrected time of flight as a fraction of ps (R493). -/
def rawTof (ra rb db : Nat) : Int × Nat :=
  let da : Int := finalAt - (ra : Int)
  ((ra : Int) * (rb : Int) - da * (db : Int), ((ra : Int) + (rb : Int) + da + (db : Int)).toNat)

/-- The time of flight with the antenna's delay taken off: a fraction of ps. A sixteenth of a ns is 125/2 ps. -/
def tofOf (dly : Nat) (r : Int × Nat) : Int × Nat := (2 * r.1 - 125 * (dly : Int) * (r.2 : Int), 2 * r.2)

/-- A time of flight as a distance in cm, rounded to the nearest (DEDUCED from R506, assumption 37). -/
def distCm (t : Int × Nat) : Int := (2 * t.1 * 299792458 + (t.2 : Int) * 10000000000) / (2 * (t.2 : Int) * 10000000000)

/-- The distance is at most `b` cm. -/
def within (b : Nat) (t : Int × Nat) : Bool := decide (t.1 * 299792458 ≤ (b : Int) * 10000000000 * (t.2 : Int))

/-- One time of flight is below another; and their distances lie within 10 cm. -/
def tofLess (a b : Int × Nat) : Bool := decide (a.1 * (b.2 : Int) < b.1 * (a.2 : Int))
def tofNear (a b : Int × Nat) : Bool :=
  decide ((a.1 * (b.2 : Int) - b.1 * (a.2 : Int)) * 299792458 ≤ 100000000000 * (a.2 : Int) * (b.2 : Int))

/-- How a slot is judged. -/
inductive Verdict where
  | absent
  | collision
  | invalid
  | rejected
  /-- Authentic, but beyond the bound. -/
  | far
  /-- Authentic, and a resync candidate: within the bound or not. -/
  | resync
  | valid (token : Nat) (tof : Int × Nat)
deriving DecidableEq, Repr

/-- What a counter is to a token (R495, R496). -/
inductive CounterKind where
  | accepted
  | candidate
  | rejected
deriving DecidableEq, Repr

def counterKind (t counter : Nat) (s : State) : CounterKind :=
  let d := (counter + 2 ^ 32 - s.getF F.ACC_LAST_LAST t) % 2 ^ 32
  let next := match s.accCand t with | some c => decide (counter = (c + 1) % 2 ^ 32) | none => false
  if s.flag F.ACC_TOK_RESYNC t && next then .accepted
  else if d = 0 ∨ 4096 < d then .rejected
  else if d ≤ 64 then .accepted
  else .candidate

/-- An authentic counter is taken over (R494, R495). -/
def counterTake (t counter : Nat) (k : CounterKind) (s : State) : State :=
  match k with
  | .accepted => setCand t none ((s.setF F.ACC_LAST_LAST t counter).setB F.ACC_TOK_RESYNC t false)
  | .candidate => setCand t (some counter) ((s.setB F.ACC_TOK_RESYNC t true).countF F.ACC_CNT2_RESYNCS 0)
  | .rejected => s

/-- An INVALID result: counted, and logged against its partner. -/
def judgeInvalid (who : Nat) (s : State) : Verdict × State :=
  (.invalid, ((s.countF F.ACC_CNT0_INVALID 0).odoCount 8 0 1 1).violation 8 0x0C who)

/-- The nearest authentic response of the attempt. -/
def nearTake (t : Nat) (cm : Int) (s : State) : State :=
  let take := match s.acc.near with | some p => decide (cm < p.2) | none => true
  if take then { s with acc := { s.acc with near := some (t, cm) } } else s

/-- The bound of the attempt's antenna, cm. -/
def State.accBound (s : State) : Nat := s.getF (if s.acc.ant = 0 then F.ACC_BOUND_BOUND1 else F.ACC_BOUND_BOUND2) 0

/-- Steps 4 to 6 of R494: the counter, the time of flight, the bound. A calibration has no bound. -/
def judgeRange (t counter : Nat) (raw : Int × Nat) (s : State) : Verdict × State :=
  let kind := counterKind t counter s
  let tof := tofOf (s.getF F.ACC_ANTCAL_DLY s.acc.ant) raw
  if kind = .rejected then (.rejected, (s.countF F.ACC_CNT2_REJECTED 0).violation 8 0x0D t)
  else if tof.1 < -500 * (tof.2 : Int) then judgeInvalid t s
  else
    let s1 := nearTake t (distCm tof) (counterTake t counter kind s)
    let s2 := { s1 with acc := { s1.acc with calTof := raw :: s1.acc.calTof } }
    if s.accState = 2 && ! within s.accBound tof then
      (if kind = .candidate then .resync else .far, s2.countF F.ACC_CNT1_FAR 0)
    else (if kind = .candidate then .resync else .valid t tof, s2)

/-- A slot is judged (R494): its verdict, the token that passed step 3, and the state. -/
def judge (k : Nat) (s : State) : Verdict × Option Nat × State :=
  let x := s.accSlot k
  if x.collided then (.collision, none, s.countF F.ACC_CNT1_COLLIDED 0)
  else
    match x.resp, x.report with
    | some (ra, tok), some (rb, db, counter, tag) =>
      let unknown := let r := judgeInvalid 0xFF s; (r.1, none, r.2)
      match tok with
      | none => unknown
      | some t =>
        match s.token t with
        | none => unknown
        | some e =>
          if s.mutedPartner 8 t then (.absent, none, s)
          else if Config.tokenSlot e.id s.acc.nonce % 8 ≠ k then unknown
          else if tag ≠ Config.tokenTag e.key counter s.serial s.acc.nonce then
            let r := judgeInvalid t s
            (r.1, none, r.2)
          else
            let r := judgeRange t counter (rawTof ra rb db) s
            (r.1, some t, r.2)
    | _, _ => (.absent, none, s)

/-- Every slot of the round, in order. -/
def judgeAll : List Nat → State → List Verdict × List Nat × State
  | [], s => ([], [], s)
  | k :: l, s =>
    let a := judge k s
    let b := judgeAll l a.2.2
    (a.1 :: b.1, (match a.2.1 with | some t => [t] | none => []) ++ b.2.1, b.2.2)

/-- The nearest of the valid responses. -/
def nearestOf : List (Nat × (Int × Nat)) → Option (Nat × (Int × Nat))
  | [] => none
  | x :: l =>
    match nearestOf l with
    | none => some x
    | some y => if tofLess y.2 x.2 then some y else some x

/-- The winner: the nearest, or the lowest index among those within 10 cm of it (R497). -/
def winner (vs : List Verdict) : Option (Nat × (Int × Nat)) :=
  let l := vs.filterMap fun v => match v with | .valid t f => some (t, f) | _ => none
  match nearestOf l with
  | none => none
  | some n =>
    (l.filter fun x => tofNear x.2 n.2).foldl (fun b x => if x.1 < b.1 then x else b) n |> some

/-- The code of an attempt that ends without a winner (R497). -/
def lastCode (vs : List Verdict) : Nat :=
  if vs.contains .invalid then 4 else if vs.contains .rejected then 5 else if vs.contains .far ∨ vs.contains .resync then 2 else 1

/-- A session opens (R499). -/
def grant (t : Nat) (tof : Int × Nat) (s : State) : State :=
  let s1 := (List.range 16).foldl (fun t i => t.setB F.ACC_TOK_RESYNC i false) s
  let s2 := { s1 with acc := { s1.acc with
    cand := [], due := false, inRound := false, slots := [], near := some (t, distCm tof),
    sessEnd := s.up + s.getF F.ACC_TIMING_TIMEOUT 0 * 1000000000 } }
  let s3 := ((accTo 3 s2).setF F.ACC_STAT_TOKEN 0 t).countF F.ACC_CNT0_SESSIONS 0
  accRecord 0 0 (driveLatch t (lockApply (s3.odoCount 8 0 0 1)))

/-- A round of an attempt has been judged (R496, R497). `before` holds the tokens whose RESYNC was set, `seen` those that answered. -/
def roundOutcome (vs : List Verdict) (before seen : List Nat) (s : State) : State :=
  let again (u : State) : State := { u with acc := { u.acc with due := true } }
  match winner vs with
  | some (t, f) => grant t f s
  | none =>
    let s1 := if vs.contains .collision then { s with acc := { s.acc with collisions := s.acc.collisions + 1 } } else s
    let missing := before.any fun t => ! seen.contains t
    if vs.contains .collision ∧ 3 ≤ s1.acc.collisions then attemptEnd 3 s1
    else if vs.contains .collision ∧ s1.acc.rounds < 6 then again s1
    else if vs.contains .resync then (if s1.acc.rounds < 6 then again s1 else attemptEnd 6 s1)
    else if missing then attemptEnd 6 s1
    else attemptEnd (lastCode vs) s1

/-- A round of a calibration has been judged (R506). The delay is the mean of the uncorrected times of flight less the distance, in sixteenths
of a ns, rounded. -/
def calOutcome (s : State) : State :=
  let a := s.acc
  let good := a.calTof.length == a.rounds && ! a.calBad
  let s1 := if good then s else { s with acc := { a with calBad := true, calTof := [] } }
  if a.rounds < 32 then { s1 with acc := { s1.acc with due := true } }
  else
    let sum := a.calTof.foldl (fun t x => (t.1 * (x.2 : Int) + x.1 * (t.2 : Int), t.2 * x.2)) ((0 : Int), 1)
    let num : Int := sum.1 * 2 * 299792458 - 125 * 32 * 16 * 10000000 * (a.calDist : Int) * (sum.2 : Int)
    let den : Int := 125 * 32 * 299792458 * (sum.2 : Int)
    let dly := (2 * num + den) / (2 * den)
    if good ∧ 0 ≤ dly ∧ dly ≤ 4095 then
      attemptEnd 8 ((s1.setF F.ACC_ANTCAL_DLY a.ant dly.toNat).setB F.ACC_ANTCAL_VALID a.ant true)
    else attemptEnd 9 s1

/-- A round ends and is judged. -/
def roundJudge (s : State) : State :=
  if ! s.acc.inRound then s
  else
    let before := (List.range 16).filter fun t => s.flag F.ACC_TOK_RESYNC t && (s.accCand t).isSome
    let n := s.acc.calTof.length
    let r := judgeAll (List.range 8) s
    let s1 := { r.2.2 with acc := { r.2.2.acc with inRound := false, slots := [] } }
    if s.accState = 4 then
      calOutcome (if s1.acc.calTof.length = n + 1 then s1 else { s1 with acc := { s1.acc with calBad := true } })
    else roundOutcome r.1 before r.2.1 { s1 with acc := { s1.acc with calTof := [] } }

/-! ## The session's end (R499, R503) -/

/-- A session ends: the lock is withdrawn, and the record is written. -/
def sessionEnd (code : Nat) (s : State) : State :=
  if s.accState ≠ 3 then s
  else accTo 0 (accRecord 1 code (lockWithdraw { s with acc := { s.acc with lockna := false } }))

/-- The cab access unit sees a change of inputs: a rising handle triggers, a rising door ends (R491, R499, R503). `before` is the state before it. -/
def accInputs (before s : State) : State :=
  let rises (n : Nat) : Bool := s.sinLevel n && ! before.sinLevel n
  if ! s.accOn then s
  else
    let s1 := if rises (s.getF F.ACC_CFG_DOORSI 0) then attemptAbort (sessionEnd 0 s) else s
    if rises (s.getF F.ACC_CFG_HANDSI 0) && before.accState == 0 then accTrigger 0 s1 else s1

/-- The filtered IGN falls (R502). -/
def accIgnFall (s : State) : State := driveClear s

/-- A PARK or DORMANT entry is accepted (R412, R503); a forced one also ends a session (R414). -/
def accEntry (forced : Bool) (s : State) : State :=
  let s1 := attemptAbort s
  if forced then sessionEnd 3 s1 else s1

/-- The Comms domain goes off: enrolments, the drive-enable counter and what the Retention Set keeps remain. -/
def accOff (s : State) : State :=
  { s with acc := { tokens := s.acc.tokens, deCount := s.acc.deCount, deSaved := s.acc.deSaved } }

/-! ## Enrolment (R489) -/

/-- A write of an enrolment: ID, key, counter, which is little-endian (DEDUCED, assumption 37); zeros remove it. -/
def enrol (i : Nat) (d : List Byte) (s : State) : State :=
  let e : Option Token := if d.all (· == 0) then none else some { id := d.take 8, key := (d.drop 8).take 16 }
  let s1 := { s with acc := { s.acc with tokens := tabSet none s.acc.tokens i e, cand := tabSet none s.acc.cand i none } }
  (s1.setF F.ACC_LAST_LAST i (leNat (d.drop 24))).setB F.ACC_TOK_RESYNC i false

/-- A write of 0x4800:20 + i. -/
def enrolWrite (p : DPath) (i : Nat) (d : List Byte) (s : State) : State :=
  let sub := 0x20 + i
  if ! accFitted s.variant then s.objAborted p 0x4800 sub 0x06020000
  else if p ≠ .service then s.objAborted p 0x4800 sub 0x08000022
  else if d.length < 28 then s.objAborted p 0x4800 sub 0x06070013
  else if 28 < d.length then s.objAborted p 0x4800 sub 0x06070012
  else if s.accState ≠ 0 then s.objAborted p 0x4800 sub 0x08000022
  else (enrol i d s).emit (.objWritten p 0x4800 sub .accepted)

/-! ## Registers (R507) -/

/-- A write of ACC_CTRL: POLL, END and CALREQ, of which each but END needs an idle unit. -/
def accCtrl (w : Word) (s : State) : Code × State :=
  let poll := F.ACC_CTRL_POLL.on w
  let stop := F.ACC_CTRL_END.on w
  let cal := F.ACC_CTRL_CALREQ.on w
  let dist := F.ACC_CTRL_CALDIST.of w
  if reservedSet .ACC_CTRL w then (.invalid, s)
  else if poll && (! s.attemptOk || stop || cal) then (.state, s)
  else if cal && (stop || s.accState != 0 || ! s.accOn || s.entering || ! s.flag F.SVC_STAT_MODE 0) then (.state, s)
  else if cal && ! decide (30 ≤ dist ∧ dist ≤ 300) then (.invalid, s)
  else if poll then (.accepted, trainStart 1 (F.ACC_CTRL_ANT.of w) s)
  else if cal then
    let t := trainStart 4 (F.ACC_CTRL_CALANT.of w) s
    (.accepted, { t with acc := { t.acc with calDist := dist } })
  else if stop then (.accepted, sessionEnd 2 s)
  else (.accepted, s)

/-- The checks of the ACC settings: the code, and the field concerned. -/
def accSettingCode (r : Reg) (w : Word) (s : State) : Code × Nat :=
  let bad (b : Bool) (f : Nat) : List (Code × Nat) := if b then [(.invalid, f)] else []
  let gone (b : Bool) (f : Nat) : List (Code × Nat) := if b then [(.absent, f)] else []
  let l : List (Code × Nat) := bad (reservedSet r w) 0 ++
    (match r with
    | .ACC_CFG => bad (decide (60 < F.ACC_CFG_SCHED.of w)) 14 ++ gone (! sinFitted s.variant (F.ACC_CFG_HANDSI.of w)) 2 ++
        gone (! sinFitted s.variant (F.ACC_CFG_DOORSI.of w)) 8
    | .ACC_TIMING => bad (! decide (5 ≤ F.ACC_TIMING_TIMEOUT.of w ∧ F.ACC_TIMING_TIMEOUT.of w ≤ 120)) 0 ++
        bad (decide (F.ACC_TIMING_DEWAIT.of w < 10)) 8
    | .ACC_BOUND => bad (! decide (30 ≤ F.ACC_BOUND_BOUND1.of w ∧ F.ACC_BOUND_BOUND1.of w ≤ 180)) 0 ++
        bad (! decide (30 ≤ F.ACC_BOUND_BOUND2.of w ∧ F.ACC_BOUND_BOUND2.of w ≤ 120)) 8
    | .ACC_LOCK =>
        let t := F.ACC_LOCK_TYPE.of w
        let i := F.ACC_LOCK_INDEX.of w
        bad (t == 3) 0 ++ bad (t == 1 && decide (95 < i)) 2 ++ bad (t == 2 && decide (31 < i)) 2 ++
          gone (t == 1 && ! chanFitted s.variant i) 2 ++ gone (t == 2 && ! fioFitted s.variant i) 2
    | .ACC_DE => gone (! canFitted s.variant (F.ACC_DE_DECH.of w)) 0
    | _ => [])
  match l with
  | [] => (.accepted, 0)
  | c :: _ => c

/-- A write of an ACC register: code, field concerned, state. -/
def accWrite (m : Master) (r : Reg) (n : Nat) (w : Word) (s : State) : Code × Nat × State :=
  match r with
  | .ACC_CTRL => let p := accCtrl w s; (p.1, 0, p.2)
  | .ACC_CFG | .ACC_TIMING | .ACC_BOUND | .ACC_LOCK | .ACC_DE =>
    let c := accSettingCode r w s
    let t := s.wrMasked r 0 w
    if c.1 ≠ .accepted then (c.1, c.2, s)
    else if r = .ACC_DE ∧ claimBusy s t then (.state, 0, s)
    else (.accepted, 0, if r = .ACC_DE then claimMove s t else t)
  | .ACC_ANTCAL => if reservedSet r w then (.invalid, 0, s) else (.accepted, 0, s.wrMasked r n w)
  | .ACC_RSEL => if reservedSet r w then (.invalid, 0, s) else (.accepted, 0, s.wr r (bk m 0) w)
  | _ => (.accepted, 0, s)

/-- A write that reaches an ACC register: ACC_RESULT has the field in [15:8]; an absent unit is recorded (R13). -/
def accAccess (m : Master) (r : Reg) (n : Nat) (w : Word) (s : State) : State :=
  if ! accFitted s.variant then (absentMark (r.addr n) s).answered m (r.addr n) .absent
  else
    let p := accWrite m r n w s
    (p.2.2.wr .ACC_RESULT (bk m 0) (word (p.1.num + 0x100 * p.2.1 + 0x10000 * r.addr n))).emit (.written m (r.addr n) p.1)

/-- ACC_STAT with UNPAIRED and the session time left. -/
def accStat (s : State) : Word :=
  let left := if s.accState = 3 then sat 65535 ((s.acc.sessEnd - s.up + 9999999) / 10000000) else 0
  putBits (putBits (s.rd .ACC_STAT 0) 4 1 (b01 (! s.paired))) 16 16 left

/-- A read of an ACC register. -/
def accRead (m : Master) (r : Reg) (n : Nat) (s : State) : Word × State :=
  if ! accFitted s.variant then (0, absentMark (r.addr n) s)
  else
    match r with
    | .ACC_CTRL => (0, s)
    | .ACC_STAT => (accStat s, s)
    | .ACC_RESULT | .ACC_RSEL => (s.rd r (bk m 0), s)
    | .ACC_REC => ((s.acc.recs.getD (s.getF F.ACC_RSEL_REC (bk m 0)) []).getD n 0, s)
    | .ACC_TOK => (putBits (s.rd r n) 0 1 (b01 (s.token n).isSome), s)
    | _ => (s.rd r n, s)

/-! ## Commands -/

/-- ACC_SCHEDULE_TRIGGER (R491). -/
def execAccScheduleTrigger (s : State) : Host.Outcome State Fault Refusal :=
  ok s (if s.getF F.ACC_CFG_SCHED 0 != 0 && s.ignHigh && ! s.driveEnabled then accTrigger 1 s else s)

/-- POLL (R491): a write of ACC_CTRL with POLL. -/
def execAccPoll (m : Master) (w : Word) (s : State) : Host.Outcome State Fault Refusal :=
  ok s (accAccess m .ACC_CTRL 0 (w ||| word (2 ^ F.ACC_CTRL_POLL.lo)) s)

/-- END (R499): a write of ACC_CTRL with END. -/
def execAccEnd (m : Master) (w : Word) (s : State) : Host.Outcome State Fault Refusal :=
  ok s (accAccess m .ACC_CTRL 0 (w ||| word (2 ^ F.ACC_CTRL_END.lo)) s)

/-- CALREQ (R506): a write of ACC_CTRL with CALREQ. -/
def execAccCalreq (m : Master) (w : Word) (s : State) : Host.Outcome State Fault Refusal :=
  ok s (accAccess m .ACC_CTRL 0 (w ||| word (2 ^ F.ACC_CTRL_CALREQ.lo)) s)

/-- WAKE_TRAIN_END (R492, R503). -/
def execWakeTrainEnd (s : State) : Host.Outcome State Fault Refusal :=
  ok s (if s.acc.train then roundStart (if s.accState = 1 then accTo 2 s else s) else s)

/-- RESP (R492): `ra` is the time from the POLL's start to the RESP's arrival in ps; `token` is the token for which its STS, with that of the
FINAL, correlates. -/
def execAccResp (slot : Fin 8) (collided : Bool) (token : Option (Fin 16)) (ra : Nat) (s : State) : Host.Outcome State Fault Refusal :=
  ok s (if s.acc.inRound then
    let x := s.accSlot slot.val
    let y : AccSlot := { x with collided := x.collided || collided, resp := some (ra, token.map (·.val)) }
    { s with acc := { s.acc with slots := tabSet {} s.acc.slots slot.val y } }
  else s)

/-- REPORT (R492): the token's round and reply times in ps, its counter and its tag. -/
def execAccReport (slot : Fin 8) (collided : Bool) (rb db counter : Nat) (tag : List Byte) (s : State) : Host.Outcome State Fault Refusal :=
  ok s (if s.acc.inRound then
    let x := s.accSlot slot.val
    let y : AccSlot := { x with collided := x.collided || collided, report := some (rb, db, counter % 2 ^ 32, tag) }
    { s with acc := { s.acc with slots := tabSet {} s.acc.slots slot.val y } }
  else s)

/-- FINAL (R492). -/
def execAccFinal (s : State) : Host.Outcome State Fault Refusal :=
  ok s (if s.acc.inRound then s.emit (.uwbFinal s.acc.ant) else s)

/-- ROUND_END (R494 to R497, R503, R506). -/
def execRoundEnd (s : State) : Host.Outcome State Fault Refusal := ok s (roundJudge s)

/-- NEXT_ROUND (R492, R497). -/
def execNextRound (s : State) : Host.Outcome State Fault Refusal := ok s (if s.acc.due then roundStart s else s)

/-- ACC_SESSION_TIMEOUT (R499). -/
def execAccSessionTimeout (s : State) : Host.Outcome State Fault Refusal := ok s (sessionEnd 1 s)

/-- DRIVE_ENABLE_FRAME (R501). -/
def execDriveEnableFrame (s : State) : Host.Outcome State Fault Refusal := ok s (if s.driveEnabled then driveFrame true s else s)

/-- DEWAIT (R502). -/
def execDewait (s : State) : Host.Outcome State Fault Refusal :=
  ok s (if ! s.acc.deWait then s
    else
      let t := { s with acc := { s.acc with deWait := false } }
      if s.ignHigh then t else driveClear t)

/-- WITHDRAWN (R502). -/
def execWithdrawnFrame (s : State) : Host.Outcome State Fault Refusal :=
  ok s (if s.acc.withdraw = 0 then s else driveFrame false { s with acc := { s.acc with withdraw := s.acc.withdraw - 1 } })

/-- TOKEN_ENROLMENT (R489). -/
def execTokenEnrolment (p : DPath) (i : Fin 16) (data : List Byte) (s : State) : Host.Outcome State Fault Refusal :=
  ok s (enrolWrite p i.val data s)

end Sys2Proof.Machine
end

