-- ==== Sys2Proof/Machine/Service.lean ====
section
/-!
DEFINITION. Machine/Service.lean: the SVC and ODO registers and the commands of service, update, pairing and the Odometer
(18_service_update_odometer.md).
-/
namespace Sys2Proof.Machine

/-! ## Update commands (R514 to R517) -/

/-- RESTART: the Odometer and the calibration are saved, the banks exchanged, and the cores restart on trial (R515). -/
def updRestart (s : State) : Code × State :=
  if s.updState ≠ 5 ∨ s.entering then (.state, s)
  else
    let s1 := journalAdd 6 0 (odoSave (calSave s))
    let newer := decide (s1.svc.setFmt < hdrSetfmt s1.svc.header)
    let s2 := banksSwap { s1 with svc := { s1.svc with migrated := ! newer, oldSet := none, trialNs := 0, trialFrom := none, trialSaved := 0 } }
    (.accepted, coresReset (updTo 7 s2))

/-- A revert with the restart of the cores (R517). -/
def revert (code : Nat) (s : State) : State := coresReset (updRevert code s)

/-- Migration ends (R514, R516). -/
def migration (failed : Bool) (s : State) : State :=
  if s.updState ≠ 7 ∨ s.svc.migrated then s
  else if failed then revert 7 s
  else
    let s1 := { s with svc := { s.svc with
      migrated := true, oldSet := some s.settings, setFmt := hdrSetfmt s.activeHeader } }
    journalAdd 7 0 s1

/-- An update command: from the service session, or from base firmware; CONFIRM from application firmware as well (R514). -/
def updCommand (cmd : Nat) (session app : Bool) (s : State) : Code × State :=
  match cmd with
  | 1 => if app then (.state, s) else updBegin s
  | 2 => if app then (.state, s) else updAbandon s
  | 3 => if session then updRestart s else (.state, s)
  | 4 => updConfirm s
  | _ => (.invalid, s)

/-! ## Registers (R528, R529) -/

/-- A master that runs in application mode. -/
def State.appMaster (s : State) (m : Master) : Bool :=
  match m with
  | .core c => (s.co c.val).app
  | _ => false

/-- Items and words per item of an Odometer group (R525). -/
def odoShape (g : Nat) : Nat × Nat :=
  match g with
  | 1 => (96, 9)
  | 2 => (4, 16)
  | 3 => (1, 16)
  | 4 => (1, 16)
  | 5 => (24, 17)
  | 6 => (8, 2)
  | 7 => (9, 1)
  | 8 => (1, 2)
  | 9 => (8, 1)
  | 10 => (192, 1)
  | 11 => (1, 4)
  | _ => (0, 0)

/-- An item's resource is fitted; items of absent resources read 0. -/
def odoFitted (v : Variant) (g i : Nat) : Bool :=
  match g with
  | 1 => chanFitted v i
  | 2 => feedFitted v i
  | 5 => valveFitted v i
  | 6 => regFitted v .NET_WCNT i
  | 8 => accFitted v
  | 9 => canFitted v i
  | 10 => srcFitted v i
  | _ => true

/-- Word `f` of an item as it reads. -/
def State.odoWord (s : State) (g i f : Nat) : Nat :=
  if f < (odoShape g).2 ∧ odoFitted s.variant g i then s.odoValue g i f else 0

/-- A write of ODO_SEL latches the item into the master's window. -/
def odoLatch (m : Master) (w : Word) (s : State) : Code × State :=
  let g := F.ODO_SEL_GROUP.of w
  let i := F.ODO_SEL_ITEM.of w
  if reservedSet .ODO_SEL w ∨ (odoShape g).1 ≤ i then (.invalid, s)
  else
    (.accepted, (List.range 17).foldl (fun t k => t.wr .ODO_W (bk m k) (word (s.odoWord g i k))) (s.wr .ODO_SEL (bk m 0) w))

/-- A write of an SVC or ODO register. -/
def svcWrite (m : Master) (r : Reg) (w : Word) (s : State) : Code × State :=
  match r with
  | .SVC_UCMD =>
    if reservedSet r w then (.invalid, s) else updCommand (F.SVC_UCMD_CMD.of w) false (s.appMaster m) s
  | .SVC_PCFG =>
    let t := s.wrMasked r 0 w
    if reservedSet r w ∨ 0x7FD < F.SVC_PCFG_PAIRID.of w then (.invalid, s)
    else if ! canFitted s.variant (F.SVC_PCFG_PAIRCH.of w) then (.absent, s)
    else if claimBusy s t then (.state, s)
    else (.accepted, claimMove s t)
  | .SVC_JSEL => if reservedSet r w then (.invalid, s) else (.accepted, s.wr r (bk m 0) w)
  | .ODO_SEL => odoLatch m w s
  | .ODO_CTRL =>
    if reservedSet r w then (.invalid, s) else (.accepted, if F.ODO_CTRL_SAVE.on w then odoSave s else s)
  | _ => (.accepted, s)

/-- An SVC register: one of those whose writes SVC_RESULT answers. -/
def isSvc (r : Reg) : Bool := decide (r.addr 0 < 0x4A00)

/-- A write that reaches an SVC or ODO register. SVC_RESULT holds the code alone; the Odometer has no result register. -/
def svcAccess (m : Master) (r : Reg) (n : Nat) (w : Word) (s : State) : State :=
  let p := svcWrite m r w s
  (if isSvc r then p.2.wr .SVC_RESULT (bk m 0) (word p.1.num) else p.2).emit (.written m (r.addr n) p.1)

/-- SVC_STAT with what OTP holds. -/
def svcStat (s : State) : Word :=
  putBits (putBits (putBits (s.rd .SVC_STAT 0) 5 1 (b01 (s.otpWritten 0xA8))) 6 1 (b01 (s.otpWritten 0x68))) 8 8 s.arbCount

/-- Trial run time left, s. -/
def State.trialLeft (s : State) : Nat := if s.updState = 7 then 600 - s.trialTime / 1000000000 else 0

/-- A read of an SVC or ODO register. -/
def svcRead (m : Master) (r : Reg) (n : Nat) (s : State) : Word × State :=
  match r with
  | .SVC_STAT => (svcStat s, s)
  | .SVC_UCMD | .ODO_CTRL => (0, s)
  | .SVC_ACTVER => (word (hdrVersion s.activeHeader), s)
  | .SVC_ACTFMT => (word (hdrSetfmt s.activeHeader + 0x10000 * (s.svc.setFmt % 65536)), s)
  | .SVC_TRIAL => (word s.trialLeft, s)
  | .SVC_RESULT | .SVC_JSEL | .ODO_SEL => (s.rd r (bk m 0), s)
  | .SVC_JRN => ((s.svc.journal.getD (s.getF F.SVC_JSEL_REC (bk m 0)) []).getD n 0, s)
  | .ODO_SAVES => (word s.odoCopy.seq, s)
  | .ODO_LAST => (word s.svc.savedAt, s)
  | .ODO_W => (s.rd r (bk m n), s)
  | _ => (s.rd r n, s)

/-! ## Objects (R530) -/

/-- An update command: a write of 0x4D00:01 from the service session, or of SVC_UCMD. -/
def updMaster (m : Master) (cmd : Nat) (s : State) : State :=
  match m with
  | .dict p =>
    if p ≠ .service then s.objAborted p 0x4D00 1 0x08000022
    else
      let r := updCommand cmd true false s
      r.2.objDone p 0x4D00 1 r.1
  | _ => svcAccess m .SVC_UCMD 0 (word cmd) s

/-- A segment of 0x4D00:02 from the service session (R514); failed checks come later, with VERIFY_COMPLETE. -/
def imageObj (offset : Nat) (data : List Byte) (last : Bool) (s : State) : State :=
  if ! s.flag F.SVC_STAT_MODE 0 then s
  else
    let r := imageSegment offset data last s
    if r.1 ≠ 0 then r.2.objAborted .service 0x4D00 2 r.1
    else if last then r.2
    else r.2.emit (.objWritten .service 0x4D00 2 .accepted)

/-- The checks of the image end; the write that committed it is answered (R514). -/
def imageVerified (s : State) : State :=
  if s.updState ≠ 4 then s
  else
    let t := updVerified s
    if ! t.flag F.SVC_STAT_MODE 0 then t
    else if t.updState = 5 then t.emit (.objWritten .service 0x4D00 2 .accepted)
    else t.objAborted .service 0x4D00 2 (if t.getF F.SVC_USTAT_CODE 0 = 6 then 0x06060000 else 0x06090030)

/-- A write of 0x4D00:09 (R522). -/
def pairingObj (p : DPath) (d : List Byte) (s : State) : State :=
  if p ≠ .service then s.objAborted p 0x4D00 9 0x08000022
  else if d.length < 184 then s.objAborted p 0x4D00 9 0x06070013
  else if 184 < d.length then s.objAborted p 0x4D00 9 0x06070012
  else
    let r := pairWrite d s
    if r.1 then r.2.emit (.objWritten p 0x4D00 9 .accepted) else r.2.objAborted p 0x4D00 9 0x06090030

/-- A write of 0x4D00:0E (R530). -/
def imageKeyObj (p : DPath) (d : List Byte) (s : State) : State :=
  if p ≠ .service then s.objAborted p 0x4D00 0x0E 0x08000022
  else if d.length < 64 then s.objAborted p 0x4D00 0x0E 0x06070013
  else if 64 < d.length then s.objAborted p 0x4D00 0x0E 0x06070012
  else if s.otpWritten 0x68 then s.objAborted p 0x4D00 0x0E 0x08000022
  else (s.memBytesSet 0x48000068 d).emit (.objWritten p 0x4D00 0x0E .accepted)

/-- The MODULE_UNPAIRED frame (R523). -/
def unpairedFrame (s : State) : State :=
  let ch := s.pairCh
  if s.paired || ! s.canOn ch || ! s.canSends ch then s
  else s.emit (.canFrame ch (s.getF F.SVC_PCFG_PAIRID 0)
    ([0x5A, byte (s.getF F.SVC_STAT_CAUSE 0)] ++ (s.serial.drop 2)))

/-- The answer to a challenge (R524). -/
def challengeAnswer (nonce : List Byte) (s : State) : State :=
  let ch := s.pairCh
  if nonce.length ≠ 8 ∨ ! s.canOn ch ∨ ! s.canSends ch then s
  else
    let id := s.getF F.SVC_PCFG_PAIRID 0 + 2
    let tag : List Byte := if s.paired then Config.answerTag s.svc.driveKey id nonce 1 else List.replicate 8 0
    s.emit (.canFdFrame ch id ([byte (b01 s.paired)] ++ List.replicate 7 0 ++ tag))

/-- The histogram and time samples of one second (R525): plate temperature in 0.1 °C, module supply in mV. -/
def secondSample (plate : Int) (volt : Nat) (s : State) : State :=
  let st := s.getF F.PWR_STAT_STATE 0
  if st = 3 then s
  else
    let s2 := (List.range 4).foldl
      (fun t k => if feedFitted s.variant k then t.odoCount 2 k (sat 15 ((s.tf k).cur / 10000).toNat) 1 else t) s
    let s3 := s2.odoCount 3 0 (clampInt 0 15 ((plate + 400) / 100)).toNat 1
    let s4 := s3.odoCount 4 0 (if volt < 8000 then 0 else sat 15 ((volt - 6000) / 2000)) 1
    s4.odoCount 11 0 (if s.powerState = 1 then 1 else st) 1

/-! ## Commands -/

/-- BEGIN (R514). -/
def execUpdBegin (m : Master) (s : State) : Host.Outcome State Fault Refusal := ok s (updMaster m 1 s)

/-- ABANDON (R514). -/
def execUpdAbandon (m : Master) (s : State) : Host.Outcome State Fault Refusal := ok s (updMaster m 2 s)

/-- RESTART (R515). -/
def execUpdRestart (m : Master) (s : State) : Host.Outcome State Fault Refusal := ok s (updMaster m 3 s)

/-- CONFIRM (R516). -/
def execUpdConfirm (m : Master) (s : State) : Host.Outcome State Fault Refusal := ok s (updMaster m 4 s)

/-- ERASE_COMPLETE (R514). -/
def execEraseComplete (s : State) : Host.Outcome State Fault Refusal := ok s (updErased s)

/-- IMAGE_SEGMENT (R514). -/
def execImageSegment (offset : Nat) (data : List Byte) (last : Bool) (s : State) : Host.Outcome State Fault Refusal :=
  ok s (imageObj offset data last s)

/-- MIGRATION_END (R516). -/
def execMigrationEnd (failed : Bool) (s : State) : Host.Outcome State Fault Refusal := ok s (migration failed s)

/-- AUTOCONF (R516). -/
def execAutoconf (s : State) : Host.Outcome State Fault Refusal :=
  ok s (if s.updState = 7 ∧ bitOf (hdrNat s.activeHeader 7 1) 0 then (updConfirm s).2 else s)

/-- TRIAL_TIMEOUT (R514). -/
def execTrialTimeout (s : State) : Host.Outcome State Fault Refusal := ok s (if s.updState = 7 then revert 8 s else s)

/-- TRIAL_TIME_SAVE (R516). -/
def execTrialTimeSave (s : State) : Host.Outcome State Fault Refusal :=
  ok s (if s.updState = 7 then { s with svc := { s.svc with trialSaved := s.trialTime } } else s)

/-- PAIRING_RECORD_WRITE (R522). -/
def execPairingRecordWrite (p : DPath) (data : List Byte) (s : State) : Host.Outcome State Fault Refusal := ok s (pairingObj p data s)

/-- PAIRING_START_CHECK (R522). -/
def execPairingStartCheck (s : State) : Host.Outcome State Fault Refusal := ok s (pairStartCheck s)

/-- MODULE_UNPAIRED (R523). -/
def execModuleUnpaired (s : State) : Host.Outcome State Fault Refusal := ok s (unpairedFrame s)

/-- PAIRING_CHALLENGE (R524). -/
def execPairingChallenge (nonce : List Byte) (s : State) : Host.Outcome State Fault Refusal := ok s (challengeAnswer nonce s)

/-- INTEGRATOR_IMAGE_KEY (R530). -/
def execIntegratorImageKey (p : DPath) (data : List Byte) (s : State) : Host.Outcome State Fault Refusal := ok s (imageKeyObj p data s)

/-- ODOMETER_SAVE (R526): the save every 10 minutes, with which the calibration is saved (R270). -/
def execOdometerSave (s : State) : Host.Outcome State Fault Refusal := ok s (if s.dom.core then odoSave (calSave s) else s)

/-- SAVE (R529): a write of ODO_CTRL with SAVE. -/
def execOdoSave (m : Master) (w : Word) (s : State) : Host.Outcome State Fault Refusal :=
  ok s (svcAccess m .ODO_CTRL 0 (w ||| word (2 ^ F.ODO_CTRL_SAVE.lo)) s)

/-- ODOMETER_SECOND_SAMPLE (R525). -/
def execOdometerSecondSample (plate : Int) (volt : Nat) (s : State) : Host.Outcome State Fault Refusal := ok s (secondSample plate volt s)

/-- ODO_SEL (R529). -/
def execOdoSel (m : Master) (w : Word) (s : State) : Host.Outcome State Fault Refusal := ok s (svcAccess m .ODO_SEL 0 w s)

end Sys2Proof.Machine
end

