-- ==== Sys2Proof/Machine/Power.lean ====
section
/-!
DEFINITION. Machine/Power.lean: the power domains going off and on, the Retention Set, and entry requests (14_power_states.md, R407 to R419).
-/
namespace Sys2Proof.Machine

/-! ## Domains off (R16, R21) -/

/-- Registers of units return to their reset values, but for those that `keep` names by key; nothing waits for an apply point there. -/
def unitsReset (us : List IoUnit) (keep : Nat → Bool) (s : State) : State :=
  let ids := us.flatMap fun u => u.regs.map Reg.ctorIdx
  { s with
    regs := s.regs.filter fun p => ! ids.contains (p.1 % 512) || keep p.1
    held := s.held.filter fun p => ! ids.contains (p.1 % 512) }

/-- Record queues lose what they hold. -/
def queuesReset (l : List QId) (s : State) : State := l.foldl (fun t i => t.setQ i {}) s

/-- The record queues of the Comms domain. -/
def commsQueues : List QId := (List.range 8).flatMap (fun n => [.can n 0, .can n 1]) ++ (List.range 4).map .lin

/-- Every link is down without the Comms domain: no baseline stands, and no grandmaster is heard (R137, R148). -/
def linksLost (s : State) : State := gmLost ((List.range 8).foldl (fun t p => t.setB F.ALM_PHYCAL_BASE_VALID p false) s)

/-- The Comms domain goes off: what it holds is discarded (R21, R348, R356, R377), a session on the service port closes without an answer (R58),
and a transfer through it is interrupted. -/
def commsOff (s : State) : State :=
  let s0 := updInterrupt false s
  let s1 := unitsReset [.CAN, .LIN, .ETH, .ACC] (fun _ => false) (linksLost s0)
  let s2 := accOff (sessionsClose (queuesReset commsQueues s1))
  { (s2.setB F.SVC_STAT_MODE 0 false) with
    dom := { s2.dom with comms := false }
    eth := {}, mbuf := [], mbFail := [], mbAbort := [], canLostf := [], canRecover := [], lin := [], linSlots := []
    alm := { s2.alm with ports := [], tsync := none, txFup := none }
    transit := s2.transit.filter fun t => t.cross != .toCan && t.cross != .toEth && t.cross != .toUwb }

/-- The Field domain goes off. -/
def fieldOff (s : State) : State :=
  let s1 := queuesReset [.field] (unitsReset [.FIO] (fun _ => false) s)
  { s1 with dom := { s1.dom with field := false }, fio := [], fioPause := [], fioHot := [] }

/-- The Core domain goes off: no core runs, SRAM loses its contents, and the trial's run time stops at its last
save. What its cores have put into a queue is
delivered; the handshake to the Keep domain sees the inactive level (R18, R21). -/
def coreOff (s : State) : State :=
  let s1 := sessionsClose (dictRestart (unitsReset [.CORE, .BTE] (fun _ => false) (trialLost s)))
  { s1 with
    dom := { s1.dom with core := false }
    core := (List.range 4).map fun c => (c, { run := .stopped })
    transit := s1.transit.filter fun t => t.cross != .toKeep
    irq := [], bteNext := 0, mem := s1.mem.filter fun p => ! inSram p.1, ecc := s1.ecc.filter fun p => ! inSram p.1
    emcyInhibit := false, emcyWait := [], errors := []
    fcru := { s1.fcru with restarting := true, testing := false, resetCore := false } }

/-- No entry and no exit is in progress, and the module is in RUN. -/
def runState (s : State) : State := s.wr .PWR_STAT 0 (s.rd .PWR_STAT 0 &&& word 0xFFFFFE00)

/-- The Keep domain goes off: the RTC, the Retention Set, retention RAM and the Keep registers are lost (R99). -/
def keepOff (s : State) : State :=
  let s1 := unitsReset [.NET] (fun _ => false) s
  let s2 := (List.range 16).foldl (fun t r => t.wr .PWR_RCNT r 0) s1
  { s2 with
    dom := { s2.dom with keep := false }
    net := {}
    pwr := { s2.pwr with saved := none, cut := 0, loss := false }
    svc := { s2.svc with keepLoss := true }
    odoAcc := []
    mem := s2.mem.filter fun p => ! inRetention p.1
    alm := { s2.alm with rtcValid := false, rtcSec := 0, rtcSub := 0, rtcAt := s2.up, rtcLoad := false } }

/-! ## The Retention Set (R418, R419) -/

/-- The registers kept whole. OUT_LVL's latch lies in OUT_STAT and USED and LATCH_W in PROT_STAT: of those two only these fields are restored. -/
def retainedRegs : List Reg :=
  [.OUT_CFG, .OUT_THR, .OUT_INR, .OUT_RUNON, .OUT_ALN, .OUT_STAT, .PROT_WIRE, .PROT_CPL, .PROT_RETRY, .PROT_TOLL, .PROT_LIM, .PROT_STAT,
   .TOLL_CFG, .VLV_CUR, .VLV_TIM, .VLV_MODE, .VLV_GCFG, .SIN_CFG, .ALM_CTRL, .ALM_ADDEND_LO, .ALM_ADDEND_HI, .ALM_CANSYNC, .ALM_PHYCAL,
   .CAN_MODE, .CAN_BTN, .CAN_BTD, .FLT_MATCH, .FLT_MASK, .FLT_CTRL, .PWR_CFG, .PWR_EREP0, .PWR_EREP1, .PWR_EREPC, .ACC_LAST, .ACC_TOK]

/-- The CAN registers among them, kept for wake-capable channels alone. -/
def retainedCan : List Reg := [.CAN_MODE, .CAN_BTN, .CAN_BTD, .FLT_MATCH, .FLT_MASK, .FLT_CTRL]

/-- Whether a register of a key is kept. -/
def keyRetained (v : Variant) (k : Nat) : Bool :=
  let i := k % 512
  let n := k / 512
  (retainedRegs.any fun r => r.ctorIdx == i) &&
    (! (retainedCan.any fun r => r.ctorIdx == i) ||
      swkFitted v (if i = Reg.ctorIdx .FLT_MATCH ∨ i = Reg.ctorIdx .FLT_MASK ∨ i = Reg.ctorIdx .FLT_CTRL then n / 48 else n))

/-- What a save takes of each source. -/
def retainSrcs (s : State) : Tab (Nat × Bool × Nat) :=
  s.fcru.srcs.filterMap fun p =>
    if p.2.count = 0 ∧ ! p.2.severe then none
    else some (p.1, (p.2.count, p.2.severe, match p.2.winEnd with | some e => (e - s.up) / 1000000000 | none => 0))

/-- The registers as a save takes them: the addend is that in force, and no baseline outlives the links, which go down with the Comms domain (R148). -/
def retainImage (s : State) : State :=
  (List.range 8).foldl (fun t p => t.setB F.ALM_PHYCAL_BASE_VALID p false)
    ((s.wr .ALM_ADDEND_LO 0 (word s.alm.addend)).wr .ALM_ADDEND_HI 0 (word (s.alm.addend / 2 ^ 32)))

/-- The save in the HW phase. -/
def retainSave (s0 : State) : State :=
  let s := retainImage s0
  let r : Retained := {
    regs := s.regs.filter fun p => keyRetained s.variant p.1
    heat := s.chan.filterMap fun p => if p.2.heat = 0 then none else some (p.1, p.2.heat)
    srcs := retainSrcs s
    second := s.rtcNow.1
    sub := s.rtcNow.2 }
  { s0 with pwr := { s0.pwr with saved := some r, savedOk := true } }

/-- 2^32 times e^(-x), for x in units of 1/65,536, from the limit of powers; far closer than the ±0.005 that R237 allows. -/
def expNeg (x : Nat) : Nat :=
  (List.range 16).foldl (fun y _ => y * y / 2 ^ 32) (2 ^ 32 - min x (31 * 65536))

/-- H after a decay of `dt` units of 1/32,768 s with time constant `tau` seconds: a FREE VALUE within ±0.005 of the exponential, not above the H
saved. -/
def heatDecayed (k h dt tau : Nat) : Nat :=
  let r := h * expNeg (if tau = 0 then 31 * 65536 else dt * 2 / tau) / 2 ^ 32
  let e := heatOne / 200
  min h (max (r - e) (min (r + e) (Config.heatDecay k)))

/-- LATCH_W after the decay (R237): evaluated against REARM. The channel is off, and its attempts stay. -/
def wireRearm (n : Nat) (s : State) : State :=
  if s.flag F.PROT_STAT_LATCH_W n && decide (100 * (s.ch n).heat ≤ s.getF F.PROT_LIM_REARM n * heatOne) then s.setB F.PROT_STAT_LATCH_W n false else s

/-- A latch restored as 1 on a channel that selects LATCH is a queued switch-on (R243, R419): it waits for its band, or in THERMAL_LATCH. -/
def latchQueued (n : Nat) (s : State) : State :=
  if ! s.command n then s
  else
    let s1 := s.setCh n { s.ch n with act := true }
    if s1.thermal n then toThermal n none s1
    else if (s1.chBand n).admits then waitAdd n none s1
    else s1.setB F.OUT_STAT_BAND_HELD n true

/-- A channel after a restore (R237, R419): its latch, its attempts and its wire latch come back, its heat decays over `dt` units of 1/32,768 s, its
stage is off. -/
def chanRestore (r : Retained) (dt n : Nat) (s : State) : State :=
  let out := tabGet 0 r.regs (regKey .OUT_STAT n)
  let prot := tabGet 0 r.regs (regKey .PROT_STAT n)
  let lat := (F.OUT_STAT_LAT.on out) && s.flag F.PWR_CFG_RESUME 0
  let s1 := (s.wr .OUT_STAT n 0).setB F.OUT_STAT_LAT n lat
  let s2 := ((s1.wr .PROT_STAT n 0).setF F.PROT_STAT_USED n (F.PROT_STAT_USED.of prot)).setB F.PROT_STAT_LATCH_W n (F.PROT_STAT_LATCH_W.on prot)
  let h := tabGet 0 r.heat n
  let s3 := if h = 0 then s2 else heatSet n (heatDecayed s2.fresh h dt (s2.getF F.PROT_WIRE_TAU n)) s2.used
  latchQueued n (wireRearm n s3)

/-- A source after a restore (R476). -/
def srcRestore (dt : Nat) (p : Nat × (Nat × Bool × Nat)) (s : State) : State :=
  if p.2.2.2 ≤ dt then s
  else s.setFsrc p.1 { s.fsrc p.1 with count := p.2.1, severe := p.2.2.1, winEnd := some (s.up + (p.2.2.2 - dt) * 1000000000) }

/-- A register of the Retention Set takes its value. -/
def regRestore (p : Nat × Word) (s : State) : State :=
  match retainedRegs.find? (fun r => r.ctorIdx == p.1 % 512) with
  | some r => s.wr r (p.1 / 512) p.2
  | none => s

/-- The addend restored is in force (R418). -/
def addendRestore (s : State) : State :=
  { s with alm := { s.alm with addend := (s.rd .ALM_ADDEND_HI 0).toNat * 2 ^ 32 + (s.rd .ALM_ADDEND_LO 0).toNat } }

/-- The keys restored at a start of the Switch domain; those of the Comms domain follow when it comes on. -/
def keyOfSwitch (k : Nat) : Bool :=
  ! ((retainedCan ++ [Reg.ACC_LAST, .ACC_TOK, .OUT_STAT, .PROT_STAT]).any fun r => r.ctorIdx == k % 512)

/-- The registers that a start of the Switch domain resets. PWR_RCNT lies in the Keep domain. -/
def switchUnits : List IoUnit := [.PWR, .FCRU, .ALM, .MST, .WCU, .OUT, .PROT, .SNS, .TOLL, .VLV, .SIN]

/-- The queues of the Switch domain. -/
def switchQueues : List QId := [.milestone, .transition, .valve, .edge, .faultLog] ++ (List.range 32).map .capture

/-- What the Switch domain holds is lost: every output is off, and everything in it is as after reset (R91, R94, R419). Data flash keeps the stored
calibration and the boot mode to come (R461); what the inputs showed at an entry is kept for the exit (R316). From here to its first band change each feed counts as below 6 V, so that
no channel comes on, while TOLL_STATk.BAND reads its reset value 0 (R91, R254; DESIGN CHOICE, assumption 49). -/
def switchLost (s : State) : State :=
  let keep (k : Nat) : Bool := k % 512 = Reg.ctorIdx .PWR_RCNT ∨ k % 512 = Reg.ctorIdx .FCRU_BOOTNX
  let stat := s.rd .PWR_STAT 0
  let s1 := (queuesReset switchQueues (unitsReset switchUnits keep s)).wr .PWR_STAT 0 (stat &&& word 0x1FF)
  let a := s1.alm
  let alm : Almanac := {
    set := a.set
    rtcSec := a.rtcSec, rtcSub := a.rtcSub, rtcAt := a.rtcAt, rtcValid := a.rtcValid, ports := a.ports }
  { s1 with
    supply := { s1.supply with module := .below6, feeds := (List.range 4).map fun k => (k, .below6) }
    fcru := { s1.fcru with srcs := [], safeBy := [], partners := [], vlog := [], vseq := 0 }
    raised := []
    alm := alm
    mst := {}, wcuChan := [], wcuBlocked := [], chan := [], cyc := {}, tollFeed := [], tollWait := []
    sns := (List.range 96).foldl (fun t n => tabSet {} t n { stored := (s1.snsCh n).stored, gainAt := s1.up }) []
    snsSlot := 0, odoEnergy := [], valve := [], rechgEnd := [], boostCut := false
    sin := s1.sin.filterMap fun p => if p.2.atEntry = (0, 0) then none else some (p.1, { atEntry := p.2.atEntry }) }

/-- The Switch domain goes off, and what is in its crossings is discarded. -/
def switchOff (s : State) : State :=
  let s1 := switchLost s
  { s1 with
    dom := { s1.dom with switch := false }
    pwr := { s1.pwr with pll := false }
    transit := s1.transit.filter fun t => t.cross = .toKeep }

/-- The Switch domain starts. -/
def switchFresh (s : State) : State :=
  let s1 := switchLost s
  { s1 with dom := { s1.dom with switch := true }, pwr := { s1.pwr with configure := true } }

/-- Every channel starts at its REARM value of H (R237). -/
def heatLost (s : State) : State :=
  (s.chansWhere fun _ => true).foldl (fun t n => heatSet n (t.getF F.PROT_LIM_REARM n * heatOne / 100) t) s

/-- The Retention Set is restored if it is whole and the RTC is valid; otherwise everything stays at reset (R419). -/
def switchStart (s : State) : State :=
  let s1 := switchFresh s
  match s.pwr.saved with
  | some r =>
    if s.pwr.savedOk && s.alm.rtcValid then
      let dt := s.rtcNow.1 * 32768 + s.rtcNow.2 - (r.second * 32768 + r.sub)
      let s2 := addendRestore ((r.regs.filter fun p => keyOfSwitch p.1).foldl (fun t p => regRestore p t) s1)
      let s3 := r.srcs.foldl (fun t p => srcRestore (dt / 32768) p t) ((s2.valvesWhere fun v => s2.vEnabled v).foldl (fun t v => enSet v true t) s2)
      let s4 := (s3.chansWhere fun _ => true).foldl (fun t n => chanRestore r dt n t) s3
      let s5 := (s4.setB F.PWR_STAT_RESTORED 0 true).setB F.PWR_STAT_LOSS 0 s.pwr.loss
      { s5 with pwr := { s5.pwr with loss := false, emcyForced := s5.flag F.PWR_EREP0_FORCED 0 } }
    else
      let s2 := if s.pwr.savedOk then heatLost s1 else (heatLost s1).raise 142 0
      { s2 with pwr := { s2.pwr with loss := false, emcyLost := true, emcyForced := false } }
  | none => { heatLost s1 with pwr := { s1.pwr with loss := false, emcyLost := true, emcyForced := false } }

/-! ## Domains on (R325, R336, R417, R429) -/

/-- The Comms domain comes on: every channel is in CONFIG and its registers are as after reset, but for the filter pairs of wake-capable channels;
a channel whose decoder listened keeps its mode and timing and enters QUIET. The service PHY is powered at once while SVC_EN is high (R376). -/
def commsOn (s : State) : State :=
  if s.dom.comms then s
  else
    let regs := match s.pwr.saved with | some r => r.regs | none => []
    let flt (k : Nat) : Bool := [Reg.FLT_MATCH, .FLT_MASK, .FLT_CTRL].any fun r => r.ctorIdx == k % 512
    let mode (k : Nat) : Bool := ([Reg.CAN_MODE, .CAN_BTN, .CAN_BTD].any fun r => r.ctorIdx == k % 512) && s.net.decoding.contains (k / 512)
    let acc (k : Nat) : Bool := [Reg.ACC_LAST, .ACC_TOK].any fun r => r.ctorIdx == k % 512
    let s1 := (regs.filter fun p => flt p.1 || mode p.1 || acc p.1).foldl (fun t p => regRestore p t) s
    let s2 := (s.net.decoding.foldl (fun t n => canTo n 7 t) s1).setB F.ETH_SVCSTAT_EN 0 s.svc.en
    { s2 with dom := { s2.dom with comms := true }, net := { s2.net with decoding := [] } }

/-- The Field domain starts in INIT: every point an input, with its filter at the present pin level. `pins` has a bit per point. -/
def fieldStart (pins : Nat) (s : State) : State :=
  let s1 := fieldOff s
  let s2 := { s1 with dom := { s1.dom with field := true } }
  (s2.pointsWhere fun _ => true).foldl (fun t p =>
    (t.setB (portBit .FIO_PIN p) 0 (bitOf pins p)).setB (portBit .FIO_IN p) 0 (bitOf pins p)) s2

/-- The Field domain at an exit: a held one returns to RUN and its filters restart; otherwise it starts. -/
def fieldOn (pins : Nat) (s : State) : State :=
  if s.dom.field && s.toState == 3 then
    let s1 := s.setF F.FIO_STATUS_TOSTATE 0 1
    (s1.pointsWhere fun p => ! s1.fioIsOut p).foldl (fun t p => fieldRestart p true (t.setB (portBit .FIO_PIN p) 0 (bitOf pins p))) s1
  else if s.dom.field then s
  else fieldStart pins s

/-- The Core domain comes on: the logical cores restart. EMCYs for the Retention Set and for a forced entry follow once it runs (R415, R419). -/
def coreOn (s : State) : State :=
  if s.dom.core then s
  else
    let s1 := coreReset' s
    let s2 := if s1.pwr.emcyLost then s1.emcyObj 0xFF90 0 0x2100 2 else s1
    let s3 := if s2.pwr.emcyForced then s2.emcyObj 0xFF91 0 0x2100 7 else s2
    { s3 with pwr := { s3.pwr with emcyLost := false, emcyForced := false } }
where
  coreReset' (s : State) : State := coresReset { s with dom := { s.dom with core := true } }

/-- A register written after the save is in the Retention Set as it stands. -/
def retainReg (r : Reg) (n : Nat) (s : State) : State :=
  match s.pwr.saved with
  | some x => { s with pwr := { s.pwr with saved := some { x with regs := tabSet (r.reset n) x.regs (regKey r n) (s.rd r n) } } }
  | none => s

/-! ## Requests (R409 to R411) -/

/-- Units busy for a target: bit r - 1 for refuser r; `dormant` names the target. -/
def State.busyMask (s : State) (dormant : Bool) : Nat :=
  let out := (s.chansWhere fun n => s.command n || (s.ch n).act || s.stage n) != []
  let vlv := anyBelow 24 fun v => s.vBusy v
  let can := anyBelow 8 fun n => anyBelow 32 fun m => decide (2 ≤ s.mbState n m)
  let fio := (s.pointsWhere fun p => s.flag F.FIO_CFG_PARKHOLD p && s.fioDriven p) != []
  b01 (s.liveEntries != []) + 2 * b01 (dormant && out) + 4 * b01 vlv + 8 * b01 can + 16 * b01 (s.bteBusyBits != 0) +
    32 * b01 (s.updState == 1 || s.updState == 2) + 64 * b01 (s.accState == 3) + 128 * b01 (dormant && fio) +
    256 * b01 (s.flag F.PWR_VETO_VETO 0)

/-- Every refuser of a mask is counted, in PWR_RCNTr and in the Odometer. -/
def countRefusers (mask : Nat) (s : State) : State :=
  (onesUpTo 9 mask).foldl (fun t b => (t.countF F.PWR_RCNT_COUNT (b + 1)).odoCount 7 b 0 1) s

/-- The number of the lowest refuser of a mask; 0 for none. -/
def lowestRefuser (mask : Nat) : Nat := ((List.range 9).find? fun b => bitOf mask b).map (· + 1) |>.getD 0

/-- A forced entry stops each unit's work at its boundary (R414); the report keeps what it cut. -/
def forcedCut (dormant : Bool) (s : State) : State :=
  let mask := s.busyMask dormant
  let cut := mask * 2 ^ 5 + s.bteBusyBits * 2 ^ 14 + sat 64 (s.liveEntries.filter fun p => ! p.2.ended).length * 2 ^ 22
  let s1 := valvesForced (cancelAll 3 s)
  let s2 := (List.range 8).foldl (fun t n => pendingEnd n 7 t) s1
  let s3 := updInterrupt true (bteStopAll 4 s2)
  { s3 with pwr := { s3.pwr with cut := cut } }

/-! ## Settings that apply at an entry (R403, R423) -/

/-- A field of a register takes the waiting value's part; the rest keeps waiting until it is all in force. -/
def applyPart (fs : List Fld) (r : Reg) (s : State) : State :=
  match s.heldOf r 0 with
  | none => s
  | some w =>
    let t := fs.foldl (fun u f => u.setF f 0 (f.of w)) s
    if t.rd r 0 = w then t.unhold r 0 else t

/-- The NET and PWR settings whose apply point is the next entry: they apply at its acceptance, from which its times count (DEDUCED, assumption 34). -/
def entryApply (s : State) : State :=
  let s1 := applyPart [F.NET_CFG_QUIET, F.NET_CFG_FWLIM, F.NET_CFG_ENTRY_T] .NET_CFG s
  let s2 := match s1.heldOf .NET_ARM 0 with
    | some w => (s1.unhold .NET_ARM 0).wr .NET_ARM 0 ((s1.rd .NET_ARM 0 &&& word 0xFF00) ||| (w &&& word 0x7F))
    | none => s1
  let s3 := (List.range 4).foldl (fun t n => t.applyAll [.NET_SWK_ID, .NET_SWK_MSK, .NET_SWK_CTL, .NET_SWK_DLO, .NET_SWK_DHI] n) s2
  s3.applyHeld .PWR_CFG 0

/-- An entry is accepted: phase NOTICE, the notice to every logical core, and no attempt of cab access goes on (R412, R413). -/
def entryAccept (target : Nat) (forced : Bool) (s : State) : State :=
  let s0 := entryApply { s with pwr := { s.pwr with cut := 0, saveTo := false } }
  let s1 := accEntry forced (if forced then forcedCut (target == 2) s0 else s0)
  let s2 := ((s1.setF F.PWR_STAT_PHASE 0 1).setB F.PWR_STAT_FORCED 0 forced).setF F.PWR_STAT_TGT 0 target
  ((List.range 4).foldl (fun t c => if t.coreTakesEvent c then coreEvent c 2 (evtDeliver c 0xF0 t) else t) s2).request 32

/-- A request (R411): its code, the mask of refusers, the state. -/
def entryRequest (target : Nat) (forced : Bool) (s : State) : Code × Nat × State :=
  let st := s.getF F.PWR_STAT_STATE 0
  if 2 ≤ st ∨ s.getF F.PWR_STAT_PHASE 0 ≠ 0 then (.state, 0, s)
  else
    let mask := if forced then 0 else s.busyMask (target == 2)
    if mask ≠ 0 then (.state, mask, countRefusers mask s) else (.accepted, 0, entryAccept target forced s)

end Sys2Proof.Machine
end

