-- ==== Sys2Proof/Machine/Network.lean ====
section
/-!
DEFINITION. Machine/Network.lean: the network manager, wake requests and wakes, confirmation windows, the wake link and the NET registers
(13_network_sleep_wake.md, R386 to R406).
-/
namespace Sys2Proof.Machine

/-! ## Small things -/

def State.nmState (s : State) : Nat := s.getF F.NET_STAT_NMST 0
def nmTo (st : Nat) (s : State) : State := s.setF F.NET_STAT_NMST 0 st
def State.nmOn (s : State) : Bool := s.flag F.NET_CTRL_NMEN 0
def State.pwrState (s : State) : Nat := s.getF F.PWR_STAT_STATE 0
def State.pwrPhase (s : State) : Nat := s.getF F.PWR_STAT_PHASE 0

/-- The module is in PARK or DORMANT, or on its way out. -/
def State.asleep (s : State) : Bool := decide (2 ≤ s.pwrState) && ! s.entering

/-- The NM channels. -/
def State.nmChannels (s : State) : List Nat := (List.range 8).filter fun n => s.nmCh n && canFitted s.variant n

/-- A key of node `i` on channel `c`. -/
def nodeIx (c i : Nat) : Nat := 64 * c + i

/-- Node `i` is mandatory on channel `c`. -/
def State.mandatory (s : State) (c i : Nat) : Bool :=
  i != 0 && (if i < 32 then bitOf (s.rd .NET_MAND_LO c).toNat i else bitOf (s.rd .NET_MAND_HI c).toNat (i - 32))

/-- Every mandatory node of every NM channel. -/
def State.mandatoryNodes (s : State) : List (Nat × Nat) :=
  s.nmChannels.flatMap fun c => ((List.range 64).filter fun i => s.mandatory c i).map fun i => (c, i)

/-! ## Manager frames (R386 to R388) -/

/-- A manager frame, on every NM channel that can send; none while a confirmation window runs (R397). -/
def nmSend (cmd ms : Nat) (s : State) : State :=
  if s.net.windows ≠ [] then s
  else
    let flags := b01 (s.flag F.NET_STAT_FORCED 0) + 2 * b01 s.ignHigh
    let data : List Byte := [0, byte cmd, byte (s.getF F.NET_STAT_ROUND 0), byte flags, byte (ms / 256), byte ms, 0, 0]
    s.nmChannels.foldl (fun t n => if t.canOn n && t.canSends n then t.emit (.canFrame n (t.getF F.NET_NMID_BASE 0) data) else t) s

/-- What applies at the start of a round (R403). -/
def roundApply (s : State) : State :=
  let s1 := (applyPart [F.NET_CFG_NMCH] .NET_CFG s).applyHeld .NET_NMID 0
  let s2 := (List.range 8).foldl (fun t c => (t.applyHeld .NET_MAND_LO c).applyHeld .NET_MAND_HI c) s1
  claimMove s s2

/-- A round begins with ROUND on every NM channel. -/
def nmRound (s : State) : State :=
  let s1 := roundApply s
  let s2 := s1.setF F.NET_STAT_ROUND 0 (s1.getF F.NET_STAT_ROUND 0 + 1)
  nmSend 1 0 { s2 with net := { s2.net with
    inRound := true, votes := [], ignSeen := s2.ignHigh, holdSeen := s2.flag F.NET_CTRL_HOLD 0, wakeSeen := false } }

/-! ## The manager's states (R388, R389) -/

/-- The manager starts from OFF. -/
def nmStart (s : State) : State := nmRound (nmTo 1 (s.setB F.NET_STAT_AGREE 0 false))

/-- The eve is cancelled, or rounds resume after the point of no return: CANCEL; the next round starts 250 ms later. -/
def nmCancel (s : State) : State :=
  let s1 := nmSend 3 0 s
  let s2 := nmTo 1 ((s1.setB F.NET_STAT_FORCED 0 false).setB F.NET_STAT_AGREE 0 false)
  { s2 with net := { s2.net with inRound := false } }

/-- The manager goes OFF. -/
def nmOff (s : State) : State :=
  let s1 := if s.nmState = 2 then nmSend 3 0 s else s
  let s2 := nmTo 0 ((s1.setB F.NET_STAT_FORCED 0 false).setB F.NET_STAT_AGREE 0 false)
  { s2 with net := { s2.net with inRound := false } }

/-- The eve begins. -/
def nmEve (forced : Bool) (s : State) : State :=
  let s1 := nmTo 2 (s.setB F.NET_STAT_FORCED 0 forced)
  let s2 := nmSend 2 200 s1
  { s2 with net := { s2.net with inRound := false, pnrUp := s2.up + 200000000 } }.wr .NET_PNR 0 (word (s2.short + 200000000))

/-- A node voted in the present round, with SLEEP set and WAKE clear. -/
def State.votedSleep (s : State) (c i : Nat) : Bool := tabGet 0 s.net.votes (nodeIx c i) == 2

/-- The round is agreed (R388). -/
def State.agreed (s : State) : Bool :=
  (s.mandatoryNodes.all fun p => s.votedSleep p.1 p.2) && ! s.net.ignSeen && ! s.net.holdSeen && ! s.net.wakeSeen

/-- Sleep votes of 32 nodes of a channel from node `lo` on. -/
def State.sleepBits (s : State) (c lo : Nat) : Word :=
  word ((List.range 32).map fun b =>
    let v := tabGet 0 s.net.votes (nodeIx c (lo + b))
    if v != 0 && bitOf (v - 1) 0 then 2 ^ b else 0).sum

/-- The nodes that held agreement back in the present round: mandatory ones without a sleep vote, and any that asked for a wake (R388). -/
def State.holders (s : State) : List (Nat × Nat) :=
  s.nmChannels.flatMap fun c => ((List.range 64).filter fun i =>
    (s.mandatory c i && ! s.votedSleep c i) || decide (3 ≤ tabGet 0 s.net.votes (nodeIx c i))).map fun i => (c, i)

/-- The votes of a complete round become the last ones; the nodes that held agreement back are counted (R393, R402). -/
def votesClose (s : State) : State :=
  let s1 := s.nmChannels.foldl (fun t c => (t.wr .NET_VOTE_LO c (s.sleepBits c 0)).wr .NET_VOTE_HI c (s.sleepBits c 32)) s
  let back := s.holders.foldl (fun t p => tabSet 0 t (nodeIx p.1 p.2) (tabGet 0 s.net.back (nodeIx p.1 p.2) + 1)) []
  { s1 with net := { s1.net with
    last := s.net.votes, votes := [], back := back
    woke := s.net.woke.filterMap fun p => if p.2 ≤ 1 then none else some (p.1, p.2 - 1) } }

/-- A round ends (R388, R389). -/
def nmRoundEnd (s : State) : State :=
  if s.nmState ≠ 1 then s
  else if ! s.net.inRound then nmRound s
  else
    let yes := s.agreed
    let s1 := votesClose s
    if yes then (if s.flag F.NET_STAT_AGREE 0 then nmEve false s1 else nmRound (s1.setB F.NET_STAT_AGREE 0 true))
    else nmRound (s1.setB F.NET_STAT_AGREE 0 false)

/-! ## Wakes (R394, R397 to R399) -/

/-- A source may wake the module (R394). -/
def State.sourceArmed (s : State) (src : Nat) : Bool :=
  src == 0 || ((if src = 1 then s.flag F.NET_ARM_RTC 0 else if src = 2 then s.flag F.NET_ARM_WLINK 0
    else if src = 3 then s.flag F.NET_ARM_INPUT 0 else bitOf (s.getF F.NET_ARM_SWK 0) (src - 4) && swkFitted s.variant (src - 4)) &&
      ! bitOf (s.getF F.NET_ARM_DISARMED 0) src)

/-- A wake of a source is counted (R399). -/
def wakeCount (src : Nat) (s : State) : State := (s.countF F.NET_WCNT_WAKES src).odoCount 6 src 0 1

/-- A false wake of a source is counted. -/
def falseCount (src : Nat) (s : State) : State := (s.countF F.NET_WCNT_FALSE src).odoCount 6 src 1 1

/-- NET_WSRC.OPEN follows the windows. -/
def openFollow (s : State) : State := s.setB F.NET_WSRC_OPEN 0 (s.net.windows != [])

/-- The awake timer starts (R392). -/
def awakeStart (f : Fld) (s : State) : State :=
  let s1 := s.applyHeld .NET_AWAKE 0
  { s1 with net := { s1.net with awakeEnd := some (s1.up + s1.getF f 0 * 1000000000) } }

/-- Once a wake is confirmed, no window runs and every NM channel has left QUIET, the manager is AWAKE again (R389). -/
def nmAwakeCheck (s : State) : State :=
  if s.nmState = 4 && s.nmOn && s.net.confirmed && s.net.windows == [] && s.pwrState == 0 && s.pwrPhase == 0 &&
      s.nmChannels.all (fun n => s.canState n != 7) then
    nmStart s
  else s

/-- A wake is confirmed: its window closes, and with IGN low the awake timer starts (R397, R398). -/
def wakeConfirm (src : Nat) (s : State) : State :=
  if ! s.net.windows.contains src then s
  else
    let s1 := openFollow { s with net := { s.net with
      windows := s.net.windows.filter (· != src), run := tabSet 0 s.net.run src 0, confirmed := true } }
    let s2 := s1.setB F.NET_WSRC_CONFIRMED 0 true
    let s3 := if s2.ignHigh then s2 else awakeStart F.NET_AWAKE_REAWAKE s2
    let s4 := if s3.net.disarmed then { s3 with net := { s3.net with disarmed := false } }.emcyObj 0xFF81 0 0x4600 6 else s3
    nmAwakeCheck s4

/-- Exit begins (R417). -/
def exitBegin (s : State) : State :=
  let s1 := (s.setF F.PWR_STAT_PHASE 0 5).setB F.PWR_STAT_LATCH 0 false
  { (s1.setB F.NET_STAT_LATCH 0 false) with net := { s1.net with confirmed := false, returnTo := s.pwrState } }

/-- A wake opens its window, and exit begins if it has not (R394, R397). The RTC's is confirmed at once. -/
def wakeNow (src : Nat) (latched : Bool) (s : State) : State :=
  if s.net.windows.contains src then s
  else
    let s1 := if s.pwrPhase = 5 ∨ s.pwrState < 2 then s else exitBegin s
    let s2 := s1.wr .NET_WSRC 0 (word (src % 8 + 8 * b01 latched))
    let s3 := openFollow { s2 with net := { s2.net with windows := s2.net.windows ++ [src] } }
    let s4 := wakeCount src s3
    if src = 1 then wakeConfirm 1 s4 else s4

/-- A wake recognised during an entry is latched in the Keep domain (R416). -/
def wakeLatch (src : Option Nat) (s : State) : State :=
  let s1 := (s.setB F.PWR_STAT_LATCH 0 true).setB F.NET_STAT_LATCH 0 true
  match src with
  | some k => { s1 with net := { s1.net with latched := if s1.net.latched.contains k then s1.net.latched else k :: s1.net.latched } }
  | none => { s1 with net := { s1.net with latchedWrite := true } }

/-- The manager is AWAKE again after a cancelled eve whose point of no return lies ahead: further sources still count (R391). -/
def State.eveCancelled (s : State) : Bool := s.nmState == 1 && decide (s.up < s.net.pnrUp)

/-- A wake request (R389 to R391). `src` is its code of R394 if it has one; `near` marks a local source. -/
def wakeRequest (src : Option Nat) (near : Bool) (s : State) : State :=
  let s0 := { s with net := { s.net with wakeSeen := true } }
  let counted := match src with | some k => wakeCount k s0 | none => s0
  let s1 :=
    if s.nmState = 2 ∧ (near ∨ ! s.flag F.NET_STAT_FORCED 0) then nmCancel counted
    else if s.nmState = 3 ∧ ! s.entering then nmCancel counted
    else if s.eveCancelled then counted
    else s0
  if s.entering ∧ (s.nmState = 3 ∨ src.isSome) then wakeLatch src s1 else s1

/-- A source of R394 is recognised: a wake request while the manager has an eve or an entry runs; a wake in PARK and DORMANT, on the way out, and
while another window runs. -/
def recognise (src : Nat) (s : State) : State :=
  if ! s.sourceArmed src then s
  else if s.entering ∨ s.nmState = 2 ∨ s.nmState = 3 ∨ s.eveCancelled then wakeRequest (some src) (decide (src < 4)) s
  else if 2 ≤ s.pwrState ∨ s.pwrPhase = 5 ∨ s.net.windows ≠ [] then wakeNow src false s
  else s

/-- The latched wakes at the end of an entry: the lowest code names the source (R389, R399, R416). -/
def latchedWakes (s : State) : State :=
  let l := (List.range 8).reverse.filter fun k => s.net.latched.contains k
  let w := s.net.latchedWrite
  let s1 := { s with net := { s.net with latched := [], latchedWrite := false } }
  if l = [] then
    if w then
      let s2 := (exitBegin s1).wr .NET_WSRC 0 (word (Config.unnamedWake s.fresh % 8 + 0x18))
      { s2.used with net := { s2.net with confirmed := true } }
    else s1
  else l.foldl (fun t k => wakeNow k true t) s1

/-- A window ends unconfirmed: a false wake (R397, R398). The last one returns the module by a forced entry unless a wake was confirmed. -/
def wakeFalse (src : Nat) (s : State) : State :=
  if ! s.net.windows.contains src then s
  else
    let n := tabGet 0 s.net.run src + 1
    let s1 := openFollow { s with net := { s.net with windows := s.net.windows.filter (· != src), run := tabSet 0 s.net.run src n } }
    let s2 := (falseCount src s1).setB F.NET_WSRC_FALSE 0 true
    let s3 := if src ≠ 0 ∧ s2.getF F.NET_CFG_FWLIM 0 ≤ n then
        { s2.setB ⟨.NET_ARM, 8 + src, 1⟩ 0 true with net := { s2.net with disarmed := true } }
      else s2
    if s3.net.windows = [] ∧ ! s3.net.confirmed then (entryRequest (s3.net.returnTo - 1) true s3).2.2
    else nmAwakeCheck s3

/-! ## IGN and the awake timer (R390, R392) -/

/-- The filtered IGN rises. -/
def ignRise (s : State) : State :=
  let s1 := s.setB F.NET_STAT_IGN 0 true
  let s2 := { (s1.setF F.NET_ARM_DISARMED 0 0) with net := { s1.net with awakeEnd := none, ignSeen := true } }
  let s3 := if s2.asleep && ! s2.net.windows.contains 0 then wakeNow 0 false s2 else s2
  let s4 := wakeConfirm 0 s3
  runonStopAll (if s4.entering ∨ s4.nmState = 2 ∨ s4.nmState = 3 ∨ s4.nmState = 1 then wakeRequest (some 0) true s4 else s4)

/-- The filtered IGN falls. -/
def ignFall (s : State) : State :=
  let s1 := s.setB F.NET_STAT_IGN 0 false
  runonStartAll (accIgnFall (if s1.asleep then s1 else awakeStart F.NET_AWAKE_AWAKE_MAX s1))

/-- Keeper records of the nodes that kept the network awake (R393). -/
def keeperRecords (s : State) : List (Word × Word) :=
  let sec := word s.rtcNow.1
  let rec_ (p : Nat × Nat) (reason : Nat) : Word × Word :=
    (word (p.2 + 0x40 * p.1 + 0x200 * reason + 0x800 + 0x10000 * sat 65535 (tabGet 0 s.net.back (nodeIx p.1 p.2))), sec)
  let awake := s.mandatoryNodes.filter fun p => let v := tabGet 0 s.net.last (nodeIx p.1 p.2); v != 0 && v != 2
  let silent := s.mandatoryNodes.filter fun p => tabGet 0 s.net.last (nodeIx p.1 p.2) == 0
  let woke := s.nmChannels.flatMap fun c => ((List.range 64).filter fun i => tabGet 0 s.net.woke (nodeIx c i) != 0).map fun i => (c, i)
  awake.map (rec_ · 0) ++ silent.map (rec_ · 1) ++ woke.map (rec_ · 2)

/-- The awake timer expires (R392). -/
def awakeExpire (s : State) : State :=
  if s.net.awakeEnd.isNone ∨ 2 ≤ s.pwrState then s
  else
    let s1 := { s with net := { s.net with awakeEnd := none } }.setB F.NET_STAT_EXPIRED 0 true
    let s2 := s1.emcyObj 0xFF80 0 0x4600 0x30
    if s2.nmState = 1 then
      nmEve true { s2 with net := { s2.net with keeper := ((keeperRecords s2).reverse ++ s2.net.keeper).take 16 } }
    else s2

/-! ## Votes (R387, R388) -/

/-- A vote frame (R387). -/
def voteReceived (n id : Nat) (data : List Byte) (s : State) : State :=
  let node := id - s.getF F.NET_NMID_BASE 0
  let b1 := (data.getD 1 0).toNat
  let who := n * 65536 + node
  let st := s.nmState
  if ! s.nmCh n || ! s.canOn n || id ≤ s.getF F.NET_NMID_BASE 0 || 63 < node || ! (st == 1 || st == 2 || st == 3) then s
  else if s.mutedPartner 2 who || (st == 2 && s.flag F.NET_STAT_FORCED 0) then s
  else if data.length ≠ 8 ∨ (data.getD 0 0).toNat ≠ node ∨ (data.getD 2 0).toNat ≠ s.getF F.NET_STAT_ROUND 0 ∨ 4 ≤ b1 then
    s.violationEmcy 2 4 who
  else
    let k := nodeIx n node
    let wake := bitOf b1 1
    let s1 := { s with net := { s.net with
      votes := tabSet 0 s.net.votes k (b1 + 1), woke := if wake then tabSet 0 s.net.woke k 4 else s.net.woke } }
    if wake ∨ (s.mandatory n node ∧ ! bitOf b1 0) then wakeRequest none false s1 else s1

/-! ## Entries (R389) -/

/-- The manager asks for an entry into the state in TARGET. -/
def nmEntry (forced : Bool) (s : State) : State :=
  (entryRequest (if s.flag F.NET_CTRL_TARGET 0 then 1 else 2) forced s).2.2

/-- The point of no return. -/
def nmPnr (s : State) : State :=
  if s.nmState ≠ 2 then s else nmEntry (s.flag F.NET_STAT_FORCED 0) (nmTo 3 s)

/-! ## Poll samples (R315, R316, R394) -/

/-- Inputs of a list whose sample differs from a level. -/
def pollChanges (levels : Nat) (was : Nat → Bool) (l : List Nat) (s : State) : List Nat :=
  l.filter fun n => (bitOf levels n != s.flag F.SIN_CFG_INV n) != was n

/-- A poll sample: `levels` has the pin level of each input. -/
def pollSample (levels : Nat) (s : State) : State :=
  let entry (n : Nat) : Bool := (s.si n).atEntry.1 != 0
  if s.net.windows.contains 3 && s.net.polled != [] then
    let still := pollChanges levels entry s.net.polled s
    let s1 := { s with net := { s.net with polled := [] } }
    if still = [] then s1 else wakeConfirm 3 s1
  else if s.asleep then
    let changed := pollChanges levels entry s.net.pollSet s
    if changed = [] ∨ ! s.sourceArmed 3 ∨ s.net.windows.contains 3 then s
    else recognise 3 { s with net := { s.net with polled := changed } }
  else if s.entering ∨ s.nmState = 2 ∨ s.nmState = 3 then
    let l := (List.range 64).filter fun n => s.flag F.SIN_CFG_POLL n && sinFitted s.variant n
    if pollChanges levels (fun n => s.sinLevel n) l s = [] then s else recognise 3 s
  else s

/-! ## Selective wake and the RTC alarm (R395, R396) -/

/-- A frame is a wake frame of a channel (R395). -/
def wakeFrame (n : Nat) (f : CanFrame) (s : State) : Bool :=
  let id := (s.rd .NET_SWK_ID n).toNat
  let mask := s.getF F.NET_SWK_MSK_IDMASK n
  let data := s.getF F.NET_SWK_DLO_DATA n + 2 ^ 32 * s.getF F.NET_SWK_DHI_DATA n
  ! f.fdf && ((f.id ^^^ id) &&& mask) % 2 ^ 29 == 0 && f.ide == bitOf id 29 &&
    (! s.flag F.NET_SWK_CTL_DLCEN n || (f.dlc == s.getF F.NET_SWK_CTL_DLC n && (leNat (f.data.take 8) &&& data) != 0))

/-- A decoder has seen a frame, or its error counter has overflowed (none). Decoders listen from the point of no return. -/
def decoderMatch (n : Nat) (f : Option CanFrame) (s : State) : State :=
  let hit := match f with | some x => wakeFrame n x s | none => true
  if hit && (s.asleep || s.entering || s.nmState == 3) then recognise (4 + n) s else s

/-- The RTC alarm fires (R396). -/
def alarmFire (s : State) : State :=
  if ! s.flag F.NET_RTCALM_HI_EN 0 ∨ ! s.dom.keep then s
  else
    let s1 := s.setB F.NET_RTCALM_HI_EN 0 false
    recognise 1 (if s1.asleep then s1 else s1.request 31)

/-- A write of NET_RTCALM_HI: with EN it checks and applies both words. -/
def alarmWrite (w : Word) (s : State) : Code × State :=
  let lo := s.next .NET_RTCALM_LO 0
  let sec := lo.toNat + 2 ^ 32 * F.NET_RTCALM_HI_SEC_HI.of w
  if reservedSet .NET_RTCALM_HI w then (.invalid, s)
  else if ! F.NET_RTCALM_HI_EN.on w then (.accepted, s.wr .NET_RTCALM_HI 0 w)
  else if sec ≤ s.rtcNow.1 then (.invalid, s)
  else (.accepted, (s.applyHeld .NET_RTCALM_LO 0).wr .NET_RTCALM_HI 0 w)

/-! ## The wake link (R400, R401) -/

/-- A byte that the link reads at a pointer. -/
def linkByte (p : Nat) (s : State) : Byte :=
  let src := s.getF F.NET_WSRC_SOURCE 0
  if p = 0 then byte (variantCode s.variant)
  else if p = 1 then byte (s.powerState + 4 * src + 0x20 * b01 (s.nmState == 2))
  else if p < 6 then byte ((s.rd .NET_WLMBX 0).toNat / 2 ^ (8 * (p - 2))) else byte (s.getF F.NET_WLSTAT_TRANS 0)

/-- The link's address is received: acknowledged if it is the module's, and if the link is not muted (R400, R481). -/
def linkAddress (addr : Nat) (read : Bool) (s : State) : State :=
  if addr ≠ s.getF F.NET_WLCFG_ADDR 0 ∨ ! s.dom.keep then s
  else if s.mutedPartner 7 0 then s.emit (.linkAck false)
  else
    let l := s.net.link
    let s1 := { s with net := { s.net with link := { l with active := true, read := read, bytes := if l.active then l.bytes else 0,
                                                            viol := if l.active then l.viol else false } } }
    recognise 2 (s1.emit (.linkAck true))

/-- A NACK: the rest of the transaction is ignored, and the violation is logged, but in DORMANT, where it sets VIOL alone (R482). -/
def linkNack (s : State) : State :=
  let s1 := { s with net := { s.net with link := { s.net.link with viol := true } } }.emit (.linkAck false)
  if s.dom.switch then s1.violation 7 0x0B 0 else s1

/-- Data bytes of a write, at the pointer with auto-increment. -/
def linkData : List Byte → State → State
  | [], s => s
  | b :: t, s =>
    let l := s.net.link
    if l.viol then s
    else if 2 ≤ l.ptr ∧ l.ptr ≤ 5 then
      let s1 := s.wr .NET_WLMBX 0 (putBits (s.rd .NET_WLMBX 0) (8 * (l.ptr - 2)) 8 b.toNat)
      linkData t ({ s1 with net := { s1.net with link := { l with ptr := l.ptr + 1, bytes := l.bytes + 1 } } }.emit (.linkAck true))
    else linkNack s

/-- A write: the pointer byte, then data. -/
def linkWrite (ptr : Nat) (data : List Byte) (s : State) : State :=
  let l := s.net.link
  if ! l.active ∨ l.read ∨ l.viol then s
  else if 6 < ptr then linkNack s
  else linkData data ({ s with net := { s.net with link := { l with ptr := ptr } } }.emit (.linkAck true))

/-- A read of `n` bytes from the pointer, which wraps from 0x06 to 0x00; the initiator acknowledges `acked` of them. -/
def linkRead (n acked : Nat) (s : State) : State :=
  let l := s.net.link
  if ! l.active ∨ ! l.read ∨ l.viol then s
  else
    let bytes := (List.range n).map fun i => linkByte ((l.ptr + i) % 7) s
    { s with net := { s.net with link := { l with ptr := (l.ptr + n) % 7, bytes := l.bytes + min acked n } } }.emit (.linkData bytes)

/-- A STOP ends a transaction: counted, stamped while a core runs, and the confirmation of a wake by the link (R394, R400). -/
def linkStop (s : State) : State :=
  let l := s.net.link
  if ! l.active then s
  else
    let trans := s.getF F.NET_WLSTAT_TRANS 0 + 1
    let s1 := (((s.wr .NET_WLSTAT 0 (word (l.ptr + 0x100 * sat 15 l.bytes + 0x1000 * b01 l.read + 0x2000 * b01 l.viol))).setF
      F.NET_WLSTAT_TRANS 0 trans)).applyHeld .NET_WLCFG 0
    let s2 := { s1 with net := { s1.net with link := { ptr := l.ptr } } }
    let s3 := if s2.dom.core then s2.wr .NET_WLTS 0 (word s2.short) else s2
    if 1 ≤ l.bytes then wakeConfirm 2 s3 else s3

/-! ## Registers (R402, R403) -/

/-- A write of NET_CTRL. -/
def netCtrl (w : Word) (s : State) : State :=
  let was := s.nmOn
  let s1 := s.wrMasked .NET_CTRL 0 w
  let s2 := if F.NET_CTRL_HOLD.on w then { s1 with net := { s1.net with holdSeen := true } } else s1
  let s3 := if ! was && s2.nmOn && s2.pwrState == 0 then nmStart s2 else if was && ! s2.nmOn then nmOff s2 else s2
  let s4 := if F.NET_CTRL_HOLD.on w ∧ ! s.flag F.NET_CTRL_HOLD 0 then wakeRequest none true s3 else s3
  if F.NET_CTRL_WAKEREQ.on w then wakeRequest none true s4 else s4

/-- The lowest absent channel that a mask names. -/
def absentChannel (mask : Nat) (fitted : Nat → Bool) : Option Nat := (onesUpTo 8 mask).find? fun n => ! fitted n

/-- The range checks of the NET settings. -/
def netOk (r : Reg) (w : Word) : Bool :=
  ! reservedSet r w &&
  (match r with
  | .NET_CFG => F.NET_CFG_FWLIM.of w != 0 && F.NET_CFG_ENTRY_T.of w != 0
  | .NET_AWAKE => decide (60 ≤ F.NET_AWAKE_AWAKE_MAX.of w) && decide (10 ≤ F.NET_AWAKE_REAWAKE.of w ∧ F.NET_AWAKE_REAWAKE.of w ≤ 3600)
  | .NET_NMID => decide (F.NET_NMID_BASE.of w ≤ 0x7C0) && F.NET_NMID_BASE.of w % 0x40 == 0
  | .NET_WLCFG => decide (8 ≤ F.NET_WLCFG_ADDR.of w ∧ F.NET_WLCFG_ADDR.of w ≤ 0x77)
  | .NET_SWK_CTL => decide (F.NET_SWK_CTL_DLC.of w ≤ 8)
  | .NET_MAND_LO => ! bitOf w.toNat 0
  | _ => true)

/-- The RW bits of a written word over what the register holds otherwise. -/
def netMerge (r : Reg) (n : Nat) (w : Word) (s : State) : Word := (s.rd r n &&& ~~~ (word r.desc.rw)) ||| (w &&& word r.desc.rw)

/-- A write of a NET register: code, item, state. -/
def netWrite (m : Master) (r : Reg) (n : Nat) (w : Word) (s : State) : Code × Nat × State :=
  if ! regFitted s.variant r n then (.absent, n, absentMark (r.addr n) s)
  else if ! netOk r w then (.invalid, 0, s)
  else match r with
    | .NET_CTRL => (.accepted, 0, netCtrl w s)
    | .NET_CFG =>
      match absentChannel (F.NET_CFG_NMCH.of w) (canFitted s.variant) with
      | some c => (.absent, c, s)
      | none =>
        match busyClaim s (s.setF F.NET_CFG_NMCH 0 (F.NET_CFG_NMCH.of w)) with
        | some p => (.state, p.1, s)
        | none => (.accepted, 0, s.hold r 0 (netMerge r 0 w s))
    | .NET_ARM =>
      match absentChannel (F.NET_ARM_SWK.of w) (swkFitted s.variant) with
      | some c => (.absent, c, s)
      | none => (.accepted, 0, s.hold r 0 (w &&& word r.desc.rw))
    | .NET_AWAKE | .NET_NMID | .NET_MAND_LO | .NET_MAND_HI | .NET_SWK_ID | .NET_SWK_MSK | .NET_SWK_CTL | .NET_SWK_DLO | .NET_SWK_DHI
    | .NET_RTCALM_LO => (.accepted, 0, s.hold r n (netMerge r n w s))
    | .NET_WLCFG => (.accepted, 0, if s.net.link.active then s.hold r 0 w else s.wr r 0 w)
    | .NET_STAT => (.accepted, 0, if F.NET_STAT_EXPIRED.on w then s.setB F.NET_STAT_EXPIRED 0 false else s)
    | .NET_WLMBX | .NET_WLTS => (.accepted, 0, s.wr r 0 w)
    | .NET_KLSEL => (.accepted, 0, s.wr r (bk m 0) w)
    | .NET_RTCALM_HI => let p := alarmWrite w s; (p.1, 0, p.2)
    | _ => (.accepted, 0, s)

/-- A write that reaches a NET register: NET_RESULT has the item in [15:8]. -/
def netAccess (m : Master) (r : Reg) (n : Nat) (w : Word) (s : State) : State :=
  let p := netWrite m r n w s
  (p.2.2.wr .NET_RESULT (bk m 0) (word (p.1.num + 0x100 * p.2.1 + 0x10000 * r.addr n))).emit (.written m (r.addr n) p.1)

/-- The keeper record that a master has selected. -/
def State.keeperSel (s : State) (m : Master) : Word × Word := s.net.keeper.getD (s.getF F.NET_KLSEL_REC (bk m 0)) (0, 0)

/-- Awake time left, s. -/
def State.awakeLeft (s : State) : Nat :=
  match s.net.awakeEnd with
  | some e => sat 65535 ((e - s.up + 999999999) / 1000000000)
  | none => 0

/-- A read of a NET register. -/
def netRead (m : Master) (r : Reg) (n : Nat) (s : State) : Word × State :=
  if ! regFitted s.variant r n then (0, absentMark (r.addr n) s)
  else match r with
    | .NET_STAT => (putBits (s.rd r 0) 16 16 s.awakeLeft, s)
    | .NET_RESULT | .NET_KLSEL => (s.rd r (bk m 0), s)
    | .NET_KLW0 => ((s.keeperSel m).1, s)
    | .NET_KLW1 => ((s.keeperSel m).2, s)
    | .NET_RTC_SEC_LO => (word s.rtcNow.1, (s.setF F.NET_RTC_SEC_HI_SEC_HI 0 (s.rtcNow.1 / 2 ^ 32 % 65536)).setF F.NET_RTC_SUB_SUB 0 s.rtcNow.2)
    | .NET_RTC_SUB => (putBits (s.rd r n) 31 1 (b01 s.alm.rtcValid), s)
    | _ => (s.rd r n, s)

/-! ## Commands -/

/-- IGN_FILTERED_FALL (R210, R392, R502). -/
def execIgnFilteredFall (s : State) : Host.Outcome State Fault Refusal := ok s (if s.ignHigh then ignFall s else s)

/-- IGN_FILTERED_RISE (R210, R390, R397). -/
def execIgnFilteredRise (s : State) : Host.Outcome State Fault Refusal := ok s (if s.ignHigh then s else ignRise s)

/-- An NMT frame on the CANopen channel of the wrong length or with an unknown command: a violation of the NMT master (R480, code 0x03). -/
def nmtMalformed (n : Nat) (f : CanFrame) (s : State) : State :=
  if n = s.canOpenCh ∧ s.dom.core ∧ f.id = 0 ∧ ! f.ide ∧ ! f.fdf ∧ ! f.rtr ∧
      (f.dlc ≠ 2 ∨ ! [0x01, 0x02, 0x80, 0x81, 0x82].contains (f.data.getD 0 0).toNat) then
    s.violationEmcy 1 3 (n * 65536 + 0x300)
  else s

/-- CAN_FRAME_RECEIVED (R337 to R341); a stored frame confirms its channel's wake (R394). -/
def execCanFrameReceived (n : Fin 8) (f : CanFrame) (s : State) : Host.Outcome State Fault Refusal :=
  let t := nmtMalformed n.val f (canReceive n.val f s)
  let stored (q : Nat) : Bool := (s.q (.can n.val q)).recs.length < (t.q (.can n.val q)).recs.length
  ok s (if stored 0 || stored 1 then wakeConfirm (4 + n.val) t else t)

/-- CAN_QUIET_END (R336, R395); the manager may then be AWAKE (R389). -/
def execCanQuietEnd (n : Fin 8) (s : State) : Host.Outcome State Fault Refusal :=
  ok s (if s.canState n.val = 7 then nmAwakeCheck (canTo n.val 1 s) else s)

/-- POLL_SAMPLE (R315, R316). -/
def execPollSample (levels : Nat) (s : State) : Host.Outcome State Fault Refusal := ok s (pollSample levels s)

/-- NMEN (R389): a write of NET_CTRL. -/
def execNmen (m : Master) (w : Word) (s : State) : Host.Outcome State Fault Refusal := ok s (netAccess m .NET_CTRL 0 w s)

/-- WAKEREQ (R390): a write of NET_CTRL with WAKEREQ, or of 0x4600:31. -/
def execWakereq (m : Master) (w : Word) (s : State) : Host.Outcome State Fault Refusal :=
  ok s (match m with
    | .dict p => (wakeRequest none true s).objDone p 0x4600 0x31 .accepted
    | _ => netAccess m .NET_CTRL 0 (w ||| word (2 ^ F.NET_CTRL_WAKEREQ.lo)) s)

/-- NM_VOTE_RECEIVED (R387). -/
def execNmVoteReceived (n : Fin 8) (id : Nat) (data : List Byte) (s : State) : Host.Outcome State Fault Refusal :=
  ok s (voteReceived n.val id data s)

/-- NM_ROUND_END (R388). -/
def execNmRoundEnd (s : State) : Host.Outcome State Fault Refusal := ok s (nmRoundEnd s)

/-- POINT_OF_NO_RETURN (R389). -/
def execPointOfNoReturn (s : State) : Host.Outcome State Fault Refusal := ok s (nmPnr s)

/-- NM_ENTRY_RETRY (R389). -/
def execNmEntryRetry (s : State) : Host.Outcome State Fault Refusal :=
  ok s (if s.nmState = 3 ∧ ! s.entering ∧ s.pwrState < 2 then nmEntry false s else s)

/-- ENTRY_T (R389). -/
def execEntryT (s : State) : Host.Outcome State Fault Refusal :=
  ok s (if s.nmState = 3 ∧ ! s.entering ∧ s.pwrState < 2 then nmEntry true s else s)

/-- AWAKE_TIMER_EXPIRY (R392). -/
def execAwakeTimerExpiry (s : State) : Host.Outcome State Fault Refusal := ok s (awakeExpire s)

/-- WAKE_RECOGNISED (R394). -/
def execWakeRecognised (src : Fin 8) (s : State) : Host.Outcome State Fault Refusal := ok s (recognise src.val s)

/-- CONFIRMATION_WINDOW_EXPIRY (R397). -/
def execConfirmationWindowExpiry (src : Fin 8) (s : State) : Host.Outcome State Fault Refusal := ok s (wakeFalse src.val s)

/-- SELECTIVE_WAKE_MATCH (R395). -/
def execSelectiveWakeMatch (n : Fin 4) (f : Option CanFrame) (s : State) : Host.Outcome State Fault Refusal := ok s (decoderMatch n.val f s)

/-- RTC_ALARM (R396). -/
def execRtcAlarm (s : State) : Host.Outcome State Fault Refusal := ok s (alarmFire s)

/-- NET_RTCALM (R396): a write of NET_RTCALM_HI. -/
def execNetRtcalm (m : Master) (w : Word) (s : State) : Host.Outcome State Fault Refusal := ok s (netAccess m .NET_RTCALM_HI 0 w s)

/-- WAKE_LINK_ADDRESS (R400). -/
def execWakeLinkAddress (addr : Nat) (read : Bool) (s : State) : Host.Outcome State Fault Refusal := ok s (linkAddress addr read s)

/-- WAKE_LINK_WRITE (R400). -/
def execWakeLinkWrite (ptr : Nat) (data : List Byte) (s : State) : Host.Outcome State Fault Refusal := ok s (linkWrite ptr data s)

/-- WAKE_LINK_READ (R400). -/
def execWakeLinkRead (n acked : Nat) (s : State) : Host.Outcome State Fault Refusal := ok s (linkRead n acked s)

/-- WAKE_LINK_STOP (R400). -/
def execWakeLinkStop (s : State) : Host.Outcome State Fault Refusal := ok s (linkStop s)

end Sys2Proof.Machine
end

