-- ==== Sys2Proof/Machine/Parameters.lean ====
section
/-!
DEFINITION. Machine/Parameters.lean: the parameters that the module stores and base firmware restores (02_object_dictionary.md, R48, R50;
11_can_lin.md, R336; 14_power_states.md, R419): the registers that the dictionary mirrors as configuration.
-/
namespace Sys2Proof.Machine

/-- A write that reaches an ALM register; a port that is not fitted answers under R13. -/
def almAccess (m : Master) (r : Reg) (n : Nat) (w : Word) (s : State) : State :=
  if regFitted s.variant r n then
    let p := almWrite r n w s
    p.2.answered m (r.addr n) p.1
  else (absentMark (r.addr n) s).answered m (r.addr n) .absent

/-- A write that reaches a PROT register; one to an absent channel's is ignored, and answered with ABSENT (R13, R14, R253). -/
def protAccess (m : Master) (r : Reg) (n : Nat) (w : Word) (s : State) : State :=
  if regFitted s.variant r n then
    let p := protWrite r n w s
    p.2.answer m .PROT_RESULT p.1 n (r.addr n)
  else s.absentWrite m .PROT_RESULT n (r.addr n)

/-- A write that reaches a register of a unit other than PWR and IDN: checked at acceptance, answered, held or applied by its unit (R33). -/
def unitAccess (m : Master) (r : Reg) (n : Nat) (w : Word) (s : State) : State :=
  match r.desc.unit with
  | .CORE => coreAccess m r n w s
  | .FCRU => fcruAccess m r n w s
  | .BTE => bteAccess m r n w s
  | .ALM => almAccess m r n w s
  | .MST => mstAccess m r n w s
  | .WCU => wcuAccess m r n w s
  | .OUT => outAccess m r n w s
  | .PROT => protAccess m r n w s
  | .SNS => snsAccess m r n w s
  | .TOLL => tollAccess m r n w s
  | .VLV => vlvAccess m r n w s
  | .SIN => sinAccess m r n w s
  | .FIO => fioAccess m r n w s
  | .CAN => canAccess m r n w s
  | .LIN => linAccess m r n w s
  | .ETH => ethAccess m r n w s
  | .NET => netAccess m r n w s
  | .ACC => accAccess m r n w s
  | .SVC | .ODO => svcAccess m r n w s
  | .PWR | .IDN => s

/-- PWR_CFG applies at the next entry, its IDLEEN at once (R423). -/
def pwrCfgTake (w : Word) (s : State) : State := (s.hold .PWR_CFG 0 w).setB F.PWR_CFG_IDLEEN 0 (F.PWR_CFG_IDLEEN.on w)

/-! ## What is stored (R48, R50) -/

/-- The registers that sub-entries of 0x2000 to 0x5FFF mirror as configuration. -/
def mirrorRegs : List Reg := List.flatten [
  [.PWR_CFG, .PWR_VETO, .ALM_CTRL, .ALM_CANSYNC, .ALM_PHYCAL, .ALM_ADDEND_LO, .ALM_ADDEND_HI, .MST_CFG, .WCU_CTRL, .WCU_TOP, .WCU_CCTRL],
  [.OUT_CFG, .OUT_THR, .OUT_INR, .OUT_RUNON, .OUT_ALN, .PROT_WIRE, .PROT_CPL, .PROT_RETRY, .PROT_TOLL, .PROT_LIM, .SNS_CFG, .SNS_SIGCFG],
  [.TOLL_CFG, .VLV_CUR, .VLV_TIM, .VLV_MODE, .VLV_GCFG, .SIN_CFG, .SIN_BAND, .FIO_CFG, .FIO_TOCFG],
  [.CAN_MODE, .CAN_BTN, .CAN_BTD, .FLT_MATCH, .FLT_MASK, .FLT_CTRL, .MB_CTRL, .LIN_CFG, .LIN_SCH, .LIN_TDEF],
  [.ETH_CTRL, .ETH_QMAP, .ETH_MIRROR, .ETH_PCFG, .ETH_CBSA, .ETH_CBSB, .ETH_VLAN, .ETH_SA_LO, .ETH_SA_HI, .ETH_SA_CTL],
  [.NET_CFG, .NET_AWAKE, .NET_NMID, .NET_ARM, .NET_WLCFG, .NET_WLMBX, .NET_MAND_LO, .NET_MAND_HI, .NET_SWK_ID, .NET_SWK_MSK, .NET_SWK_CTL,
   .NET_SWK_DLO, .NET_SWK_DHI, .NET_RTCALM_LO, .NET_RTCALM_HI],
  [.ACC_CFG, .ACC_TIMING, .ACC_BOUND, .ACC_LOCK, .ACC_DE, .ACC_ANTCAL, .SVC_PCFG]]

/-- The bits of it that are restored: Run and Arm mirror the Highway element (R50). -/
def mirrorMask (r : Reg) : Word :=
  match r with
  | .WCU_CTRL => word r.desc.rw &&& ~~~ (word (2 ^ F.WCU_CTRL_EN.lo))
  | .WCU_CCTRL => word r.desc.rw &&& ~~~ (word (2 ^ F.WCU_CCTRL_ARM.lo))
  | _ => word r.desc.rw

/-- The register of a key of the register file, where it is one of these. -/
def mirrorOf (k : Nat) : Option (Reg × Nat) := (mirrorRegs.find? fun r => r.ctorIdx == k % 512).map fun r => (r, k / 512)

/-- The documented default of a parameter: its register's reset value, but for what base firmware writes at a start (R153, R359, R385). -/
def paramDefault (v : Variant) (r : Reg) (n : Nat) : Word :=
  match r with
  | .ETH_CTRL => word 0x14B3
  | .CAN_MODE => word 0x71
  | .ALM_CTRL => if v = .px48 then 3 else 2
  | _ => r.reset n

/-- The stored value of a parameter. -/
def State.param (s : State) (r : Reg) (n : Nat) : Word := (tabGet none s.dict.storedRegs (regKey r n)).getD (paramDefault s.variant r n)

/-- The keys of parameters whose default is not the reset value of the register. -/
def oddKeys : List Nat := [regKey .ETH_CTRL 0, regKey .ALM_CTRL 0] ++ (List.range 8).map fun n => regKey .CAN_MODE n

/-- Keys of the registers that may differ from their defaults: all others hold them. -/
def State.mirrorKeys (s : State) : List Nat := s.regs.map (·.1) ++ s.held.map (·.1) ++ s.dict.storedRegs.map (·.1) ++ oddKeys

/-- One parameter is stored as it stands, with the value that waits where one does. -/
def paramSave (k : Nat) (s : State) : State :=
  match mirrorOf k with
  | none => s
  | some (r, n) =>
    let w := (s.next r n &&& mirrorMask r) ||| (paramDefault s.variant r n &&& ~~~ mirrorMask r)
    let e : Option Word := if w = paramDefault s.variant r n then none else some w
    { s with dict := { s.dict with storedRegs := tabSet none s.dict.storedRegs k e } }

/-- The configuration of the fault sources that differs from the default. -/
def srcsStored (s : State) : Tab (Option (Nat × Nat)) :=
  (List.range 192).filterMap fun i =>
    let x := s.fsrc i
    if x.cfg.isNone && x.win.isNone then none else some (i, some (s.srcCfg i, s.srcWin i))

/-- The parameters of 0x2000 to 0x5FFF are stored. -/
def paramsSave (s : State) : State :=
  let s1 := s.mirrorKeys.foldl (fun t k => paramSave k t) s
  { s1 with dict := { s1.dict with
      storedSrc := srcsStored s1
      storedSlots := s1.linSlots.filter fun p => p.1 % 4 != 1
      storedAlm := s1.alm.set } }

/-- They are set back to their defaults. -/
def paramsClear (s : State) : State := { s with dict := { s.dict with storedRegs := [], storedSrc := [], storedSlots := [], storedAlm := {} } }

/-! ## Restoring (R35, R50, R336, R419) -/

/-- The path under whose name the module itself writes. -/
def ownPath : DPath := .sdo 0

/-- A parameter takes its stored value again, through its unit and its apply point; what the unit refuses stays. No path is answered. -/
def paramRestore (k : Nat) (s : State) : State :=
  match mirrorOf k with
  | none => s
  | some (r, n) =>
    let w := (s.next r n &&& ~~~ (mirrorMask r)) ||| (s.param r n &&& mirrorMask r)
    if ! regFitted s.variant r n ∨ w = s.next r n then s
    else
      let t :=
        match r with
        | .PWR_CFG => pwrCfgTake w s
        | .PWR_VETO => s.wr r n w
        | .SIN_BAND => s.hold r n w
        | .SNS_SIGCFG => s.hold r n (w &&& mirrorMask r)
        | .ALM_ADDEND_LO | .ALM_ADDEND_HI => if s.role = 0 then unitAccess (.dict ownPath) r n w s else s
        | _ => unitAccess (.dict ownPath) r n w s
      { t with sent := s.sent }

/-- The configuration of a fault source takes its stored value again. -/
def srcRestored (s : State) (i : Nat) : State :=
  match tabGet none s.dict.storedSrc i with
  | some (c, w) => (swinWrite i (word w) (scfgWrite i (word c) s).2).2
  | none => forceSource (s.setFsrc i { s.fsrc i with cfg := none, win := none }) i

/-- The LIN slots take their stored words again; result words stay. -/
def slotsRestore (s : State) : State :=
  { s with linSlots := s.dict.storedSlots.foldl (fun t p => tabSet 0 t p.1 p.2) (s.linSlots.filter fun p => p.1 % 4 == 1) }

/-- The settings of the Almanac take their stored values again. -/
def almSetRestore (s : State) : State := { s with alm := { s.alm with set := s.dict.storedAlm } }

/-- The parameters whose registers meet a test are restored; a CAN channel leaves CONFIG last. -/
def paramsRestore (p : Reg → Nat → Bool) (s : State) : State :=
  let keys := s.mirrorKeys.filter fun k => match mirrorOf k with | some (r, n) => p r n | none => false
  let modes := keys.filter fun k => k % 512 == Reg.ctorIdx .CAN_MODE
  let rest := keys.filter fun k => k % 512 != Reg.ctorIdx .CAN_MODE
  (rest ++ modes).foldl (fun t k => paramRestore k t) s

/-- Whether the domain of a unit's registers is on. -/
def State.unitOn (s : State) (u : IoUnit) : Bool :=
  match u with
  | .CAN | .LIN | .ETH | .ACC => s.dom.comms
  | .FIO => s.dom.field
  | _ => true

/-- Registers that an NMT reset does not restore: they are Highway registers and keep the values in force (R50). Of WCU_CTRL and WCU_CCTRL only EN and
ARM are Highway. -/
def resetKeeps (r : Reg) : Bool := r.highway && r != .WCU_CTRL && r != .WCU_CCTRL

/-- NMT reset node: the parameters of 0x2000 to 0x5FFF (R50). -/
def nodeRestore (s : State) : State :=
  let s1 := paramsRestore (fun r _ => s.unitOn r.desc.unit && ! resetKeeps r) s
  let s2 := (List.range 192).foldl (fun t i =>
    if (t.fsrc i).cfg.isNone && (t.fsrc i).win.isNone && (tabGet none t.dict.storedSrc i).isNone then t else srcRestored t i) s1
  almSetRestore (if s.dom.comms then slotsRestore s2 else s2)

/-- Base firmware configures what has started: the registers of the Switch and Keep domains after a start of the Switch domain, those of the
Comms and of the Field domain after a start of theirs. Registers of the Retention Set keep what was restored, and a CAN channel that woke the
module is not started (R336, R419). -/
def firmwareConfigure (comms field : Bool) (s : State) : State :=
  let sw := s.pwr.configure
  let s0 := if sw then almSetRestore (calLoad { s with pwr := { s.pwr with configure := false } }) else s
  let kept (r : Reg) (n : Nat) : Bool := s0.flag F.PWR_STAT_RESTORED 0 && keyRetained s0.variant (regKey r n)
  let saved := s0.pwr.saved.isSome && s0.pwr.savedOk
  let p (r : Reg) (n : Nat) : Bool :=
    match r.desc.unit with
    | .CAN =>
      comms && (match r with
        | .FLT_MATCH | .FLT_MASK | .FLT_CTRL => ! (saved && swkFitted s0.variant (n / 48))
        | .CAN_MODE | .CAN_BTN | .CAN_BTD => s0.canState n == 0
        | _ => true)
    | .LIN | .ETH | .ACC => comms
    | .FIO => field
    | _ => sw && ! kept r n
  let s1 := paramsRestore p s0
  let s2 := if sw then (s1.dict.storedSrc.map (·.1)).foldl srcRestored s1 else s1
  if comms then slotsRestore s2 else s2

end Sys2Proof.Machine
end

