-- ==== Sys2Proof/Machine/PowerCommands.lean ====
section
/-!
DEFINITION. Machine/PowerCommands.lean: the phases of an entry, the exit, the PWR registers and the commands of the power states
(14_power_states.md, R413 to R425).
-/
namespace Sys2Proof.Machine

/-! ## Phases (R413 to R416) -/

/-- NOTICE ends. -/
def noticeOver (s : State) : State := if s.pwrPhase = 1 then s.setF F.PWR_STAT_PHASE 0 2 else s

/-- The entry report's words, but for the RTC second (R415). -/
def reportWrite (target : Nat) (forced : Bool) (s : State) : State :=
  let w0 := target + 4 * b01 forced + 8 * b01 s.pwr.saveTo + 0x10 + s.pwr.cut
  (List.range 8).foldl (fun t c => t.wr .PWR_EREPC c (t.rd .BTE_RES c)) (s.wr .PWR_EREP0 0 (word w0))

/-- What every input shows as the entry is made (R316, R317), and the inputs that the Keep poller takes (R315). -/
def inputsAtEntry (s : State) : State :=
  let l := (List.range 64).filter fun n => sinFitted s.variant n
  let s1 := l.foldl (fun t n => t.setSi n { t.si n with atEntry := (b01 (t.sinLevel n), t.sinPos n), resume := none }) s
  { s1 with net := { s1.net with pollSet := l.filter fun n => s1.flag F.SIN_CFG_POLL n, polled := [] } }

/-- The Field domain at an entry: held with its PARKHOLD outputs in PARK, off otherwise (R325). -/
def fieldEntry (target : Nat) (s : State) : State :=
  let holds := (s.pointsWhere fun p => s.flag F.FIO_CFG_PARKHOLD p && s.fioDriven p) != []
  if target = 1 ∧ s.toState = 1 ∧ holds then
    let s1 := (s.pointsWhere fun p => s.fioIsOut p && ! s.flag F.FIO_CFG_PARKHOLD p).foldl
      (fun t p => t.setB (portBit .FIO_OUT p) 0 false) s
    s1.setF F.FIO_STATUS_TOSTATE 0 3
  else fieldOff s

/-- Wake-capable channels whose decoders take over (R336). -/
def State.decoders (s : State) : List Nat :=
  (List.range 8).filter fun n => swkFitted s.variant n && (s.canState n == 2 || s.canState n == 3 || s.canState n == 5)

/-- A channel stage goes off for DORMANT with REASON 5 (R212, R219); a channel that waits for a switch-on waits no more. -/
def outputOff (n : Nat) (s : State) : State :=
  let s1 := waitDrop n (s.setCh n { s.ch n with runonEnd := none })
  if s1.stage n ∨ s1.stageState n then offCleared n (stageLeft n 0 (stageOff n 5 false s1)) else s1

/-- Every channel stage goes off, run-on timers end, and every valve is idle (R413, R414). -/
def outputsOff (s : State) : State := valvesForced ((s.chansWhere fun _ => true).foldl (fun t n => outputOff n t) s)

/-- The HW phase (R413). In a later step from PARK, what is off already stays off. -/
def hwPhase (s : State) : State :=
  let target := s.getF F.PWR_STAT_TGT 0
  let forced := s.flag F.PWR_STAT_FORCED 0
  let s1 := inputsAtEntry (s.setF F.PWR_STAT_PHASE 0 3)
  let s2 := { s1 with net := { s1.net with decoding := if s1.dom.comms then s1.decoders else s1.net.decoding } }
  let s3 := retainSave (reportWrite target forced { s2 with pwr := { s2.pwr with emcyForced := forced } })
  let s4 := fieldEntry target (if s3.dom.comms then commsOff s3 else s3)
  let s5 := snsPark { queuesReset [.milestone] s4 with mst := {} }
  let s6 := if s5.dom.core then coreOff s5 else s5
  let s7 := if target = 2 then outputsOff s6 else s6
  s7.setF F.PWR_STAT_PHASE 0 4

/-- The save by base firmware in SAVE: the Odometer, the calibration and a trial's run time (R413, R516). -/
def firmwareSave (s : State) : State :=
  let s1 := odoSave (calSave s)
  { s1 with svc := { s1.svc with trialSaved := s1.trialTime } }

/-- DORMANT begins: its seconds are counted from here (R526). -/
def dormantFrom (s : State) : State := { s with pwr := { s.pwr with dormantAt := some s.rtcNow.1 } }

/-- DORMANT ends: its seconds join the Odometer, from the RTC (R525, R526). -/
def dormantOver (s : State) : State :=
  match s.pwr.dormantAt with
  | some t => { s with pwr := { s.pwr with dormantAt := none } }.odoCount 11 0 3 (s.rtcNow.1 - t)
  | none => s

/-- The entry is complete: PARK or DORMANT; a latched wake begins the exit at once (R416, R421). -/
def entryComplete (s : State) : State :=
  let target := s.getF F.PWR_STAT_TGT 0
  let s1 := (((s.wr .PWR_EREP1 0 (word s.rtcNow.1)).setF F.PWR_STAT_STATE 0 (target + 1)).setF F.PWR_STAT_PHASE 0 0)
  let s2 := (s1.setB F.PWR_STAT_FORCED 0 false).setF F.PWR_STAT_TGT 0 0
  let s3 := retainReg .PWR_EREP1 0 s2
  let s4 := match s3.pwr.saved with
    | some r => { s3 with pwr := { s3.pwr with saved := some { r with second := s3.rtcNow.1, sub := s3.rtcNow.2 } } }
    | none => s3
  let s5 := { s4 with pwr := { s4.pwr with pll := false }, net := { s4.net with awakeEnd := none, inRound := false } }
  let s6 := if target = 2 then switchOff (dormantFrom s5) else boostOff s5
  let s7 := if s6.nmOn then nmTo 4 ((s6.setB F.NET_STAT_FORCED 0 false).setB F.NET_STAT_AGREE 0 false) else s6
  latchedWakes s7

/-- The Almanac's next whole second: the RTC is loaded, and the entry completes (R143, R413). -/
def alignEntry (s : State) : State :=
  if s.pwrPhase ≠ 4 then s
  else if s.almStopped then entryComplete s
  else
    let a := s.alm
    let later := if a.ns = 0 then 0 else 1000000000 - a.ns
    let a1 := { a with rtcSec := a.sec + b01 (a.ns != 0), rtcSub := 0, rtcAt := s.up + later, rtcValid := true, rtcLoad := false }
    entryComplete { s with alm := a1 }

/-- The PARK-to-DORMANT step (R420). -/
def parkToDormant (s : State) : State :=
  if s.pwrState ≠ 2 ∨ s.pwrPhase ≠ 0 ∨ ! s.flag F.PWR_CFG_AUTODORM 0 then s
  else if (s.busyMask true &&& 0x82) ≠ 0 then s
  else
    let s0 := entryApply { s with pwr := { s.pwr with cut := 0, saveTo := false } }
    entryComplete (hwPhase ((s0.setB F.PWR_STAT_FORCED 0 false).setF F.PWR_STAT_TGT 0 2))

/-- The Switch supply is lost in PARK while Keep stays on: DORMANT, with nothing further saved (R421). -/
def supplyLost (s : State) : State :=
  if s.pwrState ≠ 2 ∨ s.pwrPhase ≠ 0 ∨ ! s.dom.keep then s
  else
    let s1 := switchOff (dormantFrom (fieldOff (s.setF F.PWR_STAT_STATE 0 3)))
    { s1 with pwr := { s1.pwr with loss := true } }

/-! ## Exit (R417) -/

/-- The Almanac after PLL_B has locked: stepped to the RTC, or started at 0 without a valid one (R144); a servo with a source acquires (R129, R151). -/
def almResume (s : State) : State :=
  let s1 :=
    if s.alm.rtcValid then
      let t := s.rtcNow
      ((stepTo t.1 (t.2 * 30517578125 / 1000000) s).setB F.ALM_STATUS_TIME_VALID 0 true).setB F.ALM_STATUS_RTC_SEEDED 0 true
    else { s with alm := { s.alm with sec := 0, ns := 0, frac := 0 } }.setB F.ALM_STATUS_TIME_VALID 0 false
  if s1.role = 0 then s1 else servoTo 1 s1

/-- Every input's filter restarts from the present pin level (R317). In mode 2 the pin level is not read. -/
def inputsResume (pins : Nat) (s : State) : State :=
  ((List.range 64).filter fun n => sinFitted s.variant n).foldl
    (fun t n => filterRestart n true (if t.sinMode n = 2 then t else t.setB F.SIN_STAT_RAW n (bitOf pins n))) s

/-- The PLLs lock on exit: the Switch domain starts if it was off, the Almanac goes on, the inputs restart. LEVEL and POS are those of the entry. -/
def pllsLock (pins : Nat) (s : State) : State :=
  if s.pwrPhase ≠ 5 ∨ s.pwr.pll then s
  else
    let s1 := if s.dom.switch then s else switchStart (dormantOver s)
    let s2 := if s.dom.switch then s1
      else ((List.range 64).filter fun n => sinFitted s1.variant n && s1.sinMode n != 2).foldl
        (fun t n => t.setB F.SIN_STAT_LEVEL n ((t.si n).atEntry.1 != 0)) s1
    inputsResume pins (almResume { s2 with pwr := { s2.pwr with pll := true } })

/-- Core, Comms and Field come on with the main regulator (R90), and the module is in RUN (R417). A handle that is down after a wake by the inputs starts an attempt (R491). -/
def domainsOn (pins : Nat) (s : State) : State :=
  if s.pwrPhase ≠ 5 ∨ ! s.pwr.pll ∨ s.supply.module.dark then s
  else
    let s1 := fieldOn pins (coreOn (commsOn s))
    let s2 := firmwareConfigure (! s.dom.comms) (! s.dom.field) ((s1.setF F.PWR_STAT_PHASE 0 0).setF F.PWR_STAT_STATE 0 0)
    let s3 := if s2.getF F.NET_WSRC_SOURCE 0 = 3 ∧ s2.sinLevel (s2.getF F.ACC_CFG_HANDSI 0) then accTrigger 0 s2 else s2
    nmAwakeCheck s3

/-! ## Registers (R423) -/

/-- The bank of PWR_RESULT: the dictionary's paths have one between them (R424). -/
def pwrBank (m : Master) : Nat :=
  match m with
  | .dict _ => bk (.dict .rpdo) 0
  | _ => bk m 0

/-- The answer to a request, laid out as PWR_RESULT. -/
def pwrResult (c : Code) (mask : Nat) : Word := word (c.num + 0x100 * lowestRefuser mask + 0x10000 * mask)

/-- A write of a PWR register: code, refusers, state. -/
def pwrWrite (r : Reg) (w : Word) (s : State) : Code × Nat × State :=
  match r with
  | .PWR_REQ =>
    let t := F.PWR_REQ_TARGET.of w
    if reservedSet r w ∨ t = 0 ∨ t = 3 then (.invalid, 0, s) else entryRequest t (F.PWR_REQ_FORCE.on w) s
  | .PWR_CFG =>
    if reservedSet r w ∨ 20 < F.PWR_CFG_NOTICE.of w then (.invalid, 0, s)
    else (.accepted, 0, pwrCfgTake w s)
  | .PWR_VETO => if reservedSet r w then (.invalid, 0, s) else (.accepted, 0, s.wr r 0 w)
  | .PWR_SAVED =>
    if reservedSet r w then (.invalid, 0, s)
    else if F.PWR_SAVED_SAVED.on w ∧ s.pwrPhase = 2 then (.accepted, 0, hwPhase (firmwareSave s))
    else (.accepted, 0, s)
  | _ => (.accepted, 0, s)

/-- A write that reaches a PWR register. -/
def pwrAccess (m : Master) (r : Reg) (n : Nat) (w : Word) (s : State) : State :=
  let p := pwrWrite r w s
  (p.2.2.wr .PWR_RESULT (bk m 0) (pwrResult p.1 p.2.1)).emit (.written m (r.addr n) p.1)

/-- PWR_STAT with IDLE. -/
def pwrStat (s : State) : Word := putBits (s.rd .PWR_STAT 0) 0 2 s.powerState

/-- A read of a PWR register. -/
def pwrRead (m : Master) (r : Reg) (n : Nat) (s : State) : Word × State :=
  match r with
  | .PWR_REQ | .PWR_SAVED => (0, s)
  | .PWR_RESULT => (s.rd r (pwrBank m), s)
  | .PWR_STAT => (pwrStat s, s)
  | .PWR_BUSY => (word (s.busyMask false + 0x10000 * s.busyMask true), s)
  | _ => (s.rd r n, s)

/-- A request by a master: a write of PWR_REQ, or of 0x2100:01, which is answered when it is decided (R424). -/
def requestBy (m : Master) (target : Nat) (forced : Bool) (s : State) : State :=
  let w := word (target % 4 + 4 * b01 forced)
  match m with
  | .dict p =>
    let r := pwrWrite .PWR_REQ w s
    let t := r.2.2.wr .PWR_RESULT (pwrBank m) (pwrResult r.1 r.2.1)
    t.objDone p 0x2100 1 r.1
  | _ => pwrAccess m .PWR_REQ 0 w s

/-! ## Commands -/

/-- PWR_REQUEST_POLITE (R411). -/
def execPwrRequestPolite (m : Master) (target : Nat) (s : State) : Host.Outcome State Fault Refusal := ok s (requestBy m target false s)

/-- PWR_REQUEST_FORCED (R414). -/
def execPwrRequestForced (m : Master) (target : Nat) (s : State) : Host.Outcome State Fault Refusal := ok s (requestBy m target true s)

/-- NOTICE_END (R413). -/
def execNoticeEnd (s : State) : Host.Outcome State Fault Refusal := ok s (noticeOver s)

/-- PWR_SAVED (R413): a write of PWR_SAVED. -/
def execPwrSaved (m : Master) (w : Word) (s : State) : Host.Outcome State Fault Refusal := ok s (pwrAccess m .PWR_SAVED 0 w s)

/-- SAVE_TIMEOUT (R413). -/
def execSaveTimeout (s : State) : Host.Outcome State Fault Refusal :=
  ok s (if s.pwrPhase = 2 then hwPhase { s with pwr := { s.pwr with saveTo := true } } else s)

/-- ALIGN (R413). -/
def execAlign (s : State) : Host.Outcome State Fault Refusal := ok s (alignEntry s)

/-- PARK_TO_DORMANT_TEST (R420). -/
def execParkToDormantTest (s : State) : Host.Outcome State Fault Refusal := ok s (parkToDormant s)

/-- SWITCH_SUPPLY_LOSS (R421). -/
def execSwitchSupplyLoss (s : State) : Host.Outcome State Fault Refusal := ok s (supplyLost s)

/-- PLL_LOCK (R417): `pins` has the level of each switch input. -/
def execPllLock (pins : Nat) (s : State) : Host.Outcome State Fault Refusal := ok s (pllsLock pins s)

/-- DOMAINS_ON (R417): `fieldPins` has the level of each field point. -/
def execDomainsOn (fieldPins : Nat) (s : State) : Host.Outcome State Fault Refusal := ok s (domainsOn fieldPins s)

end Sys2Proof.Machine
end

