-- ==== Sys2Proof/Machine/Supply.lean ====
section
/-!
DEFINITION. Machine/Supply.lean: the supply bands, the ground studs and the starts of the domains (03_connectors_electrical.md, R90 to R99).
-/
namespace Sys2Proof.Machine

/-- The bands by their places from the lowest (R90). -/
def bandOf (n : Nat) : Band :=
  if n = 0 then .below6 else if n = 1 then .off else if n = 2 then .hold else if n = 3 then .reduced else if n = 4 then .full else .over

/-- A feed enters a band: its channels and the valve groups of its feed path follow (R90, R93). -/
def feedEnters (k : Nat) (b : Band) (s : State) : State :=
  let s1 := feedBandChannels k b s
  if b.dark then valvesBand k s1 else s1

/-- Core, Comms and Field go off with the main regulator (R90). -/
def regulatorOff (s : State) : State :=
  let s1 := if s.dom.comms then commsOff s else s
  let s2 := if s1.dom.field then fieldOff s1 else s1
  if s2.dom.core then coreOff s2 else s2

/-- The Switch supply is lost: in PARK the module is then in DORMANT (R421); the Keep domain goes with it where KEEP_IN is below 6 V too (R99). -/
def switchSupplyGone (keep : Bool) (s : State) : State :=
  let s1 := if s.pwrState = 2 ∧ s.pwrPhase = 0 ∧ s.dom.keep then supplyLost s else switchOff s
  if keep then s1 else keepOff s1

/-- The Core domain comes on where the power state has it on: in RUN, and in an entry before HW. -/
def coreReturns (s : State) : State :=
  if s.dom.switch ∧ s.pwrState = 0 ∧ s.pwrPhase < 3 ∧ ! s.dom.core then firmwareConfigure false false (coreOn s) else s

/-- The module supply enters a band (R90). `keep`: KEEP_IN is at 6 V or above. -/
def moduleEnters (b : Band) (keep : Bool) (s : State) : State :=
  let s1 := { s with supply := { s.supply with module := b } }
  let s2 := if b == .full then s1 else boostOff s1
  match b with
  | .below6 => switchSupplyGone keep (regulatorOff s2)
  | .off => regulatorOff s2
  | _ => coreReturns s2

/-- The main regulator is in a band that has it on, and the power state is RUN. -/
def State.regulated (s : State) : Bool :=
  ! s.supply.module.dark && s.dom.switch && s.pwrState == 0 && decide (s.pwrPhase < 3)

/-- The Switch domain starts after its supply was lost: the module is in RUN, and the Almanac goes on from the RTC or from 0 (R91, R144). -/
def switchReturns (s : State) : State :=
  if s.dom.switch ∨ ! s.dom.keep then s
  else if s.pwrPhase = 5 then switchStart (dormantOver s)
  else if s.pwrState = 3 then s
  else
    let s1 := switchStart (runState s)
    almResume { s1 with pwr := { s1.pwr with pll := true } }

/-- Ground studs are lost or regained (R98): with both lost every channel and every valve switches off, and no field output drives. -/
def studsChange (lost : Nat) (s : State) : State :=
  let s1 := { s with supply := { s.supply with studsLost := lost } }
  let s2 := (s1.chansWhere fun _ => true).foldl (fun t n => bandChannel n t) s1
  if 2 ≤ lost then (List.range 4).foldl (fun t k => valvesBand k t) s2 else s2

/-! ## Commands -/

/-- SWITCH_DOMAIN_START (R91, R419). -/
def execSwitchDomainStart (s : State) : Host.Outcome State Fault Refusal := ok s (switchReturns s)

/-- KEEP_DOMAIN_START (R99): the Keep registers have their reset values, and the Retention Set is lost. -/
def execKeepDomainStart (s : State) : Host.Outcome State Fault Refusal :=
  ok s (if s.dom.keep then s else runState { s with dom := { s.dom with keep := true } })

/-- COMMS_DOMAIN_START (R336). -/
def execCommsDomainStart (s : State) : Host.Outcome State Fault Refusal :=
  ok s (if ! s.dom.comms && s.regulated then firmwareConfigure true false (commsOn s) else s)

/-- FIELD_DOMAIN_START (R325): `pins` has the level of each field point. -/
def execFieldDomainStart (pins : Nat) (s : State) : Host.Outcome State Fault Refusal :=
  ok s (if ! s.dom.field && s.regulated then firmwareConfigure false true (fieldStart pins s) else s)

/-- FEED_BAND_CHANGE (R90, R92): an absent feed has no band, and the detectors lie in the Switch domain. -/
def execFeedBandChange (k : Fin 4) (band : Fin 6) (s : State) : Host.Outcome State Fault Refusal :=
  ok s (if s.dom.switch && feedFitted s.variant k.val then feedEnters k.val (bandOf band.val) s else s)

/-- MODULE_SUPPLY_BAND_CHANGE (R90, R99). With the Switch domain off the Keep domain goes only where no feed has 6 V and KEEP_IN has not. -/
def execModuleSupplyBandChange (band : Fin 6) (keep : Bool) (s : State) : Host.Outcome State Fault Refusal :=
  ok s (if s.dom.switch then moduleEnters (bandOf band.val) keep s else if keep || band.val != 0 then s else keepOff s)

/-- GROUND_STUD_LOSS (R98). -/
def execGroundStudLoss (lost : Fin 3) (s : State) : Host.Outcome State Fault Refusal := ok s (studsChange lost.val s)

end Sys2Proof.Machine
end

