-- ==== Sys2Proof/Machine/IoSpace.lean ====
section
/-!
DEFINITION. Machine/IoSpace.lean: the I/O space as one space (00_scope.md, R5 to R14; 01_architecture.md, R30 to R38): a write and a read of any
address, the apply points that come with time, AGED, and the commands that change the inputs cab access watches.
-/
namespace Sys2Proof.Machine

/-! ## IDN (R5 to R10) -/

/-- IDN_VARIANT and IDN_PRESENCE as manufactured; IDN_STATUS. -/
def idnRead (r : Reg) (n : Nat) (s : State) : Word :=
  match r with
  | .IDN_VARIANT => word (variantCode s.variant + 0x100 * s.ident.rev + 0x10000 * s.ident.connset)
  | .IDN_PRESENCE => word (presenceBits s.variant)
  | _ => s.rd r n

/-- A write of IDN_STATUS: a 1 clears the flag and the address (R9). -/
def idnClear (w : Word) (s : State) : State := if F.IDN_STATUS_ABSENT_ACCESS.on w then s.wr .IDN_STATUS 0 0 else s

/-- A write that reaches an IDN register. -/
def idnAccess (m : Master) (r : Reg) (n : Nat) (w : Word) (s : State) : State :=
  (match r with
    | .IDN_STATUS => idnClear w s
    | _ => s).answered m (r.addr n) .accepted

/-! ## Writes and reads (R13, R33, R38) -/

/-- A write that reaches a register: checked at acceptance, answered, held or applied by its unit (R33). -/
def regWrite (m : Master) (r : Reg) (n : Nat) (w : Word) (s : State) : State :=
  match r.desc.unit with
  | .PWR => pwrAccess m r n w s
  | .IDN => idnAccess m r n w s
  | _ => unitAccess m r n w s

/-- A read of a register of a fitted resource. -/
def regRead (m : Master) (r : Reg) (n : Nat) (s : State) : Word × State :=
  match r.desc.unit with
  | .CORE => coreRead m r n s
  | .PWR => pwrRead m r n s
  | .FCRU => fcruRead m r n s
  | .BTE => bteRead m r n s
  | .ALM => almRead m r n s
  | .MST => mstRead m r n s
  | .WCU => wcuRead m r n s
  | .OUT => outRead m r n s
  | .PROT => protRead m r n s
  | .SNS => snsRead m r n s
  | .TOLL => tollRead m r n s
  | .VLV => vlvRead m r n s
  | .SIN => sinRead m r n s
  | .FIO => fioRead m r n s
  | .CAN => canRead m r n s
  | .LIN => linRead m r n s
  | .ETH => ethRead m r n s
  | .NET => netRead m r n s
  | .ACC => accRead m r n s
  | .SVC | .ODO => svcRead m r n s
  | .IDN => (idnRead r n s, s)

/-- A write of an I/O address; one with no register raises the I/O address trap (R38). -/
def ioWrite (m : Master) (addr : Nat) (w : Word) (s : State) : State :=
  match regAt addr with
  | some (r, n) => regWrite m r n w s
  | none => s.emit (.ioTrap m addr)

/-- A read of an I/O address that holds a register: an absent resource's reads 0 and is recorded (R13). -/
def ioRead (m : Master) (addr : Nat) (s : State) : Word × State :=
  match regAt addr with
  | some (r, n) => if regFitted s.variant r n then regRead m r n s else (0, absentMark addr s)
  | none => (0, s)

/-- The code that a write was answered with: the newest answer to that master and address. -/
def State.answerTo (s : State) (m : Master) (addr : Nat) : Code :=
  (s.sent.findSome? fun e =>
    match e with
    | .written m' a c => if m' = m ∧ a = addr then some c else none
    | _ => none).getD .accepted

/-! ## Apply points that come with time (R35) -/

/-- The apply point of a waiting value that comes without an event of its element: the next filter step, the end of the frame in progress or an
idle bus, a frame boundary, a group without events, a measurement outside its window. A value that waits for an event of its element applies with
that event's own command. -/
def pendingApply (r : Reg) (n : Nat) (s : State) : State :=
  match r with
  | .SIN_CFG => sinApply n s
  | .SIN_BAND => bandApply (n % 8) s
  | .FLT_MATCH | .FLT_MASK | .FLT_CTRL => s.applyAll [.FLT_MATCH, .FLT_MASK, .FLT_CTRL] n
  | .ETH_PCFG | .ETH_CBSA | .ETH_CBSB => boundary n s
  | .ETH_QMAP | .ETH_MIRROR | .ETH_VLAN => s.applyHeld r n
  | .SNS_CAL => calApply n s
  | .VLV_GCFG => groupApply n s
  | .VLV_MODE => groupApply (n / 4) s
  | _ => s

/-! ## Commands -/

/-- REGISTER_WRITE (R33). -/
def execRegisterWrite (m : Master) (addr : Nat) (v : Word) (s : State) : Host.Outcome State Fault Refusal := ok s (accInputs s (ioWrite m addr v s))

/-- PENDING_VALUE_APPLY (R35): `addr` is the register whose value waits. -/
def execPendingValueApply (addr : Nat) (s : State) : Host.Outcome State Fault Refusal :=
  ok s (match regAt addr with
    | some (r, n) => if (s.heldOf r n).isSome || r == .SIN_BAND then accInputs s (pendingApply r n s) else s
    | none => s)

/-- ABSENT_ACCESS (R13): a read by a master, whose value is 0. -/
def execAbsentAccess (m : Master) (addr : Nat) (s : State) : Host.Outcome State Fault Refusal :=
  ok s (match regAt addr with
    | some (r, n) => if regFitted s.variant r n then s else (absentMark addr s).emit (.value m addr 0)
    | none => s)

/-- ABSENT_ACCESS_CLEAR (R9, R10): `again` is the address of an absent access in the same cycle. -/
def execAbsentAccessClear (m : Master) (v : Word) (again : Option Nat) (s : State) : Host.Outcome State Fault Refusal :=
  let s1 := idnAccess m .IDN_STATUS 0 v s
  ok s (match again with
    | some a => absentMark a s1
    | none => s1)

/-- AGED (R134, R374): the record in place `i` of a queue has been held for 2^31 ns. -/
def execAged (q : StampQueue) (i : Nat) (s : State) : Host.Outcome State Fault Refusal :=
  let age (k : QId) : State := s.setQ k (RecQ.ageOne k i (s.q k))
  ok s (match q with
    | .milestone => age .milestone
    | .lin c => age (.lin c.val)
    | .sinEdge => age .edge
    | .fioChange => age .field
    | .wcuCapture n => age (.capture n.val)
    | .vlvEvent => age .valve
    | .canQueue n k => age (.can n.val k.val)
    | .ethRing r => if i < 128 then ageDesc (128 * r.val + i) s else s)

/-- SIN_LEVEL_CHANGE (R310): a debounce run has lasted DEBOUNCE. -/
def execSinLevelChange (n : Fin 64) (s : State) : Host.Outcome State Fault Refusal :=
  ok s (if s.dom.switch && ! s.almStopped && sinFitted s.variant n.val then accInputs s (runEnd n.val s) else s)

/-- SIN_RES_CONVERSION (R311): the resistance read, none above the range. -/
def execSinResConversion (n : Fin 64) (ohms : Option Nat) (s : State) : Host.Outcome State Fault Refusal :=
  ok s (if s.dom.switch && ! s.almStopped && sinFitted s.variant n.val then accInputs s (resConversion n.val ohms s) else s)

end Sys2Proof.Machine
end

