-- ==== Sys2Proof/Machine/Crossings.lean ====
section
/-!
DEFINITION. Machine/Crossings.lean: writes of the cores and of the block transfer engine on their way to a unit, in I/O space and in data space
(01_architecture.md, R24 to R26; R436, R459): they wait in the crossing's queues, the Highway queue before the Byway queue, until the unit accepts them.
-/
namespace Sys2Proof.Machine

/-- A logical core as a master, by its number. -/
def coreMaster (c : Nat) : Master := .core (Fin.ofNat 4 c)

/-- The crossing to a unit; a unit of the Core domain is reached at once (R24, R37, R39). -/
def crossingOf : IoUnit → Option Crossing
  | .CORE | .BTE | .SVC | .ODO | .IDN => none
  | .ALM | .MST => some .toAlmanac
  | .CAN | .LIN => some .toCan
  | .ETH => some .toEth
  | .ACC => some .toUwb
  | .NET => some .toKeep
  | _ => some .toSwitch

/-- The entries of one queue of a crossing (R24, R26). -/
def crossingSize : Crossing → Nat
  | .toSwitch | .toAlmanac => 16
  | .toCan | .toEth | .toUwb => 8
  | .toKeep => 1

/-- The crossing and the plane of a store to data space: message RAM is Highway (R351), as the rings are (R381), LIN slots are not (R358); the
memories of the Core domain are reached at once (R24, R431). -/
def dataCrossing (a : Nat) : Option (Crossing × Bool) :=
  match areaOf a with
  | some .canRam => some (.toCan, true)
  | some .linSlots => some (.toCan, false)
  | some .ethRings => some (.toEth, true)
  | _ => none

/-- The unit that an address of I/O space or of data space belongs to. -/
def unitAt (a : Nat) : Option IoUnit :=
  match areaOf a with
  | some .canRam => some .CAN
  | some .linSlots => some .LIN
  | some .ethRings => some .ETH
  | _ => unitOf a

/-- A write reaches its unit: a register, or a word of data space. -/
def unitTake (m : Master) (addr : Nat) (w : Word) (s : State) : State :=
  if (dataCrossing addr).isSome then dataWrite addr w s else accInputs s (ioWrite m addr w s)

/-- A write is accepted by its unit and leaves the crossing. -/
def transitAccept (t : Transit) (s : State) : State :=
  let u := unitTake t.master t.addr t.value s
  if u.transit.length < s.transit.length then u else { u with transit := transitDrop t.master t.addr u.transit }

/-- Writes are accepted in order. -/
def transitTake (l : List Transit) (s : State) : State := l.foldl (fun u t => transitAccept t u) s

/-- A queue of a crossing, oldest first; the handshake to Keep carries both planes in one order. -/
def State.crossingQ (s : State) (k : Crossing) (highway : Bool) : List Transit :=
  s.transit.filter fun t => t.cross == k && (k == .toKeep || t.highway == highway)

/-- A list up to its last element that satisfies `p`. -/
def upToLast (p : Transit → Bool) (l : List Transit) : List Transit := (l.reverse.dropWhile fun t => ! p t).reverse

/-- Every write of a crossing that `p` names is accepted, with those ahead of it: the Highway queue goes first. -/
def crossingDrain (k : Crossing) (p : Transit → Bool) (s : State) : State :=
  let hw := s.crossingQ k true
  let bw := if k = .toKeep then [] else s.crossingQ k false
  transitTake (if bw.any p then hw ++ upToLast p bw else upToLast p hw) s

/-- Whether two addresses lie in one unit. -/
def sameUnit (a b : Nat) : Bool := unitAt a == unitAt b

/-- Before a read, the master's earlier writes to the unit are accepted (R26, R436). -/
def drainFor (m : Master) (addr : Nat) (s : State) : State :=
  match (unitAt addr).bind crossingOf with
  | some k => crossingDrain k (fun t => t.master == m && sameUnit t.addr addr) s
  | none => s

/-- Every earlier write of a master is accepted (R436, IOS). -/
def drainAll (m : Master) (s : State) : State :=
  [Crossing.toSwitch, .toAlmanac, .toCan, .toEth, .toUwb, .toKeep].foldl (fun t k => crossingDrain k (fun e => e.master == m) t) s

/-- The oldest write of a crossing in order of acceptance. -/
def State.crossingHead (s : State) (k : Crossing) : Option Transit := (s.crossingQ k true ++ s.crossingQ k false).head?

/-- A full queue gives up its oldest entry, for which the writer stalls (R25, R436); the receiver takes what the Highway queue holds first (R26). -/
def crossRoom (k : Crossing) (highway : Bool) (s : State) : State :=
  match s.crossingQ k highway with
  | t :: l => if l.length + 1 < crossingSize k then s
    else transitTake (if highway || k == .toKeep then [t] else s.crossingQ k true ++ [t]) s
  | [] => s

/-- A write enters a queue of a crossing. -/
def crossPush (e : Transit) (s : State) : State :=
  let s1 := crossRoom e.cross e.highway s
  { s1 with transit := s1.transit ++ [e] }

/-- A write retires into its crossing; one to a unit of the Core domain is accepted at once. -/
def crossWrite (m : Master) (addr : Nat) (w : Word) (s : State) : State :=
  match (unitOf addr).bind crossingOf, regAt addr with
  | some k, some (r, _) => crossPush { cross := k, highway := r.highway, master := m, addr := addr, value := w } s
  | _, _ => accInputs s (ioWrite m addr w s)

/-- A store of the aligned word at an address of data space: into its crossing, or at once. -/
def dataStore (m : Master) (a : Nat) (w : Word) (s : State) : State :=
  match dataCrossing a with
  | some (k, h) => crossPush { cross := k, highway := h, master := m, addr := a, value := w } s
  | none => dataWrite a w s

/-- A load of the aligned word: the master's earlier writes to the unit come first. -/
def dataLoad (m : Master) (a : Nat) (s : State) : Word × State :=
  if (dataCrossing a).isSome then dataRead a (drainFor m a s) else dataRead a s

/-- A load of `k` bytes, 1, 2 or 4, inside one word: little-endian, without extension. -/
def loadBytes (m : Master) (a k : Nat) (s : State) : Nat × State :=
  let p := dataLoad m (a / 4 * 4) s
  (bitsOf p.1.toNat (8 * (a % 4)) (8 * k), p.2)

/-- A store of the low `k` bytes of a value. -/
def storeBytes (m : Master) (a k v : Nat) (s : State) : State := if k = 4 then dataStore m a (word v) s else s.memBytesSet a (leBytes k v)

/-- A read: the master's earlier writes to the unit come first. -/
def inRead (m : Master) (addr : Nat) (s : State) : Word × State := ioRead m addr (drainFor m addr s)

/-- The write that is accepted next when nothing else happens: the head of the first crossing that holds one. -/
def State.nextTransit (s : State) : Option Transit :=
  match s.transit with
  | [] => none
  | t :: _ => s.crossingHead t.cross

end Sys2Proof.Machine
end

