-- ==== Sys2Proof/Machine/Flags.lean ====
section
/-!
DEFINITION. Machine/Flags.lean: the flags of the Flilis core (15_flilis_core.md, R428, R435): how a comparison and a test set them, and what the
conditions of Bcc ask of them. Nothing else computes a flag.
-/
namespace Sys2Proof.Machine

/-- Z, N, C and V of STAT. -/
structure Flags where
  z : Bool
  n : Bool
  c : Bool
  v : Bool
deriving DecidableEq, Repr

/-- The flags that STAT holds in bits 0 to 3. -/
def flagsOf (stat : Word) : Flags :=
  { z := bitOf stat.toNat 0, n := bitOf stat.toNat 1, c := bitOf stat.toNat 2, v := bitOf stat.toNat 3 }

/-- STAT with other flags. -/
def putFlags (stat : Word) (f : Flags) : Word := putBits stat 0 4 (b01 f.z + 2 * b01 f.n + 4 * b01 f.c + 8 * b01 f.v)

/-- The comparison of x − y: Z when equal, N from bit 31 of the difference, C when x ≥ y unsigned, V on signed overflow (R435). -/
def compareFlags (x y : Word) : Flags :=
  let d : Int := x.toInt - y.toInt
  { z := x == y, n := (x - y).msb, c := decide (y.toNat ≤ x.toNat), v := decide (d < -(2 ^ 31) ∨ 2 ^ 31 ≤ d) }

/-- TST: Z and N from the value; C and V cleared (R434). -/
def testFlags (x : Word) : Flags := { z := x == 0, n := x.msb, c := false, v := false }

/-- The conditions of Bcc by their COND field; none above 8 (R435). -/
def condHolds (cond : Nat) (f : Flags) : Option Bool :=
  match cond with
  | 0 => some f.z
  | 1 => some (! f.z)
  | 2 => some (! f.c)
  | 3 => some f.c
  | 4 => some (f.n != f.v)
  | 5 => some (f.n == f.v)
  | 6 => some f.n
  | 7 => some (! f.n)
  | 8 => some true
  | _ => none

end Sys2Proof.Machine
end

