-- ==== Sys2Proof/Machine/Catalogue.lean ====
section
/-!
DEFINITION. Machine/Catalogue.lean: the object dictionary's entries (02_object_dictionary.md, R41 to R48, and the object tables of the unit
chapters): which objects and sub-entries exist on a variant, and of each its type, access, range, mapping and what it mirrors.
-/
namespace Sys2Proof.Machine

/-- The data types of R42, by how a value is held: a number of so many bytes, with a sign or without; a string of fixed length; a string or
DOMAIN of any length. -/
inductive OType where
  | uint (bytes : Nat)
  | int (bytes : Nat)
  | octets (n : Nat)
  | free
deriving DecidableEq, Repr

/-- The size of a value; none where it varies. -/
def OType.size : OType → Option Nat
  | .uint k => some k
  | .int k => some k
  | .octets n => some n
  | .free => none

/-- What a sub-entry mirrors. -/
inductive OSrc where
  /-- A constant. -/
  | value (v : Nat)
  /-- A field of a register, in units of `k` of the sub-entry's own. -/
  | fld (f : Fld) (n k : Nat)
  /-- A register, whole; a shorter type takes its low bytes. -/
  | reg (r : Reg) (n : Nat)
  /-- Registers in order, low word first. -/
  | regs (l : List (Reg × Nat))
  /-- A value of the server itself. -/
  | held
  /-- Read and written by an operation of its own. -/
  | own
deriving DecidableEq, Repr

/-- A sub-entry. -/
structure Entry where
  ty : OType
  acc : OAccess
  src : OSrc
  lo : Int
  hi : Int
  /-- Mappable into TPDOs; into RPDOs. -/
  tpdo : Bool := false
  rpdo : Bool := false
deriving DecidableEq, Repr

/-- The range of a type. -/
def OType.lo : OType → Int
  | .int k => - ((2 ^ (8 * k - 1) : Nat) : Int)
  | _ => 0
def OType.hi : OType → Int
  | .uint k => ((2 ^ (8 * k) : Nat) : Int) - 1
  | .int k => ((2 ^ (8 * k - 1) : Nat) : Int) - 1
  | _ => 0

/-- An entry over the whole range of its type; of a narrower range; a BOOLEAN; a BOOLEAN that takes TRUE alone; mapping. -/
def en (ty : OType) (acc : OAccess) (src : OSrc) : Entry := { ty := ty, acc := acc, src := src, lo := ty.lo, hi := ty.hi }
def Entry.rng (e : Entry) (lo hi : Int) : Entry := { e with lo := lo, hi := hi }
def flagOf (acc : OAccess) (src : OSrc) : Entry := (en (.uint 1) acc src).rng 0 1
def trueOf (src : OSrc) : Entry := (en (.uint 1) .wo src).rng 1 1
def Entry.t (e : Entry) : Entry := { e with tpdo := true }
def Entry.r (e : Entry) : Entry := { e with rpdo := true }
def high (k : Nat) : Entry := en (.uint 1) .const (.value k)

/-- Short names of the types. -/
def u8 : OType := .uint 1
def u16 : OType := .uint 2
def u32 : OType := .uint 4
def u40 : OType := .uint 5
def u48 : OType := .uint 6
def u64 : OType := .uint 8

/-- Entries of absent resources do not exist (R12). -/
def onlyIf (b : Bool) (e : Entry) : Option Entry := if b then some e else none

/-! ## Communication objects (R48) -/

/-- 0x1000 to 0x1FFF. -/
def comEntry (v : Variant) (i sub : Nat) : Option Entry :=
  if i = 0x1000 then onlyIf (sub == 0) (en u32 .const (.value (variantCode v * 65536)))
  else if i = 0x1001 then onlyIf (sub == 0) (en u8 .ro .own)
  else if i = 0x1003 then (if sub = 0 then some (en u8 .rw .own) else onlyIf (decide (sub ≤ 16)) (en u32 .ro .own))
  else if i = 0x1005 ∨ i = 0x1012 ∨ i = 0x1014 then onlyIf (sub == 0) (en u32 .rw .held)
  else if i = 0x1006 then onlyIf (sub == 0) ((en u32 .rw .held).rng 0 1000000)
  else if i = 0x1019 then onlyIf (sub == 0) ((en u8 .rw .held).rng 0 240)
  else if i = 0x1010 ∨ i = 0x1011 then (if sub = 0 then some (high 4) else onlyIf (decide (sub ≤ 4)) (en u32 .rw .own))
  else if i = 0x1015 ∨ i = 0x1017 then onlyIf (sub == 0) (en u16 .rw .held)
  else if i = 0x1016 then (if sub = 0 then some (high 8) else onlyIf (decide (sub ≤ 8)) (en u32 .rw .held))
  else if i = 0x1018 then
    (if sub = 0 then some (high 4) else if sub = 1 then some (en u32 .ro (.value 0x0A3D))
     else if sub = 2 then some (en u32 .ro (.value (variantCode v))) else onlyIf (decide (sub ≤ 4)) (en u32 .ro .own))
  else if i = 0x1200 then (if sub = 0 then some (high 2) else onlyIf (decide (sub ≤ 2)) (en u32 .ro .held))
  else if 0x1201 ≤ i ∧ i ≤ 0x1203 then
    (if sub = 0 then some (high 3) else if sub = 3 then some ((en u8 .rw .held).rng 0 127) else onlyIf (decide (sub ≤ 2)) (en u32 .rw .held))
  else if 0x1400 ≤ i ∧ i < 0x1440 then
    (if sub = 0 then some (high 2) else if sub = 1 then some (en u32 .rw .held) else onlyIf (sub == 2) (en u8 .rw .held))
  else if (0x1600 ≤ i ∧ i < 0x1640) ∨ (0x1A00 ≤ i ∧ i < 0x1A40) then
    (if sub = 0 then some ((en u8 .rw .held).rng 0 8) else onlyIf (decide (sub ≤ 8)) (en u32 .rw .held))
  else if 0x1800 ≤ i ∧ i < 0x1840 then
    (match sub with
     | 0 => some (high 6)
     | 1 => some (en u32 .rw .held)
     | 2 => some (en u8 .rw .held)
     | 3 => some (en u16 .rw .held)
     | 5 => some (en u16 .rw .held)
     | 6 => some ((en u8 .rw .held).rng 0 240)
     | _ => none)
  else none

/-! ## The module (R11, R44 to R47, R67) -/

/-- 0x2000 to 0x2004. -/
def moduleEntry (v : Variant) (i sub : Nat) : Option Entry :=
  match i, sub with
  | 0x2000, 0 => some (high 5)
  | 0x2000, 1 => some (en u8 .ro .own)
  | 0x2000, 2 => some (flagOf .ro (.fld F.SVC_STAT_MODE 0 1))
  | 0x2000, 3 => some (en u8 .ro .own)
  | 0x2000, 4 => some (en u8 .ro (.fld F.FCRU_PSTAT_MODE 0 1))
  | 0x2000, 5 => some (flagOf .ro .own)
  | 0x2001, 0 => some (high 3)
  | 0x2001, 1 => some (en u32 .ro (.reg .IDN_VARIANT 0))
  | 0x2001, 2 => some (en u32 .ro (.reg .IDN_PRESENCE 0))
  | 0x2001, 3 => some (en u32 .ro (.reg .IDN_STATUS 0))
  | 0x2002, 0 => some (high 3)
  | 0x2002, 1 => some ((en u8 .rws .held).rng 0 7)
  | 0x2002, 2 => some ((en u8 .rws .held).rng 1 127)
  | 0x2002, 3 => some ((en u16 .rws .held).rng 125 1000)
  | 0x2003, 0 => onlyIf (v != .px48) (high 4)
  | 0x2003, 1 => onlyIf (v != .px48) (flagOf .rws .held)
  | 0x2003, 2 => onlyIf (v != .px48) ((en u16 .rws .held).rng 1 4094)
  | 0x2003, 3 => onlyIf (v != .px48) (en (.octets 16) .wos .own)
  | 0x2003, 4 => onlyIf (v != .px48) ((en u32 .rws .held).rng 1000 600000)
  | 0x2004, 0 => some (high 4)
  | 0x2004, 1 => some (en u8 .ro .own)
  | 0x2004, 2 => some (en u32 .ro .own)
  | 0x2004, 3 => some (en u8 .ro .own)
  | 0x2004, 4 => some (en u32 .ro .own)
  | _, _ => none

/-- 0x2100 (R424). -/
def powerEntry (sub : Nat) : Option Entry :=
  match sub with
  | 0 => some (high 0x19)
  | 1 => some ((en u8 .wo .own).rng 1 6)
  | 2 => some (en u32 .ro (.reg .PWR_STAT 0)).t
  | 3 => some (en u32 .rw (.reg .PWR_CFG 0))
  | 4 => some (en u32 .ro (.reg .PWR_RESULT 0))
  | 5 => some (flagOf .rw (.fld F.PWR_VETO_VETO 0 1))
  | 6 => some (en u32 .ro (.reg .PWR_BUSY 0)).t
  | 7 => some (en (.octets 40) .ro (.regs ([(.PWR_EREP0, 0), (.PWR_EREP1, 0)] ++ (List.range 8).map fun c => (.PWR_EREPC, c))))
  | _ => if 0x11 ≤ sub ∧ sub ≤ 0x19 then some (en u16 .ro (.fld F.PWR_RCNT_COUNT (sub - 0x10) 1)) else none

/-- 0x2200 (R153). -/
def almanacEntry (v : Variant) (sub : Nat) : Option Entry :=
  let as := v != .px48
  match sub with
  | 0 => some (high 0x2F)
  | 0x01 => some ((en u8 .rwp (.fld F.ALM_CTRL_ROLE 0 1)).rng 0 3)
  | 0x02 => some (en u8 .ro (.fld F.ALM_STATUS_SERVO 0 1))
  | 0x03 => some (en u48 .ro .own)
  | 0x04 => some (en u32 .ro .own)
  | 0x05 => some (en (.int 4) .ro (.reg .ALM_OFFSET 0))
  | 0x06 => some (en u40 .rw .own)
  | 0x07 => some (en (.int 2) .ro (.fld F.ALM_UTC_UTC_OFFSET 0 1))
  | 0x08 => some (en u8 .ro (.fld ⟨.ALM_UTC, 16, 3⟩ 0 1))
  | 0x09 => some (en u16 .ro (.fld F.ALM_STATUS_EPOCH 0 1))
  | 0x0A => some (en u48 .wo .own).r
  | 0x0B => some ((en u32 .wo .own).rng 0 0x7FFFF).r
  | 0x0C => some ((en u8 .rwp (.fld F.ALM_CTRL_CANCH 0 1)).rng 0 7)
  | 0x0D => some ((en u16 .rwp (.fld F.ALM_CANSYNC_ID 0 1)).rng 1 0x7FE)
  | 0x0E => some ((en u16 .rwp (.fld F.ALM_CANSYNC_PERIOD 0 125)).rng 125 4000)
  | 0x0F => some ((en u16 .rw (.fld F.ALM_CANSYNC_PROP 0 1)).rng 0 1000)
  | 0x10 => onlyIf as (flagOf .rwp (.fld F.ALM_CTRL_CANSYNC_TX 0 1))
  | 0x11 => onlyIf as ((en u8 .rwp .own).rng 0 127)
  | 0x12 => onlyIf as ((en u8 .rwp .own).rng 0 255)
  | 0x13 => onlyIf as ((en u8 .rwp .own).rng 0 255)
  | 0x14 => onlyIf as ((en (.int 1) .rwp .own).rng (-5) 0)
  | 0x15 => some ((en u32 .rw .own).rng 100 1000000)
  | 0x16 => some (en u32 .ro (.reg .ALM_HOLD 0))
  | 0x17 => some (en u32 .ro .own)
  | 0x18 => some (en u32 .ro .own)
  | 0x19 => some (en (.int 2) .ro (.fld F.NET_RTC_TRIM_TRIM 0 1))
  | _ =>
    if 0x20 ≤ sub ∧ sub ≤ 0x27 then onlyIf (ethFitted v (sub - 0x20)) ((en u8 .rw (.fld F.ALM_PHYCAL_ATTRIB (sub - 0x20) 1)).rng 0 2)
    else if 0x28 ≤ sub ∧ sub ≤ 0x2F then onlyIf (ethFitted v (sub - 0x28)) (en (.int 2) .ro (.fld F.ALM_PHYCAL_ADJ (sub - 0x28) 1))
    else none

/-! ## Milestones and waveforms (R177, R193) -/

/-- 0x2300. -/
def milestoneEntry (sub : Nat) : Option Entry :=
  match sub with
  | 0 => some (high 0x4F)
  | 1 => some (en (.octets 72) .wo .own)
  | 2 => some ((en u16 .wo .own).rng 1 0xFFFE)
  | 3 => some (trueOf .own)
  | 4 => some (en u8 .ro (.fld F.MST_STATUS_LIVE 0 1))
  | 5 => some (en u64 .ro (.regs [(.MST_LIVE_LO, 0), (.MST_LIVE_HI, 0)]))
  | 6 => some (en (.octets 44) .ro .own)
  | 7 => some (en u16 .ro (.fld F.MST_STATUS_CQ_LOST 0 1))
  | 8 => some ((en u32 .rw .own).rng 1 100000)
  | _ => onlyIf (decide (0x10 ≤ sub ∧ sub ≤ 0x4F)) (en (.octets 84) .ro .own)

/-- 0x2400 to 0x2407 and 0x2410 to 0x242F. -/
def waveformEntry (i sub : Nat) : Option Entry :=
  if i < 0x2410 then
    let c := i - 0x2400
    match sub with
    | 0 => some (high 6)
    | 1 => some (flagOf .rw (.fld F.WCU_CTRL_EN c 1))
    | 2 => some ((en u8 .rw (.fld F.WCU_CTRL_MODE c 1)).rng 0 1)
    | 3 => some (en u16 .rw (.fld F.WCU_CTRL_PRESC c 1))
    | 4 => some (en u32 .rw (.reg .WCU_TOP c))
    | 5 => some (en u32 .ro (.reg .WCU_CNT c))
    | 6 => some (en u16 .ro (.fld F.WCU_STAT_PERIODS c 1))
    | _ => none
  else
    let n := i - 0x2410
    match sub with
    | 0 => some (high 0x0E)
    | 0x01 => some ((en u8 .rw (.fld F.WCU_CCTRL_FUNC n 1)).rng 0 2)
    | 0x02 => some ((en u8 .rw (.fld F.WCU_CCTRL_OMODE n 1)).rng 0 3)
    | 0x03 => some (flagOf .rw (.fld F.WCU_CCTRL_OPOL n 1))
    | 0x04 => some (flagOf .rw (.fld F.WCU_CCTRL_IDLE n 1))
    | 0x05 => some (en u32 .rw (.reg .WCU_CMP n)).r
    | 0x06 => some ((en u8 .rw (.fld F.WCU_CCTRL_SRC n 1)).rng 0 0x77)
    | 0x07 => some ((en u8 .rw (.fld F.WCU_CCTRL_EDGE n 1)).rng 1 3)
    | 0x08 => some (flagOf .rw (.fld F.WCU_CCTRL_ONESHOT n 1))
    | 0x09 => some (flagOf .rw (.fld F.WCU_CCTRL_ARM n 1))
    | 0x0A => some ((en u8 .rw (.fld F.WCU_CCTRL_VEVT n 1)).rng 0 2)
    | 0x0B => some (en (.octets 12) .ro .own)
    | 0x0C => some (en u8 .ro (.fld F.WCU_CAP_COUNT n 1))
    | 0x0D => some (en u8 .ro (.fld F.WCU_CAP_LOST n 1))
    | 0x0E => some (trueOf (.fld F.WCU_CAP_LOST_CLR n 1))
    | _ => none

/-! ## Channels, protection, measurement, feeds (R225, R226, R256, R257, R280) -/

/-- 0x3000 + n. -/
def channelEntry (n sub : Nat) : Option Entry :=
  match sub with
  | 0 => some (high 0x0C)
  | 0x01 => some ((en u8 .rw (.fld F.OUT_CFG_SRC n 1)).rng 0 3)
  | 0x02 => some ((en u8 .rw (.fld F.OUT_CFG_TWSEL n 1)).rng 0 31)
  | 0x03 => some ((en u8 .rw (.fld F.OUT_CFG_DDSEL n 1)).rng 0 7)
  | 0x04 => some ((en u8 .rw (.fld F.OUT_CFG_OFFDET n 1)).rng 1 255)
  | 0x05 => some ((en u16 .rw (.fld F.OUT_THR_THR n 10)).rng (byClass n 1000 200 50) (byClass n 60000 20000 6000))
  | 0x06 => some ((en u8 .rw (.fld F.OUT_INR_WIN n 1)).rng 1 (byClass n 200 200 100))
  | 0x07 => some (en u16 .rw (.fld F.OUT_RUNON_RUNON n 1))
  | 0x08 => some ((en u8 .rw (.fld F.OUT_CFG_SAFELVL n 1)).rng 0 2)
  | 0x09 => some (flagOf .rw (.fld F.OUT_CFG_ALIGN n 1))
  | 0x0A => some ((en u16 .rw (.fld F.OUT_ALN_TARGET n 1)).rng 300 1000)
  | 0x0B => some (flagOf .rw (.fld F.OUT_CFG_TREC n 1))
  | 0x0C => some (trueOf (.fld F.OUT_APPLY_APPLY n 1))
  | _ => none

/-- 0x3100 + n. -/
def channelStatus (n sub : Nat) : Option Entry :=
  match sub with
  | 0 => some (high 0x0F)
  | 0x01 => some (en u8 .ro (.fld F.OUT_STAT_STATE n 1)).t
  | 0x02 => some (flagOf .rw (.fld F.OUT_LVL_LEVEL n 1)).r
  | 0x03 => some (flagOf .ro (.fld F.OUT_STAT_MSL n 1)).t
  | 0x04 => some (flagOf .ro (.fld F.OUT_STAT_CMD n 1)).t
  | 0x05 => some (flagOf .ro (.fld F.OUT_STAT_STAGE n 1)).t
  | 0x06 => some (en u16 .ro (.fld F.OUT_RUNREM_REM n 1))
  | 0x07 => some (en u16 .ro (.fld F.OUT_DLY_RISE n 1))
  | 0x08 => some (en u16 .ro (.fld F.OUT_DLY_FALL n 1))
  | 0x09 => some (flagOf .ro (.fld F.OUT_STAT_ALN_VALID n 1))
  | 0x0A => some (en u48 .ro .own).t
  | 0x0B => some (en u32 .ro .own).t
  | 0x0C => some (flagOf .ro .own).t
  | 0x0D => some (en u16 .ro .own).t
  | 0x0E => some (en u64 .ro .own).t
  | 0x0F => some (flagOf .ro .own).t
  | _ => none

/-- 0x3200 + n. -/
def protectionEntry (n sub : Nat) : Option Entry :=
  match sub with
  | 0 => some (high 0x11)
  | 0x01 => some ((en u16 .rw (.fld F.PROT_WIRE_IRATE n 10)).rng 50 60000)
  | 0x02 => some ((en u16 .rw (.fld F.PROT_WIRE_TAU n 1)).rng 1 3600)
  | 0x03 => some ((en u8 .rw (.fld F.PROT_CPL_KC n 1)).rng 0 64)
  | 0x04 => some ((en u8 .rw (.fld F.PROT_CPL_BUNDLE n 1)).rng 0 16)
  | 0x05 => some ((en u8 .rw (.fld F.PROT_RETRY_ATTEMPTS n 1)).rng 0 15)
  | 0x06 => some ((en u16 .rw (.fld F.PROT_RETRY_BACKOFF n 1)).rng 1 6000)
  | 0x07 => some (flagOf .rw (.fld F.PROT_RETRY_DOUBLE n 1))
  | 0x08 => some ((en u16 .rw (.fld F.PROT_RETRY_RESET_T n 1)).rng 1 600)
  | 0x09 => some ((en u8 .rw (.fld F.PROT_TOLL_PRIO n 1)).rng 0 7)
  | 0x0A => some ((en u16 .rw (.fld F.PROT_TOLL_PLAN n 1)).rng 0 (byClass n 1800 600 150))
  | 0x0B => some ((en u8 .rw (.fld F.PROT_LIM_OCF n 1)).rng 1 100)
  | 0x0C => some ((en u8 .rw (.fld F.PROT_LIM_REARM n 1)).rng 10 95)
  | 0x0D => some (en u16 .ro (.fld F.PROT_STAT_HEAT n 1)).t
  | 0x0E => some (en u32 .ro (.reg .PROT_STAT n)).t
  | 0x0F => some (en (.int 2) .ro (.fld F.PROT_JT_TJ n 1))
  | 0x10 => some (en u32 .ro (.fld F.PROT_BOF_REM n 1))
  | 0x11 => some (en u8 .ro (.fld F.PROT_STAT_CAUSE n 1)).t
  | _ => none

/-- 0x3300. -/
def sensingEntry (v : Variant) (sub : Nat) : Option Entry :=
  match sub with
  | 0 => some (high 0xAF)
  | 1 => some ((en u16 .rw (.fld F.SNS_CFG_INTERVAL 0 1)).rng 1 600)
  | 2 => some (en u32 .ro (.reg .SNS_STATUS 0))
  | 3 => some ((en u8 .wo .own).rng 0 63)
  | 4 => some ((en u8 .rw .own).rng 0 95)
  | 5 => some (en (.octets 32) .ro .own)
  | 6 => some (en (.octets 256) .ro .own)
  | 7 => some (en (.octets 256) .ro .own)
  | 8 => some (en (.octets 256) .ro .own)
  | 9 => some ((en u32 .rw .own).rng 0 0x1FFFFFF)
  | _ =>
    if 0x10 ≤ sub ∧ sub < 0x70 then onlyIf (chanFitted v (sub - 0x10)) (en u32 .ro (.reg .SNS_VAL (sub - 0x10))).t
    else if 0x70 ≤ sub ∧ sub < 0xB0 then onlyIf (chanFitted v (sub - 0x70)) (en u8 .ro (.fld F.SNS_SIGSTAT_VERDICT (sub - 0x70) 1)).t
    else none

/-- 0x3400. -/
def feedEntry (v : Variant) (sub : Nat) : Option Entry :=
  if sub = 0 then some (high 0x49)
  else if sub / 16 = 0 ∨ 4 < sub / 16 ∨ ! feedFitted v (sub / 16 - 1) then none
  else
    let k := sub / 16 - 1
    match sub % 16 with
    | 1 => some ((en u8 .rw (.fld F.TOLL_CFG_BUDGET k 1)).rng 10 150)
    | 2 => some ((en u8 .rw (.fld F.TOLL_CFG_STAGGER k 1)).rng 0 20)
    | 3 => some ((en u8 .rw (.fld F.TOLL_CFG_RESTORE k 1)).rng 1 100)
    | 4 => some (en u32 .ro (.reg .TOLL_STAT k)).t
    | 5 => some (en u16 .ro (.fld F.TOLL_CUR_CUR k 1)).t
    | 6 => some (en u16 .ro (.fld F.TOLL_VOLT_VOLT k 1)).t
    | 7 => some (en u16 .ro (.fld F.TOLL_PLAN_PLANMAX k 1))
    | 8 => some (en u16 .ro (.fld F.TOLL_CNT_SHEDS k 1))
    | 9 => some (en u16 .ro (.fld F.TOLL_CNT_REFUSED k 1))
    | _ => none

/-! ## Valves (R307) -/

/-- 0x3800 + v. -/
def valveEntry (v sub : Nat) : Option Entry :=
  match sub with
  | 0 => some (high 0x14)
  | 0x01 => some (flagOf .rw (.fld F.VLV_MODE_EN v 1))
  | 0x02 => some ((en u16 .rw (.fld F.VLV_CUR_PEAK v 10)).rng 500 12000)
  | 0x03 => some ((en u16 .rw (.fld F.VLV_CUR_HOLD v 10)).rng 300 4000)
  | 0x04 => some ((en u8 .rw (.fld F.VLV_TIM_TMIN v 1)).rng 1 249)
  | 0x05 => some ((en u8 .rw (.fld F.VLV_TIM_TMAX v 1)).rng 2 250)
  | 0x06 => some ((en u8 .rw (.fld F.VLV_TIM_DWELL v 1)).rng 0 250)
  | 0x07 => some ((en u8 .rw (.fld F.VLV_MODE_SUPPLY v 1)).rng 0 1)
  | 0x08 => some ((en u8 .rw (.fld F.VLV_MODE_OFFMODE v 1)).rng 0 1)
  | 0x09 => some ((en u8 .rw (.fld F.VLV_MODE_LATEACT v 1)).rng 0 1)
  | 0x0A => some (flagOf .rw (.fld F.VLV_MODE_STK_EN v 1))
  | 0x0B => some ((en u8 .rw (.fld F.VLV_MODE_DIPMIN v 1)).rng 2 50)
  | 0x0C => some (en u16 .rw (.fld F.VLV_MODE_HOLDMAX v 1))
  | 0x0D => some (flagOf .rw (.fld F.VLV_MODE_SAFEOFF v 1))
  | 0x0E => some ((en u8 .wo (.reg .VLV_CMD v)).rng 1 2).r
  | 0x0F => some (en u8 .ro (.fld F.VLV_STAT_STATE v 1)).t
  | 0x10 => some (en u32 .ro (.reg .VLV_RES v)).t
  | 0x11 => some (en u16 .ro (.fld F.VLV_STAT_CUR v 1)).t
  | 0x12 => some (en u16 .ro (.fld F.VLV_CNT_EVENTS v 1))
  | 0x13 => some (en u16 .ro (.fld F.VLV_CNT_NOSTK v 1))
  | 0x14 => some (en u8 .ro (.fld F.VLV_STAT_FCAUSE v 1))
  | _ => none

/-- 0x3900 + g. -/
def groupEntry (g sub : Nat) : Option Entry :=
  match sub with
  | 0 => some (high 0x0A)
  | 1 => some ((en u8 .rw (.fld F.VLV_GCFG_RAIL g 1)).rng 36 60)
  | 2 => some ((en u8 .rw (.fld F.VLV_GCFG_MINOFF g 1)).rng 0 100)
  | 3 => some ((en u8 .rw (.fld F.VLV_GCFG_MAXDEF g 1)).rng 0 100)
  | 4 => some (en u32 .ro (.reg .VLV_GSTAT g))
  | 5 => some (en u16 .ro (.fld F.VLV_GSTAT_CAPV g 1))
  | 6 => some (trueOf (.fld F.VLV_GCLR_CLR g 1))
  | 7 => some (en u16 .ro (.fld F.VLV_GCNT_DEFERRED g 1))
  | 8 => some (en u16 .ro (.fld F.VLV_GCNT_BUSY g 1))
  | 9 => some ((en u8 .wo .own).rng 0 15).r
  | 10 => some ((en u8 .wo .own).rng 0 15).r
  | _ => none

/-! ## Inputs and field points (R329, R330) -/

/-- 0x4000. -/
def inputEntry (v : Variant) (sub : Nat) : Option Entry :=
  if sub = 0 then some (high 0xC6)
  else if sub ≤ 0x40 then onlyIf (sinFitted v (sub - 1)) (en u32 .rw (.reg .SIN_CFG (sub - 1)))
  else if sub ≤ 0x80 then onlyIf (sinFitted v (sub - 0x41)) (en u32 .ro (.reg .SIN_STAT (sub - 0x41))).t
  else if sub ≤ 0xC0 then onlyIf (sinFitted v (sub - 0x81)) (en u64 .ro (.regs [(.SIN_CNT, sub - 0x81), (.SIN_PER, sub - 0x81)]))
  else match sub with
    | 0xC1 => some (en u32 .ro (.reg .SIN_LVLB0 0)).t
    | 0xC2 => onlyIf (v != .px48) (en u32 .ro (.reg .SIN_LVLB1 0)).t
    | 0xC3 => some ((en u8 .rw (.reg .SIN_BSEL 0)).rng 0 63)
    | 0xC4 => some (en (.octets 32) .rw .own)
    | 0xC5 => some (en (.octets 8) .ro .own)
    | 0xC6 => some (en u8 .ro (.fld F.SIN_EQSTAT_LOST 0 1))
    | _ => none

/-- 0x4100. -/
def fieldEntryOf (v : Variant) (sub : Nat) : Option Entry :=
  if sub = 0 then some (high 0x2A)
  else if sub ≤ 0x20 then onlyIf (fioFitted v (sub - 1)) (en u32 .rw (.reg .FIO_CFG (sub - 1)))
  else match sub with
    | 0x21 => some (en u32 .rw (.reg .FIO_OUT 0)).r
    | 0x22 => some (en u32 .ro (.reg .FIO_IN 0)).t
    | 0x23 => some (en u32 .ro (.reg .FIO_PIN 0)).t
    | 0x24 => some (en u32 .ro (.reg .FIO_STATUS 0)).t
    | 0x25 => some ((en u16 .rw (.fld F.FIO_TOCFG_TIMEOUT 0 1)).rng 10 2000)
    | 0x26 => some (trueOf (.fld F.FIO_STATUS_FAULT 0 1))
    | 0x27 => some (trueOf (.fld F.FIO_KICK_KICK 0 1)).r
    | 0x28 => some (en (.octets 8) .ro .own)
    | 0x29 => some (en u8 .ro (.fld F.FIO_CQSTAT_LOST 0 1))
    | 0x2A => some (en u16 .ro (.fld F.FIO_SUPV_VOLT 0 1))
    | _ => none

/-! ## CAN, LIN, Ethernet (R359, R360, R385) -/

/-- 0x4400 + n. -/
def canEntry (n sub : Nat) : Option Entry :=
  if 0x10 ≤ sub ∧ sub < 0x40 then some (en (.octets 12) .rw .own)
  else if 0x40 ≤ sub ∧ sub < 0x60 then some (en (.octets 72) .rw .own)
  else if 0x60 ≤ sub ∧ sub < 0x80 then some (en u32 .rw (.reg .MB_CTRL (32 * n + (sub - 0x60))))
  else if 0x80 ≤ sub ∧ sub < 0xA0 then some (en u64 .ro (.regs [(.MB_STAT, 32 * n + (sub - 0x80)), (.MB_TS, 32 * n + (sub - 0x80))]))
  else match sub with
    | 0 => some (high 0xA1)
    | 1 => some (en u32 .rw (.reg .CAN_MODE n))
    | 2 => some (en u32 .rw (.reg .CAN_BTN n))
    | 3 => some (en u32 .rw (.reg .CAN_BTD n))
    | 4 => some (en u32 .ro (.reg .CAN_STAT n)).t
    | 5 => some (en u32 .ro (.reg .CAN_ERR n))
    | 6 => some (en u32 .ro (.reg .CAN_QSTAT (2 * n)))
    | 7 => some (en u32 .ro (.reg .CAN_QSTAT (2 * n + 1)))
    | 8 => some (en u32 .ro (.reg .CAN_NOMATCH n))
    | 9 => some (trueOf (.fld F.CAN_ERR_RECOVER n 1))
    | 0xA0 => some (en (.octets 76) .ro .own)
    | 0xA1 => some (en (.octets 76) .ro .own)
    | _ => none

/-- 0x4480. -/
def linEntry (v : Variant) (sub : Nat) : Option Entry :=
  if sub = 0 then some (high 0x18)
  else if 0x18 < sub ∨ ! linFitted v ((sub - 1) % 4) then none
  else
    let c := (sub - 1) % 4
    match (sub - 1) / 4 with
    | 0 => some (en u32 .rw (.reg .LIN_CFG c))
    | 1 => some ((en u8 .rw (.reg .LIN_SCH c)).rng 0 7)
    | 2 => some (en u32 .ro (.reg .LIN_STAT c))
    | 3 => some (en (.octets 16) .rw .own)
    | 4 => some (en (.octets 1024) .rw .own)
    | _ => some (en (.octets 16) .ro .own)

/-- 0x4500. -/
def switchEntry (v : Variant) (sub : Nat) : Option Entry :=
  let sw := v != .px48
  if sub = 0 then some (high 0x7F)
  else if sub = 0x1F then some (en (.octets 32) .ro .own)
  else if sub = 0x7F then some (en u40 .rws .own)
  else if ! sw then none
  else if sub = 1 then some (en u32 .rwp (.reg .ETH_CTRL 0))
  else if sub = 2 then some (en u32 .rwp (.reg .ETH_QMAP 0))
  else if sub = 3 then some (en u32 .rw (.reg .ETH_MIRROR 0))
  else if sub ≤ 0x0C then onlyIf (regFitted v .ETH_PCFG (sub - 4)) (en u32 .rwp (.reg .ETH_PCFG (sub - 4)))
  else if sub ≤ 0x15 then onlyIf (regFitted v .ETH_CBSA (sub - 0x0D)) (en u64 .rwp .own)
  else if sub ≤ 0x1E then onlyIf (regFitted v .ETH_RXF (sub - 0x16)) (en (.octets 32) .ro .own)
  else if 0x20 ≤ sub ∧ sub ≤ 0x3F then some (en u32 .rwp (.reg .ETH_VLAN (sub - 0x20)))
  else if 0x40 ≤ sub ∧ sub ≤ 0x7D then some (en (.octets 12) .rwp .own)
  else if sub = 0x7E then some (en u40 .rws .own)
  else none

/-! ## Sleep and wake, FCRU, redundancy (R404, R485, R486) -/

/-- 0x4600. -/
def networkEntry (v : Variant) (sub : Nat) : Option Entry :=
  match sub with
  | 0 => some (high 0x31)
  | 1 => some ((en u8 .rw (.reg .NET_CTRL 0)).rng 0 7)
  | 2 => some (en u32 .rwp (.reg .NET_CFG 0))
  | 3 => some (en u32 .rw (.reg .NET_AWAKE 0))
  | 4 => some ((en u16 .rwp (.reg .NET_NMID 0)).rng 0 0x7C0)
  | 5 => some (en u32 .ro (.reg .NET_STAT 0)).t
  | 6 => some (en u8 .rw (.reg .NET_ARM 0))
  | 7 => some (en u8 .ro (.fld ⟨.NET_WSRC, 0, 7⟩ 0 1)).t
  | 8 => some ((en u8 .rws (.fld F.NET_WLCFG_ADDR 0 1)).rng 0x08 0x77)
  | 9 => some (en u32 .rw (.reg .NET_WLMBX 0))
  | 10 => some (en u64 .rw .own)
  | 0x30 => some (en (.octets 128) .ro .own)
  | 0x31 => some (trueOf .own)
  | _ =>
    if 0x10 ≤ sub ∧ sub < 0x18 then onlyIf (canFitted v (sub - 0x10)) (en u64 .rw .own)
    else if 0x18 ≤ sub ∧ sub < 0x20 then onlyIf (canFitted v (sub - 0x18)) (en u64 .ro (.regs [(.NET_VOTE_LO, sub - 0x18), (.NET_VOTE_HI, sub - 0x18)]))
    else if 0x20 ≤ sub ∧ sub < 0x24 then onlyIf (swkFitted v (sub - 0x20)) (en (.octets 20) .rw .own)
    else if 0x28 ≤ sub ∧ sub < 0x30 then onlyIf (regFitted v .NET_WCNT (sub - 0x28)) (en u32 .ro (.reg .NET_WCNT (sub - 0x28)))
    else none

/-- 0x4A00. -/
def faultEntry (v : Variant) (sub : Nat) : Option Entry :=
  match sub with
  | 0 => some (high 0xFF)
  | 1 => some ((en u8 .rw (.reg .FCRU_SEL 0)).rng 0 191)
  | 2 => some (en u32 .rw (.reg .FCRU_SCFG 0))
  | 3 => some ((en u32 .rw (.reg .FCRU_SWIN 0)).rng 1 86400000)
  | 4 => some (en u32 .ro (.reg .FCRU_STAT 0)).t
  | 5 => some (trueOf (.fld F.FCRU_CTRL_SAFECLR 0 1))
  | 6 => some (en (.octets 24) .ro (.regs ((List.range 6).map fun w => (.FCRU_PEND, w))))
  | 7 => some ((en u8 .wo .own).rng 0 191)
  | 8 => some (en (.octets 24) .ro (.regs ((List.range 6).map fun w => (.FCRU_SEV, w))))
  | 9 => some (en (.octets 20) .ro .own)
  | 10 => some (en (.octets 1280) .ro .own)
  | 11 => some (en u32 .ro (.reg .FCRU_VSTAT 0))
  | _ => onlyIf (decide (0x40 ≤ sub) && srcFitted v (sub - 0x40)) (en u32 .ro .own).t

/-- 0x4B00. -/
def redundancyEntry (sub : Nat) : Option Entry :=
  match sub with
  | 0 => some (high 6)
  | 1 => some (en u32 .ro (.reg .FCRU_PSTAT 0))
  | 2 => some ((en u8 .rws (.fld F.FCRU_BOOTNX_NEXT 0 1)).rng 0 2)
  | 3 => some ((en u8 .wo (.fld F.FCRU_RSYNC_GO 0 1)).rng 1 1)
  | 4 => some (en u32 .ro (.reg .FCRU_MISC 0))
  | 5 => some (en u8 .ro (.fld ⟨.FCRU_PSTAT, 3, 2⟩ 0 1))
  | 6 => some (en u16 .const (.value 304))
  | _ => none

/-! ## Cab access, service, Odometer (R508, R530, R531) -/

/-- 0x4800. -/
def accessEntry (sub : Nat) : Option Entry :=
  match sub with
  | 0 => some (high 0x2F)
  | 1 => some (en u32 .rws (.reg .ACC_CFG 0))
  | 2 => some (en u32 .rw (.reg .ACC_TIMING 0))
  | 3 => some ((en u8 .wo .own).rng 1 2)
  | 4 => some (en u32 .ro (.reg .ACC_STAT 0)).t
  | 5 => some (en u16 .rws (.reg .ACC_BOUND 0))
  | 6 => some (en u16 .rws (.reg .ACC_LOCK 0))
  | 7 => some (en u16 .rws (.reg .ACC_DE 0))
  | 8 => some (en u32 .rws .own)
  | 9 => some (en u32 .wos .own)
  | 10 => some (trueOf (.fld F.ACC_CTRL_END 0 1))
  | 11 => some (en (.octets 320) .ro .own)
  | 12 => some (en u32 .ro (.reg .ACC_CNT0 0))
  | 13 => some (en u32 .ro (.reg .ACC_CNT1 0))
  | 14 => some (en u32 .ro (.reg .ACC_CNT2 0))
  | _ =>
    if 0x10 ≤ sub ∧ sub < 0x20 then some (en u64 .ro (.regs [(.ACC_TOK, sub - 0x10), (.ACC_LAST, sub - 0x10)]))
    else if 0x20 ≤ sub ∧ sub < 0x30 then some (en (.octets 28) .wos .own)
    else none

/-- 0x4D00. -/
def serviceEntry (sub : Nat) : Option Entry :=
  match sub with
  | 0 => some (high 0x0E)
  | 1 => some ((en u8 .wos .own).rng 1 4)
  | 2 => some (en .free .wos .own)
  | 3 => some (en u32 .ro (.reg .SVC_USTAT 0)).t
  | 4 => some (en u32 .ro (.reg .SVC_ACTVER 0))
  | 5 => some (en u8 .ro .own)
  | 6 => some (en u32 .ro (.reg .SVC_ACTFMT 0))
  | 7 => some (en u16 .ro (.reg .SVC_TRIAL 0))
  | 8 => some (en (.octets 1024) .ro .own)
  | 9 => some (en (.octets 184) .wos .own)
  | 10 => some (en u32 .ro (.reg .SVC_STAT 0))
  | 11 => some (en .free .ro .own)
  | 12 => some ((en u16 .rws (.reg .SVC_PCFG 0)).rng 0 0x3FFF)
  | 13 => some (en u64 .ro .own)
  | 14 => some (en (.octets 64) .wos .own)
  | _ => none

/-- 0x4C00. -/
def odometerEntry (sub : Nat) : Option Entry :=
  match sub with
  | 0 => some (high 0x1B)
  | 1 => some (en u32 .ro (.reg .ODO_STAT 0))
  | 2 => some (en u32 .ro (.reg .ODO_SAVES 0))
  | 3 => some (en u48 .ro .own)
  | _ => onlyIf (decide (0x11 ≤ sub ∧ sub ≤ 0x1B)) (en .free .ro .own)

/-! ## The whole dictionary -/

/-- A sub-entry of the dictionary below the application range, on a variant; none where it does not exist. -/
def objEntry (v : Variant) (i sub : Nat) : Option Entry :=
  if 0x1000 ≤ i ∧ i < 0x2000 then comEntry v i sub
  else if 0x2000 ≤ i ∧ i ≤ 0x2004 then moduleEntry v i sub
  else if i = 0x2100 then powerEntry sub
  else if i = 0x2200 then almanacEntry v sub
  else if i = 0x2300 then milestoneEntry sub
  else if (0x2400 ≤ i ∧ i ≤ 0x2407) ∨ (0x2410 ≤ i ∧ i ≤ 0x242F) then waveformEntry i sub
  else if 0x3000 ≤ i ∧ i ≤ 0x305F ∧ chanFitted v (i - 0x3000) then channelEntry (i - 0x3000) sub
  else if 0x3100 ≤ i ∧ i ≤ 0x315F ∧ chanFitted v (i - 0x3100) then channelStatus (i - 0x3100) sub
  else if 0x3200 ≤ i ∧ i ≤ 0x325F ∧ chanFitted v (i - 0x3200) then protectionEntry (i - 0x3200) sub
  else if i = 0x3300 then sensingEntry v sub
  else if i = 0x3400 then feedEntry v sub
  else if 0x3800 ≤ i ∧ i ≤ 0x3817 ∧ valveFitted v (i - 0x3800) then valveEntry (i - 0x3800) sub
  else if 0x3900 ≤ i ∧ i ≤ 0x3905 ∧ groupFitted v (i - 0x3900) then groupEntry (i - 0x3900) sub
  else if i = 0x4000 then inputEntry v sub
  else if i = 0x4100 then fieldEntryOf v sub
  else if 0x4400 ≤ i ∧ i ≤ 0x4407 ∧ canFitted v (i - 0x4400) then canEntry (i - 0x4400) sub
  else if i = 0x4480 then linEntry v sub
  else if i = 0x4500 then switchEntry v sub
  else if i = 0x4600 then networkEntry v sub
  else if i = 0x4800 ∧ accFitted v then accessEntry sub
  else if i = 0x4A00 then faultEntry v sub
  else if i = 0x4B00 then redundancyEntry sub
  else if i = 0x4C00 then odometerEntry sub
  else if i = 0x4D00 then serviceEntry sub
  else none

/-- An object exists where its sub-index 0 does (R42). -/
def objThere (v : Variant) (i : Nat) : Bool := (objEntry v i 0).isSome

end Sys2Proof.Machine
end

