-- ==== Sys2Proof/Machine/Objects.lean ====
section
/-!
DEFINITION. Machine/Objects.lean: a read and a write of one sub-entry, on any path (02_object_dictionary.md, R43, R49, R52, R54, R65 to R72, and
the object tables of the unit chapters). Each gives one answer: a value, an acceptance or an abort; or none yet, where application firmware or
the check of an image answers later.
-/
namespace Sys2Proof.Machine

/-- A read is answered with a value, low byte first. -/
def State.objValue (s : State) (p : DPath) (i sub : Nat) (v : List Byte) : State := s.emit (.objRead p i sub v)
def State.objNat (s : State) (p : DPath) (i sub k v : Nat) : State := s.objValue p i sub (leBytes k v)
def wordsBytes (l : List Word) : List Byte := l.flatMap fun w => leBytes 4 w.toNat

/-- The words of a string, low byte first. -/
def bytesWord (d : List Byte) (k : Nat) : Word := word (leNat ((d.drop (4 * k)).take 4))

/-- A string of `n` words from records, newest first, zero beyond them. -/
def recordsBytes (recs : List (List Word)) (per n : Nat) : List Byte :=
  wordsBytes ((List.range n).map fun k => (recs.getD (k / per) []).getD (k % per) 0)

/-! ## Reading -/

/-- Registers read in order by a path. -/
def regsRead (p : DPath) : List (Reg × Nat) → State → List Word × State
  | [], s => ([], s)
  | (r, n) :: t, s =>
    let a := regRead (.dict p) r n s
    let b := regsRead p t a.2
    (a.1 :: b.1, b.2)

/-- Several registers as one value of `k` bytes. -/
def regsValue (p : DPath) (i sub : Nat) (l : List (Reg × Nat)) (k : Nat) (s : State) : State :=
  let r := regsRead p l s
  r.2.objValue p i sub ((wordsBytes r.1).take k)

/-- A field in a value of `k` bytes, its sign carried on where the type has one. -/
def fieldValue (ty : OType) (f : Fld) (w : Word) (k : Nat) : List Byte :=
  match ty with
  | .int b => leBytes b (codeOf (8 * b) (signedOf f.wd (f.of w)))
  | _ => leBytes (ty.size.getD 0) (f.of w * k)

/-- The code of the NMT state (R44). -/
def Nmt.code : Nmt → Nat
  | .stopped => 4
  | .operational => 5
  | .preOperational => 0x7F

/-- The module's own entries: 0x1001 to 0x2100. 0x1018:04 holds the low 32 bits of the serial number (R511), which are its first four bytes, since
data space is little-endian (R431; DEDUCED, assumption 17). -/
def moduleRead (p : DPath) (i sub : Nat) (s : State) : State :=
  match i with
  | 0x1001 => s.objNat p i sub 1 s.errorReg
  | 0x1003 =>
    if sub = 0 then s.objNat p i sub 1 s.errors.length
    else if s.errors.length < sub then s.objAborted p i sub 0x08000024
    else s.objNat p i sub 4 (s.errors.getD (sub - 1) 0)
  | 0x1010 | 0x1011 => s.objNat p i sub 4 1
  | 0x1018 =>
    if sub = 3 then s.objNat p i sub 4 (hdrVersion s.activeHeader / 0x10000 + 0x10000 * s.ident.rev)
    else s.objValue p i sub (s.serial.take 4)
  | 0x2000 => s.objNat p i sub 1 (if sub = 1 then s.nmt.code else if sub = 3 then s.powerState else b01 s.paired)
  | _ =>
    match sub with
    | 1 => s.objNat p i sub 1 s.refused.code
    | 2 => s.objNat p i sub 4 s.refused.obj
    | 3 => s.objNat p i sub 1 s.refused.path
    | _ => s.objNat p i sub 4 s.refused.time

/-- 0x2200. -/
def almanacRead (p : DPath) (sub : Nat) (s : State) : State :=
  let i := 0x2200
  match sub with
  | 0x03 => s.objNat p i sub 6 s.alm.sec
  | 0x04 => s.objNat p i sub 4 s.alm.ns
  | 0x06 => s.objNat p i sub 5 s.alm.addend
  | 0x11 => s.objNat p i sub 1 s.alm.set.domain
  | 0x12 => s.objNat p i sub 1 s.alm.set.priority1
  | 0x13 => s.objNat p i sub 1 s.alm.set.priority2
  | 0x14 => s.objNat p i sub 1 (codeOf 8 s.alm.set.logSync)
  | 0x15 => s.objNat p i sub 4 s.alm.set.stepThreshold
  | 0x17 => s.objNat p i sub 4 s.alm.ppsIgnored
  | _ => s.objNat p i sub 4 s.alm.discarded

/-- 0x3100 + n:0A to :0F in a bank (R226): a new latch, or what the bank's latch holds. -/
def transitionIn (b n sub : Nat) (s : State) : List Byte × State :=
  let j := n + 1024 * b
  match sub with
  | 0x0A => let r := lastTransitionIn b n false s; (leBytes 6 r.1, r.2)
  | 0x0E => let r := lastTransitionIn b n true s; (leBytes 8 r.1, r.2)
  | 0x0B => (leBytes 4 (s.rd .OUT_LTNS j).toNat, s)
  | 0x0C => (leBytes 1 (s.getF F.OUT_LTHI_DIR j), s)
  | 0x0D => (leBytes 2 (s.rd .OUT_TCNT j).toNat, s)
  | _ => (leBytes 1 (s.getF F.OUT_LTHI_RTCT j), s)

/-- They are read on a path. -/
def transitionRead (p : DPath) (n sub : Nat) (s : State) : State :=
  let r := transitionIn (masterBank (.dict p)) n sub s
  r.2.objValue p (0x3100 + n) sub r.1

/-- 0x3300: the channel that a path has selected, and its latch of the three curves (R280). -/
def State.snsSel (s : State) (p : DPath) : Nat := s.getF F.SNS_SIGSEL_CHAN (bk (.dict p) 0)

def sensingRead (p : DPath) (sub : Nat) (s : State) : State :=
  let i := 0x3300
  let n := s.snsSel p
  match sub with
  | 4 => s.objNat p i sub 1 n
  | 5 =>
    regsValue p i sub [(.SNS_VAL, n), (.SNS_STAMP, n), (.SNS_CAL, n), (.SNS_CSTAT, n), (.SNS_SIGCFG, n), (.SNS_SIGSTAT, n), (.SNS_SIGPK, n),
      (.SNS_SIGHIST, n)] 32 s
  | 9 => if 64 ≤ n then s.objAborted p i sub 0x08000024 else s.objNat p i sub 4 ((s.rd .SNS_SIGCFG n).toNat % 2 ^ 25)
  | _ =>
    if 64 ≤ n then s.objAborted p i sub 0x08000024
    else s.objValue p i sub (wordsBytes ((List.range 64).map fun w => s.rd .SNS_CURVE (bk (.dict p) (64 * (sub - 6) + w))))

/-- A CAN channel's filter pairs, mailbox buffers and records. -/
def canObjRead (p : DPath) (n sub : Nat) (s : State) : State :=
  let i := 0x4400 + n
  if sub < 0x40 then let k := fltIx n (sub - 0x10); regsValue p i sub [(.FLT_MATCH, k), (.FLT_MASK, k), (.FLT_CTRL, k)] 12 s
  else if sub < 0x60 then s.objValue p i sub (wordsBytes (s.mbWords n (sub - 0x40)))
  else canRecordObj p n (sub - 0xA0) s

/-- 0x4480: table definitions, slots, the head record. -/
def linObjRead (p : DPath) (sub : Nat) (s : State) : State :=
  let i := 0x4480
  let c := (sub - 1) % 4
  if sub ≤ 0x10 then regsValue p i sub ((List.range 4).map fun t => (.LIN_TDEF, 4 * c + t)) 16 s
  else if sub ≤ 0x14 then s.objValue p i sub (wordsBytes ((List.range 256).map fun k => s.linWord c (k / 4) (k % 4)))
  else recordRead p i sub (.lin c) id s

/-- 0x4500: shaping, counters, static entries, addresses. -/
def switchRead (p : DPath) (sub : Nat) (s : State) : State :=
  let i := 0x4500
  if sub ≤ 0x15 then regsValue p i sub [(.ETH_CBSA, sub - 0x0D), (.ETH_CBSB, sub - 0x0D)] 8 s
  else if sub ≤ 0x1F then s.objValue p i sub (wordsBytes (s.counterWords (sub - 0x16)))
  else if sub ≤ 0x7D then let e := sub - 0x40; regsValue p i sub [(.ETH_SA_LO, e), (.ETH_SA_HI, e), (.ETH_SA_CTL, e)] 12 s
  else s.objNat p i sub 5 (s.odVal i sub)

/-- 0x4600: the alarm, mandatory nodes, wake frames, the keeper log. -/
def networkObjRead (p : DPath) (sub : Nat) (s : State) : State :=
  let i := 0x4600
  if sub = 0x0A then regsValue p i sub [(.NET_RTCALM_LO, 0), (.NET_RTCALM_HI, 0)] 8 s
  else if sub < 0x18 then let c := sub - 0x10; regsValue p i sub [(.NET_MAND_LO, c), (.NET_MAND_HI, c)] 8 s
  else if sub < 0x24 then
    let c := sub - 0x20
    regsValue p i sub [(.NET_SWK_ID, c), (.NET_SWK_MSK, c), (.NET_SWK_CTL, c), (.NET_SWK_DLO, c), (.NET_SWK_DHI, c)] 20 s
  else s.objValue p i sub (recordsBytes (s.net.keeper.map fun k => [k.1, k.2]) 2 32)

/-- 0x4D00. -/
def serviceRead (p : DPath) (sub : Nat) (s : State) : State :=
  let i := 0x4D00
  match sub with
  | 5 => s.objNat p i sub 1 s.arbCount
  | 8 => s.objValue p i sub (recordsBytes s.svc.journal 8 256)
  | 0x0B => s.objValue p i sub ((s.svc.record.drop 2).take 17)
  | _ => s.objValue p i sub s.serial

/-- 0x4C00: the time of the last save; a group's items in order, each of its words (R531). -/
def odometerRead (p : DPath) (sub : Nat) (s : State) : State :=
  let i := 0x4C00
  if sub = 3 then s.objNat p i sub 6 s.svc.savedAt
  else
    let g := sub - 0x10
    let d := odoShape g
    s.objValue p i sub (wordsBytes ((List.range (d.1 * d.2)).map fun k => word (s.odoWord g (k / d.2) (k % d.2))))

/-- The entries that are read by an operation of their own. -/
def ownRead (p : DPath) (i sub : Nat) (s : State) : State :=
  if i < 0x2100 then moduleRead p i sub s
  else if i = 0x2200 then almanacRead p sub s
  else if i = 0x2300 then
    (if sub = 6 then headRead p i sub .milestone s
     else if sub = 8 then s.objNat p i sub 4 (s.getF F.MST_CFG_ASAP_WIN 0 / 125)
     else s.objValue p i sub (wordsBytes ((List.range 21).map fun k => s.windowWord (sub - 0x10) k)))
  else if 0x2410 ≤ i ∧ i < 0x2430 then captureRead p (i - 0x2410) s
  else if 0x3100 ≤ i ∧ i < 0x3160 then transitionRead p (i - 0x3100) sub s
  else if i = 0x3300 then sensingRead p sub s
  else if i = 0x4000 then
    (if sub = 0xC5 then headRead p i sub .edge s
     else
      let n := F.SIN_BSEL_INPUT.of (s.rd .SIN_BSEL (bk (.dict p) 0))
      s.objValue p i sub (wordsBytes ((List.range 8).map fun b => s.band n b)))
  else if i = 0x4100 then headRead p i sub .field s
  else if 0x4400 ≤ i ∧ i < 0x4408 then canObjRead p (i - 0x4400) sub s
  else if i = 0x4480 then linObjRead p sub s
  else if i = 0x4500 then switchRead p sub s
  else if i = 0x4600 then networkObjRead p sub s
  else if i = 0x4A00 then
    (if sub = 9 then headRead p i sub .faultLog s
     else if sub = 0x0A then s.objValue p i sub (recordsBytes s.fcru.vlog 5 320)
     else s.objNat p i sub 4 (srcStat (sub - 0x40) s).toNat)
  else if i = 0x4800 then
    (if sub = 8 then s.objNat p i sub 4 (s.getF F.ACC_ANTCAL_DLY 0 + 0x10000 * s.getF F.ACC_ANTCAL_DLY 1)
     else s.objValue p i sub (recordsBytes s.acc.recs 5 80))
  else if i = 0x4C00 then odometerRead p sub s
  else serviceRead p sub s

/-- A read of an entry that exists and may be read. -/
def entryRead (p : DPath) (i sub : Nat) (e : Entry) (s : State) : State :=
  match e.src with
  | .value v => s.objNat p i sub (e.ty.size.getD 0) v
  | .fld f n k =>
    let r := regRead (.dict p) f.reg n s
    r.2.objValue p i sub (fieldValue e.ty f r.1 k)
  | .reg r n => regsValue p i sub [(r, n)] (e.ty.size.getD 0) s
  | .regs l => regsValue p i sub l (e.ty.size.getD 0) s
  | .held => s.objNat p i sub (e.ty.size.getD 0) (s.odVal i sub)
  | .own => ownRead p i sub s

/-! ## The application range (R72) -/

/-- A declared entry. -/
def State.appEntry (s : State) (i sub : Nat) : Option AppEntry := tabGet none s.dict.app (odKey i sub)

/-- What an entry that is not declared answers: its object may exist without it. -/
def State.appMissing (s : State) (i : Nat) : Nat := if s.dict.app.any fun x => x.1 / 256 == i then 0x06090011 else 0x06020000

/-- The accesses of a path that application firmware has not answered, oldest first. -/
def State.appDue (s : State) (p : DPath) : List AppAccess := tabGet [] s.dict.appWait (pathNum p)
def setAppDue (p : DPath) (l : List AppAccess) (s : State) : State :=
  { s with dict := { s.dict with appWait := tabSet [] s.dict.appWait (pathNum p) l } }

/-- An access is passed to application firmware, and its answer awaited. -/
def appPass (p : DPath) (i sub : Nat) (d : Option (List Byte)) (s : State) : State :=
  let a : AppAccess := { index := i, sub := sub, data := d }
  (setAppDue p (s.appDue p ++ [a]) s).emit (.appAccess p a)

/-- Whether an index lies in the application range. -/
def isApp (i : Nat) : Bool := decide (0x5000 ≤ i ∧ i ≤ 0x5FFF)

/-- A read of any sub-entry (R12, R41, R43). -/
def objRead (p : DPath) (i sub : Nat) (s : State) : State :=
  if isApp i then
    match s.appEntry i sub with
    | none => s.objAborted p i sub (s.appMissing i)
    | some e => if e.acc = .wo ∨ e.acc = .wos then s.objAborted p i sub 0x06010001 else appPass p i sub none s
  else match objEntry s.variant i sub with
    | none => s.objAborted p i sub (if objThere s.variant i then 0x06090011 else 0x06020000)
    | some e => if e.acc = .wo ∨ e.acc = .wos then s.objAborted p i sub 0x06010001 else entryRead p i sub e s

/-! ## Writing registers -/

/-- A write of one register by a path, answered as its unit answers it. -/
def objReg (p : DPath) (i sub : Nat) (r : Reg) (n : Nat) (w : Word) (s : State) : State :=
  let t := regWrite (.dict p) r n w s
  t.objDone p i sub (t.answerTo (.dict p) (r.addr n))

/-- Writes of several registers up to the first refusal. -/
def regsTry (p : DPath) : List (Reg × Nat × Word) → State → Code × State
  | [], s => (.accepted, s)
  | (r, n, w) :: t, s =>
    let u := regWrite (.dict p) r n w s
    let c := u.answerTo (.dict p) (r.addr n)
    if c = .accepted then regsTry p t u else (c, u)

/-- Several registers written as one: all of them, or none. -/
def objRegs (p : DPath) (i sub : Nat) (l : List (Reg × Nat × Word)) (s : State) : State :=
  let r := regsTry p l s
  (if r.1 = .accepted then r.2 else s).objDone p i sub r.1

/-! ## Communication objects (R45, R48, R53, R54) -/

/-- A COB-ID of the CANopen server is an 11-bit identifier (R46). -/
def cobIdOk (v : Nat) : Bool := bitsOf v 11 19 == 0

/-- The COB-ID of the PDO whose mapping or parameters an index holds. -/
def pdoCob (i : Nat) : Nat := if 0x1600 ≤ i ∧ i < 0x1640 then i - 0x200 else if 0x1A00 ≤ i ∧ i < 0x1A40 then i - 0x200 else i
def State.pdoOn (s : State) (i : Nat) : Bool := cobOn (s.odVal (pdoCob i) 1)
def isMapping (i : Nat) : Bool := decide (0x1600 ≤ i ∧ i < 0x1640 ∨ 0x1A00 ≤ i ∧ i < 0x1A40)

/-- The bytes of the mapping entries 1 to `k`. -/
def State.mappedBytes (s : State) (i k : Nat) : Nat := ((List.range k).map fun j => s.odVal i (j + 1) % 256 / 8).sum

/-- A mapping entry (R53): 0 where it is allowed, or its abort code. -/
def mapEntryCode (v : Variant) (tpdo : Bool) (m : Nat) : Nat :=
  if m % 8 ≠ 0 then 0x06040043
  else match objEntry v (m / 65536) (m / 256 % 256) with
    | none => 0x06040041
    | some e =>
      if ! (if tpdo then e.tpdo else e.rpdo) then 0x06040041
      else if e.ty.size ≠ some (m % 256 / 8) ∨ m % 256 = 0 then 0x06070010
      else 0

/-- A write of a PDO mapping (R53, R54): 0 or its abort code. -/
def mapCode (i sub v : Nat) (s : State) : Nat :=
  let tpdo := decide (0x1A00 ≤ i)
  if s.pdoOn i then 0x08000022
  else if sub = 0 then
    (match (List.range v).find? fun j => mapEntryCode s.variant tpdo (s.odVal i (j + 1)) != 0 with
     | some j => mapEntryCode s.variant tpdo (s.odVal i (j + 1))
     | none => if 8 < s.mappedBytes i v then 0x06040042 else 0)
  else if s.odVal i 0 ≠ 0 then 0x08000022
  else mapEntryCode s.variant tpdo v

/-- A value of the server itself that is in the range of its type: 0 where it is allowed, or its abort code. DEDUCED (assumption 18): the COB-ID, the
inhibit time and the event timer of an enabled PDO may be written; R54 holds only the mapping and the transmission type. -/
def heldCode (i sub v : Nat) (s : State) : Nat :=
  if i = 0x1005 ∨ i = 0x1012 ∨ i = 0x1014 then (if cobIdOk v then 0 else 0x06090030)
  else if i = 0x1006 then (if 0 < v ∧ v < 1000 then 0x06090030 else 0)
  else if i = 0x1019 then (if v = 1 then 0x06090030 else 0)
  else if i = 0x1016 then
    let node := bitsOf v 16 8
    if v % 65536 = 0 then 0
    else if bitsOf v 24 8 ≠ 0 ∨ node = 0 ∨ 127 < node then 0x06090030
    else if anyBelow 8 fun k => k + 1 != sub && s.odVal i (k + 1) % 65536 != 0 && bitsOf (s.odVal i (k + 1)) 16 8 == node then 0x06040043
    else 0
  else if 0x1201 ≤ i ∧ i ≤ 0x1203 then (if sub = 3 ∨ cobIdOk v then 0 else 0x06090030)
  else if isMapping i then mapCode i sub v s
  else if (0x1400 ≤ i ∧ i < 0x1440) ∨ (0x1800 ≤ i ∧ i < 0x1840) then
    (if sub = 1 then (if cobIdOk v then 0 else 0x06090030)
     else if sub = 2 then
      (if decide (240 < v) && decide (v < 254) then 0x06090030 else if s.pdoOn i then 0x08000022 else 0)
     else 0)
  else if i = 0x2002 then (if sub = 3 ∧ ! [125, 250, 500, 1000].contains v then 0x06090030 else 0)
  else 0

/-- A value of 0x2002 waits for the next NMT reset communication or restart (R45). DESIGN CHOICE (assumption 17): a bit rate in force changes no bit
timing register of the channel; the spec names no link between the two. -/
def transportLater (i sub v : Nat) (s : State) : State :=
  { s with dict := { s.dict with storedOd := tabSet none s.dict.storedOd (odKey i sub) (some v) } }

/-- The number of the TPDO that an index configures. -/
def tpdoOf (i : Nat) : Nat := i % 64

/-- What a value of the server brings with it: a TPDO starts anew, a SYNC counter from 1, a consumed node is no longer counted as lost. -/
def heldEffect (i sub : Nat) (s : State) : State :=
  if (0x1800 ≤ i ∧ i < 0x1840) then { s with dict := { s.dict with tpdo := tabSet {} s.dict.tpdo (tpdoOf i) {} } }
  else if i = 0x1019 ∨ i = 0x1005 then { s with dict := { s.dict with syncCtr := 0 } }
  else if i = 0x1016 then { s with hbLost := tabSet false s.hbLost sub false }
  else s

/-- A write of a value of the server itself, in the range of its type. -/
def heldWrite (p : DPath) (i sub v : Nat) (s : State) : State :=
  let c := heldCode i sub v s
  if c ≠ 0 then s.objAborted p i sub c
  else if i = 0x2002 then
    (if sub = 1 ∧ ! canFitted s.variant v then s.objDone p i sub .absent else (transportLater i sub v s).objDone p i sub .accepted)
  else (heldEffect i sub (s.odSet i sub v)).objDone p i sub .accepted

/-! ## Storing and restoring (R48) -/

/-- Whether a key of the server's values belongs to a group: 1 all, 2 communication, 4 manufacturer; 0x2002 keeps what was written to it. -/
def groupHas (g k : Nat) : Bool :=
  let i := k / 256
  (g == 1 || (g == 2 && decide (i < 0x2000)) || (g == 4 && decide (0x2000 ≤ i))) && i != 0x2002

/-- A group of parameters is stored. -/
def storedSave (g : Nat) (s : State) : State :=
  let kept := s.dict.storedOd.filter fun x => ! groupHas g x.1
  let od := (s.od.filter fun x => groupHas g x.1).foldl (fun t x => tabSet none t x.1 x.2) kept
  let s1 := { s with dict := { s.dict with storedOd := od } }
  if g = 1 ∨ g = 4 then paramsSave s1 else s1

/-- A group's stored values become the defaults. -/
def storedClear (g : Nat) (s : State) : State :=
  let s1 := { s with dict := { s.dict with
    storedOd := s.dict.storedOd.filter fun x => ! (groupHas g x.1 || ((g == 1 || g == 4) && x.1 / 256 == 0x2002)) } }
  if g = 1 ∨ g = 4 then paramsClear s1 else s1

/-! ## Entries written by an operation of their own -/

/-- 0x1003, 0x1010, 0x1011: the signatures are "save" and "load". DEDUCED (assumption 17): a write of another value than 0 to 0x1003:00 answers
0x0609_0030. -/
def moduleWrite (p : DPath) (i sub v : Nat) (s : State) : State :=
  if i = 0x1003 then (if v = 0 then { s with errors := [] }.objDone p i sub .accepted else s.objAborted p i sub 0x06090030)
  else if i = 0x1010 then (if v = 0x65766173 then (storedSave sub s).objDone p i sub .accepted else s.objAborted p i sub 0x06090030)
  else if v = 0x64616F6C then (storedClear sub s).objDone p i sub .accepted
  else s.objAborted p i sub 0x06090030

/-- 0x2003:03: the access key; all zero is no key (R47). DEDUCED (assumption 17): a write of all zeros lies outside the range and answers
0x0609_0030. -/
def keyWrite (p : DPath) (d : List Byte) (s : State) : State :=
  if d.all (· == 0) then s.objAborted p 0x2003 3 0x06090030 else (s.odSet 0x2003 3 (leNat d)).objDone p 0x2003 3 .accepted

/-- 0x2100:01 (R424). -/
def entryObj (p : DPath) (v : Nat) (s : State) : State :=
  if v % 4 = 0 ∨ v % 4 = 3 then s.objAborted p 0x2100 1 0x06090030 else requestBy (.dict p) (v % 4) (decide (4 ≤ v)) s

/-- 0x2200 (R135, R146, R153). -/
def almanacObj (p : DPath) (sub : Nat) (v : Int) (s : State) : State :=
  let i := 0x2200
  let n := v.toNat
  let put (a : Almanac) : State := { s with alm := a }.objDone p i sub .accepted
  let set (x : AlmSet) : State := put { s.alm with set := x }
  match sub with
  | 0x06 =>
    let r := addendCommit n s
    if addendMax < n then r.2.objAborted p i sub 0x06090031
    else if n < addendMin then r.2.objAborted p i sub 0x06090032
    else r.2.objDone p i sub r.1
  | 0x0A => let r := timeMessageCommit n s; r.2.objDone p i sub r.1
  | 0x0B => if s.role ≠ 1 then s.objDone p i sub .state else put { s.alm with utcStaged := n }
  | 0x11 => set { s.alm.set with domain := n }
  | 0x12 => if n = 255 ∧ s.role = 1 then s.objAborted p i sub 0x06090031 else set { s.alm.set with priority1 := n }
  | 0x13 => set { s.alm.set with priority2 := n }
  | 0x14 => set { s.alm.set with logSync := v }
  | _ => set { s.alm.set with stepThreshold := n }

/-- A path selects a channel, and its curves are latched (R280, R281). -/
def snsSelect (p : DPath) (n : Nat) (s : State) : State :=
  let b := bk (.dict p) 0
  (List.range 192).foldl (fun t k => t.wr .SNS_CURVE (b + k) (curveWord (s.snsCh n) (k / 64) (k % 64))) (s.wr .SNS_SIGSEL b (word n))

/-- 0x3300: relearning, the selection, the settings of the selected channel. -/
def sensingObj (p : DPath) (sub v : Nat) (s : State) : State :=
  let i := 0x3300
  match sub with
  | 3 =>
    if ! chanFitted s.variant v then s.objDone p i sub .absent
    else objReg p i sub .SNS_SIGCFG v (word ((s.next .SNS_SIGCFG v).toNat % 2 ^ 25 + 2 ^ 31)) s
  | 4 => if ! chanFitted s.variant v then s.objDone p i sub .absent else (snsSelect p v s).objDone p i sub .accepted
  | _ => if 64 ≤ s.snsSel p then s.objAborted p i sub 0x08000024 else objReg p i sub .SNS_SIGCFG (s.snsSel p) (word v) s

/-- 0x4000:C4: the eight bands of the selected input, checked and applied as one; bands that the table no longer has make room first. -/
def bandsObj (p : DPath) (d : List Byte) (s : State) : State :=
  let ws := (List.range 8).map (bytesWord d)
  let off := ws.mapIdx fun b w => (Reg.SIN_BAND, b, putBits w F.SIN_BAND_EN.lo 1 0)
  let on := ws.mapIdx fun b w => (Reg.SIN_BAND, b, w)
  objRegs p 0x4000 0xC4 (off ++ on) s

/-- A mailbox buffer (R342). -/
def mailboxObj (p : DPath) (n m : Nat) (d : List Byte) (s : State) : State :=
  let sub := 0x40 + m
  if s.claimedMb n m || decide (2 ≤ s.mbState n m) then s.objDone p (0x4400 + n) sub .state
  else ((List.range 18).foldl (fun t k => mbBufWrite n m k (bytesWord d k) t) s).objDone p (0x4400 + n) sub .accepted

/-- Filter pairs and mailbox buffers. -/
def canObj (p : DPath) (n sub : Nat) (d : List Byte) (s : State) : State :=
  if sub < 0x40 then
    let k := fltIx n (sub - 0x10)
    objRegs p (0x4400 + n) sub [(.FLT_MATCH, k, bytesWord d 0), (.FLT_MASK, k, bytesWord d 1), (.FLT_CTRL, k, bytesWord d 2)] s
  else mailboxObj p n (sub - 0x40) d s

/-- Table definitions and slots of a LIN channel. -/
def linObj (p : DPath) (sub : Nat) (d : List Byte) (s : State) : State :=
  let c := (sub - 1) % 4
  if sub ≤ 0x10 then objRegs p 0x4480 sub ((List.range 4).map fun t => (Reg.LIN_TDEF, 4 * c + t, bytesWord d t)) s
  else ((List.range 256).foldl (fun t k => linSlotWrite c (k / 4) (k % 4) (bytesWord d k) t) s).objDone p 0x4480 sub .accepted

/-- Shaping of a port: both classes are checked as they will be. -/
def shapingObj (p : DPath) (port v : Nat) (s : State) : State :=
  let a := word v
  let b := word (v / 2 ^ 32)
  let sub := 0x0D + port
  if reservedSet .ETH_CBSA a || reservedSet .ETH_CBSB b || ! cbsOk port a b then s.objDone p 0x4500 sub .invalid
  else ((s.hold .ETH_CBSA port a).hold .ETH_CBSB port b).objDone p 0x4500 sub .accepted

/-- 0x4500: addresses take effect at the next link-up (R385). -/
def switchObj (p : DPath) (sub v : Nat) (d : List Byte) (s : State) : State :=
  if sub ≤ 0x15 then shapingObj p (sub - 0x0D) v s
  else if sub ≤ 0x7D then
    let e := sub - 0x40
    objRegs p 0x4500 sub [(.ETH_SA_LO, e, bytesWord d 0), (.ETH_SA_HI, e, bytesWord d 1), (.ETH_SA_CTL, e, bytesWord d 2)] s
  else if v % 256 < 8 ∨ 30 < v % 256 then s.objAborted p 0x4500 sub 0x06090030
  else (s.odLater 0x4500 sub v).objDone p 0x4500 sub .accepted

/-- 0x4600. -/
def networkObj (p : DPath) (sub v : Nat) (d : List Byte) (s : State) : State :=
  let i := 0x4600
  let lo := word v
  let hi := word (v / 2 ^ 32)
  if sub = 0x0A then objRegs p i sub [(.NET_RTCALM_LO, 0, lo), (.NET_RTCALM_HI, 0, hi)] s
  else if sub < 0x18 then
    let c := sub - 0x10
    if v % 2 = 1 then s.objAborted p i sub 0x06090030 else objRegs p i sub [(.NET_MAND_LO, c, lo), (.NET_MAND_HI, c, hi)] s
  else if sub < 0x24 then
    let c := sub - 0x20
    objRegs p i sub [(.NET_SWK_ID, c, bytesWord d 0), (.NET_SWK_MSK, c, bytesWord d 1), (.NET_SWK_CTL, c, bytesWord d 2),
      (.NET_SWK_DLO, c, bytesWord d 3), (.NET_SWK_DHI, c, bytesWord d 4)] s
  else (wakeRequest none true s).objDone p i sub .accepted

/-- 0x4800: a poll, the antenna delays, a calibration, an enrolment. -/
def accessObj (p : DPath) (sub v : Nat) (d : List Byte) (s : State) : State :=
  let i := 0x4800
  match sub with
  | 3 => objReg p i sub .ACC_CTRL 0 (word (1 + 2 * (v - 1))) s
  | 8 =>
    if bitsOf v 12 4 ≠ 0 ∨ bitsOf v 28 4 ≠ 0 then s.objDone p i sub .invalid
    else objRegs p i sub [(.ACC_ANTCAL, 0, word (v % 0x1000)), (.ACC_ANTCAL, 1, word (v / 0x10000))] s
  | 9 =>
    if bitsOf v 1 15 ≠ 0 then s.objDone p i sub .invalid
    else objReg p i sub .ACC_CTRL 0 (word (8 + 16 * (v % 2) + 0x10000 * (v / 0x10000))) s
  | _ => enrolWrite p (sub - 0x20) d s

/-- 0x4D00: commands, an image in one piece, the pairing record, the image key. -/
def serviceObj (p : DPath) (sub v : Nat) (d : List Byte) (s : State) : State :=
  match sub with
  | 1 => updMaster (.dict p) v s
  | 2 => imageObj 0 d true s
  | 9 => pairingObj p d s
  | _ => imageKeyObj p d s

/-- The entries that are written by an operation of their own: the value as a number and as bytes. -/
def ownWrite (p : DPath) (i sub : Nat) (v : Int) (d : List Byte) (s : State) : State :=
  let n := v.toNat
  if i < 0x2000 then moduleWrite p i sub n s
  else if i = 0x2003 then keyWrite p d s
  else if i = 0x2100 then entryObj p n s
  else if i = 0x2200 then almanacObj p sub v s
  else if i = 0x2300 then
    (if sub = 1 then objSubmit p ((List.range 18).map (bytesWord d)) s
     else if sub = 2 then objCancel p n s
     else if sub = 8 then objReg p i sub .MST_CFG 0 (word (125 * n)) s
     else (cancelAll 2 s).objDone p i sub .accepted)
  else if i = 0x3300 then sensingObj p sub n s
  else if 0x3900 ≤ i ∧ i < 0x3906 then objReg p i sub (if sub = 9 then .VLV_STARTM else .VLV_OFFM) 0 (word (n * 2 ^ (4 * (i - 0x3900)))) s
  else if i = 0x4000 then bandsObj p d s
  else if 0x4400 ≤ i ∧ i < 0x4408 then canObj p (i - 0x4400) sub d s
  else if i = 0x4480 then linObj p sub d s
  else if i = 0x4500 then switchObj p sub n d s
  else if i = 0x4600 then networkObj p sub n d s
  else if i = 0x4A00 then
    (if srcFitted s.variant n then (acknowledge n s).objDone p i sub .accepted else s.objDone p i sub .absent)
  else if i = 0x4800 then accessObj p sub n d s
  else serviceObj p sub n d s

/-! ## Any write -/

/-- The access types (R43, R49): 0 where a write may be made, or its abort code. -/
def accessCode (p : DPath) (a : OAccess) (s : State) : Nat :=
  match a with
  | .const | .ro => 0x06010002
  | .rws | .wos => if p = .service then 0 else 0x08000022
  | .rwp => if s.nmt = .preOperational then stoppedEth else 0x08000022
  | .wo | .rw => stoppedEth
where
  stoppedEth : Nat :=
    match p with
    | .eth _ => if s.nmt = .stopped then 0x08000022 else 0
    | _ => 0

/-- The length of a value against its type (R69): 0, or its abort code. -/
def lengthCode (ty : OType) (k : Nat) : Nat :=
  match ty.size with
  | none => 0
  | some n => if n < k then 0x06070012 else if k < n then 0x06070013 else 0

/-- The value that the bytes of a numeric type hold. -/
def OType.val (ty : OType) (d : List Byte) : Int :=
  match ty with
  | .int k => signedOf (8 * k) (leNat d)
  | _ => (leNat d : Int)

/-- The low end of a range: TMAX lies above TMIN, TOP starts at 1, or at 2 in up/down (R179, R288). -/
def State.rangeLo (s : State) (i sub : Nat) (e : Entry) : Int :=
  if 0x3800 ≤ i ∧ i < 0x3818 ∧ sub = 5 then ((F.VLV_TIM_TMIN.of (s.next .VLV_TIM (i - 0x3800)) : Nat) : Int) + 1
  else if 0x2400 ≤ i ∧ i < 0x2408 ∧ sub = 4 then (if F.WCU_CTRL_MODE.on (s.next .WCU_CTRL (i - 0x2400)) then 2 else 1)
  else e.lo

/-- A numeric value against its range (R69): 0, or its abort code. -/
def rangeCode (i sub : Nat) (e : Entry) (v : Int) (s : State) : Nat :=
  match e.ty with
  | .uint _ | .int _ =>
    if e.hi < v then 0x06090031 else if v < s.rangeLo i sub e then 0x06090032
    else match e.src with
      | .fld _ _ k => if v % (k : Int) ≠ 0 then 0x06090030 else 0
      | _ => 0
  | _ => 0

/-- The register of which a sub-entry writes one field: the values that wait stay, and a counter runs on (R191, R193). -/
def State.mirrored (s : State) (r : Reg) (n : Nat) : Word :=
  match r with
  | .WCU_CTRL => putBits (s.next r n) F.WCU_CTRL_EN.lo 1 (s.getF F.WCU_CTRL_EN n)
  | _ => s.next r n

/-- A write of a value that has passed these checks. -/
def entryWrite (p : DPath) (i sub : Nat) (e : Entry) (d : List Byte) (s : State) : State :=
  let v := e.ty.val d
  match e.src with
  | .value _ => s.objAborted p i sub 0x06010002
  | .fld f n k =>
    let w := s.mirrored f.reg n &&& word f.reg.desc.rw
    objReg p i sub f.reg n (putBits w f.lo f.wd (codeOf f.wd (v / (k : Int)))) s
  | .reg r n => objReg p i sub r n (word (leNat d)) s
  | .regs l => objRegs p i sub (l.mapIdx fun j x => (x.1, x.2, bytesWord d j)) s
  | .held => heldWrite p i sub v.toNat s
  | .own => ownWrite p i sub v d s

/-- The checks of a write in their order: 0, or its abort code. -/
def writeCode (p : DPath) (i sub : Nat) (e : Entry) (d : List Byte) (s : State) : Nat :=
  let a := accessCode p e.acc s
  if a ≠ 0 then a
  else
    let l := lengthCode e.ty d.length
    if l ≠ 0 then l else rangeCode i sub e (e.ty.val d) s

/-- A write of any sub-entry, whole (R12, R41, R43, R52, R69). -/
def objWrite (p : DPath) (i sub : Nat) (d : List Byte) (s : State) : State :=
  if isApp i then
    match s.appEntry i sub with
    | none => s.objAborted p i sub (s.appMissing i)
    | some e =>
      let c := accessCode p e.acc s
      let l := lengthCode (match e.size with | some k => .octets k | none => .free) d.length
      if c ≠ 0 then s.objAborted p i sub c else if l ≠ 0 then s.objAborted p i sub l else appPass p i sub (some d) s
  else match objEntry s.variant i sub with
    | none => s.objAborted p i sub (if objThere s.variant i then 0x06090011 else 0x06020000)
    | some e =>
      let c := writeCode p i sub e d s
      if c ≠ 0 then s.objAborted p i sub c else entryWrite p i sub e d s

/-! ## Answers -/

/-- What an access was answered with. -/
inductive ObjAnswer where
  | value (d : List Byte)
  | done
  | abort (code : Nat)
deriving DecidableEq, Repr

/-- One thing sent, as the answer to an access. -/
def answerOf (p : DPath) (i sub : Nat) (e : Sent) : Option ObjAnswer :=
  match e with
  | .objRead q j t d => if q = p ∧ j = i ∧ t = sub then some (.value d) else none
  | .objWritten q j t _ => if q = p ∧ j = i ∧ t = sub then some .done else none
  | .objAbort q j t c => if q = p ∧ j = i ∧ t = sub then some (.abort c) else none
  | _ => none

/-- The answer that `after` has given beside what `before` had sent; none where it is outstanding. -/
def objAnswer (p : DPath) (i sub : Nat) (before after : State) : Option ObjAnswer :=
  (after.sent.take (after.sent.length - before.sent.length)).findSome? (answerOf p i sub)

end Sys2Proof.Machine
end

