-- ==== Sys2Proof/Machine/SdoServer.lean ====
section
/-!
DEFINITION. Machine/SdoServer.lean: the four SDO servers (02_object_dictionary.md, R46, R49, R51, R52, R65, R69 to R71). PRESUMED: the layout of
the eight bytes of a frame is that of CiA 301, which the spec names and does not repeat (assumption 20).
-/
namespace Sys2Proof.Machine

/-! ## Servers and frames -/

/-- The transfer of a server. -/
def State.sdo (s : State) (k : Nat) : Option Sdo := tabGet none s.dict.sdo k
def setSdo (k : Nat) (x : Option Sdo) (s : State) : State := { s with dict := { s.dict with sdo := tabSet none s.dict.sdo k x } }

/-- The path of a server. -/
def sdoPath (k : Fin 4) : DPath := .sdo k

/-- The COB-IDs of a server: client to server 1, server to client 2. -/
def State.sdoCob (s : State) (k sub : Nat) : Nat := s.odVal (0x1200 + k) sub

/-- A server takes part in communication (R48, R49). -/
def State.sdoServes (s : State) (k : Nat) : Bool :=
  s.dom.core && s.canOn s.canOpenCh && s.nmt != .stopped && cobOn (s.sdoCob k 1) && cobOn (s.sdoCob k 2)

/-- The partner word of a server (R481). -/
def State.sdoPartner (s : State) (k : Nat) : Nat := s.canOpenCh * 65536 + 0x100 + k + 1

/-- A server's frame. -/
def sdoSend (k : Nat) (d : List Byte) (s : State) : State := coSend (s.sdoCob k 2) d s

/-- Eight bytes that begin with a command byte and name a sub-entry. -/
def sdoFrame (cmd i sub : Nat) (rest : List Byte) : List Byte := byte cmd :: leBytes 2 i ++ byte sub :: (rest ++ List.replicate 4 0).take 4

/-- Eight bytes that begin with a command byte. -/
def sdoBytes (cmd : Nat) (rest : List Byte) : List Byte := byte cmd :: (rest ++ List.replicate 7 0).take 7

/-- The index and sub-index that an initiate request names. -/
def frameIndex (d : List Byte) : Nat := leNat ((d.drop 1).take 2)
def frameSub (d : List Byte) : Nat := byteAt d 3

/-- The CRC of block transfers: CCITT, polynomial 0x1021, from 0. -/
def crcByte : Nat → Nat → Nat
  | 0, c => c
  | k + 1, c => crcByte k (if bitOf c 15 then Nat.xor (c * 2 % 65536) 0x1021 else c * 2 % 65536)
def crc16 (d : List Byte) : Nat := d.foldl (fun c b => crcByte 8 (Nat.xor c (b.toNat * 256))) 0

/-! ## Aborts -/

/-- A server answers with an abort frame. -/
def sdoAbortFrame (k i sub code : Nat) (s : State) : State := sdoSend k (sdoFrame 0x80 i sub (leBytes 4 code)) s

/-- A transfer ends with an abort (R65, R67). -/
def sdoAbort (k : Fin 4) (i sub code : Nat) (s : State) : State :=
  sdoAbortFrame k.val i sub code (setSdo k.val none (s.objAborted (sdoPath k) i sub code))

/-- What an abort names: the transfer's sub-entry, or the frame's where there is none. -/
def State.sdoNames (s : State) (k : Nat) (d : List Byte) : Nat × Nat :=
  match s.sdo k with
  | some x => (x.index, x.sub)
  | none => (frameIndex d, frameSub d)

/-- A protocol error: an abort, and a violation (R480, code 0x01). -/
def sdoError (k : Fin 4) (d : List Byte) (code : Nat) (s : State) : State :=
  let n := s.sdoNames k.val d
  (sdoAbort k n.1 n.2 code s).violation 1 1 (s.sdoPartner k.val)

/-- A transfer that waited for application firmware is given up: its access is forgotten. -/
def appForget (k : Fin 4) (x : Sdo) (s : State) : State :=
  match x.phase with
  | .answer _ _ => setAppDue (sdoPath k) [] s
  | _ => s

/-- A request reaches a server: not served, muted or malformed, it is ignored; with another client's transfer in progress it is turned away (R51). -/
def sdoRequest (k : Fin 4) (client : Nat) (d : List Byte) (act : State → State) (s : State) : State :=
  if ! s.sdoServes k.val || s.mutedPartner 1 (s.sdoPartner k.val) || d.length != 8 then s
  else match s.sdo k.val with
    | some x =>
      if x.client ≠ client then
        sdoAbortFrame k.val (frameIndex d) (frameSub d) 0x060A0023 (s.objAborted (sdoPath k) (frameIndex d) (frameSub d) 0x060A0023)
      else act (appForget k x s)
    | none => act s

/-- The command specifier of a frame. -/
def ccs (d : List Byte) : Nat := byteAt d 0 / 32

/-! ## Before and after a value -/

/-- What can be refused before the first byte of a value: existence, access type, an indicated size (R12, R43, R69). -/
def downloadCode (p : DPath) (i sub : Nat) (size : Option Nat) (s : State) : Nat :=
  let len (ty : OType) : Nat := match size with | some k => lengthCode ty k | none => 0
  let both (a l : Nat) : Nat := if a ≠ 0 then a else l
  if isApp i then
    match s.appEntry i sub with
    | none => s.appMissing i
    | some e => both (accessCode p e.acc s) (len (match e.size with | some k => .octets k | none => .free))
  else match objEntry s.variant i sub with
    | none => if objThere s.variant i then 0x06090011 else 0x06020000
    | some e => both (accessCode p e.acc s) (len e.ty)

/-- The size of a sub-entry's value where it is fixed. -/
def State.entrySize (s : State) (i sub : Nat) : Option Nat :=
  if isApp i then (s.appEntry i sub).bind (·.size) else (objEntry s.variant i sub).bind (·.ty.size)

/-- The frame that answers a completed download: of an initiate request, of the last segment, of the end of a block transfer. -/
def doneFrame (x : Sdo) (block : Bool) : List Byte :=
  if block then sdoBytes 0xA1 []
  else if x.last then sdoBytes (0x20 + 16 * b01 x.toggle) []
  else sdoFrame 0x60 x.index x.sub []

/-- A download has ended with an answer. -/
def downloadDone (k : Fin 4) (x : Sdo) (block : Bool) (a : ObjAnswer) (s : State) : State :=
  match a with
  | .abort c => sdoAbortFrame k.val x.index x.sub c (setSdo k.val none s)
  | _ => sdoSend k.val (doneFrame x block) (setSdo k.val none s)

/-- A download is committed (R52): checked, accepted or refused, and answered, now or when the answer comes. -/
def sdoCommit (k : Fin 4) (x : Sdo) (block : Bool) (s : State) : State :=
  let t := objWrite (sdoPath k) x.index x.sub x.data s
  match objAnswer (sdoPath k) x.index x.sub s t with
  | some a => downloadDone k x block a t
  | none => setSdo k.val (some { x with phase := .answer false block }) t

/-- A value has been read for an upload: it goes out at once, in segments or in blocks. -/
def uploadValue (k : Fin 4) (x : Sdo) (block : Bool) (v : List Byte) (s : State) : State :=
  if block then
    sdoSend k.val (sdoFrame 0xC6 x.index x.sub (leBytes 4 v.length)) (setSdo k.val (some { x with data := v, phase := .blockUpStart }) s)
  else if 0 < v.length ∧ v.length ≤ 4 then
    sdoSend k.val (sdoFrame (0x43 + 4 * (4 - v.length)) x.index x.sub v) (setSdo k.val none s)
  else
    sdoSend k.val (sdoFrame 0x41 x.index x.sub (leBytes 4 v.length)) (setSdo k.val (some { x with data := v, phase := .up }) s)

/-- An upload has been answered. -/
def uploadDone (k : Fin 4) (x : Sdo) (block : Bool) (a : ObjAnswer) (s : State) : State :=
  match a with
  | .value v => uploadValue k x block v s
  | .abort c => sdoAbortFrame k.val x.index x.sub c (setSdo k.val none s)
  | .done => s

/-- A sub-entry is read for an upload. -/
def sdoFetch (k : Fin 4) (x : Sdo) (block : Bool) (s : State) : State :=
  let t := objRead (sdoPath k) x.index x.sub s
  match objAnswer (sdoPath k) x.index x.sub s t with
  | some a => uploadDone k x block a t
  | none => setSdo k.val (some { x with phase := .answer true block }) t

/-- An answer that was outstanding has come (R72). -/
def sdoAnswered (k : Fin 4) (a : ObjAnswer) (s : State) : State :=
  match s.sdo k.val with
  | some x =>
    (match x.phase with
     | .answer true b => uploadDone k x b a s
     | .answer false b => downloadDone k x b a s
     | _ => s)
  | none => s

/-! ## Downloads -/

/-- The bytes of a value received against the size that was indicated: 0, or the abort code (R69). -/
def sizeCode (size : Option Nat) (k : Nat) : Nat :=
  match size with
  | none => 0
  | some n => if n < k then 0x06070012 else if k < n then 0x06070013 else 0

/-- An initiate-download request. -/
def downloadInitiate (k : Fin 4) (client : Nat) (d : List Byte) (s : State) : State :=
  let b := byteAt d 0
  let i := frameIndex d
  let sub := frameSub d
  if ccs d ≠ 1 then sdoError k d 0x05040001 s
  else if bitOf b 1 then
    let n := if bitOf b 0 then 4 - bitsOf b 2 2 else min 4 ((s.entrySize i sub).getD 4)
    sdoCommit k { client := client, phase := .down, index := i, sub := sub, data := (d.drop 4).take n } false (setSdo k.val none s)
  else
    let size := if bitOf b 0 then some (leNat (d.drop 4)) else none
    let c := downloadCode (sdoPath k) i sub size s
    if c ≠ 0 then sdoAbort k i sub c s
    else
      sdoSend k.val (sdoFrame 0x60 i sub [])
        (setSdo k.val (some { client := client, phase := .down, index := i, sub := sub, size := size }) s)

/-- A download segment. -/
def downloadSegment (k : Fin 4) (d : List Byte) (s : State) : State :=
  let b := byteAt d 0
  match s.sdo k.val with
  | none => sdoError k d 0x05040001 s
  | some x =>
    if x.phase ≠ .down ∨ ccs d ≠ 0 ∨ bitOf b 4 ≠ x.toggle then sdoError k d 0x05040001 s
    else
      let data := x.data ++ (d.drop 1).take (7 - bitsOf b 1 3)
      let tooLong := match x.size with | some n => decide (n < data.length) | none => false
      if tooLong then sdoAbort k x.index x.sub 0x06070012 s
      else if bitOf b 0 then
        let c := sizeCode x.size data.length
        if c ≠ 0 then sdoAbort k x.index x.sub c s else sdoCommit k { x with data := data, last := true } false s
      else sdoSend k.val (sdoBytes (0x20 + 16 * b01 x.toggle) []) (setSdo k.val (some { x with data := data, toggle := ! x.toggle }) s)

/-- The block size that the server asks for. -/
def State.askBlock (s : State) : Nat := 1 + Config.sdoBlockSize s.fresh % 127

/-- A block-download initiate request. -/
def blockDownInitiate (k : Fin 4) (client : Nat) (d : List Byte) (s : State) : State :=
  let b := byteAt d 0
  let i := frameIndex d
  let sub := frameSub d
  if ccs d ≠ 6 ∨ bitOf b 0 then sdoError k d 0x05040001 s
  else
    let size := if bitOf b 1 then some (leNat (d.drop 4)) else none
    let c := downloadCode (sdoPath k) i sub size s
    if c ≠ 0 then sdoAbort k i sub c s
    else
      let x : Sdo := { client := client, phase := .blockDown, index := i, sub := sub, size := size, blk := s.askBlock, crc := bitOf b 2 }
      sdoSend k.val (sdoFrame 0xA4 i sub [byte s.askBlock]) (setSdo k.val (some x) s).used

/-- A segment of a block: kept where it is the next in order; the block's end is acknowledged with the last one kept. -/
def blockDownSegment (k : Fin 4) (d : List Byte) (s : State) : State :=
  let b := byteAt d 0
  match s.sdo k.val with
  | none => sdoError k d 0x05040001 s
  | some x =>
    if x.phase ≠ .blockDown then sdoError k d 0x05040001 s
    else if b % 128 = 0 ∨ x.blk < b % 128 then sdoError k d 0x05040003 s
    else
      let next := b % 128 == x.seq + 1
      let last := bitOf b 7
      let y : Sdo := if next then { x with data := x.data ++ d.drop 1, seq := x.seq + 1 } else x
      if ! last && b % 128 != x.blk then setSdo k.val (some y) s
      else
        let z : Sdo := { y with seq := 0, blk := s.askBlock, phase := if last && next then .blockDownEnd else .blockDown }
        sdoSend k.val (sdoBytes 0xA2 [byte y.seq, byte s.askBlock]) (setSdo k.val (some z) s).used

/-- The end of a block download: its CRC and its size are checked, then it commits (R52). -/
def blockDownEnd (k : Fin 4) (d : List Byte) (s : State) : State :=
  let b := byteAt d 0
  match s.sdo k.val with
  | none => sdoError k d 0x05040001 s
  | some x =>
    if x.phase ≠ .blockDownEnd ∨ ccs d ≠ 6 ∨ ! bitOf b 0 then sdoError k d 0x05040001 s
    else
      let data := x.data.take (x.data.length - bitsOf b 2 3)
      if x.crc && crc16 data != leNat ((d.drop 1).take 2) then sdoError k d 0x05040004 s
      else
        let c := sizeCode x.size data.length
        if c ≠ 0 then sdoAbort k x.index x.sub c s else sdoCommit k { x with data := data } true s

/-! ## Uploads -/

/-- An initiate-upload request. -/
def uploadInitiate (k : Fin 4) (client : Nat) (d : List Byte) (s : State) : State :=
  if ccs d ≠ 2 then sdoError k d 0x05040001 s
  else sdoFetch k { client := client, phase := .up, index := frameIndex d, sub := frameSub d } false (setSdo k.val none s)

/-- An upload segment request: the next seven bytes. -/
def uploadSegment (k : Fin 4) (d : List Byte) (s : State) : State :=
  let b := byteAt d 0
  match s.sdo k.val with
  | none => sdoError k d 0x05040001 s
  | some x =>
    if x.phase ≠ .up ∨ ccs d ≠ 3 ∨ bitOf b 4 ≠ x.toggle then sdoError k d 0x05040001 s
    else
      let seg := (x.data.drop x.pos).take 7
      let last := decide (x.data.length ≤ x.pos + 7)
      let cmd := 16 * b01 x.toggle + 2 * (7 - seg.length) + b01 last
      sdoSend k.val (sdoBytes cmd seg) (setSdo k.val (if last then none else some { x with pos := x.pos + 7, toggle := ! x.toggle }) s)

/-- The segments of a block from a place on: their frames. -/
def blockFrames (x : Sdo) : List (List Byte) :=
  let left := x.data.length - x.pos
  let n := min x.blk (max 1 ((left + 6) / 7))
  (List.range n).map fun j =>
    sdoBytes (j + 1 + 128 * b01 (decide (x.data.length ≤ x.pos + 7 * (j + 1)))) ((x.data.drop (x.pos + 7 * j)).take 7)

/-- A block is sent. -/
def blockSend (k : Fin 4) (x : Sdo) (s : State) : State :=
  let fs := blockFrames x
  let y : Sdo := { x with phase := .blockUp, seq := fs.length, last := decide (x.data.length ≤ x.pos + 7 * fs.length) }
  fs.foldl (fun t f => sdoSend k.val f t) (setSdo k.val (some y) s)

/-- A block size that a client asks for. -/
def blockSizeOk (n : Nat) : Bool := decide (1 ≤ n ∧ n ≤ 127)

/-- A block-upload initiate or start request. -/
def blockUpInitiate (k : Fin 4) (client : Nat) (d : List Byte) (s : State) : State :=
  let b := byteAt d 0
  if ccs d = 5 ∧ b % 4 = 0 then
    (if ! blockSizeOk (byteAt d 4) then sdoError k d 0x05040002 (setSdo k.val none s)
     else
      let x : Sdo := {
        client := client, phase := .blockUpStart, index := frameIndex d, sub := frameSub d, blk := byteAt d 4, crc := bitOf b 2 }
      sdoFetch k x true (setSdo k.val none s))
  else if ccs d = 5 ∧ b % 4 = 3 then
    match s.sdo k.val with
    | some x => if x.phase = .blockUpStart then blockSend k x s else sdoError k d 0x05040001 s
    | none => sdoError k d 0x05040001 s
  else sdoError k d 0x05040001 s

/-- A client acknowledges a block: the rest follows from where it has received, or the end. -/
def blockUpAck (k : Fin 4) (d : List Byte) (s : State) : State :=
  match s.sdo k.val with
  | none => sdoError k d 0x05040001 s
  | some x =>
    if x.phase ≠ .blockUp ∨ ccs d ≠ 5 ∨ byteAt d 0 % 4 ≠ 2 then sdoError k d 0x05040001 s
    else if x.seq < byteAt d 1 then sdoError k d 0x05040003 s
    else if ! blockSizeOk (byteAt d 2) then sdoError k d 0x05040002 s
    else
      let y : Sdo := { x with pos := x.pos + 7 * byteAt d 1, blk := byteAt d 2 }
      if x.last ∧ byteAt d 1 = x.seq then
        let n := y.pos - x.data.length
        sdoSend k.val (sdoBytes (0xC1 + 4 * n) (leBytes 2 (if x.crc then crc16 x.data else 0)))
          (setSdo k.val (some { y with phase := .blockUpEnd }) s)
      else blockSend k y s

/-- The client's response to the end of a block upload. -/
def blockUpEnd (k : Fin 4) (d : List Byte) (s : State) : State :=
  match s.sdo k.val with
  | none => sdoError k d 0x05040001 s
  | some x => if x.phase ≠ .blockUpEnd ∨ byteAt d 0 ≠ 0xA1 then sdoError k d 0x05040001 s else setSdo k.val none s

/-- A transfer ends without an answer; an access that application firmware has not answered is forgotten. -/
def sdoEnd (k : Fin 4) (s : State) : State := setAppDue (sdoPath k) [] (setSdo k.val none s)

/-! ## Commands -/

/-- SDO_DOWNLOAD_INITIATE (R51). -/
def execSdoDownloadInitiate (k : Fin 4) (client : Nat) (d : List Byte) (s : State) : Host.Outcome State Fault Refusal :=
  ok s (sdoRequest k client d (downloadInitiate k client d) s)

/-- SDO_DOWNLOAD_SEGMENT (R51, R52). -/
def execSdoDownloadSegment (k : Fin 4) (client : Nat) (d : List Byte) (s : State) : Host.Outcome State Fault Refusal :=
  ok s (sdoRequest k client d (downloadSegment k d) s)

/-- SDO_UPLOAD_INITIATE (R51). -/
def execSdoUploadInitiate (k : Fin 4) (client : Nat) (d : List Byte) (s : State) : Host.Outcome State Fault Refusal :=
  ok s (sdoRequest k client d (uploadInitiate k client d) s)

/-- SDO_UPLOAD_SEGMENT (R51). -/
def execSdoUploadSegment (k : Fin 4) (client : Nat) (d : List Byte) (s : State) : Host.Outcome State Fault Refusal :=
  ok s (sdoRequest k client d (uploadSegment k d) s)

/-- SDO_BLOCK_DOWNLOAD_INITIATE (R51). -/
def execSdoBlockDownloadInitiate (k : Fin 4) (client : Nat) (d : List Byte) (s : State) : Host.Outcome State Fault Refusal :=
  ok s (sdoRequest k client d (blockDownInitiate k client d) s)

/-- SDO_BLOCK_DOWNLOAD_SEGMENT (R51). -/
def execSdoBlockDownloadSegment (k : Fin 4) (client : Nat) (d : List Byte) (s : State) : Host.Outcome State Fault Refusal :=
  ok s (sdoRequest k client d (blockDownSegment k d) s)

/-- SDO_BLOCK_DOWNLOAD_END (R52). -/
def execSdoBlockDownloadEnd (k : Fin 4) (client : Nat) (d : List Byte) (s : State) : Host.Outcome State Fault Refusal :=
  ok s (sdoRequest k client d (blockDownEnd k d) s)

/-- SDO_BLOCK_UPLOAD_INITIATE (R51). -/
def execSdoBlockUploadInitiate (k : Fin 4) (client : Nat) (d : List Byte) (s : State) : Host.Outcome State Fault Refusal :=
  ok s (sdoRequest k client d (blockUpInitiate k client d) s)

/-- SDO_BLOCK_UPLOAD_ACK (R51). -/
def execSdoBlockUploadAck (k : Fin 4) (client : Nat) (d : List Byte) (s : State) : Host.Outcome State Fault Refusal :=
  ok s (sdoRequest k client d (blockUpAck k d) s)

/-- SDO_BLOCK_UPLOAD_END (R51). -/
def execSdoBlockUploadEnd (k : Fin 4) (client : Nat) (d : List Byte) (s : State) : Host.Outcome State Fault Refusal :=
  ok s (sdoRequest k client d (blockUpEnd k d) s)

/-- SDO_ABORT_RECEIVED (R52): nothing is written. -/
def execSdoAbortReceived (k : Fin 4) (client : Nat) (s : State) : Host.Outcome State Fault Refusal :=
  ok s (match s.sdo k.val with
    | some x => if s.sdoServes k.val ∧ x.client = client then sdoEnd k s else s
    | none => s)

/-- SDO_PROTOCOL_TIMEOUT (R51): a transfer that waits for application firmware waits for no frame. -/
def execSdoProtocolTimeout (k : Fin 4) (s : State) : Host.Outcome State Fault Refusal :=
  ok s (match s.sdo k.val with
    | some x => (match x.phase with
      | .answer _ _ => s
      | _ => sdoAbort k x.index x.sub 0x05040000 s)
    | none => s)

end Sys2Proof.Machine
end

