-- ==== Sys2Proof/Machine/Communication.lean ====
section
/-!
DEFINITION. Machine/Communication.lean: PDOs, SYNC, TIME, EMCY, heartbeat and NMT (02_object_dictionary.md, R48 to R57, R71). PRESUMED: what the
spec takes from CiA 301 by name, event timer, inhibit time, the SYNC counter and its start value, TIME_OF_DAY and the bits of a COB-ID, is as
CiA 301 has it (assumption 20).
-/
namespace Sys2Proof.Machine

/-! ## Mapped values -/

/-- A mapped entry of a channel's last transition, whose latch belongs to the TPDO (R226). -/
def ofTransition (s : State) (e : Nat × Nat × Nat) : Bool :=
  decide (0x3100 ≤ e.1 ∧ e.1 < 0x3160 ∧ 0x0A ≤ e.2.1 ∧ e.2.1 ≤ 0x0F) && chanFitted s.variant (e.1 - 0x3100)

/-- The bytes of a value mapped into TPDO `k` as it stands; zeros where it has none. -/
def mappedRead (k : Nat) (e : Nat × Nat × Nat) (s : State) : List Byte × State :=
  if ofTransition s e then transitionIn (tpdoBank k) (e.1 - 0x3100) e.2.1 s else
  let t := objRead .rpdo e.1 e.2.1 s
  let v : List Byte := match objAnswer .rpdo e.1 e.2.1 s t with
    | some (.value d) => d
    | _ => []
  ((v ++ List.replicate e.2.2 0).take e.2.2, { t with sent := s.sent, refused := s.refused })

/-- The data of TPDO `k`, sampled in the order of its mapping. -/
def mappedData (k : Nat) : List (Nat × Nat × Nat) → State → List Byte × State
  | [], s => ([], s)
  | e :: t, s =>
    let a := mappedRead k e s
    let b := mappedData k t a.2
    (a.1 ++ b.1, b.2)

/-! ## TPDOs (R49, R53, R57) -/

/-- A TPDO is sampled and sent; its inhibit time starts. -/
def tpdoSend (n : Nat) (s : State) : State :=
  let d := mappedData n (s.mapping (0x1A00 + n)) s
  setTp n { d.2.tp n with due := false, inhibit := s.tpdoPar n 3 != 0 } (coSend (s.tpdoPar n 1) d.1 d.2)

/-- An event of a TPDO: sent at once, after the inhibit time, or at the next SYNC for type 0. -/
def tpdoEvent (n : Nat) (s : State) : State :=
  if ! s.tpdoOn n then s
  else if 254 ≤ s.tpdoPar n 2 ∧ ! (s.tp n).inhibit then tpdoSend n s
  else if 254 ≤ s.tpdoPar n 2 ∨ s.tpdoPar n 2 = 0 then setTp n { s.tp n with due := true } s
  else s

/-- A SYNC reaches a TPDO: type 0 sends what is due; types 1 to 240 send at every so many SYNCs, counted from the start value if one is set. -/
def tpdoSync (counter : Option Nat) (s : State) (n : Nat) : State :=
  let ty := s.tpdoPar n 2
  let x := s.tp n
  if ! s.tpdoOn n ∨ 240 < ty then s
  else if ty = 0 then (if x.due then tpdoSend n s else s)
  else
    let sv := s.tpdoPar n 6
    let started := x.started || sv == 0 || counter == some sv
    if ! started then s
    else if ty ≤ x.syncs + 1 ∨ (! x.started ∧ sv ≠ 0) then setTp n { s.tp n with syncs := 0, started := true } (tpdoSend n (setTp n { x with syncs := 0, started := true } s))
    else setTp n { x with syncs := x.syncs + 1, started := true } s

/-! ## RPDOs (R49, R55) -/

/-- The partner word of an RPDO (R481). -/
def State.rpdoPartner (s : State) (n : Nat) : Nat := s.canOpenCh * 65536 + 0x200 + n + 1

/-- Every mapped value is written in order; the first refused one with its abort code, and the state it leaves. -/
def mappedWrite : List (Nat × Nat × Nat) → List Byte → State → Option (Nat × Nat × Nat) × State
  | [], _, s => (none, s)
  | e :: t, d, s =>
    let u := objWrite .rpdo e.1 e.2.1 (d.take e.2.2) s
    match objAnswer .rpdo e.1 e.2.1 s u with
    | some (.abort c) => (some (e.1, e.2.1, c), u)
    | _ => mappedWrite t (d.drop e.2.2) u

/-- The refusal code that an abort carries (R66). -/
def State.refusalOf (s : State) (abort : Nat) : Nat := if abort = 0x08000020 ∨ abort = 0x08000022 then s.refused.code else 0

/-- An RPDO is applied whole, or not at all, with EMCY 0xFF20 naming the first refused sub-entry. -/
def rpdoApply (n : Nat) (d : List Byte) (s : State) : State :=
  let r := mappedWrite (s.mapping (0x1600 + n)) d s
  match r.1 with
  | none => r.2
  | some (i, sub, c) => { s with refused := r.2.refused }.emcyObj 0xFF20 (r.2.refusalOf c) i sub

/-- An RPDO is received: of the wrong length it raises EMCY 0x8210; a synchronous one waits for the next SYNC. -/
def rpdoReceive (n : Nat) (d : List Byte) (s : State) : State :=
  let m := 0x1600 + n
  if ! s.coOn ∨ s.nmt ≠ .operational ∨ ! cobOn (s.odVal (0x1400 + n) 1) ∨ s.odVal m 0 = 0 ∨ s.mutedPartner 1 (s.rpdoPartner n) then s
  else if d.length ≠ s.mappedBytes m (s.odVal m 0) then (s.violation 1 2 (s.rpdoPartner n)).emcyObj 0x8210 2 m 0
  else if s.odVal (0x1400 + n) 2 ≤ 240 then { s with dict := { s.dict with rpdo := tabSet none s.dict.rpdo n (some d) } }
  else rpdoApply n d s

/-- The synchronous RPDOs received since the last SYNC are applied. -/
def rpdosApply (s : State) : State :=
  s.dict.rpdo.foldl (fun t x => match x.2 with | some d => rpdoApply x.1 d t | none => t) { s with dict := { s.dict with rpdo := [] } }

/-- A SYNC, received or sent: RPDOs are applied, then TPDOs are sampled and sent. -/
def syncArrived (counter : Option Nat) (s : State) : State :=
  if s.coOn && s.nmt == .operational then (List.range 64).foldl (tpdoSync counter) (rpdosApply s) else s

/-! ## SYNC, TIME, heartbeat (R48, R57) -/

/-- Communication other than NMT, heartbeat and the served paths runs: not stopped (R49). -/
def State.coRuns (s : State) : Bool := s.coOn && s.nmt != .stopped

/-- The SYNC counter's next value. -/
def State.nextSync (s : State) : Nat := if s.odVal 0x1019 0 ≤ s.dict.syncCtr then 1 else s.dict.syncCtr + 1

/-- The module sends SYNC as producer, and takes it as any consumer does. -/
def syncSend (s : State) : State :=
  let cob := s.odVal 0x1005 0
  if ! s.coRuns ∨ ! bitOf cob 30 ∨ s.odVal 0x1006 0 = 0 then s
  else if s.odVal 0x1019 0 = 0 then syncArrived none (coSend cob [] s)
  else
    let c := s.nextSync
    syncArrived (some c) { coSend cob [byte c] s with dict := { s.dict with syncCtr := c } }

/-- Seconds from 1970-01-01 to 1984-01-01, the start of TIME_OF_DAY. -/
def timeOfDayStart : Nat := 5113 * 86400

/-- A TIME object: milliseconds after midnight, then days. It is the coarse reference of a follower (R140). -/
def timeReceive (d : List Byte) (s : State) : State :=
  if ! s.coRuns ∨ ! bitOf (s.odVal 0x1012 0) 31 ∨ d.length ≠ 6 then s
  else
    let t := timeOfDayStart + leNat (d.drop 4) * 86400 + leNat (d.take 4) % 2 ^ 28 / 1000
    { s with alm := { s.alm with timeObject := some t } }

/-- The module sends TIME while its Almanac is grandmaster: UTC of now. -/
def timeSend (s : State) : State :=
  let cob := s.odVal 0x1012 0
  if ! s.coRuns ∨ ! bitOf cob 30 ∨ ! s.isGrandmaster then s
  else
    let utc := ((s.alm.sec : Int) - s.utcOffset - (timeOfDayStart : Int)).toNat
    coSend cob (leBytes 4 (utc % 86400 * 1000 + s.alm.ns / 1000000) ++ leBytes 2 (utc / 86400)) s

/-- The heartbeat carries the NMT state. -/
def heartbeatSend (s : State) : State :=
  if ! s.coOn ∨ s.odVal 0x1017 0 = 0 then s else coSend (0x700 + s.nodeId) [byte s.nmt.code] s

/-- The node and the time of an entry of 0x1016. -/
def State.consumed (s : State) (k : Nat) : Nat × Nat := let v := s.odVal 0x1016 (k + 1); (bitsOf v 16 8, v % 65536)

/-- A consumed node is heard again (R535). -/
def heartbeatHeard (node : Nat) (s : State) : State :=
  if ! s.coOn then s
  else (List.range 8).foldl (fun t k =>
    if (t.consumed k).1 = node ∧ (t.consumed k).2 ≠ 0 then { t with hbLost := tabSet false t.hbLost (k + 1) false } else t) s

/-- A consumed node is late (R56, R535). -/
def heartbeatLost (k : Nat) (s : State) : State :=
  if ! s.coOn ∨ (s.consumed k).2 = 0 ∨ tabGet false s.hbLost (k + 1) then s
  else { s with hbLost := tabSet false s.hbLost (k + 1) true }.emcyObj 0x8130 0 (s.consumed k).1 0

/-! ## NMT (R49, R50, R71) -/

/-- EMCYs that have waited go out, as far as the inhibit time lets them (R48, R49). -/
def emcysFlush : Nat → State → State
  | 0, s => s
  | k + 1, s =>
    match s.emcyWait with
    | [] => s
    | e :: t => if s.emcyInhibit || s.nmt == .stopped then s else emcysFlush k ({ s with emcyWait := t }.emcyOut e)

def emcyFlush (s : State) : State := emcysFlush s.emcyWait.length s

/-- The NMT state. -/
def nmtTo (n : Nmt) (s : State) : State := emcyFlush { s with nmt := n }

/-- A download that is not committed. -/
def Sdo.writing (x : Sdo) : Bool :=
  match x.phase with
  | .down | .blockDown | .blockDownEnd | .answer false _ => true
  | _ => false

/-- Uncommitted downloads that meet a test are aborted with 0x0800_0022, and nothing is written (R71). -/
def downloadsAbort (p : Sdo → Bool) (s : State) : State :=
  [(0 : Fin 4), 1, 2, 3].foldl (fun t k =>
    match t.sdo k.val with
    | some x => if x.writing && p x then sdoAbort k x.index x.sub 0x08000022 (sdoEnd k t) else t
    | none => t) s

/-- A sub-entry of access type RWP. -/
def State.isRwp (s : State) (i sub : Nat) : Bool := (objEntry s.variant i sub).any fun e => e.acc == .rwp

/-- Uncommitted RWP writes of the sessions end. -/
def sessionWritesEnd (s : State) : State :=
  { s with dict := { s.dict with
      sess := s.dict.sess.map fun p => (p.1, p.2.map fun x =>
        match x.part with
        | some (i, sub, _) => if s.isRwp i sub then { x with part := none, dead := true } else x
        | none => x) } }

/-- The partner word of NMT (R481). -/
def State.nmtPartner (s : State) : Nat := s.canOpenCh * 65536 + 0x300

/-- An NMT command for this node, or for all, is taken. -/
def State.nmtTakes (s : State) (node : Nat) : Bool := s.coOn && (node == 0 || node == s.nodeId) && ! s.mutedPartner 1 s.nmtPartner

/-- Start: operational; an uncommitted write of an RWP entry is aborted. -/
def nmtStart (s : State) : State := nmtTo .operational (sessionWritesEnd (downloadsAbort (fun x => s.isRwp x.index x.sub) s))

/-- PDOs are no longer exchanged. -/
def pdosEnd (s : State) : State := { s with dict := { s.dict with tpdo := [], rpdo := [] } }

/-- Stop: downloads are aborted; no server answers any more. -/
def nmtStop (s : State) : State :=
  let s1 := pdosEnd (downloadsAbort (fun _ => true) s)
  nmtTo .stopped { s1 with dict := { s1.dict with sdo := [] } }

/-- Pre-operational: downloads are aborted. -/
def nmtPre (s : State) : State := nmtTo .preOperational (pdosEnd (downloadsAbort (fun _ => true) s))

/-- The values of 0x1000 to 0x1FFF and 0x2002 are the stored ones (R50). -/
def comRestore (s : State) : State :=
  let com (k : Nat) : Bool := decide (k / 256 < 0x2000) || k / 256 == 0x2002
  let od := (s.dict.storedOd.filter fun x => com x.1).foldl (fun t x => tabSet none t x.1 x.2) (s.od.filter fun x => ! com x.1)
  claimMove s { s with od := od, hbLost := [], dict := { s.dict with syncCtr := 0 } }

/-- After either reset: transfers have ended, the boot-up message is sent, and the module is pre-operational. -/
def nmtBoot (s : State) : State := nmtTo .preOperational (coSend (0x700 + s.nodeId) [0] s)

def nmtResetCommunication (s : State) : State := nmtBoot (comRestore (dictDrop s))
def nmtResetNode (s : State) : State := nmtBoot (nodeRestore (comRestore (dictDrop s)))

/-! ## Commands -/

/-- RPDO_RECEIVED (R55). -/
def execRpdoReceived (n : Fin 64) (d : List Byte) (s : State) : Host.Outcome State Fault Refusal := ok s (rpdoReceive n.val d s)

/-- TPDO_EVENT_TIMER_EXPIRY (R53). -/
def execTpdoEventTimerExpiry (n : Fin 64) (s : State) : Host.Outcome State Fault Refusal :=
  ok s (if s.tpdoPar n.val 5 = 0 then s else tpdoEvent n.val s)

/-- TPDO_INHIBIT_TIME_EXPIRY (R53). -/
def execTpdoInhibitTimeExpiry (n : Fin 64) (s : State) : Host.Outcome State Fault Refusal :=
  let s1 := setTp n.val { s.tp n.val with inhibit := false } s
  ok s (if (s.tp n.val).due then tpdoEvent n.val s1 else s1)

/-- SYNC_RECEIVED (R57): with its counter, if it carries one. -/
def execSyncReceived (counter : Option Nat) (s : State) : Host.Outcome State Fault Refusal := ok s (syncArrived counter s)

/-- SYNC_PRODUCE (R48). -/
def execSyncProduce (s : State) : Host.Outcome State Fault Refusal := ok s (syncSend s)

/-- TIME_RECEIVED (R57). -/
def execTimeReceived (d : List Byte) (s : State) : Host.Outcome State Fault Refusal := ok s (timeReceive d s)

/-- TIME_PRODUCE (R57). -/
def execTimeProduce (s : State) : Host.Outcome State Fault Refusal := ok s (timeSend s)

/-- EMCY_INHIBIT_EXPIRY (R48). -/
def execEmcyInhibitExpiry (s : State) : Host.Outcome State Fault Refusal := ok s (emcyFlush { s with emcyInhibit := false })

/-- HEARTBEAT_PRODUCE (R48). -/
def execHeartbeatProduce (s : State) : Host.Outcome State Fault Refusal := ok s (heartbeatSend s)

/-- HEARTBEAT_RECEIVED (R48). -/
def execHeartbeatReceived (node : Nat) (s : State) : Host.Outcome State Fault Refusal := ok s (heartbeatHeard node s)

/-- HEARTBEAT_CONSUMER_TIMEOUT (R56). -/
def execHeartbeatConsumerTimeout (k : Fin 8) (s : State) : Host.Outcome State Fault Refusal := ok s (heartbeatLost k.val s)

/-- NMT_START (R49). -/
def execNmtStart (node : Nat) (s : State) : Host.Outcome State Fault Refusal := ok s (if s.nmtTakes node then nmtStart s else s)

/-- NMT_STOP (R49). -/
def execNmtStop (node : Nat) (s : State) : Host.Outcome State Fault Refusal := ok s (if s.nmtTakes node then nmtStop s else s)

/-- NMT_ENTER_PRE_OPERATIONAL (R49). -/
def execNmtEnterPreOperational (node : Nat) (s : State) : Host.Outcome State Fault Refusal := ok s (if s.nmtTakes node then nmtPre s else s)

/-- NMT_RESET_NODE (R50). -/
def execNmtResetNode (node : Nat) (s : State) : Host.Outcome State Fault Refusal := ok s (if s.nmtTakes node then nmtResetNode s else s)

/-- NMT_RESET_COMMUNICATION (R50). -/
def execNmtResetCommunication (node : Nat) (s : State) : Host.Outcome State Fault Refusal :=
  ok s (if s.nmtTakes node then nmtResetCommunication s else s)

end Sys2Proof.Machine
end

