-- ==== Sys2Proof/Machine/Sessions.lean ====
section
/-!
DEFINITION. Machine/Sessions.lean: the object access protocol over Ethernet and its sessions (02_object_dictionary.md, R58 to R64), the
application range (R72), and the service port (12_ethernet_switch.md, R376).
-/
namespace Sys2Proof.Machine

/-! ## Sessions -/

/-- Sessions 0 to 2 are the switch's, session 3 the service port's (R58). -/
def State.sess (s : State) (k : Nat) : Option Sess := tabGet none s.dict.sess k
def setSess (k : Nat) (x : Option Sess) (s : State) : State := { s with dict := { s.dict with sess := tabSet none s.dict.sess k x } }

/-- The sessions of a message's interface. -/
def sessNums (service : Bool) : List Nat := if service then [3] else [0, 1, 2]

/-- The path of a session. -/
def sessPath : Nat → DPath
  | 0 => .eth 0
  | 1 => .eth 1
  | 2 => .eth 2
  | _ => .service

/-- The session that a message names on its interface. -/
def State.sessOf (s : State) (m : ObjMsg) : Option (Nat × Sess) :=
  (sessNums m.service).findSome? fun k => match s.sess k with
    | some x => if x.id = m.session then some (k, x) else none
    | none => none

/-- The service port serves: its PHY is powered and its link up (R376). -/
def State.svcUp (s : State) : Bool := s.dom.comms && s.flag F.ETH_SVCSTAT_EN 0 && s.flag F.ETH_SVCSTAT_LINK 0

/-- The protocol listens to a message: on the service port, or on the switch where 0x2003 enables it, on its VLAN (R47). -/
def State.listens (s : State) (m : ObjMsg) : Bool :=
  s.dom.core && (if m.service then s.svcUp
    else s.ethEn && s.odVal 0x2003 1 != 0 && s.odVal 0x2003 2 == m.vid)

/-- The access key of an interface: 0x2003:03, or the service credential in OTP (R61, R511). -/
def State.accessKey (s : State) (service : Bool) : List Byte := if service then s.otp 8 16 else leBytes 16 (s.odVal 0x2003 3)

/-- The partner of a message (R481). -/
def msgIface (m : ObjMsg) : Nat := if m.service then 5 else 4
def msgWho (m : ObjMsg) : Nat := if m.service then 0 else m.who

/-- A violation by the sender of a message. -/
def msgViolation (m : ObjMsg) (code : Nat) (s : State) : State := s.violation (msgIface m) code (msgWho m)

/-! ## Layout and tags (R59) -/

/-- The bytes of a message before its TAG. -/
def msgLayout (version typ flags session seq index sub rsv1 offset rsv2 length : Nat) (data : List Byte) : List Byte :=
  [byte version, byte typ] ++ beBytes 2 flags ++ beBytes 4 session ++ beBytes 4 seq ++ beBytes 2 index ++ [byte sub, byte rsv1] ++
    beBytes 4 offset ++ beBytes 2 length ++ beBytes 2 rsv2 ++ data

/-- The bytes of a request under its TAG. -/
def msgBytes (m : ObjMsg) : List Byte :=
  msgLayout m.version m.typ m.flags m.session m.seq m.index m.sub m.rsv1 m.offset m.rsv2 m.length (m.data.take m.length)

/-- The bytes of an answer under its TAG. -/
def replyBytes (r : ObjReply) : List Byte := msgLayout 1 r.typ 0 r.session r.seq r.index r.sub 0 r.offset 0 r.data.length r.data

/-- The TAG of bytes under a key. -/
def tagOf (key bytes : List Byte) : List Byte := (Config.cmac key bytes).take 8

/-- An answer to a message: it repeats SEQ, INDEX, SUB and OFFSET. -/
def msgReply (m : ObjMsg) (typ : Nat) (data : List Byte) : ObjReply :=
  { typ := typ, session := m.session, seq := m.seq, index := m.index, sub := m.sub, offset := m.offset, data := data }

/-- An answer is sent. -/
def replySend (service : Bool) (who : Nat) (key : List Byte) (r : ObjReply) (s : State) : State :=
  s.emit (.objMessage service who r (tagOf key (replyBytes r)))

/-- A NAK (R63), under the session key, or the access key without a session (R61). -/
def nak (m : ObjMsg) (code : Nat) (s : State) : State :=
  let key := match s.sessOf m with
    | some x => x.2.key
    | none => s.accessKey m.service
  replySend m.service m.who key (msgReply m 0x3F [byte code]) s

/-- The data of an ABORT: the abort code, and the refusal code it carries (R65, R66). An object, or a sub-entry, that only a larger variant has is
ABSENT. -/
def abortData (i sub abort : Nat) (s : State) : List Byte :=
  let absent :=
    (abort == 0x06020000 && objThere .px96 i && ! objThere s.variant i) ||
    (abort == 0x06090011 && (objEntry .px96 i sub).isSome && (objEntry s.variant i sub).isNone)
  beBytes 4 abort ++ [byte (if absent then 5 else s.refusalOf abort)]

/-- The NAK that the fields of a message earn by themselves: FORMAT, LENGTH, or 0 (R63). DEDUCED (assumption 15): the LENGTH of a READ asks for that
many bytes and needs no DATA in the datagram, and an OPEN whose LENGTH is not the 16 bytes of its nonce (R60) gets LENGTH. -/
def formatCode (typ : Nat) (m : ObjMsg) : Nat :=
  if m.version ≠ 1 ∨ m.typ ≠ typ ∨ 1 < m.flags ∨ m.rsv1 ≠ 0 ∨ m.rsv2 ≠ 0 ∨ (typ = 1 ∧ m.session ≠ 0) then 5
  else if 1024 < m.length ∨ (typ ≠ 0x10 ∧ m.data.length < m.length) ∨ (typ = 1 ∧ m.length ≠ 16) then 4
  else 0

/-- The checks of every message in their order: mute, then fields. -/
def msgChecked (typ : Nat) (m : ObjMsg) (act : State → State) (s : State) : State :=
  if ! s.listens m then s
  else if s.mutedPartner (msgIface m) (msgWho m) then nak m 7 s
  else if formatCode typ m ≠ 0 then nak m (formatCode typ m) (msgViolation m 8 s)
  else act s

/-! ## OPEN and CLOSE -/

/-- A session identifier that is neither 0 nor in use. -/
def State.newSession (s : State) : Nat :=
  let used := (List.range 4).map fun k => match s.sess k with
    | some x => x.id
    | none => 0
  (((List.range 6).map fun j => (Config.sessionId s.fresh + j) % 2 ^ 32).find? fun n => n != 0 && ! used.contains n).getD 1

/-- A session opens (R60, R61); on the service port service mode begins with it (R510). -/
def sessOpen (m : ObjMsg) (k : Nat) (s : State) : State :=
  let key := s.accessKey m.service
  let nonce := (List.range 16).map fun i => Config.randomByte (16 * s.fresh + i)
  let id := s.newSession
  let x : Sess := { id := id, who := m.who, key := Config.cmac key (m.data.take 16 ++ nonce) }
  let s1 := setSess k (some x) s.used
  let s2 := if m.service then s1.setB F.SVC_STAT_MODE 0 true else s1
  replySend m.service m.who key { msgReply m 2 nonce with session := id } s2

/-- The states from which a session on the service port opens: RUN and IDLE (R510). -/
def State.mayOpen (s : State) (service : Bool) : Bool := ! service || s.powerState == 0 || s.powerState == 1

/-- An OPEN: authenticated, then given a free session of its interface (R58, R60, R61). -/
def openRequest (m : ObjMsg) (s : State) : State :=
  let key := s.accessKey m.service
  if ! m.service ∧ key.all (· == 0) then nak m 1 s
  else if m.tag ≠ tagOf key (msgBytes m) then nak m 1 (msgViolation m 6 s)
  else if ! s.mayOpen m.service then
    let t := s.objAborted (sessPath (if m.service then 3 else 0)) 0 0 0x08000022
    replySend m.service m.who key (msgReply m 0x30 (abortData 0 0 0x08000022 t)) t
  else match (sessNums m.service).find? fun k => (s.sess k).isNone with
    | none => nak m 6 s
    | some k => sessOpen m k s

/-- A session closes; with the one on the service port, service mode ends and an image transfer is interrupted (R510, R514). -/
def sessShut (k : Nat) (s : State) : State :=
  if (s.sess k).isNone then s
  else
    let t := setSess k none s
    if k = 3 then updInterrupt false (t.setB F.SVC_STAT_MODE 0 false) else t

/-- A message of a session: its tag, then its sequence number (R61 to R63); a repetition gets the stored answer again. -/
def sessRequest (typ : Nat) (m : ObjMsg) (act : Nat → Sess → State → State) (s : State) : State :=
  msgChecked typ m (fun s =>
    match s.sessOf m with
    | none => nak m 3 (msgViolation m 9 s)
    | some (k, x) =>
      if m.tag ≠ tagOf x.key (msgBytes m) then nak m 1 (msgViolation m 6 s)
      else if m.seq = x.last then
        (match x.stored with
         | some r => replySend m.service m.who x.key r s
         | none => s)
      else if m.seq ≠ (x.last + 1) % 2 ^ 32 then nak m 2 (msgViolation m 7 s)
      else
        let y : Sess := { x with last := m.seq, stored := none, who := m.who }
        act k y (setSess k (some y) s)) s

/-! ## READ and WRITE -/

/-- An answer of a session is sent; the answer to the last request executed is stored (R62). -/
def sessReply (k : Nat) (r : ObjReply) (s : State) : State :=
  match s.sess k with
  | some x => replySend (k == 3) x.who x.key r (setSess k (some (if r.seq = x.last then { x with stored := some r } else x)) s)
  | none => s

/-- A sub-entry whose value is a number: its bytes are big-endian in this protocol (R59, R64). -/
def State.numeric (s : State) (i sub : Nat) : Bool :=
  if isApp i then (match s.appEntry i sub with | some e => e.numeric | none => false)
  else match objEntry s.variant i sub with
    | some e => (match e.ty with | .uint _ => true | .int _ => true | _ => false)
    | none => false

/-- A value between the dictionary and the protocol. -/
def State.swapped (s : State) (i sub : Nat) (v : List Byte) : List Byte := if s.numeric i sub then v.reverse else v

/-- The answer to an access of a session. -/
def accessReply (session seq i sub offset length : Nat) (a : ObjAnswer) (s : State) : ObjReply :=
  let r (typ : Nat) (d : List Byte) : ObjReply :=
    { typ := typ, session := session, seq := seq, index := i, sub := sub, offset := offset, data := d }
  match a with
  | .value v => r 0x11 (((s.swapped i sub v).drop offset).take length)
  | .done => r 0x21 []
  | .abort c => r 0x30 (abortData i sub c s)

/-- A session's access is answered, or its answer is awaited. `rd` is LENGTH of a read plus 1, and 0 for a write. -/
def sessSettle (k : Nat) (m : ObjMsg) (rd : Nat) (a : Option ObjAnswer) (s : State) : State :=
  match a with
  | some a => sessReply k (accessReply m.session m.seq m.index m.sub m.offset (rd - 1) a s) s
  | none => match s.sess k with
    | some x => setSess k (some { x with wait := x.wait ++ [(m.index, m.sub, m.seq, m.offset, rd)] }) s
    | none => s

/-- An access of a session ends with an abort. -/
def sessAbort (k : Nat) (m : ObjMsg) (code : Nat) (s : State) : State :=
  let t := match s.sess k with
    | some x => setSess k (some { x with part := none, dead := false }) s
    | none => s
  sessSettle k m 0 (some (.abort code)) (t.objAborted (sessPath k) m.index m.sub code)

/-- A READ (R60, R64). -/
def readRequest (m : ObjMsg) (k : Nat) (s : State) : State :=
  let t := objRead (sessPath k) m.index m.sub s
  sessSettle k m (m.length + 1) (objAnswer (sessPath k) m.index m.sub s t) t

/-- The bytes of a write in progress that its next segment continues: of another sub-entry, none. -/
def Sess.partOf (x : Sess) (i sub : Nat) : List Byte :=
  match x.part with
  | some (j, t, d) => if j = i ∧ t = sub then d else []
  | none => []

/-- A segment of the image goes to the update engine as it is (R514). -/
def imageRequest (m : ObjMsg) (k : Nat) (s : State) : State :=
  let t := imageObj m.offset (m.data.take m.length) (m.flags == 1) s
  sessSettle k m 0 (objAnswer .service 0x4D00 2 s t) t

/-- A WRITE segment: kept in order, and the sub-entry committed with LAST (R52, R64, R69, R71). -/
def writeRequest (m : ObjMsg) (k : Nat) (x : Sess) (s : State) : State :=
  let p := sessPath k
  let data := x.partOf m.index m.sub ++ m.data.take m.length
  let tooLong := match s.entrySize m.index m.sub with | some n => decide (n < data.length) | none => false
  if x.dead ∧ m.offset ≠ 0 then sessAbort k m 0x08000022 s
  else if p = .service ∧ m.index = 0x4D00 ∧ m.sub = 2 then imageRequest m k s
  else if m.offset ≠ (x.partOf m.index m.sub).length then sessAbort k m 0x08000020 s
  else if downloadCode p m.index m.sub none s ≠ 0 then sessAbort k m (downloadCode p m.index m.sub none s) s
  else if tooLong then sessAbort k m 0x06070012 s
  else if m.flags = 0 then
    sessSettle k m 0 (some .done) (setSess k (some { x with part := some (m.index, m.sub, data), dead := false }) s)
  else
    let s1 := setSess k (some { x with part := none, dead := false }) s
    let t := objWrite p m.index m.sub (s.swapped m.index m.sub data) s1
    sessSettle k m 0 (objAnswer p m.index m.sub s1 t) t

/-- An answer that was outstanding has come for a session: it goes to the oldest request for that sub-entry, under that request's SEQ (R62). -/
def sessAnswered (k i sub : Nat) (a : ObjAnswer) (s : State) : State :=
  match s.sess k with
  | some x =>
    (match x.wait.find? fun w => w.1 == i && w.2.1 == sub with
     | some w =>
       sessReply k (accessReply x.id w.2.2.1 i sub w.2.2.2.1 (w.2.2.2.2 - 1) a s) (setSess k (some { x with wait := x.wait.erase w }) s)
     | none => s)
  | none => s

/-! ## The application range (R72) -/

/-- An access that application firmware was to answer ends, on its path. -/
def appFinish (p : DPath) (i sub : Nat) (a : ObjAnswer) (s : State) : State :=
  match p with
  | .sdo k => sdoAnswered k a s
  | .rpdo => s
  | .eth k => sessAnswered k.val i sub a s
  | .service => sessAnswered 3 i sub a s

/-- The oldest access outstanding on a path is answered with an abort, or as application firmware answers it. -/
def appEnd (p : DPath) (value : List Byte) (abort : Nat) (s : State) : State :=
  match s.appDue p with
  | [] => s
  | x :: l =>
    let t := setAppDue p l s
    if abort ≠ 0 then appFinish p x.index x.sub (.abort abort) (t.objAborted p x.index x.sub abort)
    else match x.data with
      | some _ => appFinish p x.index x.sub .done (t.emit (.objWritten p x.index x.sub .accepted))
      | none => appFinish p x.index x.sub (.value value) (t.objValue p x.index x.sub value)

/-- A declaration may stand: in the range, with no entry twice and none declared before. -/
def declareOk (l : List AppDecl) (s : State) : Bool :=
  (l.all fun d => isApp d.index && decide (d.sub < 256) && (s.appEntry d.index d.sub).isNone) &&
    decide (l.map fun d => odKey d.index d.sub).Nodup

/-- A declaration is accepted or refused whole. -/
def appDeclare (l : List AppDecl) (s : State) : State :=
  if ! s.dom.core then s
  else if ! declareOk l s then s.emit (.appDeclared false)
  else
    let add := fun (t : Tab (Option AppEntry)) (d : AppDecl) =>
      let e : AppEntry := { numeric := d.numeric, size := d.size, acc := d.acc, dflt := d.dflt }
      tabSet none t (odKey d.index d.sub) (some e)
    ({ s with dict := { s.dict with app := l.foldl add s.dict.app } }).emit (.appDeclared true)

/-! ## The service port (R376) -/

/-- The filtered SVC_EN falls: the PHY is off, frames in flight are discarded, the service session closes. -/
def svcFall (s : State) : State :=
  let s1 := { s with svc := { s.svc with en := false } }
  sessShut 3 (queuesDrop 9 ((s1.setB F.ETH_SVCSTAT_EN 0 false).setB F.ETH_SVCSTAT_LINK 0 false))

/-- The service address. -/
def State.svcIp (s : State) : Nat := s.odVal 0x4500 0x7F / 256

/-- The answer to an ARP request, padded to the shortest frame. -/
def arpAnswer (f : EthFrame) (s : State) : List Byte :=
  let mac := beBytes 6 Config.serviceMac
  beBytes 6 f.src ++ mac ++ beBytes 2 0x0806 ++ beBytes 2 1 ++ beBytes 2 0x0800 ++ [6, 4] ++ beBytes 2 2 ++ mac ++ beBytes 4 s.svcIp ++
    (f.payload.drop 8).take 10 ++ List.replicate 18 0

/-- A frame for the service port's own address, or to all. -/
def svcFor (f : EthFrame) : Bool := f.tag.isNone && (isBroadcast f.dst || f.dst == Config.serviceMac)

/-- An ARP request for the service address. -/
def svcArp (f : EthFrame) (s : State) : Bool := svcFor f && arpFor f s.svcIp && beNat ((f.payload.drop 6).take 2) == 1

/-- A frame arrives at the service port. -/
def svcFrame (f : EthFrame) (s : State) : State :=
  let len := frameLenIn f
  let s1 := ethCount 9 cRxb len (ethCount 9 cRxf 1 s)
  if f.bad then ethCount 9 cFcs 1 s1
  else if 1522 < len then ethCount 9 cOversize 1 s1
  else if svcArp f s then
    let d := arpAnswer f s
    (ethCount 9 cTxb (d.length + 4) (ethCount 9 cTxf 1 s1)).emit (.ethFrame 9 d)
  else if svcFor f && udpFor f s.svcIp then (ringWrite 4 f none 0 0 9 s1).2
  else s1.countF F.ETH_SVCSTAT_IGN 0

/-! ## Commands -/

/-- OPEN (R60). -/
def execSessionOpen (m : ObjMsg) (s : State) : Host.Outcome State Fault Refusal := ok s (msgChecked 1 m (openRequest m) s)

/-- CLOSE (R60). -/
def execSessionClose (m : ObjMsg) (s : State) : Host.Outcome State Fault Refusal := ok s (sessRequest 3 m (fun k _ t => sessShut k t) s)

/-- READ (R62). -/
def execSessionRead (m : ObjMsg) (s : State) : Host.Outcome State Fault Refusal := ok s (sessRequest 0x10 m (fun k _ t => readRequest m k t) s)

/-- WRITE (R64). -/
def execSessionWrite (m : ObjMsg) (s : State) : Host.Outcome State Fault Refusal := ok s (sessRequest 0x20 m (writeRequest m) s)

/-- SESSION_IDLE_TIMEOUT (R58): the session on the service port stays open, and one with an answer outstanding is not idle. -/
def execSessionIdleTimeout (k : Fin 4) (s : State) : Host.Outcome State Fault Refusal :=
  ok s (if k.val = 3 then s else match s.sess k.val with
    | some x => if x.wait = [] then sessShut k.val s else s
    | none => s)

/-- APP_OBJECT_DECLARE (R72). -/
def execAppObjectDeclare (l : List AppDecl) (s : State) : Host.Outcome State Fault Refusal := ok s (appDeclare l s)

/-- APP_OBJECT_ANSWER (R72). -/
def execAppObjectAnswer (p : DPath) (value : List Byte) (abort : Nat) (s : State) : Host.Outcome State Fault Refusal :=
  ok s (appEnd p value abort s)

/-- APP_OBJECT_TIMEOUT (R72). -/
def execAppObjectTimeout (p : DPath) (s : State) : Host.Outcome State Fault Refusal := ok s (appEnd p [] 0x08000000 s)

/-- VERIFY_COMPLETE (R513): the write that committed the image is answered. -/
def execVerifyComplete (s : State) : Host.Outcome State Fault Refusal :=
  let t := imageVerified s
  ok s (match objAnswer .service 0x4D00 2 s t with
    | some a => sessAnswered 3 0x4D00 2 a t
    | none => t)

/-- SVC_EN_RISE (R376): the filtered line rises; the PHY is powered while the Comms domain is on. -/
def execSvcEnRise (s : State) : Host.Outcome State Fault Refusal :=
  ok s ({ s with svc := { s.svc with en := true } }.setB F.ETH_SVCSTAT_EN 0 s.dom.comms)

/-- SVC_EN_FALL (R376). -/
def execSvcEnFall (s : State) : Host.Outcome State Fault Refusal := ok s (svcFall s)

/-- SVC_FRAME_RECEIVED (R376). -/
def execSvcFrameReceived (f : EthFrame) (s : State) : Host.Outcome State Fault Refusal := ok s (if s.svcUp then svcFrame f s else s)

end Sys2Proof.Machine
end

