-- ==== Sys2Proof/Machine/Operands.lean ====
section
/-!
DEFINITION. Machine/Operands.lean: the operand fields of the Flilis core (15_flilis_core.md, R433). An instruction command carries the low 24 bits of
its word; the major opcode is the command itself.
-/
namespace Sys2Proof.Machine

/-! ## Fields of formats A to E -/

/-- The register field in [23:20]: GD of formats A and B, G of format E. -/
def opD (f : BitVec 24) : Nat := bitsOf f.toNat 20 4

/-- GA in [19:16] and GB in [15:12]. -/
def opA (f : BitVec 24) : Nat := bitsOf f.toNat 16 4
def opB (f : BitVec 24) : Nat := bitsOf f.toNat 12 4

/-- IMM16 of format B, sign-extended and zero-extended. -/
def immZ (f : BitVec 24) : Word := word (bitsOf f.toNat 0 16)
def immS (f : BitVec 24) : Word := word (codeOf 32 (signedOf 16 f.toNat))

/-- COND and OFFSET of format D. -/
def opCond (f : BitVec 24) : Nat := bitsOf f.toNat 20 4
def opOffset (f : BitVec 24) : Int := signedOf 20 f.toNat

/-- SEL of format E. -/
def opSel (f : BitVec 24) : Nat := bitsOf f.toNat 0 8

/-! ## Reserved fields; one that is not 0 traps to UNDEF -/

/-- Format A: [11:0]. -/
def rsvA (f : BitVec 24) : Bool := bitsOf f.toNat 0 12 != 0

/-- Format A or B without GD. -/
def rsvD (f : BitVec 24) : Bool := opD f != 0

/-- Format B without GA. -/
def rsvGA (f : BitVec 24) : Bool := opA f != 0

/-- A shift by an immediate: IMM16[15:5]. -/
def rsvShift (f : BitVec 24) : Bool := bitsOf f.toNat 5 11 != 0

/-- Format E: [19:8]. -/
def rsvE (f : BitVec 24) : Bool := bitsOf f.toNat 8 12 != 0

/-- Format E without SEL, and without G and SEL. -/
def rsvESel (f : BitVec 24) : Bool := rsvE f || opSel f != 0
def rsvAll (f : BitVec 24) : Bool := f != 0

/-- A string instruction (R439): SEL[7:3] is reserved; REP 2 and 3 are for comparisons only. -/
def rsvString (f : BitVec 24) (compares : Bool) : Bool := rsvE f || opSel f / 8 != 0 || (! compares && decide (2 ≤ opSel f % 4))

/-! ## General registers (R426) -/

/-- A general register. -/
def State.greg (s : State) (c g : Nat) : Word := tabGet 0 (s.co c).g g

/-- The state in which a general register holds a value. -/
def setG (c g : Nat) (w : Word) (s : State) : State := s.setCo c { s.co c with g := tabSet 0 (s.co c).g g w }

/-- The program counter is a 24-bit word address. -/
def setPc (c pc : Nat) (s : State) : State := s.setCo c { s.co c with pc := pc % 2 ^ 24 }

/-- The instruction retires: PC moves to the next. -/
def retire (c : Nat) (s : State) : State := setPc c ((s.co c).pc + 1) s

/-- STAT as it reads, with DBUSY (R428). -/
def Core.statRead (x : Core) : Word := putBits x.stat 11 1 (b01 x.div.isSome)

/-- The bits of STAT that hold a value of their own: Z, N, C, V, IE, LVL and MODE. -/
def statMask : Word := 0x7EF

/-- STAT takes other flags. -/
def setFlags (c : Nat) (f : Flags) (s : State) : State := s.setCo c { s.co c with stat := putFlags (s.co c).stat f }

end Sys2Proof.Machine
end

