-- ==== Sys2Proof/Machine/Flilis.lean ====
section
/-!
DEFINITION. Machine/Flilis.lean: how a logical core executes an instruction (15_flilis_core.md, R430, R444, R445, R448 to R451): the traps of its
fetch, taking a trap or an interrupt and returning from it, and the return stack.
-/
namespace Sys2Proof.Machine

/-! ## Traps (R448) -/

/-- A trap: its code, its address, and the other fields of ECAUSE. -/
structure Trap where
  code : Nat
  addr : Nat
  sysc : Nat := 0
  element : Bool := false
  fetch : Bool := false
deriving DecidableEq, Repr

/-- ECAUSE of a trap. -/
def Trap.cause (t : Trap) : Word := word (t.code + 0x100 * t.sysc + 0x10000 * b01 t.element + 0x20000 * b01 t.fetch)

/-- The vector table of a logical core. -/
def State.vbase (s : State) (c : Nat) : Nat := s.getF F.CORE_VBASE_VBASE (coreIx c 0) * 256

/-- Entry at a level (R445): PC and STAT are saved in its shadow set, LVL is the level, IE and MODE are clear, and the vector is fetched. -/
def enterLevel (c lvl vector : Nat) (s : State) : State :=
  let x := s.co c
  s.setCo c { x with
    epc := tabSet 0 x.epc lvl x.pc
    estat := tabSet 0 x.estat lvl x.statRead
    stat := putBits (putBits (putBits x.stat 6 4 lvl) 5 1 0) 10 1 0
    pc := (s.vbase c + vector) % 2 ^ 24 }

/-- A trap is taken. At LVL 9 it is a double trap: the core stops fetching and its source is raised (R449). -/
def takeTrap (c : Nat) (t : Trap) (s : State) : State :=
  if (s.co c).lvl = 9 then (s.setCo c { s.co c with run := .stopped }).raise (132 + c) t.cause.toNat
  else
    let s1 := enterLevel c 9 t.code s
    s1.setCo c { s1.co c with ecause := t.cause, eaddr := word t.addr }

/-- A trap whose EADDR is the instruction's address. -/
def State.trapHere (s : State) (c code : Nat) : Trap := { code := code, addr := (s.co c).pc }

/-! ## Fetch (R430, R449, R451) -/

/-- The trap of the fetch of the present instruction: IADDR, MPU, ECC. -/
def State.fetchTrap (s : State) (c : Nat) : Option Trap :=
  let pc := (s.co c).pc
  if 2 ^ 20 ≤ pc then some { code := 0x07, addr := pc }
  else if (s.co c).app && ! s.mpuPermits c .ex true (4 * pc) then some { code := 0x06, addr := 4 * pc, fetch := true }
  else if s.flashBad pc then some { code := 0x0B, addr := pc, fetch := true }
  else none

/-- A logical core executes: it is there, its domain is on, and neither a wait, a debugger, a resync nor a stop holds it. -/
def State.coreRuns (s : State) (c : Nat) : Bool :=
  s.coreThere c && s.dom.core && (s.co c).run == .running && (s.co c).wait == .none

/-- An instruction of a logical core: the traps of its fetch, then a reserved field that is not 0, then its effect or its own trap (R449). -/
def instr (c : Nat) (undef : Bool) (body : State → Except Trap State) (s : State) : State :=
  if ! s.coreRuns c then s
  else match s.fetchTrap c with
    | some t => takeTrap c t s
    | none =>
      if undef then takeTrap c (s.trapHere c 0x01) s
      else match body s with
        | .error t => takeTrap c t s
        | .ok u => u

/-- An instruction that cannot trap beyond UNDEF, and that goes on to the next. -/
def simple (c : Nat) (undef : Bool) (body : State → State) (s : State) : State :=
  instr c undef (fun t => .ok (retire c (body t))) s

/-! ## Return (R445) -/

/-- A shadow set holds EPC and ESTAT for levels 1 to 9. -/
def shadowAt (lvl : Nat) : Bool := decide (1 ≤ lvl ∧ lvl ≤ 9)

/-- The shadow set of the present level as it reads; a level without one reads a free value. -/
def State.shadow (s : State) (c : Nat) : Nat × Word :=
  let x := s.co c
  if shadowAt x.lvl then (tabGet 0 x.epc x.lvl, tabGet 0 x.estat x.lvl)
  else ((Config.noShadow (2 * s.fresh)).toNat % 2 ^ 24, Config.noShadow (2 * s.fresh + 1))

/-- RETI: PC and STAT come back from the shadow set of the present level. -/
def leaveLevel (c : Nat) (s : State) : State :=
  let x := s.co c
  let p := s.shadow c
  let s1 := if shadowAt x.lvl then s else s.used
  s1.setCo c { x with pc := p.1 % 2 ^ 24, stat := p.2 &&& statMask, serving := tabSet 0 x.serving x.lvl 0 }

/-! ## Interrupts (R445, R446) -/

/-- The line is taken at a boundary: the entry, the line served at its level; a line that its unit does not withdraw is cleared. -/
def takeInterrupt (c : Nat) (s : State) : State :=
  if ! s.coreRuns c || ! (s.co c).ie then s
  else match s.bestLine c with
    | none => s
    | some i =>
      let lvl := s.lineLevel i
      let s1 := enterLevel c lvl (0x10 + i) s
      let s2 := s1.setCo c { s1.co c with serving := tabSet 0 (s1.co c).serving lvl (i + 1) }
      if lineOfUnit i then s2 else s2.withdraw i

/-! ## The return stack (R444) -/

/-- The limits trap: CORE_CFG.RSOVF is TRAP. -/
def State.stackTraps (s : State) (c : Nat) : Bool := s.flag F.CORE_CFG_RSOVF (coreIx c 0)

/-- A push; at depth 16 it traps, or overwrites the oldest entry. -/
def stackPush (c v : Nat) (s : State) : Except Trap State :=
  let x := s.co c
  if x.depth < 16 then
    .ok (s.setCo c { x with stack := tabSet 0 x.stack x.sp (v % 2 ^ 24), sp := (x.sp + 1) % 16, depth := x.depth + 1 })
  else if s.stackTraps c then .error (s.trapHere c 0x08)
  else
    .ok ((s.setCo c { x with stack := tabSet 0 x.stack x.sp (v % 2 ^ 24), sp := (x.sp + 1) % 16 }).setB F.CORE_RSD_OVF (coreIx c 0) true)

/-- A pop; at depth 0 it traps, or returns the stale entry below the pointer. -/
def stackPop (c : Nat) (s : State) : Except Trap (Nat × State) :=
  let x := s.co c
  let below := (x.sp + 15) % 16
  if 0 < x.depth then .ok (tabGet 0 x.stack below, s.setCo c { x with sp := below, depth := x.depth - 1 })
  else if s.stackTraps c then .error (s.trapHere c 0x08)
  else .ok (tabGet 0 x.stack below, s.setB F.CORE_RSD_UNF (coreIx c 0) true)

/-! ## Data space, instruction space and I/O space -/

/-- The first trap of accesses of data space. -/
def State.accessTrap (s : State) (c : Nat) (l : List Access) : Option Trap := (s.dataTrap c l).map fun p => { code := p.1, addr := p.2 }

/-- A load of `k` bytes. -/
def load (c a k : Nat) (s : State) : Except Trap (Nat × State) :=
  match s.accessTrap c [{ addr := a, size := k, store := false }] with
  | some t => .error t
  | none => .ok (loadBytes (coreMaster c) a k s)

/-- A store of `k` bytes. -/
def store (c a k v : Nat) (s : State) : Except Trap State :=
  match s.accessTrap c [{ addr := a, size := k, store := true }] with
  | some t => .error t
  | none => .ok (storeBytes (coreMaster c) a k v s)

/-- A read of instruction space by TBL (R430, R451). -/
def tblRead (c a : Nat) (s : State) : Except Trap Word :=
  if 2 ^ 21 ≤ a then .error { code := 0x07, addr := a }
  else if (s.co c).app && ! s.mpuPermits c .rd true (4 * a) then .error { code := 0x06, addr := 4 * a }
  else if s.flashBad a then .error { code := 0x0B, addr := a }
  else .ok (s.flashWord a)

/-- The trap of an access of I/O space: IOPERM, then IOADDR (R38, R449, R452). -/
def State.ioTrapOf (s : State) (c a : Nat) : Option Trap :=
  if (s.co c).app && ! s.iopmPermits c a then some { code := 0x03, addr := a }
  else if (regAt a).isNone then some { code := 0x02, addr := a }
  else none

end Sys2Proof.Machine
end

