-- ==== Sys2Proof/Machine/Arithmetic.lean ====
section
/-!
DEFINITION. Machine/Arithmetic.lean: the logic, arithmetic, multiply and divide instructions of the Flilis core (15_flilis_core.md, R434, R435, R437,
R438).
-/
namespace Sys2Proof.Machine

/-! ## Shared shapes -/

/-- GD = GA op GB. -/
def aluReg (c : Nat) (f : BitVec 24) (op : Word → Word → Word) (s : State) : State :=
  simple c (rsvA f) (fun t => setG c (opD f) (op (t.greg c (opA f)) (t.greg c (opB f))) t) s

/-- GD = GA op immediate. -/
def aluImm (c : Nat) (f : BitVec 24) (undef : Bool) (imm : Word) (op : Word → Word → Word) (s : State) : State :=
  simple c undef (fun t => setG c (opD f) (op (t.greg c (opA f)) imm) t) s

/-- Shifts by the low five bits of the second operand. -/
def shl (x y : Word) : Word := x <<< (y.toNat % 32)
def shr (x y : Word) : Word := x >>> (y.toNat % 32)
def sar (x y : Word) : Word := x.sshiftRight (y.toNat % 32)

/-! ## Multiply and divide -/

/-- The two words of a 64-bit product. -/
def productWords (n : Nat) : Word × Word := (word (n / 2 ^ 32), word n)

/-- The products. -/
def mulU (x y : Word) : Word × Word := productWords (x.toNat * y.toNat)
def mulS (x y : Word) : Word × Word := productWords (codeOf 64 (x.toInt * y.toInt))

/-- Quotient and remainder; DIVS rounds towards zero and REM takes the sign of the dividend. -/
def divU (x y : Word) : Word × Word := (word (x.toNat / y.toNat), word (x.toNat % y.toNat))
def divS (x y : Word) : Word × Word := (word (codeOf 32 (x.toInt.tdiv y.toInt)), word (codeOf 32 (x.toInt.tmod y.toInt)))

/-- The oldest product on its way reaches MHI and MLO. -/
def multiplyComplete (c : Nat) (s : State) : State :=
  match (s.co c).muls with
  | [] => s
  | (h, l) :: t => s.setCo c { s.co c with mhi := h, mlo := l, muls := t }

/-- A multiply starts. Three products can be on their way; the oldest has arrived before a fourth starts (R437). -/
def multiply (c : Nat) (f : BitVec 24) (op : Word → Word → Word × Word) (s : State) : State :=
  simple c (rsvD f || rsvA f) (fun t =>
    let u := if (t.co c).muls.length < 3 then t else multiplyComplete c t
    u.setCo c { u.co c with muls := (u.co c).muls ++ [op (u.greg c (opA f)) (u.greg c (opB f))] }) s

/-- A divide starts, after a running one has ended; a divisor of 0 traps. -/
def divide (c : Nat) (f : BitVec 24) (op : Word → Word → Word × Word) (s : State) : State :=
  instr c (rsvD f || rsvA f) (fun t =>
    if t.greg c (opB f) = 0 then .error (t.trapHere c 0x09)
    else
      let u := divideComplete c t
      .ok (retire c (u.setCo c { u.co c with div := some (op (u.greg c (opA f)) (u.greg c (opB f))) }))) s

/-! ## Instructions -/

/-- ADD. -/
def execAdd (c : Fin 4) (f : BitVec 24) (s : State) : Host.Outcome State Fault Refusal := ok s (aluReg c.val f (fun x y => x + y) s)
/-- SUB. -/
def execSub (c : Fin 4) (f : BitVec 24) (s : State) : Host.Outcome State Fault Refusal := ok s (aluReg c.val f (fun x y => x - y) s)
/-- AND. -/
def execAnd (c : Fin 4) (f : BitVec 24) (s : State) : Host.Outcome State Fault Refusal := ok s (aluReg c.val f (fun x y => x &&& y) s)
/-- OR. -/
def execOr (c : Fin 4) (f : BitVec 24) (s : State) : Host.Outcome State Fault Refusal := ok s (aluReg c.val f (fun x y => x ||| y) s)
/-- XOR. -/
def execXor (c : Fin 4) (f : BitVec 24) (s : State) : Host.Outcome State Fault Refusal := ok s (aluReg c.val f (fun x y => x ^^^ y) s)
/-- SHL. -/
def execShl (c : Fin 4) (f : BitVec 24) (s : State) : Host.Outcome State Fault Refusal := ok s (aluReg c.val f shl s)
/-- SHR. -/
def execShr (c : Fin 4) (f : BitVec 24) (s : State) : Host.Outcome State Fault Refusal := ok s (aluReg c.val f shr s)
/-- SAR. -/
def execSar (c : Fin 4) (f : BitVec 24) (s : State) : Host.Outcome State Fault Refusal := ok s (aluReg c.val f sar s)

/-- CMP. -/
def execCmp (c : Fin 4) (f : BitVec 24) (s : State) : Host.Outcome State Fault Refusal :=
  ok s (simple c.val (rsvD f || rsvA f) (fun t => setFlags c.val (compareFlags (t.greg c.val (opA f)) (t.greg c.val (opB f))) t) s)

/-- TST. -/
def execTst (c : Fin 4) (f : BitVec 24) (s : State) : Host.Outcome State Fault Refusal :=
  ok s (simple c.val (rsvD f || rsvA f) (fun t => setFlags c.val (testFlags (t.greg c.val (opA f) &&& t.greg c.val (opB f))) t) s)

/-- ADDI. -/
def execAddi (c : Fin 4) (f : BitVec 24) (s : State) : Host.Outcome State Fault Refusal :=
  ok s (aluImm c.val f false (immS f) (fun x y => x + y) s)
/-- ANDI. -/
def execAndi (c : Fin 4) (f : BitVec 24) (s : State) : Host.Outcome State Fault Refusal :=
  ok s (aluImm c.val f false (immZ f) (fun x y => x &&& y) s)
/-- ORI. -/
def execOri (c : Fin 4) (f : BitVec 24) (s : State) : Host.Outcome State Fault Refusal :=
  ok s (aluImm c.val f false (immZ f) (fun x y => x ||| y) s)
/-- XORI. -/
def execXori (c : Fin 4) (f : BitVec 24) (s : State) : Host.Outcome State Fault Refusal :=
  ok s (aluImm c.val f false (immZ f) (fun x y => x ^^^ y) s)
/-- SHLI. -/
def execShli (c : Fin 4) (f : BitVec 24) (s : State) : Host.Outcome State Fault Refusal := ok s (aluImm c.val f (rsvShift f) (immZ f) shl s)
/-- SHRI. -/
def execShri (c : Fin 4) (f : BitVec 24) (s : State) : Host.Outcome State Fault Refusal := ok s (aluImm c.val f (rsvShift f) (immZ f) shr s)
/-- SARI. -/
def execSari (c : Fin 4) (f : BitVec 24) (s : State) : Host.Outcome State Fault Refusal := ok s (aluImm c.val f (rsvShift f) (immZ f) sar s)

/-- CMPI. -/
def execCmpi (c : Fin 4) (f : BitVec 24) (s : State) : Host.Outcome State Fault Refusal :=
  ok s (simple c.val (rsvD f) (fun t => setFlags c.val (compareFlags (t.greg c.val (opA f)) (immS f)) t) s)

/-- LUI. -/
def execLui (c : Fin 4) (f : BitVec 24) (s : State) : Host.Outcome State Fault Refusal :=
  ok s (simple c.val (rsvGA f) (fun t => setG c.val (opD f) (immZ f <<< 16) t) s)

/-- MULU. -/
def execMulu (c : Fin 4) (f : BitVec 24) (s : State) : Host.Outcome State Fault Refusal := ok s (multiply c.val f mulU s)
/-- MULS. -/
def execMuls (c : Fin 4) (f : BitVec 24) (s : State) : Host.Outcome State Fault Refusal := ok s (multiply c.val f mulS s)
/-- MULTIPLY_COMPLETE. -/
def execMultiplyComplete (c : Fin 4) (s : State) : Host.Outcome State Fault Refusal := ok s (multiplyComplete c.val s)
/-- DIVU. -/
def execDivu (c : Fin 4) (f : BitVec 24) (s : State) : Host.Outcome State Fault Refusal := ok s (divide c.val f divU s)
/-- DIVS. -/
def execDivs (c : Fin 4) (f : BitVec 24) (s : State) : Host.Outcome State Fault Refusal := ok s (divide c.val f divS s)
/-- DIVIDE_COMPLETE. -/
def execDivideComplete (c : Fin 4) (s : State) : Host.Outcome State Fault Refusal := ok s (divideComplete c.val s)

end Sys2Proof.Machine
end

