-- ==== Sys2Proof/Machine/Transfers.lean ====
section
/-!
DEFINITION. Machine/Transfers.lean: the instructions of the Flilis core that reach data space, instruction space and I/O space, and its string
instructions (15_flilis_core.md, R430 to R432, R434, R436, R439, R440).
-/
namespace Sys2Proof.Machine

/-! ## Loads and stores -/

/-- The address of a load or store: GA + sx, modulo 2^32. -/
def State.dataAddr (s : State) (c : Nat) (f : BitVec 24) : Nat := (s.greg c (opA f) + immS f).toNat

/-- A load into GD, zero- or sign-extended. -/
def loadInstr (c : Nat) (f : BitVec 24) (k : Nat) (signed : Bool) (s : State) : State :=
  instr c false (fun t => do
    let p ← load c (t.dataAddr c f) k t
    let w := if signed then word (codeOf 32 (signedOf (8 * k) p.1)) else word p.1
    return retire c (setG c (opD f) w p.2)) s

/-- A store of GD. -/
def storeInstr (c : Nat) (f : BitVec 24) (k : Nat) (s : State) : State :=
  instr c false (fun t => do
    let u ← store c (t.dataAddr c f) k (t.greg c (opD f)).toNat t
    return retire c u) s

/-- TBL: GD = instruction word at (GA + sx) modulo 2^24. -/
def tblInstr (c : Nat) (f : BitVec 24) (s : State) : State :=
  instr c false (fun t => do
    let w ← tblRead c (t.dataAddr c f % 2 ^ 24) t
    return retire c (setG c (opD f) w t)) s

/-! ## I/O space -/

/-- GD = I/O word. -/
def inInstr (c : Fin 4) (f : BitVec 24) (undef : Bool) (a : State → Nat) (s : State) : State :=
  instr c.val undef (fun t =>
    match t.ioTrapOf c.val (a t) with
    | some x => .error x
    | none =>
      let p := inRead (.core c) (a t) t
      .ok (retire c.val (setG c.val (opD f) p.1 p.2))) s

/-- I/O word = GD; the write retires into its crossing. -/
def outInstr (c : Fin 4) (f : BitVec 24) (undef : Bool) (a : State → Nat) (s : State) : State :=
  instr c.val undef (fun t =>
    match t.ioTrapOf c.val (a t) with
    | some x => .error x
    | none => .ok (retire c.val (crossWrite (.core c) (a t) (t.greg c.val (opD f)) t))) s

/-- The address of INX and OUTX: (GA + IMM16) modulo 2^16. -/
def ioIndexed (c : Nat) (f : BitVec 24) (s : State) : Nat := (s.greg c (opA f) + immZ f).toNat % 2 ^ 16

/-! ## String instructions (R439, R440) -/

/-- The step of a string pointer. -/
def strStep (back : Bool) (p : Word) : Word := if back then p - 4 else p + 4

/-- The pointers step. -/
def stepPtrs (c : Nat) (src dst back : Bool) (s : State) : State :=
  let x := s.co c
  s.setCo c { x with sptr := if src then strStep back x.sptr else x.sptr, dptr := if dst then strStep back x.dptr else x.dptr }

/-- The word at SPTR is read, at DPTR is read, at DPTR is written. -/
def rdAcc (a : Word) : Access := { addr := a.toNat, size := 4, store := false }
def wrAcc (a : Word) : Access := { addr := a.toNat, size := 4, store := true }

/-- An element's accesses are checked, then it is made. A trap carries ELEMENT. -/
def element (c : Nat) (accs : Core → List Access) (make : State → State) (s : State) : Except Trap State :=
  match s.accessTrap c (accs (s.co c)) with
  | some t => .error { t with element := true }
  | none => .ok (make s)

/-- A run (R439): `n` bounds the elements made before the next event of the core; until the run completes PC stays on the instruction. -/
def strRun (c rep : Nat) (elem : State → Except Trap State) : Nat → State → State
  | 0, s => if (s.co c).cnt = 0 then retire c s else s
  | n + 1, s =>
    if (s.co c).cnt = 0 then retire c s
    else match elem s with
      | .error t => takeTrap c t s
      | .ok u =>
        let v := u.setCo c { u.co c with cnt := (u.co c).cnt - 1 }
        let z := bitOf (v.co c).stat.toNat 0
        if (rep = 2 ∧ z) ∨ (rep = 3 ∧ ¬ z) then retire c v else strRun c rep elem n v

/-- A string instruction: one element with REP 0, else a run. -/
def strInstr (c : Nat) (f : BitVec 24) (undef : Bool) (n : Nat) (elem : Bool → State → Except Trap State) (s : State) : State :=
  let rep := opSel f % 4
  let e := elem (bitOf (opSel f) 2)
  instr c undef (fun t =>
    if rep = 0 then (do let u ← e t; return retire c u) else .ok (strRun c rep e n t)) s

/-- BCPY: word at DPTR = word at SPTR. -/
def elemCopy (c : Nat) (back : Bool) : State → Except Trap State :=
  element c (fun x => [rdAcc x.sptr, wrAcc x.dptr]) fun t =>
    let p := dataLoad (coreMaster c) (t.co c).sptr.toNat t
    stepPtrs c true true back (dataStore (coreMaster c) (p.2.co c).dptr.toNat p.1 p.2)

/-- BFIL: word at DPTR = G. -/
def elemFill (c g : Nat) (back : Bool) : State → Except Trap State :=
  element c (fun x => [wrAcc x.dptr]) fun t => stepPtrs c false true back (dataStore (coreMaster c) (t.co c).dptr.toNat (t.greg c g) t)

/-- BGET: G = word at SPTR. -/
def elemGet (c g : Nat) (back : Bool) : State → Except Trap State :=
  element c (fun x => [rdAcc x.sptr]) fun t =>
    let p := dataLoad (coreMaster c) (t.co c).sptr.toNat t
    stepPtrs c true false back (setG c g p.1 p.2)

/-- BCMP: flags from (word at SPTR) − (word at DPTR). -/
def elemCompare (c : Nat) (back : Bool) : State → Except Trap State :=
  element c (fun x => [rdAcc x.sptr, rdAcc x.dptr]) fun t =>
    let p := dataLoad (coreMaster c) (t.co c).sptr.toNat t
    let q := dataLoad (coreMaster c) (p.2.co c).dptr.toNat p.2
    stepPtrs c true true back (setFlags c (compareFlags p.1 q.1) q.2)

/-- BFND: flags from G − (word at DPTR). -/
def elemFind (c g : Nat) (back : Bool) : State → Except Trap State :=
  element c (fun x => [rdAcc x.dptr]) fun t =>
    let p := dataLoad (coreMaster c) (t.co c).dptr.toNat t
    stepPtrs c false true back (setFlags c (compareFlags (p.2.greg c g) p.1) p.2)

/-! ## Instructions -/

/-- LDW. -/
def execLdw (c : Fin 4) (f : BitVec 24) (s : State) : Host.Outcome State Fault Refusal := ok s (loadInstr c.val f 4 false s)
/-- LDH. -/
def execLdh (c : Fin 4) (f : BitVec 24) (s : State) : Host.Outcome State Fault Refusal := ok s (loadInstr c.val f 2 true s)
/-- LDHU. -/
def execLdhu (c : Fin 4) (f : BitVec 24) (s : State) : Host.Outcome State Fault Refusal := ok s (loadInstr c.val f 2 false s)
/-- LDB. -/
def execLdb (c : Fin 4) (f : BitVec 24) (s : State) : Host.Outcome State Fault Refusal := ok s (loadInstr c.val f 1 true s)
/-- LDBU. -/
def execLdbu (c : Fin 4) (f : BitVec 24) (s : State) : Host.Outcome State Fault Refusal := ok s (loadInstr c.val f 1 false s)
/-- STW. -/
def execStw (c : Fin 4) (f : BitVec 24) (s : State) : Host.Outcome State Fault Refusal := ok s (storeInstr c.val f 4 s)
/-- STH. -/
def execSth (c : Fin 4) (f : BitVec 24) (s : State) : Host.Outcome State Fault Refusal := ok s (storeInstr c.val f 2 s)
/-- STB. -/
def execStb (c : Fin 4) (f : BitVec 24) (s : State) : Host.Outcome State Fault Refusal := ok s (storeInstr c.val f 1 s)
/-- TBL. -/
def execTbl (c : Fin 4) (f : BitVec 24) (s : State) : Host.Outcome State Fault Refusal := ok s (tblInstr c.val f s)

/-- IN. -/
def execInp (c : Fin 4) (f : BitVec 24) (s : State) : Host.Outcome State Fault Refusal :=
  ok s (inInstr c f (rsvGA f) (fun _ => (immZ f).toNat) s)
/-- INX. -/
def execInx (c : Fin 4) (f : BitVec 24) (s : State) : Host.Outcome State Fault Refusal := ok s (inInstr c f false (ioIndexed c.val f) s)
/-- OUT. -/
def execOut (c : Fin 4) (f : BitVec 24) (s : State) : Host.Outcome State Fault Refusal :=
  ok s (outInstr c f (rsvGA f) (fun _ => (immZ f).toNat) s)
/-- OUTX. -/
def execOutx (c : Fin 4) (f : BitVec 24) (s : State) : Host.Outcome State Fault Refusal := ok s (outInstr c f false (ioIndexed c.val f) s)
/-- IOS: every earlier OUT of the logical core is accepted. -/
def execIos (c : Fin 4) (f : BitVec 24) (s : State) : Host.Outcome State Fault Refusal :=
  ok s (simple c.val (rsvAll f) (drainAll (.core c)) s)

/-- BCPY: `n` elements at most before the core's next event. -/
def execBcpy (c : Fin 4) (f : BitVec 24) (n : Nat) (s : State) : Host.Outcome State Fault Refusal :=
  ok s (strInstr c.val f (rsvString f false || opD f != 0) n (elemCopy c.val) s)
/-- BFIL. -/
def execBfil (c : Fin 4) (f : BitVec 24) (n : Nat) (s : State) : Host.Outcome State Fault Refusal :=
  ok s (strInstr c.val f (rsvString f false) n (elemFill c.val (opD f)) s)
/-- BGET. -/
def execBget (c : Fin 4) (f : BitVec 24) (n : Nat) (s : State) : Host.Outcome State Fault Refusal :=
  ok s (strInstr c.val f (rsvString f false) n (elemGet c.val (opD f)) s)
/-- BCMP. -/
def execBcmp (c : Fin 4) (f : BitVec 24) (n : Nat) (s : State) : Host.Outcome State Fault Refusal :=
  ok s (strInstr c.val f (rsvString f true || opD f != 0) n (elemCompare c.val) s)
/-- BFND. -/
def execBfnd (c : Fin 4) (f : BitVec 24) (n : Nat) (s : State) : Host.Outcome State Fault Refusal :=
  ok s (strInstr c.val f (rsvString f true) n (elemFind c.val (opD f)) s)

/-- BSET: SPTR = GA, DPTR = GB, CNT = GD. -/
def execBset (c : Fin 4) (f : BitVec 24) (s : State) : Host.Outcome State Fault Refusal :=
  ok s (simple c.val (rsvA f) (fun t =>
    t.setCo c.val { t.co c.val with sptr := t.greg c.val (opA f), dptr := t.greg c.val (opB f), cnt := t.greg c.val (opD f) }) s)

end Sys2Proof.Machine
end

