-- ==== Sys2Proof/Machine/Control.lean ====
section
/-!
DEFINITION. Machine/Control.lean: the control and system instructions of the Flilis core, its waits, interrupt entry, CORE_SWSET, and the accesses of a
debugger (15_flilis_core.md, R427, R434, R435, R441 to R446, R448, R450; 16_redundancy_faults.md, R469).
-/
namespace Sys2Proof.Machine

/-! ## Jumps and calls -/

/-- PC goes to a target. -/
def jump (c : Nat) (undef : Bool) (target : State → Nat) (s : State) : State := instr c undef (fun t => .ok (setPc c (target t) t)) s

/-- PC + 1 is pushed, then PC goes to a target. -/
def call (c : Nat) (undef : Bool) (target : State → Nat) (s : State) : State :=
  instr c undef (fun t => do
    let u ← stackPush c ((t.co c).pc + 1) t
    return setPc c (target t) u) s

/-- Bcc: OFFSET counts from the branch's address plus 1. -/
def branch (c : Nat) (f : BitVec 24) (s : State) : State :=
  match condHolds (opCond f) (flagsOf (s.co c).stat) with
  | none => instr c true .ok s
  | some taken =>
    let pc := (s.co c).pc
    jump c false (fun _ => if taken then codeOf 24 ((pc : Int) + 1 + opOffset f) else pc + 1) s

/-! ## Special registers (R427, R450) -/

/-- CYCLE: Core cycles since the logical core started. The model clock counts ticks of 8 ns; the cycles inside a tick are a free value. -/
def State.cycles (s : State) (c : Nat) : Word := word ((s.up - (s.co c).startAt) * 2 / 5 + Config.cycleInTick s.fresh % 4)

/-- The value of a special register, and the state after its read; none at a number that MFS does not know. -/
def specialRead (c n : Nat) (s : State) : Option (Word × State) :=
  let x := s.co c
  match n with
  | 0 => some (x.statRead, s)
  | 1 => some (x.cnt, s)
  | 2 => some (x.sptr, s)
  | 3 => some (x.dptr, s)
  | 4 => some (x.mhi, s)
  | 5 => some (x.mlo, s)
  | 6 => some (x.quo, s)
  | 7 => some (x.rem, s)
  | 8 => some (word (s.shadow c).1, if shadowAt x.lvl then s else s.used)
  | 9 => some ((s.shadow c).2, if shadowAt x.lvl then s else s.used)
  | 10 => some (x.ecause, s)
  | 11 => some (x.eaddr, s)
  | 12 => some (s.cycles c, s.used)
  | _ => none

/-- A write of a special register that MTS allows. A level without a shadow set has nothing to write. -/
def specialWrite (c n : Nat) (w : Word) (s : State) : State :=
  let x := s.co c
  match n with
  | 0 => s.setCo c { x with stat := w &&& statMask }
  | 1 => s.setCo c { x with cnt := w }
  | 2 => s.setCo c { x with sptr := w }
  | 3 => s.setCo c { x with dptr := w }
  | 4 => s.setCo c { x with mhi := w }
  | 5 => s.setCo c { x with mlo := w }
  | 6 => s.setCo c { x with quo := w }
  | 7 => s.setCo c { x with rem := w }
  | 8 => if shadowAt x.lvl then s.setCo c { x with epc := tabSet 0 x.epc x.lvl (w.toNat % 2 ^ 24) } else s
  | 9 => if shadowAt x.lvl then s.setCo c { x with estat := tabSet 0 x.estat x.lvl (w &&& 0xFEF) } else s
  | _ => s

/-- An MTS that application mode may not make: EPC, ESTAT, or a change of IE, LVL or MODE in STAT (R450). -/
def mtsPriv (x : Core) (n : Nat) (w : Word) : Bool :=
  x.app && (n == 8 || n == 9 || (n == 0 && (w ^^^ x.stat) &&& 0x7E0 != 0))

/-- MFS. -/
def mfsInstr (c : Nat) (f : BitVec 24) (s : State) : State :=
  instr c (rsvE f) (fun t =>
    match specialRead c (opSel f) t with
    | none => .error (t.trapHere c 0x01)
    | some p => .ok (retire c (setG c (opD f) p.1 p.2))) s

/-- MTS. -/
def mtsInstr (c : Nat) (f : BitVec 24) (s : State) : State :=
  instr c (rsvE f || decide (9 < opSel f)) (fun t =>
    if mtsPriv (t.co c) (opSel f) (t.greg c (opD f)) then .error (t.trapHere c 0x0A)
    else .ok (retire c (specialWrite c (opSel f) (t.greg c (opD f)) t))) s

/-! ## Events and waits (R441, R442) -/

/-- The conditions that WAITEV can name, as G[3:0]: SIGNAL, MILESTONE, NOTICE, an interrupt above LVL. -/
def State.conditions (s : State) (c : Nat) : Nat := s.getF F.CORE_EVT_EV (coreIx c 0) + 8 * b01 (s.coreInterrupted c)

/-- The selected conditions that hold. -/
def State.held' (s : State) (c sel : Nat) : Nat := s.conditions c &&& sel

/-- WAITEV retires: it reports the conditions and clears the event bits among them. -/
def waitevRetire (c g sel : Nat) (s : State) : State :=
  let held := s.held' c sel
  let ev := s.getF F.CORE_EVT_EV (coreIx c 0)
  let s1 := s.setF F.CORE_EVT_EV (coreIx c 0) (ev - (ev &&& held))
  let s2 := setG c g (word held) s1
  retire c (s2.setCo c { s2.co c with wait := .none })

/-- WAITEV. -/
def waitev (c : Nat) (f : BitVec 24) (s : State) : State :=
  instr c (rsvESel f) (fun t =>
    let m := (t.greg c (opD f)).toNat % 16
    let sel := if m = 0 then 15 else m
    .ok (if t.held' c sel = 0 then t.setCo c { t.co c with wait := .event (opD f) sel } else waitevRetire c (opD f) sel t)) s

/-- A logical core waits, and nothing else holds it. -/
def State.coreWaits (s : State) (c : Nat) : Bool := s.coreThere c && s.dom.core && (s.co c).run == .running && (s.co c).wait != .none

/-- A condition arises for a waiting WAITEV. -/
def waitevWake (c : Nat) (s : State) : State :=
  if ! s.coreWaits c then s
  else match (s.co c).wait with
    | .event g sel => if s.held' c sel = 0 then s else waitevRetire c g sel s
    | _ => s

/-- SIGEV: SIGNAL sets in each other logical core that is named. -/
def sigev (c : Nat) (f : BitVec 24) (s : State) : State :=
  simple c (rsvESel f) (fun t =>
    (List.range 4).foldl (fun u k =>
      if bitOf (t.greg c (opD f)).toNat k ∧ k ≠ c ∧ t.coreThere k then coreEvent k 0 u else u) t) s

/-- The target of a timed wait is reached: (S − GA) is at least 0 as a signed number. -/
def State.reached (s : State) (target : Word) : Bool := decide (0 ≤ (word s.short - target).toInt)

/-- How a timed wait ends now: by its target, its timeout or an interrupt, in that order (R442, R443). -/
def State.wtuEnd (s : State) (c : Nat) (target : Word) (deadline : Option Nat) : Option Nat :=
  if s.reached target then some 0
  else if (match deadline with | some d => decide (d ≤ s.up) | none => false) then some 1
  else if s.coreInterrupted c then some 2
  else none

/-- A timed wait retires. -/
def wtuRetire (c g v : Nat) (s : State) : State :=
  let s1 := setG c g (word v) s
  retire c (s1.setCo c { s1.co c with wait := .none })

/-- WTU. -/
def wtu (c : Nat) (f : BitVec 24) (s : State) : State :=
  instr c (rsvA f) (fun t =>
    let target := t.greg c (opA f)
    let limit := (t.greg c (opB f)).toNat
    let deadline := if limit = 0 then none else some (t.up + limit)
    .ok (match t.wtuEnd c target deadline with
      | some v => wtuRetire c (opD f) v t
      | none => t.setCo c { t.co c with wait := .time (opD f) target deadline })) s

/-- A waiting WTU ends. -/
def wtuWake (c : Nat) (s : State) : State :=
  if ! s.coreWaits c then s
  else match (s.co c).wait with
    | .time g target deadline =>
      (match s.wtuEnd c target deadline with
       | some v => wtuRetire c g v s
       | none => s)
    | _ => s

/-! ## BRK and the debugger (R448, R469) -/

/-- A debugger holds C0. -/
def State.debugHolds (s : State) : Bool := (s.co 0).run == .halted

/-- BRK: a trap, unless a debugger holds C0; then no trap is raised. -/
def brk (c : Nat) (f : BitVec 24) (s : State) : State :=
  instr c (rsvAll f) (fun t => if t.debugHolds then .ok (retire c t) else .error (t.trapHere c 0x0D)) s

/-- A word of data space that a debugger can reach: aligned and assigned; for a store, not flash. -/
def debugReach (a : Nat) (store : Bool) : Bool :=
  a % 4 == 0 && (match areaOf a with | some x => ! store || x.writable | none => false)

/-- A value that a debugger is given; where the address holds nothing, a free value. -/
def debugGive (r : Option (Word × State)) (s : State) : State :=
  match r with
  | some p => p.2.emit (.debugValue p.1)
  | none => s.used.emit (.debugValue (Config.debugRead s.fresh))

/-- An access of a debugger to a logical core that it holds; it bypasses the MPU and CORE_IOPM. -/
def debugAccess (c : Fin 4) (a : DebugAccess) (s : State) : State :=
  match a with
  | .load addr => debugGive (if debugReach addr.toNat false then some (dataRead addr.toNat s) else none) s
  | .store addr v => if debugReach addr.toNat true then dataWrite addr.toNat v s else s
  | .ioRead addr => debugGive (if (regAt addr.toNat).isSome then some (inRead (.core c) addr.toNat s) else none) s
  | .ioWrite addr v => if (regAt addr.toNat).isSome then crossWrite (.core c) addr.toNat v s else s
  | .regRead g => debugGive (some (s.greg c.val g.val, s)) s
  | .regWrite g v => setG c.val g.val v s

/-! ## Instructions -/

/-- BR. -/
def execBr (c : Fin 4) (f : BitVec 24) (s : State) : Host.Outcome State Fault Refusal := ok s (jump c.val false (fun _ => f.toNat) s)
/-- CALL. -/
def execCall (c : Fin 4) (f : BitVec 24) (s : State) : Host.Outcome State Fault Refusal := ok s (call c.val false (fun _ => f.toNat) s)
/-- JMPX. -/
def execJmpx (c : Fin 4) (f : BitVec 24) (s : State) : Host.Outcome State Fault Refusal :=
  ok s (jump c.val (rsvD f || opB f != 0 || rsvA f) (fun t => (t.greg c.val (opA f)).toNat) s)
/-- CALLX. -/
def execCallx (c : Fin 4) (f : BitVec 24) (s : State) : Host.Outcome State Fault Refusal :=
  ok s (call c.val (rsvD f || opB f != 0 || rsvA f) (fun t => (t.greg c.val (opA f)).toNat) s)
/-- RET. -/
def execRet (c : Fin 4) (f : BitVec 24) (s : State) : Host.Outcome State Fault Refusal :=
  ok s (instr c.val (rsvAll f) (fun t => do
    let p ← stackPop c.val t
    return setPc c.val p.1 p.2) s)
/-- RETI: at level 0 it traps UNDEF, in application mode PRIV. -/
def execReti (c : Fin 4) (f : BitVec 24) (s : State) : Host.Outcome State Fault Refusal :=
  ok s (instr c.val (rsvAll f || (s.co c.val).lvl == 0) (fun t =>
    if (t.co c.val).app then .error (t.trapHere c.val 0x0A) else .ok (leaveLevel c.val t)) s)
/-- BCC. -/
def execBcc (c : Fin 4) (f : BitVec 24) (s : State) : Host.Outcome State Fault Refusal := ok s (branch c.val f s)
/-- MFS. -/
def execMfs (c : Fin 4) (f : BitVec 24) (s : State) : Host.Outcome State Fault Refusal := ok s (mfsInstr c.val f s)
/-- MTS. -/
def execMts (c : Fin 4) (f : BitVec 24) (s : State) : Host.Outcome State Fault Refusal := ok s (mtsInstr c.val f s)
/-- WAITEV. -/
def execWaitev (c : Fin 4) (f : BitVec 24) (s : State) : Host.Outcome State Fault Refusal := ok s (waitev c.val f s)
/-- WAITEV_WAKE. -/
def execWaitevWake (c : Fin 4) (s : State) : Host.Outcome State Fault Refusal := ok s (waitevWake c.val s)
/-- SIGEV. -/
def execSigev (c : Fin 4) (f : BitVec 24) (s : State) : Host.Outcome State Fault Refusal := ok s (sigev c.val f s)
/-- WTU. -/
def execWtu (c : Fin 4) (f : BitVec 24) (s : State) : Host.Outcome State Fault Refusal := ok s (wtu c.val f s)
/-- WTU_END. -/
def execWtuEnd (c : Fin 4) (s : State) : Host.Outcome State Fault Refusal := ok s (wtuWake c.val s)
/-- SYSC. -/
def execSysc (c : Fin 4) (f : BitVec 24) (s : State) : Host.Outcome State Fault Refusal :=
  ok s (instr c.val (rsvD f || rsvE f) (fun t => .error { t.trapHere c.val 0x0C with sysc := opSel f }) s)
/-- BRK. -/
def execBrk (c : Fin 4) (f : BitVec 24) (s : State) : Host.Outcome State Fault Refusal := ok s (brk c.val f s)
/-- NOP. -/
def execNop (c : Fin 4) (f : BitVec 24) (s : State) : Host.Outcome State Fault Refusal := ok s (simple c.val (rsvAll f) id s)
/-- RSPOP. -/
def execRspop (c : Fin 4) (f : BitVec 24) (s : State) : Host.Outcome State Fault Refusal :=
  ok s (instr c.val (rsvESel f) (fun t => do
    let p ← stackPop c.val t
    return retire c.val (setG c.val (opD f) (word p.1) p.2)) s)
/-- RSPUSH. -/
def execRspush (c : Fin 4) (f : BitVec 24) (s : State) : Host.Outcome State Fault Refusal :=
  ok s (instr c.val (rsvESel f) (fun t => do
    let u ← stackPush c.val (t.greg c.val (opD f)).toNat t
    return retire c.val u) s)

/-- INTERRUPT_ENTRY (R445). -/
def execInterruptEntry (c : Fin 4) (s : State) : Host.Outcome State Fault Refusal := ok s (takeInterrupt c.val s)

/-- CORE_SWSET (R446, R453). -/
def execCoreSwset (m : Master) (v : Word) (s : State) : Host.Outcome State Fault Refusal := ok s (coreAccess m .CORE_SWSET 0 v s)

/-- DEBUG_ACCESS (R469). -/
def execDebugAccess (c : Fin 4) (a : DebugAccess) (s : State) : Host.Outcome State Fault Refusal :=
  ok s (if s.debugOn c.val && (s.co c.val).run == .halted then accInputs s (debugAccess c a s) else s)

end Sys2Proof.Machine
end

