-- ==== Sys2Proof/Machine/BteCommands.lean ====
section
/-!
DEFINITION. Machine/BteCommands.lean: the commands of the block transfer engine (15_flilis_core.md, R454 to R459): START, ABORT, and one word moved.
-/
namespace Sys2Proof.Machine

/-- A word's source is read: the word, or the trap code of a failure (R456), with the state after it. -/
def bteSource (d : Side) (a : Nat) (s : State) : Except Nat (Word × State) :=
  if d.io then (if (regAt a).isNone then .error 0x02 else .ok (inRead .bte a s))
  else if s.eccBad a then .error 0x0B
  else .ok (dataLoad .bte a s)

/-- One word of a BUSY channel: read from the source, written to the destination; a write to I/O space retires into its crossing (R454, R459). -/
def bteMove (c : Nat) (s : State) : State :=
  let ctl := s.rd .BTE_CTRL c
  let d := bteSides (F.BTE_CTRL_DIR.of ctl) (s.rd .BTE_SRC c).toNat (s.rd .BTE_DST c).toNat (F.BTE_CTRL_SFIX.on ctl) (F.BTE_CTRL_DFIX.on ctl)
  let i := s.getF F.BTE_CNT_COUNT c - s.getF F.BTE_RES_RESID c
  let dst := d.2.at_ i
  match bteSource d.1 (d.1.at_ i) s with
  | .error code => bteFailed c code (d.1.at_ i) s
  | .ok (w, t) =>
    if d.2.io then (if (regAt dst).isNone then bteFailed c 0x02 dst t else bteMoved c (crossWrite .bte dst w t))
    else bteMoved c (dataStore .bte dst w t)

/-- BTE_START (R455): a write of BTE_CTRLc with START. -/
def execBteStart (m : Master) (c : Fin 8) (v : Word) (s : State) : Host.Outcome State Fault Refusal :=
  ok s (bteAccess m .BTE_CTRL c.val (v ||| word (2 ^ F.BTE_CTRL_START.lo)) s)

/-- BTE_ABORT (R456): a write of BTE_CTRLc with ABORT. -/
def execBteAbort (m : Master) (c : Fin 8) (v : Word) (s : State) : Host.Outcome State Fault Refusal :=
  ok s (bteAccess m .BTE_CTRL c.val (v ||| word (2 ^ F.BTE_CTRL_ABORT.lo)) s)

/-- BTE_WORD (R459): the channel whose turn it is moves a word. -/
def execBteWord (s : State) : Host.Outcome State Fault Refusal :=
  ok s (if s.dom.core then (match s.bteTurn with | some c => bteMove c s | none => s) else s)

end Sys2Proof.Machine
end

