-- ==== Sys2Proof/Machine/Ticks.lean ====
section
/-!
DEFINITION. Machine/Ticks.lean: the ticks of the Almanac and what each brings about; with the meaning of their commands (04_almanac.md).
-/
namespace Sys2Proof.Machine

/-- What a tick brings about beside the time: the state that a write of ROLE gives the servo (R149), an accepted step (R132), the milestone entries that
the last tick ended (R173), and the retry decisions of the Switch cycle that is over (R205). -/
def timeOn (s : State) : State := nextCycle (entriesFree (stepIfDue (servoIfDue s)))

/-- ALMANAC_TICK (R117). -/
def execAlmanacTick (s : State) : Host.Outcome State Fault Refusal := ok s (if s.almRuns then timeOn (tick s) else s)

/-- NS_ROLLOVER (R117): the tick in which NS reaches 1,000,000,000. -/
def execNsRollover (s : State) : Host.Outcome State Fault Refusal :=
  ok s (if s.almRuns && tickRolls s then timeOn (tick s) else s)

/-- SHORT_TIME_WRAP (R118): the tick in which short time wraps past 2^32 and the wrap count increases. -/
def execShortTimeWrap (s : State) : Host.Outcome State Fault Refusal :=
  ok s (if s.almRuns && (tick s).wrap != s.wrap then timeOn (tick s) else s)

end Sys2Proof.Machine
end

