-- ==== Sys2Proof/Machine/Dispatch.lean ====
section
/-!
DEFINITION. Machine/Dispatch.lean: one arm per command, each a direct call of its meaning.
-/
namespace Sys2Proof.Machine

/-- The effect of a command on everything but the queue. -/
def exec (i : Instr) (s : State) : Host.Outcome State Fault Refusal :=
  match i with
  | .registerWrite m addr v => Sys2Proof.Machine.execRegisterWrite m addr v s
  | .pendingValueApply addr => Sys2Proof.Machine.execPendingValueApply addr s
  | .absentAccess m addr => Sys2Proof.Machine.execAbsentAccess m addr s
  | .absentAccessClear m v again => Sys2Proof.Machine.execAbsentAccessClear m v again s
  | .sdoDownloadInitiate k client d => Sys2Proof.Machine.execSdoDownloadInitiate k client d s
  | .sdoDownloadSegment k client d => Sys2Proof.Machine.execSdoDownloadSegment k client d s
  | .sdoUploadInitiate k client d => Sys2Proof.Machine.execSdoUploadInitiate k client d s
  | .sdoUploadSegment k client d => Sys2Proof.Machine.execSdoUploadSegment k client d s
  | .sdoBlockDownloadInitiate k client d => Sys2Proof.Machine.execSdoBlockDownloadInitiate k client d s
  | .sdoBlockDownloadSegment k client d => Sys2Proof.Machine.execSdoBlockDownloadSegment k client d s
  | .sdoBlockDownloadEnd k client d => Sys2Proof.Machine.execSdoBlockDownloadEnd k client d s
  | .sdoBlockUploadInitiate k client d => Sys2Proof.Machine.execSdoBlockUploadInitiate k client d s
  | .sdoBlockUploadAck k client d => Sys2Proof.Machine.execSdoBlockUploadAck k client d s
  | .sdoBlockUploadEnd k client d => Sys2Proof.Machine.execSdoBlockUploadEnd k client d s
  | .sdoAbortReceived k client => Sys2Proof.Machine.execSdoAbortReceived k client s
  | .sdoProtocolTimeout k => Sys2Proof.Machine.execSdoProtocolTimeout k s
  | .rpdoReceived n d => Sys2Proof.Machine.execRpdoReceived n d s
  | .tpdoEventTimerExpiry n => Sys2Proof.Machine.execTpdoEventTimerExpiry n s
  | .tpdoInhibitTimeExpiry n => Sys2Proof.Machine.execTpdoInhibitTimeExpiry n s
  | .syncReceived counter => Sys2Proof.Machine.execSyncReceived counter s
  | .syncProduce => Sys2Proof.Machine.execSyncProduce s
  | .timeReceived d => Sys2Proof.Machine.execTimeReceived d s
  | .timeProduce => Sys2Proof.Machine.execTimeProduce s
  | .emcyInhibitExpiry => Sys2Proof.Machine.execEmcyInhibitExpiry s
  | .heartbeatProduce => Sys2Proof.Machine.execHeartbeatProduce s
  | .heartbeatReceived node => Sys2Proof.Machine.execHeartbeatReceived node s
  | .heartbeatConsumerTimeout k => Sys2Proof.Machine.execHeartbeatConsumerTimeout k s
  | .nmtStart node => Sys2Proof.Machine.execNmtStart node s
  | .nmtStop node => Sys2Proof.Machine.execNmtStop node s
  | .nmtEnterPreOperational node => Sys2Proof.Machine.execNmtEnterPreOperational node s
  | .nmtResetNode node => Sys2Proof.Machine.execNmtResetNode node s
  | .nmtResetCommunication node => Sys2Proof.Machine.execNmtResetCommunication node s
  | .sessionOpen m => Sys2Proof.Machine.execSessionOpen m s
  | .sessionClose m => Sys2Proof.Machine.execSessionClose m s
  | .sessionRead m => Sys2Proof.Machine.execSessionRead m s
  | .sessionWrite m => Sys2Proof.Machine.execSessionWrite m s
  | .sessionIdleTimeout k => Sys2Proof.Machine.execSessionIdleTimeout k s
  | .appObjectDeclare l => Sys2Proof.Machine.execAppObjectDeclare l s
  | .appObjectAnswer p value abort => Sys2Proof.Machine.execAppObjectAnswer p value abort s
  | .appObjectTimeout p => Sys2Proof.Machine.execAppObjectTimeout p s
  | .switchDomainStart => Sys2Proof.Machine.execSwitchDomainStart s
  | .keepDomainStart => Sys2Proof.Machine.execKeepDomainStart s
  | .commsDomainStart => Sys2Proof.Machine.execCommsDomainStart s
  | .fieldDomainStart pins => Sys2Proof.Machine.execFieldDomainStart pins s
  | .feedBandChange k band => Sys2Proof.Machine.execFeedBandChange k band s
  | .moduleSupplyBandChange band keep => Sys2Proof.Machine.execModuleSupplyBandChange band keep s
  | .groundStudLoss lost => Sys2Proof.Machine.execGroundStudLoss lost s
  | .nsRollover => Sys2Proof.Machine.execNsRollover s
  | .shortTimeWrap => Sys2Proof.Machine.execShortTimeWrap s
  | .almRole m v => Sys2Proof.Machine.execAlmRole m v s
  | .almStepWrite m v => Sys2Proof.Machine.execAlmStepWrite m v s
  | .almanacStep => Sys2Proof.Machine.execAlmanacStep s
  | .almSecLoRead m => Sys2Proof.Machine.execAlmSecLoRead m s
  | .almShortRead m => Sys2Proof.Machine.execAlmShortRead m s
  | .almAddendWrite m v => Sys2Proof.Machine.execAlmAddendWrite m v s
  | .ppsEdge => Sys2Proof.Machine.execPpsEdge s
  | .servoHoldoverTimeout => Sys2Proof.Machine.execServoHoldoverTimeout s
  | .ppsOkTimeout => Sys2Proof.Machine.execPpsOkTimeout s
  | .timeMessageCommit p sec => Sys2Proof.Machine.execTimeMessageCommit p sec s
  | .timeMessageDiscard => Sys2Proof.Machine.execTimeMessageDiscard s
  | .tsync d sof => Sys2Proof.Machine.execTsync d sof s
  | .fup d => Sys2Proof.Machine.execFup d s
  | .tsyncTimeout => Sys2Proof.Machine.execTsyncTimeout s
  | .canSyncProduce => Sys2Proof.Machine.execCanSyncProduce s
  | .canSyncFupSend sof => Sys2Proof.Machine.execCanSyncFupSend sof s
  | .ptpSync msg => Sys2Proof.Machine.execPtpSync msg s
  | .syncTransmit => Sys2Proof.Machine.execSyncTransmit s
  | .announce msg => Sys2Proof.Machine.execAnnounce msg s
  | .announceTransmit => Sys2Proof.Machine.execAnnounceTransmit s
  | .pdelayRequestTransmit port => Sys2Proof.Machine.execPdelayRequestTransmit port s
  | .peerDelayExchange port delay => Sys2Proof.Machine.execPeerDelayExchange port delay s
  | .rtcAlign => Sys2Proof.Machine.execRtcAlign s
  | .aged q place => Sys2Proof.Machine.execAged q place s
  | .milestoneSubmit m req => Sys2Proof.Machine.execMilestoneSubmit m req s
  | .milestoneCancel m tag => Sys2Proof.Machine.execMilestoneCancel m tag s
  | .milestoneCancelAll m => Sys2Proof.Machine.execMilestoneCancelAll m s
  | .mstResultRead m => Sys2Proof.Machine.execMstResultRead m s
  | .milestoneRun e => Sys2Proof.Machine.execMilestoneRun e s
  | .mstCq0Read m => Sys2Proof.Machine.execMstCq0Read m s
  | .mstCq10Read m => Sys2Proof.Machine.execMstCq10Read m s
  | .mstLostClr m v => Sys2Proof.Machine.execMstLostClr m v s
  | .mstEvtRead m c => Sys2Proof.Machine.execMstEvtRead m c s
  | .completionRecordRead p => Sys2Proof.Machine.execCompletionRecordRead p s
  | .wcuEn m c v => Sys2Proof.Machine.execWcuEn m c v s
  | .wcuGstart m v => Sys2Proof.Machine.execWcuGstart m v s
  | .wcuGstop m v => Sys2Proof.Machine.execWcuGstop m v s
  | .wcuPeriodBoundary c => Sys2Proof.Machine.execWcuPeriodBoundary c s
  | .wcuTopTurnaround c => Sys2Proof.Machine.execWcuTopTurnaround c s
  | .wcuCompareMatch n => Sys2Proof.Machine.execWcuCompareMatch n s
  | .wcuCmpWrite m n v => Sys2Proof.Machine.execWcuCmpWrite m n v s
  | .wcuCaphRead m n => Sys2Proof.Machine.execWcuCaphRead m n s
  | .wcuCapLostClr m n v => Sys2Proof.Machine.execWcuCapLostClr m n v s
  | .wcuArm m n v => Sys2Proof.Machine.execWcuArm m n v s
  | .captureRecordRead p n => Sys2Proof.Machine.execCaptureRecordRead p n s
  | .outLvlWrite m n v => Sys2Proof.Machine.execOutLvlWrite m n v s
  | .outLatbWrite m j v => Sys2Proof.Machine.execOutLatbWrite m j v s
  | .outLatsWrite m j v => Sys2Proof.Machine.execOutLatsWrite m j v s
  | .outLatcWrite m j v => Sys2Proof.Machine.execOutLatcWrite m j v s
  | .outApply m n v => Sys2Proof.Machine.execOutApply m n v s
  | .ddinEdge k high => Sys2Proof.Machine.execDdinEdge k high s
  | .inrushWindowEnd n => Sys2Proof.Machine.execInrushWindowEnd n s
  | .offDetected n => Sys2Proof.Machine.execOffDetected n s
  | .ignFilteredFall => Sys2Proof.Machine.execIgnFilteredFall s
  | .ignFilteredRise => Sys2Proof.Machine.execIgnFilteredRise s
  | .runonExpiry n => Sys2Proof.Machine.execRunonExpiry n s
  | .alignDelayEnd n => Sys2Proof.Machine.execAlignDelayEnd n s
  | .outputCrossing n rising => Sys2Proof.Machine.execOutputCrossing n rising s
  | .noCross n => Sys2Proof.Machine.execNoCross n s
  | .outTrq0Read m => Sys2Proof.Machine.execOutTrq0Read m s
  | .outTrq3Read m => Sys2Proof.Machine.execOutTrq3Read m s
  | .outTrqLostClr m v => Sys2Proof.Machine.execOutTrqLostClr m v s
  | .outLtsecRead m n => Sys2Proof.Machine.execOutLtsecRead m n s
  | .lastTransitionRead p n packed => Sys2Proof.Machine.execLastTransitionRead p n packed s
  | .shortCircuitCutoff n => Sys2Proof.Machine.execShortCircuitCutoff n s
  | .samplePublish n raw refOk => Sys2Proof.Machine.execSamplePublish n raw refOk s
  | .lightConversion raw refOk => Sys2Proof.Machine.execLightConversion raw refOk s
  | .wireModelStep => Sys2Proof.Machine.execWireModelStep s
  | .junctionOvertemp n tj => Sys2Proof.Machine.execJunctionOvertemp n tj s
  | .junctionCooled n tj => Sys2Proof.Machine.execJunctionCooled n tj s
  | .dipSet k => Sys2Proof.Machine.execDipSet k s
  | .dipClear k => Sys2Proof.Machine.execDipClear k s
  | .dipPauseTimeout n => Sys2Proof.Machine.execDipPauseTimeout n s
  | .backoffEnd n => Sys2Proof.Machine.execBackoffEnd n s
  | .retryReset n => Sys2Proof.Machine.execRetryReset n s
  | .planningStep feeds => Sys2Proof.Machine.execPlanningStep feeds s
  | .shedding k => Sys2Proof.Machine.execShedding k s
  | .restoreOffer k => Sys2Proof.Machine.execRestoreOffer k s
  | .tollClr m k v => Sys2Proof.Machine.execTollClr m k v s
  | .tollBudget m k v => Sys2Proof.Machine.execTollBudget m k v s
  | .ofsOld n => Sys2Proof.Machine.execOfsOld n s
  | .gainDue n => Sys2Proof.Machine.execGainDue n s
  | .testerSessionStart isel => Sys2Proof.Machine.execTesterSessionStart isel s
  | .testerSessionEnd => Sys2Proof.Machine.execTesterSessionEnd s
  | .signatureCaptureEnd n x => Sys2Proof.Machine.execSignatureCaptureEnd n x s
  | .relearn m n v => Sys2Proof.Machine.execRelearn m n v s
  | .snsSigsel m v => Sys2Proof.Machine.execSnsSigsel m v s
  | .snsValRead m n => Sys2Proof.Machine.execSnsValRead m n s
  | .vlvStart m v w => Sys2Proof.Machine.execVlvStart m v w s
  | .vlvOff m v w => Sys2Proof.Machine.execVlvOff m v w s
  | .vlvStartm m w => Sys2Proof.Machine.execVlvStartm m w s
  | .vlvOffm m w => Sys2Proof.Machine.execVlvOffm m w s
  | .boostFree v => Sys2Proof.Machine.execBoostFree v s
  | .peakReached v => Sys2Proof.Machine.execPeakReached v s
  | .strokeDip v cur => Sys2Proof.Machine.execStrokeDip v cur s
  | .tmaxElapsed v cur => Sys2Proof.Machine.execTmaxElapsed v cur s
  | .dwellElapsed v => Sys2Proof.Machine.execDwellElapsed v s
  | .holdmaxElapsed v => Sys2Proof.Machine.execHoldmaxElapsed v s
  | .valveCurrentDecayed v => Sys2Proof.Machine.execValveCurrentDecayed v s
  | .rechargeWindowEnd g => Sys2Proof.Machine.execRechargeWindowEnd g s
  | .valveShort v => Sys2Proof.Machine.execValveShort v s
  | .valveJunctionOvertemp v => Sys2Proof.Machine.execValveJunctionOvertemp v s
  | .highSideCutoff g => Sys2Proof.Machine.execHighSideCutoff g s
  | .vlvClr m g w => Sys2Proof.Machine.execVlvClr m g w s
  | .vlvCntclr m g w => Sys2Proof.Machine.execVlvCntclr m g w s
  | .vlvEvq0Read m => Sys2Proof.Machine.execVlvEvq0Read m s
  | .vlvEvq3Read m => Sys2Proof.Machine.execVlvEvq3Read m s
  | .vlvEvqLostClr m w => Sys2Proof.Machine.execVlvEvqLostClr m w s
  | .boostRailAvailable g capv => Sys2Proof.Machine.execBoostRailAvailable g capv s
  | .sinPinCrossing n raw => Sys2Proof.Machine.execSinPinCrossing n raw s
  | .sinLevelChange n => Sys2Proof.Machine.execSinLevelChange n s
  | .sinResConversion n ohms => Sys2Proof.Machine.execSinResConversion n ohms s
  | .sinPeriodTimeout n => Sys2Proof.Machine.execSinPeriodTimeout n s
  | .sinEq0Read m => Sys2Proof.Machine.execSinEq0Read m s
  | .sinEq1Read m => Sys2Proof.Machine.execSinEq1Read m s
  | .sinEqLostClr m w => Sys2Proof.Machine.execSinEqLostClr m w s
  | .edgeRecordRead p => Sys2Proof.Machine.execEdgeRecordRead p s
  | .pollSample levels => Sys2Proof.Machine.execPollSample levels s
  | .fioInputChange p => Sys2Proof.Machine.execFioInputChange p s
  | .fioOut m w => Sys2Proof.Machine.execFioOut m w s
  | .fioOuts m w => Sys2Proof.Machine.execFioOuts m w s
  | .fioOutc m w => Sys2Proof.Machine.execFioOutc m w s
  | .fioKick m w => Sys2Proof.Machine.execFioKick m w s
  | .fieldTimeout => Sys2Proof.Machine.execFieldTimeout s
  | .fioCq0Read m => Sys2Proof.Machine.execFioCq0Read m s
  | .fioCq1Read m => Sys2Proof.Machine.execFioCq1Read m s
  | .fioCqLostClr m w => Sys2Proof.Machine.execFioCqLostClr m w s
  | .fioCosfClear m w => Sys2Proof.Machine.execFioCosfClear m w s
  | .fioFault m w => Sys2Proof.Machine.execFioFault m w s
  | .suplow low volt => Sys2Proof.Machine.execSuplow low volt s
  | .fioOvld p => Sys2Proof.Machine.execFioOvld p s
  | .fioOverloadRetry p => Sys2Proof.Machine.execFioOverloadRetry p s
  | .fioOvt p hot => Sys2Proof.Machine.execFioOvt p hot s
  | .fieldChangeRecordRead p => Sys2Proof.Machine.execFieldChangeRecordRead p s
  | .canModeWrite m n w => Sys2Proof.Machine.execCanModeWrite m n w s
  | .canConfigEnter n => Sys2Proof.Machine.execCanConfigEnter n s
  | .canIntegrateComplete n => Sys2Proof.Machine.execCanIntegrateComplete n s
  | .canFrameReceived n f => Sys2Proof.Machine.execCanFrameReceived n f s
  | .canError n lec dph tx tec rec_ => Sys2Proof.Machine.execCanError n lec dph tx tec rec_ s
  | .canBusOffRecovery n => Sys2Proof.Machine.execCanBusOffRecovery n s
  | .canRecover m n w => Sys2Proof.Machine.execCanRecover m n w s
  | .canQueueWord0Read m n q => Sys2Proof.Machine.execCanQueueWord0Read m n q s
  | .canQueueWord18Read m n q => Sys2Proof.Machine.execCanQueueWord18Read m n q s
  | .canQueueLostClr m n q w => Sys2Proof.Machine.execCanQueueLostClr m n q w s
  | .canQueueRecordRead p n q => Sys2Proof.Machine.execCanQueueRecordRead p n q s
  | .mailboxBufferWrite m n b k w => Sys2Proof.Machine.execMailboxBufferWrite m n b k w s
  | .mbLoad m n b w => Sys2Proof.Machine.execMbLoad m n b w s
  | .mbReq m n b w => Sys2Proof.Machine.execMbReq m n b w s
  | .mbAbort m n b w => Sys2Proof.Machine.execMbAbort m n b w s
  | .mbClear m n b w => Sys2Proof.Machine.execMbClear m n b w s
  | .canTxSelect n => Sys2Proof.Machine.execCanTxSelect n s
  | .canTxSent n sof => Sys2Proof.Machine.execCanTxSent n sof s
  | .canTxArbitrationLost n => Sys2Proof.Machine.execCanTxArbitrationLost n s
  | .canQuietEnd n => Sys2Proof.Machine.execCanQuietEnd n s
  | .linEn m c w => Sys2Proof.Machine.execLinEn m c w s
  | .linRun m c w => Sys2Proof.Machine.execLinRun m c w s
  | .linSleep m c w => Sys2Proof.Machine.execLinSleep m c w s
  | .linWake m c w => Sys2Proof.Machine.execLinWake m c w s
  | .linBusWake c => Sys2Proof.Machine.execLinBusWake c s
  | .linWakeResume c => Sys2Proof.Machine.execLinWakeResume c s
  | .linSlotStart c => Sys2Proof.Machine.execLinSlotStart c s
  | .linFrameEnd c result data => Sys2Proof.Machine.execLinFrameEnd c result data s
  | .linBrktsWrite m c w => Sys2Proof.Machine.execLinBrktsWrite m c w s
  | .linRq0Read m c => Sys2Proof.Machine.execLinRq0Read m c s
  | .linRq3Read m c => Sys2Proof.Machine.execLinRq3Read m c s
  | .linRqLostClr m c w => Sys2Proof.Machine.execLinRqLostClr m c w s
  | .linRecordRead p c => Sys2Proof.Machine.execLinRecordRead p c s
  | .ethFrameReceived p f => Sys2Proof.Machine.execEthFrameReceived p f s
  | .ethFrameTransmitted p sfd => Sys2Proof.Machine.execEthFrameTransmitted p sfd s
  | .ethAddressAgeOut mac vid => Sys2Proof.Machine.execEthAddressAgeOut mac vid s
  | .ethLinkUp p sqi => Sys2Proof.Machine.execEthLinkUp p sqi s
  | .ethLinkDown p => Sys2Proof.Machine.execEthLinkDown p s
  | .ethKick m r w => Sys2Proof.Machine.execEthKick m r w s
  | .ethRxfRead m p => Sys2Proof.Machine.execEthRxfRead m p s
  | .ethCclr m p w => Sys2Proof.Machine.execEthCclr m p w s
  | .ethBufRead m => Sys2Proof.Machine.execEthBufRead m s
  | .staticEntryValid m e w => Sys2Proof.Machine.execStaticEntryValid m e w s
  | .svcEnRise => Sys2Proof.Machine.execSvcEnRise s
  | .svcEnFall => Sys2Proof.Machine.execSvcEnFall s
  | .svcFrameReceived f => Sys2Proof.Machine.execSvcFrameReceived f s
  | .nmen m w => Sys2Proof.Machine.execNmen m w s
  | .wakereq m w => Sys2Proof.Machine.execWakereq m w s
  | .nmVoteReceived n id data => Sys2Proof.Machine.execNmVoteReceived n id data s
  | .nmRoundEnd => Sys2Proof.Machine.execNmRoundEnd s
  | .pointOfNoReturn => Sys2Proof.Machine.execPointOfNoReturn s
  | .nmEntryRetry => Sys2Proof.Machine.execNmEntryRetry s
  | .entryT => Sys2Proof.Machine.execEntryT s
  | .awakeTimerExpiry => Sys2Proof.Machine.execAwakeTimerExpiry s
  | .wakeRecognised src => Sys2Proof.Machine.execWakeRecognised src s
  | .confirmationWindowExpiry src => Sys2Proof.Machine.execConfirmationWindowExpiry src s
  | .selectiveWakeMatch n f => Sys2Proof.Machine.execSelectiveWakeMatch n f s
  | .rtcAlarm => Sys2Proof.Machine.execRtcAlarm s
  | .netRtcalm m w => Sys2Proof.Machine.execNetRtcalm m w s
  | .wakeLinkAddress addr read => Sys2Proof.Machine.execWakeLinkAddress addr read s
  | .wakeLinkWrite ptr data => Sys2Proof.Machine.execWakeLinkWrite ptr data s
  | .wakeLinkRead n acked => Sys2Proof.Machine.execWakeLinkRead n acked s
  | .wakeLinkStop => Sys2Proof.Machine.execWakeLinkStop s
  | .pwrRequestPolite m target => Sys2Proof.Machine.execPwrRequestPolite m target s
  | .pwrRequestForced m target => Sys2Proof.Machine.execPwrRequestForced m target s
  | .noticeEnd => Sys2Proof.Machine.execNoticeEnd s
  | .pwrSaved m w => Sys2Proof.Machine.execPwrSaved m w s
  | .saveTimeout => Sys2Proof.Machine.execSaveTimeout s
  | .align => Sys2Proof.Machine.execAlign s
  | .parkToDormantTest => Sys2Proof.Machine.execParkToDormantTest s
  | .switchSupplyLoss => Sys2Proof.Machine.execSwitchSupplyLoss s
  | .pllLock pins => Sys2Proof.Machine.execPllLock pins s
  | .domainsOn fieldPins => Sys2Proof.Machine.execDomainsOn fieldPins s
  | .add c f => Sys2Proof.Machine.execAdd c f s
  | .sub c f => Sys2Proof.Machine.execSub c f s
  | .and c f => Sys2Proof.Machine.execAnd c f s
  | .or c f => Sys2Proof.Machine.execOr c f s
  | .xor c f => Sys2Proof.Machine.execXor c f s
  | .shl c f => Sys2Proof.Machine.execShl c f s
  | .shr c f => Sys2Proof.Machine.execShr c f s
  | .sar c f => Sys2Proof.Machine.execSar c f s
  | .cmp c f => Sys2Proof.Machine.execCmp c f s
  | .tst c f => Sys2Proof.Machine.execTst c f s
  | .addi c f => Sys2Proof.Machine.execAddi c f s
  | .andi c f => Sys2Proof.Machine.execAndi c f s
  | .ori c f => Sys2Proof.Machine.execOri c f s
  | .xori c f => Sys2Proof.Machine.execXori c f s
  | .shli c f => Sys2Proof.Machine.execShli c f s
  | .shri c f => Sys2Proof.Machine.execShri c f s
  | .sari c f => Sys2Proof.Machine.execSari c f s
  | .cmpi c f => Sys2Proof.Machine.execCmpi c f s
  | .lui c f => Sys2Proof.Machine.execLui c f s
  | .mulu c f => Sys2Proof.Machine.execMulu c f s
  | .muls c f => Sys2Proof.Machine.execMuls c f s
  | .multiplyComplete c => Sys2Proof.Machine.execMultiplyComplete c s
  | .divu c f => Sys2Proof.Machine.execDivu c f s
  | .divs c f => Sys2Proof.Machine.execDivs c f s
  | .divideComplete c => Sys2Proof.Machine.execDivideComplete c s
  | .ldw c f => Sys2Proof.Machine.execLdw c f s
  | .ldh c f => Sys2Proof.Machine.execLdh c f s
  | .ldhu c f => Sys2Proof.Machine.execLdhu c f s
  | .ldb c f => Sys2Proof.Machine.execLdb c f s
  | .ldbu c f => Sys2Proof.Machine.execLdbu c f s
  | .stw c f => Sys2Proof.Machine.execStw c f s
  | .sth c f => Sys2Proof.Machine.execSth c f s
  | .stb c f => Sys2Proof.Machine.execStb c f s
  | .tbl c f => Sys2Proof.Machine.execTbl c f s
  | .inp c f => Sys2Proof.Machine.execInp c f s
  | .inx c f => Sys2Proof.Machine.execInx c f s
  | .out c f => Sys2Proof.Machine.execOut c f s
  | .outx c f => Sys2Proof.Machine.execOutx c f s
  | .ios c f => Sys2Proof.Machine.execIos c f s
  | .bcpy c f n => Sys2Proof.Machine.execBcpy c f n s
  | .bfil c f n => Sys2Proof.Machine.execBfil c f n s
  | .bget c f n => Sys2Proof.Machine.execBget c f n s
  | .bcmp c f n => Sys2Proof.Machine.execBcmp c f n s
  | .bfnd c f n => Sys2Proof.Machine.execBfnd c f n s
  | .bset c f => Sys2Proof.Machine.execBset c f s
  | .br c f => Sys2Proof.Machine.execBr c f s
  | .call c f => Sys2Proof.Machine.execCall c f s
  | .jmpx c f => Sys2Proof.Machine.execJmpx c f s
  | .callx c f => Sys2Proof.Machine.execCallx c f s
  | .ret c f => Sys2Proof.Machine.execRet c f s
  | .reti c f => Sys2Proof.Machine.execReti c f s
  | .bcc c f => Sys2Proof.Machine.execBcc c f s
  | .mfs c f => Sys2Proof.Machine.execMfs c f s
  | .mts c f => Sys2Proof.Machine.execMts c f s
  | .waitev c f => Sys2Proof.Machine.execWaitev c f s
  | .waitevWake c => Sys2Proof.Machine.execWaitevWake c s
  | .sigev c f => Sys2Proof.Machine.execSigev c f s
  | .wtu c f => Sys2Proof.Machine.execWtu c f s
  | .wtuEnd c => Sys2Proof.Machine.execWtuEnd c s
  | .sysc c f => Sys2Proof.Machine.execSysc c f s
  | .brk c f => Sys2Proof.Machine.execBrk c f s
  | .nop c f => Sys2Proof.Machine.execNop c f s
  | .rspop c f => Sys2Proof.Machine.execRspop c f s
  | .rspush c f => Sys2Proof.Machine.execRspush c f s
  | .interruptEntry c => Sys2Proof.Machine.execInterruptEntry c s
  | .coreSwset m v => Sys2Proof.Machine.execCoreSwset m v s
  | .coreStart c => Sys2Proof.Machine.execCoreStart c s
  | .bteStart m c v => Sys2Proof.Machine.execBteStart m c v s
  | .bteAbort m c v => Sys2Proof.Machine.execBteAbort m c v s
  | .bteWord => Sys2Proof.Machine.execBteWord s
  | .pairMiscompare pair lane => Sys2Proof.Machine.execPairMiscompare pair lane s
  | .fcruRsyncGo m v => Sys2Proof.Machine.execFcruRsyncGo m v s
  | .resyncComplete failed => Sys2Proof.Machine.execResyncComplete failed s
  | .comparatorTestComplete a b => Sys2Proof.Machine.execComparatorTestComplete a b s
  | .comparatorTestRetry => Sys2Proof.Machine.execComparatorTestRetry s
  | .debugHalt c => Sys2Proof.Machine.execDebugHalt c s
  | .debugAccess c a => Sys2Proof.Machine.execDebugAccess c a s
  | .fcruSourceEvent outside => Sys2Proof.Machine.execFcruSourceEvent outside s
  | .fcruWindowEnd src => Sys2Proof.Machine.execFcruWindowEnd src s
  | .fcruSafeclr m v => Sys2Proof.Machine.execFcruSafeclr m v s
  | .fcruPendClear m w v => Sys2Proof.Machine.execFcruPendClear m w v s
  | .fcruRaise m v => Sys2Proof.Machine.execFcruRaise m v s
  | .fcruScfg m v => Sys2Proof.Machine.execFcruScfg m v s
  | .fcruLog0Read m => Sys2Proof.Machine.execFcruLog0Read m s
  | .fcruLog4Read m => Sys2Proof.Machine.execFcruLog4Read m s
  | .fcruLogLostClr m v => Sys2Proof.Machine.execFcruLogLostClr m v s
  | .faultLogRecordRead p => Sys2Proof.Machine.execFaultLogRecordRead p s
  | .muteEnd iface who => Sys2Proof.Machine.execMuteEnd iface who s
  | .accScheduleTrigger => Sys2Proof.Machine.execAccScheduleTrigger s
  | .accPoll m w => Sys2Proof.Machine.execAccPoll m w s
  | .accEnd m w => Sys2Proof.Machine.execAccEnd m w s
  | .accCalreq m w => Sys2Proof.Machine.execAccCalreq m w s
  | .wakeTrainEnd => Sys2Proof.Machine.execWakeTrainEnd s
  | .accResp slot collided token ra => Sys2Proof.Machine.execAccResp slot collided token ra s
  | .accReport slot collided rb db counter tag => Sys2Proof.Machine.execAccReport slot collided rb db counter tag s
  | .roundEnd => Sys2Proof.Machine.execRoundEnd s
  | .nextRound => Sys2Proof.Machine.execNextRound s
  | .accSessionTimeout => Sys2Proof.Machine.execAccSessionTimeout s
  | .driveEnableFrame => Sys2Proof.Machine.execDriveEnableFrame s
  | .dewait => Sys2Proof.Machine.execDewait s
  | .withdrawnFrame => Sys2Proof.Machine.execWithdrawnFrame s
  | .tokenEnrolment p token data => Sys2Proof.Machine.execTokenEnrolment p token data s
  | .updBegin m => Sys2Proof.Machine.execUpdBegin m s
  | .updAbandon m => Sys2Proof.Machine.execUpdAbandon m s
  | .updRestart m => Sys2Proof.Machine.execUpdRestart m s
  | .updConfirm m => Sys2Proof.Machine.execUpdConfirm m s
  | .eraseComplete => Sys2Proof.Machine.execEraseComplete s
  | .imageSegment offset data last => Sys2Proof.Machine.execImageSegment offset data last s
  | .verifyComplete => Sys2Proof.Machine.execVerifyComplete s
  | .migrationEnd failed => Sys2Proof.Machine.execMigrationEnd failed s
  | .autoconf => Sys2Proof.Machine.execAutoconf s
  | .trialTimeout => Sys2Proof.Machine.execTrialTimeout s
  | .trialTimeSave => Sys2Proof.Machine.execTrialTimeSave s
  | .pairingRecordWrite p data => Sys2Proof.Machine.execPairingRecordWrite p data s
  | .pairingStartCheck => Sys2Proof.Machine.execPairingStartCheck s
  | .moduleUnpaired => Sys2Proof.Machine.execModuleUnpaired s
  | .pairingChallenge nonce => Sys2Proof.Machine.execPairingChallenge nonce s
  | .integratorImageKey p data => Sys2Proof.Machine.execIntegratorImageKey p data s
  | .odometerSave => Sys2Proof.Machine.execOdometerSave s
  | .odoSave m w => Sys2Proof.Machine.execOdoSave m w s
  | .odometerSecondSample plate volt => Sys2Proof.Machine.execOdometerSecondSample plate volt s
  | .odoSel m w => Sys2Proof.Machine.execOdoSel m w s
  | .almanacTick => Sys2Proof.Machine.execAlmanacTick s
  | .wcuCountStep c => Sys2Proof.Machine.execWcuCountStep c s
  | .fioPinCrossing p high => Sys2Proof.Machine.execFioPinCrossing p high s
  | .debugResume c => Sys2Proof.Machine.execDebugResume c s
  | .accFinal => Sys2Proof.Machine.execAccFinal s
  | .fcruReactionComplete src => Sys2Proof.Machine.execFcruReactionComplete src s
  | .iselChange isel => Sys2Proof.Machine.execIselChange isel s

end Sys2Proof.Machine
end

