-- ==== Sys2Proof/Machine/Step.lean ====
section
/-!
DEFINITION. Machine/Step.lean: one step of the module: the command at the front of the queue, or what happens by itself when none waits.
-/
namespace Sys2Proof.Machine

/-- What 64 cycles of the Keep clock last, ns: 1/512 s (R22). -/
def keepStep : Nat := 1953125

/-- No command waits: a write in a crossing reaches its unit, the Highway queue first (R24, R26). With none the module idles; while the Almanac
is stopped and the Keep domain on, the Keep clock then carries the model's clock on, by which the RTC and the run-on timers count (R22, R142, R210;
DESIGN CHOICE, assumption 8). -/
def idle (s : State) : Host.Outcome State Fault Refusal :=
  match s.nextTransit with
  | some t => ok s (transitAccept t s)
  | none => if s.almRuns || ! s.dom.keep then .next s else ok s (nextCycle { s with up := s.up + keepStep })

/-- One step. -/
def step (s : State) : Host.Outcome State Fault Refusal :=
  match s.pending with
  | [] => idle s
  | c :: rest => exec c { s with pending := rest }

/-- The state with the command that a word spells at the front of its queue. -/
def State.withFetchWord (s : State) (nbits w : Nat) : State :=
  match decodeTableWord nbits w with
  | some c => { s with pending := c :: s.pending }
  | none => s

end Sys2Proof.Machine
end

