-- ==== Sys2Proof/Safety.lean ====
section
/-!
DEFINITION. Safety.lean: the terms in which claims speak of runs: a run goes on, and what every state that a step leaves satisfies.
-/
namespace Sys2Proof.Machine

/-- A step answers a next state. -/
def goesOn (s : State) : Prop := ∃ t, step s = .next t

/-- The step from one state to another. -/
def steps (s t : State) : Prop := step s = .next t

/-- The error register and what the module has reported of it agree: EMCY 0x0000 follows a return to 0 (R56, R535). -/
def errSettled (s : State) : Prop := s.errUp = (s.errorReg != 0)

/-- From `s` to `t` exactly `l` was sent, newest first, followed at most by the EMCY that reports the return of the error register to 0 (R56). -/
def sends (s t : State) (l : List Sent) : Prop :=
  t.sent = l ++ s.sent ∨ t.sent = .emcy t.canOpenCh t.emcyId [0, 0, 0, 0, 0, 0, 0, 0] :: (l ++ s.sent)

/-- Every register reads in `t` as in `s`, but for those of a list, each with its index. -/
def regsBut (s t : State) (l : List (Reg × Nat)) : Prop := ∀ r n, (r, n) ∉ l → t.rd r n = s.rd r n

/-- Every register reads in `t` as in `s`. -/
def regsSame (s t : State) : Prop := ∀ r n, t.rd r n = s.rd r n

/-- Every byte of data space reads in `t` as in `s`. -/
def memSame (s t : State) : Prop := ∀ a, t.memByte a = s.memByte a

/-- The memory of data space is in its canonical form. -/
def memWf (s : State) : Prop := Memory.wf s.mem = true

/-- Logical core `c` executes in `s`, and its fetch meets no trap (R430, R449). -/
def fetches (s : State) (c : Nat) : Prop := s.coreRuns c = true ∧ s.fetchTrap c = none

/-- From `s` to `t` logical core `c` came to be `x`, and no other core, no register and no byte of data space changed, and nothing was sent. -/
def coreOnly (s t : State) (c : Nat) (x : Core) : Prop :=
  t.co c = x ∧ (∀ d, d ≠ c → t.co d = s.co d) ∧ regsSame s t ∧ memSame s t ∧ sends s t []

/-- The core's general register takes a value and PC goes on. -/
def Core.took (x : Core) (g : Nat) (w : Word) : Core := { x with g := tabSet 0 x.g g w, pc := (x.pc + 1) % 2 ^ 24 }

/-- PC goes on. -/
def Core.gone (x : Core) : Core := { x with pc := (x.pc + 1) % 2 ^ 24 }

end Sys2Proof.Machine
end

