-- ==== Sys2Proof/Certificates/Slice0/Obligations.lean ====
section
/-!
DEFINITION. Certificates/Slice0/Obligations.lean: the statements about the model, one or more for every family of commands and kind of state. Where a
statement says `finish s u`, u is the state that the command's own effect gives; `finish` adds the report of the error register's return to 0 (R56).
-/
open Sys2Proof Sys2Proof.Machine

/-- The command at the front of the queue runs on the state with the rest of the queue. -/
def Obligations.StepRunsFront : Prop :=
  ∀ (c : Instr) (rest : List Instr) (s : State), s.pending = c :: rest → step s = exec c { s with pending := rest }

/-- Every step answers a next state, takes exactly the front command from the queue, and leaves what is set at manufacture. Model's choice (assumption
8): with no command waiting, a step accepts the oldest write that waits in a crossing; where none waits it changes nothing while the Almanac runs or
the Keep domain is off, and else carries the model's clock on by 64 cycles of the Keep clock. -/
def Obligations.StepsGoOn : Prop :=
  (∀ s : State, ∃ t, step s = .next t ∧ t.ident = s.ident ∧ t.pending = s.pending.tail) ∧
  (∀ s : State, s.pending = [] →
    (s.nextTransit = none → s.almRuns = true ∨ s.dom.keep = false → step s = .next s) ∧
    (s.nextTransit = none → s.almRuns = false → s.dom.keep = true →
      step s = .next (finish s (nextCycle { s with up := s.up + 1953125 }))) ∧
    (∀ t, s.nextTransit = some t → step s = .next (finish s (transitAccept t s))))

/-- What the error register 0x1001 shows and what has been reported of it agree after every step: EMCY 0x0000 has followed its return to 0. -/
def Obligations.ErrorRegisterSettled : Prop :=
  ∀ s t : State, errSettled s → steps s t → errSettled t

/-- A command after which the error register 0x1001 is 0 again, in a module that had reported an error and whose Core domain is on, reports EMCY
0x0000: it is sent at once on the CANopen channel with the identifier of 0x1014, with error register 0 in byte 2, where no inhibit time runs, the node
is not stopped and 0x1014 lets it out; and it waits where the inhibit time runs or the node is stopped. -/
def Obligations.ErrorResetReported : Prop :=
  ∀ (c : Instr) (s u : State), exec c s = .next (finish s u) → u.dom.core = true → u.errUp = true → u.errorReg = 0 →
    (u.emcyInhibit = false → u.nmt ≠ .stopped → u.emcyOn = true →
      (finish s u).sent = .emcy u.canOpenCh u.emcyId [0, 0, 0, 0, 0, 0, 0, 0] :: u.sent ∧ (finish s u).errors = u.errors) ∧
    (u.emcyInhibit = true ∨ u.nmt = .stopped →
      (finish s u).sent = u.sent ∧ (finish s u).emcyWait = u.emcyWait ++ [{ code := 0 }])

/-- The state after reset: the values that the spec's register tables give, one of every kind of register, the dictionary's state, and the forms that
every step keeps. -/
def Obligations.ResetState : Prop :=
  State.reset.pending = [] ∧ State.reset.nmt = .preOperational ∧ errSettled State.reset ∧ memWf State.reset ∧
  State.reset.rd .IDN_STATUS 0 = 0 ∧ State.reset.rd .SNS_CAL 20 = 0x8000 ∧ State.reset.rd .SIN_CFG 4 = 0x03E80000 ∧
  State.reset.rd .NET_NMID 0 = 0x780 ∧ State.reset.rd .NET_WLCFG 0 = 0x3A ∧ State.reset.rd .CAN_QCFG 0 = 0x101 ∧
  State.reset.rd .OUT_THR 0 = 0x0BB8 ∧ State.reset.rd .OUT_THR 20 = 0x03E8 ∧ State.reset.rd .OUT_THR 80 = 0x012C ∧
  State.reset.rd .NET_SWK_MSK 2 = 0x1FFFFFFF

/-- REGISTER_WRITE and PENDING_VALUE_APPLY (R33 to R36). A write of a channel's overcurrent threshold without IMM is answered when it is accepted: in
range and without a reserved bit it waits for its apply point, and the value in force does not change; out of range it is refused with INVALID and is
not held. A write of an address with no register raises the I/O address trap (R38). A value that waits for a boundary of the switch comes into force
there and waits no more. ABSENT_ACCESS and ABSENT_ACCESS_CLEAR (R9, R10, R13). A read of a register of an absent resource gives 0 and sets
ABSENT_ACCESS; the address is kept while the flag was clear, and stays while it was set; no other register and no byte of memory changes. A 1 written
to ABSENT_ACCESS clears the flag and the address; with an absent access in the same cycle the flag is set again and the address is that access's. A
write without that 1 changes no register. Where the rules leave a point open, the clause follows the model's choice in log entries 13, 41 and 42. -/
def Obligations.RegisterAccesses : Prop :=
  ((∀ (m : Master) (addr n : Nat) (v : Word) (s : State), regAt addr = some (.OUT_THR, n) → chanFitted s.variant n = true →
    reservedSet .OUT_THR v = false → outCfgOk .OUT_THR n v = true → bitOf v.toNat 31 = false →
    exec (.registerWrite m addr v) s =
      .next (finish s ((s.hold .OUT_THR n (v &&& word 0x7FFFFFFF)).answer m .OUT_RESULT .accepted n (Reg.addr .OUT_THR n)))) ∧
  (∀ (m : Master) (addr n : Nat) (v : Word) (s : State), regAt addr = some (.OUT_THR, n) → chanFitted s.variant n = true →
    outCfgOk .OUT_THR n v = false →
    exec (.registerWrite m addr v) s = .next (finish s (s.answer m .OUT_RESULT .invalid n (Reg.addr .OUT_THR n)))) ∧
  (∀ (m : Master) (addr : Nat) (v : Word) (s : State), regAt addr = none →
    exec (.registerWrite m addr v) s = .next (finish s (s.emit (.ioTrap m addr)))) ∧
  (∀ (addr n : Nat) (w : Word) (s : State), regAt addr = some (.ETH_QMAP, n) → s.heldOf .ETH_QMAP n = some w →
    exec (.pendingValueApply addr) s = .next (finish s ((s.unhold .ETH_QMAP n).wr .ETH_QMAP n w)))) ∧
  ((∀ (m : Master) (addr n : Nat) (r : Reg) (s : State), regAt addr = some (r, n) → regFitted s.variant r n = false → addr < 65536 →
    ∃ t, exec (.absentAccess m addr) s = .next t ∧ t.flag F.IDN_STATUS_ABSENT_ACCESS 0 = true ∧ sends s t [.value m addr 0] ∧
      (s.flag F.IDN_STATUS_ABSENT_ACCESS 0 = false → t.getF F.IDN_STATUS_ABSENT_ADDR 0 = addr) ∧
      (s.flag F.IDN_STATUS_ABSENT_ACCESS 0 = true → t.rd .IDN_STATUS 0 = s.rd .IDN_STATUS 0) ∧
      regsBut s t [(.IDN_STATUS, 0)] ∧ memSame s t) ∧
  (∀ (m : Master) (v : Word) (s : State), F.IDN_STATUS_ABSENT_ACCESS.on v = true →
    ∃ t, exec (.absentAccessClear m v none) s = .next t ∧ t.rd .IDN_STATUS 0 = 0 ∧ regsBut s t [(.IDN_STATUS, 0)] ∧ memSame s t) ∧
  (∀ (m : Master) (v : Word) (a : Nat) (s : State), F.IDN_STATUS_ABSENT_ACCESS.on v = true → a < 65536 →
    ∃ t, exec (.absentAccessClear m v (some a)) s = .next t ∧ t.flag F.IDN_STATUS_ABSENT_ACCESS 0 = true ∧
      t.getF F.IDN_STATUS_ABSENT_ADDR 0 = a) ∧
  (∀ (m : Master) (v : Word) (s : State), F.IDN_STATUS_ABSENT_ACCESS.on v = false →
    ∃ t, exec (.absentAccessClear m v none) s = .next t ∧ regsSame s t))

/-- LOST_CLR of every record queue (R159, R188, R222, R306, R319, R328, R349, R358, R484): a write with only that bit is accepted, the count of lost
records is 0, and the records and the sequence number stay. AGED (R134): in each queue of time-stamped records, the record in the place named takes
its AGED bit unless it is the locked head; its other words, every other record, the lock and the counts stay, and so do the registers and the memory.
Where the rules leave a point open, the clause follows the model's choice in log entry 22. -/
def Obligations.LostAndAged : Prop :=
  ((∀ (m : Master) (c4 : Fin 4) (c8 : Fin 8) (b : Fin 2) (s : State) (c : Instr) (addr : Nat) (i : QId),
    linFitted s.variant c4 = true → canFitted s.variant c8 = true →
    (c, addr, i) ∈ [(.mstLostClr m 0x80000000, Reg.addr .MST_CQ_CLR 0, .milestone), (.outTrqLostClr m 0x80000000, Reg.addr .OUT_TRQSTAT 0, .transition),
      (.vlvEvqLostClr m 0x80000000, Reg.addr .VLV_EVQSTAT 0, .valve), (.sinEqLostClr m 0x80000000, Reg.addr .SIN_EQSTAT 0, .edge),
      (.fioCqLostClr m 0x80000000, Reg.addr .FIO_CQSTAT 0, .field), (.linRqLostClr m c4 0x80000000, Reg.addr .LIN_RQSTAT c4, .lin c4),
      (.canQueueLostClr m c8 b 0x80000000, Reg.addr .CAN_QSTAT (2 * c8 + b), .can c8 b), (.fcruLogLostClr m 0x80000000, Reg.addr .FCRU_LOGSTAT 0, .faultLog)] →
    ∃ t, exec c s = .next t ∧ t.q i = { s.q i with lost := 0 } ∧ sends s t [.written m addr .accepted] ∧ memSame s t) ∧
  (∀ (m : Master) (n : Fin 32) (s u : State), u = (s.setQ (.capture n) { s.q (.capture n) with lost := 0 }).answer m .WCU_RESULT .accepted (8 + n) (Reg.addr .WCU_CAP n) →
    exec (.wcuCapLostClr m n 0x80000000) s = .next (finish s (twUpdate s u)))) ∧
  ((∀ (q : StampQueue) (k : QId) (i : Nat) (s : State),
    (q, k) ∈ [(StampQueue.milestone, QId.milestone), (.sinEdge, .edge), (.fioChange, .field), (.vlvEvent, .valve)] ++
      (List.finRange 4).map (fun c => (.lin c, .lin c)) ++ (List.finRange 32).map (fun n => (.wcuCapture n, .capture n)) ++
      (List.finRange 8).flatMap (fun n => (List.finRange 2).map fun j => (.canQueue n j, .can n j)) →
    ∃ t, exec (.aged q i) s = .next t ∧ t.q k = RecQ.ageOne k i (s.q k) ∧ (∀ j, qKey j ≠ qKey k → t.q j = s.q j) ∧ regsSame s t ∧ memSame s t) ∧
  (∀ (k : QId) (p : Nat × Nat) (i : Nat) (q : RecQ) (r : Rec), qAgedAt k = some p → q.recs[i]? = some r →
    (RecQ.ageOne k i q).recs[i]? = some (if i = 0 ∧ q.locked = true then r else r.age p) ∧
    (∀ j, j ≠ i → (RecQ.ageOne k i q).recs[j]? = q.recs[j]?) ∧
    (RecQ.ageOne k i q).locked = q.locked ∧ (RecQ.ageOne k i q).lost = q.lost ∧ (RecQ.ageOne k i q).seq = q.seq) ∧
  (∀ (r : Fin 6) (i : Nat) (w : Word) (s : State), i < 128 → tabGet 0 s.eth.desc (4 * (128 * r.val + i) + 1) = w → bitOf w.toNat 31 = false →
    bitsOf w.toNat 0 11 ≠ 0 → ∃ t, exec (.aged (.ethRing r) i) s = .next t ∧ tabGet 0 t.eth.desc (4 * (128 * r.val + i) + 1) = putBits w 27 1 1 ∧
      (∀ k, k ≠ 4 * (128 * r.val + i) + 1 → tabGet 0 t.eth.desc k = tabGet 0 s.eth.desc k) ∧ regsSame s t ∧ memSame s t))

/-- SDO downloads (R51, R52, R69), on a server that serves, from a client that is not muted. With no transfer in progress, a segmented initiate
request with an indicated size that the entry named takes is answered 0x60 and opens a transfer, and so is a block-download initiate request without
an indicated size, answered 0xA4 with the block size the server asks for. In a transfer without an indicated size, a segment in turn that is not the
last is kept, answered with its toggle, and the toggle changes; the last segment in turn is kept and the value is committed. A segment of a block in
order, before the block's end and not the last, is kept without an answer; the segment with the block's last number is kept and answered with that
number and the next block size; the end of a block download without CRC and without an indicated size commits the value received, less the padding of
its last segment. PRESUMED frame layouts: CiA 301 (assumption 20). Where the rules leave a point open, the clause follows the model's choice in log
entry 17. -/
def Obligations.SdoDownloads : Prop :=
  (∀ (k : Fin 4) (client : Nat) (d : List Byte) (s : State), s.sdoServes k = true → s.mutedPartner 1 (s.sdoPartner k) = false → d.length = 8 →
    s.sdo k = none → ccs d = 1 → bitOf (byteAt d 0) 1 = false → bitOf (byteAt d 0) 0 = true →
    downloadCode (.sdo k) (frameIndex d) (frameSub d) (some (leNat (d.drop 4))) s = 0 →
    exec (.sdoDownloadInitiate k client d) s = .next (finish s (sdoSend k (sdoFrame 0x60 (frameIndex d) (frameSub d) [])
      (setSdo k (some { client := client, phase := .down, index := frameIndex d, sub := frameSub d, size := some (leNat (d.drop 4)) }) s)))) ∧
  (∀ (k : Fin 4) (d : List Byte) (x : Sdo) (s : State), s.sdoServes k = true → s.mutedPartner 1 (s.sdoPartner k) = false → d.length = 8 →
    s.sdo k = some x → x.phase = .down → x.size = none → ccs d = 0 → bitOf (byteAt d 0) 4 = x.toggle →
    (bitOf (byteAt d 0) 0 = false →
      exec (.sdoDownloadSegment k x.client d) s = .next (finish s (sdoSend k (sdoBytes (0x20 + 16 * b01 x.toggle) [])
        (setSdo k (some { x with data := x.data ++ (d.drop 1).take (7 - bitsOf (byteAt d 0) 1 3), toggle := ! x.toggle }) s)))) ∧
    (bitOf (byteAt d 0) 0 = true →
      exec (.sdoDownloadSegment k x.client d) s = .next (finish s
        (sdoCommit k { x with data := x.data ++ (d.drop 1).take (7 - bitsOf (byteAt d 0) 1 3), last := true } false s)))) ∧
  (∀ (k : Fin 4) (client : Nat) (d : List Byte) (s : State), s.sdoServes k = true → s.mutedPartner 1 (s.sdoPartner k) = false → d.length = 8 →
    s.sdo k = none → ccs d = 6 → bitOf (byteAt d 0) 0 = false → bitOf (byteAt d 0) 1 = false →
    downloadCode (.sdo k) (frameIndex d) (frameSub d) none s = 0 →
    exec (.sdoBlockDownloadInitiate k client d) s = .next (finish s (sdoSend k (sdoFrame 0xA4 (frameIndex d) (frameSub d) [byte s.askBlock])
      (setSdo k (some { client := client, phase := .blockDown, index := frameIndex d, sub := frameSub d, blk := s.askBlock, crc := bitOf (byteAt d 0) 2 })
        s).used))) ∧
  (∀ (k : Fin 4) (d : List Byte) (x : Sdo) (s : State), s.sdoServes k = true → s.mutedPartner 1 (s.sdoPartner k) = false → d.length = 8 →
    s.sdo k = some x → x.phase = .blockDown → byteAt d 0 = x.seq + 1 → x.blk < 128 →
    (x.seq + 1 < x.blk → exec (.sdoBlockDownloadSegment k x.client d) s =
      .next (finish s (setSdo k (some { x with data := x.data ++ d.drop 1, seq := x.seq + 1 }) s))) ∧
    (x.seq + 1 = x.blk → exec (.sdoBlockDownloadSegment k x.client d) s =
      .next (finish s (sdoSend k (sdoBytes 0xA2 [byte x.blk, byte s.askBlock])
        (setSdo k (some { x with data := x.data ++ d.drop 1, seq := 0, blk := s.askBlock }) s).used)))) ∧
  (∀ (k : Fin 4) (d : List Byte) (x : Sdo) (s : State), s.sdoServes k = true → s.mutedPartner 1 (s.sdoPartner k) = false → d.length = 8 →
    s.sdo k = some x → x.phase = .blockDownEnd → ccs d = 6 → bitOf (byteAt d 0) 0 = true → x.crc = false → x.size = none →
    exec (.sdoBlockDownloadEnd k x.client d) s =
      .next (finish s (sdoCommit k { x with data := x.data.take (x.data.length - bitsOf (byteAt d 0) 2 3) } true s)))

/-- SDO uploads (R51, R64), on a server that serves, from a client that is not muted. With no transfer in progress, an initiate request for a value of
one to four bytes is answered with the value itself, and one for a value of another length with its length, which opens a transfer; a block-upload
initiate request with a legal block size is answered with the value's length and opens a block transfer. A segment request in turn gets the next seven
bytes; with the last of them the transfer ends. The start request of a block upload sends the segments of the first block. The acknowledgement of a
whole last block is answered with the end of the transfer and the CRC asked for; that of any other block is followed by the block from where the
client has received; the client's response to the end ends the transfer. PRESUMED frame layouts: CiA 301 (assumption 20). The ends of a transfer (R51,
R52): an abort by its client ends it: nothing is sent, and no object, register or byte of memory changes; the protocol timeout ends one that does not
wait for application firmware with abort 0x0504_0000 to the client. An initiate request of a client other than the one whose transfer is in progress
is turned away with abort 0x060A_0023, and the transfer goes on. Where the rules leave a point open, the clause follows the model's choice in log
entry 17. -/
def Obligations.SdoUploadsAndEnds : Prop :=
  ((∀ (k : Fin 4) (client : Nat) (d v : List Byte) (s u : State), s.sdoServes k = true → s.mutedPartner 1 (s.sdoPartner k) = false →
    d.length = 8 → s.sdo k = none → u = setSdo k none s →
    (ccs d = 2 → objAnswer (.sdo k) (frameIndex d) (frameSub d) u (objRead (.sdo k) (frameIndex d) (frameSub d) u) = some (.value v) →
      (0 < v.length → v.length ≤ 4 →
        exec (.sdoUploadInitiate k client d) s = .next (finish s (sdoSend k (sdoFrame (0x43 + 4 * (4 - v.length)) (frameIndex d) (frameSub d) v)
          (setSdo k none (objRead (.sdo k) (frameIndex d) (frameSub d) u))))) ∧
      (v.length = 0 ∨ 4 < v.length →
        exec (.sdoUploadInitiate k client d) s = .next (finish s (sdoSend k (sdoFrame 0x41 (frameIndex d) (frameSub d) (leBytes 4 v.length))
          (setSdo k (some { client := client, phase := .up, index := frameIndex d, sub := frameSub d, data := v })
            (objRead (.sdo k) (frameIndex d) (frameSub d) u)))))) ∧
    (ccs d = 5 → byteAt d 0 % 4 = 0 → 1 ≤ byteAt d 4 → byteAt d 4 ≤ 127 →
      objAnswer (.sdo k) (frameIndex d) (frameSub d) u (objRead (.sdo k) (frameIndex d) (frameSub d) u) = some (.value v) →
      exec (.sdoBlockUploadInitiate k client d) s = .next (finish s (sdoSend k (sdoFrame 0xC6 (frameIndex d) (frameSub d) (leBytes 4 v.length))
        (setSdo k
          (some { client, phase := .blockUpStart, index := frameIndex d, sub := frameSub d, blk := byteAt d 4, crc := bitOf (byteAt d 0) 2, data := v })
          (objRead (.sdo k) (frameIndex d) (frameSub d) u)))))) ∧
  (∀ (k : Fin 4) (d : List Byte) (x : Sdo) (s : State), s.sdoServes k = true → s.mutedPartner 1 (s.sdoPartner k) = false → d.length = 8 →
    s.sdo k = some x → x.phase = .up → ccs d = 3 → bitOf (byteAt d 0) 4 = x.toggle →
    (x.pos + 7 < x.data.length →
      exec (.sdoUploadSegment k x.client d) s = .next (finish s (sdoSend k (sdoBytes (16 * b01 x.toggle) ((x.data.drop x.pos).take 7))
        (setSdo k (some { x with pos := x.pos + 7, toggle := ! x.toggle }) s)))) ∧
    (x.data.length ≤ x.pos + 7 →
      exec (.sdoUploadSegment k x.client d) s = .next (finish s (sdoSend k
        (sdoBytes (16 * b01 x.toggle + 2 * (7 - (x.data.length - x.pos)) + 1) (x.data.drop x.pos)) (setSdo k none s))))) ∧
  (∀ (k : Fin 4) (d : List Byte) (x : Sdo) (s : State), s.sdoServes k = true → s.mutedPartner 1 (s.sdoPartner k) = false → d.length = 8 →
    s.sdo k = some x → x.phase = .blockUpStart → ccs d = 5 → byteAt d 0 % 4 = 3 →
    exec (.sdoBlockUploadInitiate k x.client d) s = .next (finish s ((blockFrames x).foldl (fun t f => sdoSend k f t)
      (setSdo k (some { x with phase := .blockUp, seq := (blockFrames x).length, last := decide (x.data.length ≤ x.pos + 7 * (blockFrames x).length) }) s)))) ∧
  (∀ (k : Fin 4) (d : List Byte) (x : Sdo) (s : State), s.sdoServes k = true → s.mutedPartner 1 (s.sdoPartner k) = false → d.length = 8 →
    s.sdo k = some x → x.phase = .blockUp → ccs d = 5 → byteAt d 0 % 4 = 2 → 1 ≤ byteAt d 2 → byteAt d 2 ≤ 127 →
    (x.last = true → byteAt d 1 = x.seq → exec (.sdoBlockUploadAck k x.client d) s = .next (finish s (sdoSend k
      (sdoBytes (0xC1 + 4 * (x.pos + 7 * x.seq - x.data.length)) (leBytes 2 (if x.crc then crc16 x.data else 0)))
      (setSdo k (some { x with pos := x.pos + 7 * x.seq, blk := byteAt d 2, phase := .blockUpEnd }) s)))) ∧
    (x.last = false ∧ byteAt d 1 ≤ x.seq ∨ byteAt d 1 < x.seq → exec (.sdoBlockUploadAck k x.client d) s =
      .next (finish s (blockSend k { x with pos := x.pos + 7 * byteAt d 1, blk := byteAt d 2 } s)))) ∧
  (∀ (k : Fin 4) (d : List Byte) (x : Sdo) (s : State), s.sdoServes k = true → s.mutedPartner 1 (s.sdoPartner k) = false → d.length = 8 →
    s.sdo k = some x → x.phase = .blockUpEnd → byteAt d 0 = 0xA1 →
    exec (.sdoBlockUploadEnd k x.client d) s = .next (finish s (setSdo k none s)))) ∧
  ((∀ (k : Fin 4) (x : Sdo) (s : State), s.sdoServes k = true → s.sdo k = some x →
    ∃ t, exec (.sdoAbortReceived k x.client) s = .next t ∧ t.sdo k = none ∧ sends s t [] ∧ t.od = s.od ∧ regsSame s t ∧ memSame s t) ∧
  (∀ (k : Fin 4) (x : Sdo) (s : State), s.sdo k = some x → (∀ a b, x.phase ≠ .answer a b) →
    exec (.sdoProtocolTimeout k) s = .next (finish s (sdoSend k (sdoFrame 0x80 x.index x.sub [0x00, 0x00, 0x04, 0x05])
      (setSdo k none (s.objAborted (.sdo k) x.index x.sub 0x05040000))))) ∧
  (∀ (k : Fin 4) (client : Nat) (d : List Byte) (x : Sdo) (s : State) (c : Instr), s.sdoServes k = true → s.mutedPartner 1 (s.sdoPartner k) = false →
    d.length = 8 → s.sdo k = some x → x.client ≠ client →
    c ∈ [.sdoDownloadInitiate k client d, .sdoUploadInitiate k client d, .sdoBlockDownloadInitiate k client d, .sdoBlockUploadInitiate k client d] →
    exec c s = .next (finish s (sdoSend k (sdoFrame 0x80 (frameIndex d) (frameSub d) [0x23, 0x00, 0x0A, 0x06])
      (s.objAborted (.sdo k) (frameIndex d) (frameSub d) 0x060A0023)))))

/-- PDOs (R49, R53, R55, R57), in a node that is operational on a channel that runs. An RPDO of its mapped length from a partner that is not muted is
written at once, sub-entry by sub-entry, where its type is event-driven, and waits for the next SYNC where it is synchronous; one of another length
writes nothing, counts as a violation and is reported by EMCY 0x8210. The event timer of an event-driven TPDO that is valid sends it unless its
inhibit time runs, and then the TPDO is due when that time ends; the end of the inhibit time sends a TPDO that is due. A SYNC applies the waiting
RPDOs first and then samples the TPDOs one by one. A node that produces SYNC without a counter sends the SYNC object; what an operational node does at
a received SYNC follows, in a node that is not operational nothing follows. Where the rules leave a point open, the clause follows the model's choice
in log entries 18 and 20. -/
def Obligations.PdosAreExchanged : Prop :=
  (∀ (n : Fin 64) (d : List Byte) (s : State), s.coOn = true → s.nmt = .operational → cobOn (s.odVal (0x1400 + n) 1) = true →
    s.odVal (0x1600 + n) 0 ≠ 0 → s.mutedPartner 1 (s.rpdoPartner n) = false →
    (d.length = s.mappedBytes (0x1600 + n) (s.odVal (0x1600 + n) 0) →
      (240 < s.odVal (0x1400 + n) 2 → exec (.rpdoReceived n d) s = .next (finish s (rpdoApply n d s))) ∧
      (s.odVal (0x1400 + n) 2 ≤ 240 →
        exec (.rpdoReceived n d) s = .next (finish s { s with dict := { s.dict with rpdo := tabSet none s.dict.rpdo n (some d) } }))) ∧
    (d.length ≠ s.mappedBytes (0x1600 + n) (s.odVal (0x1600 + n) 0) →
      exec (.rpdoReceived n d) s = .next (finish s ((s.violation 1 2 (s.rpdoPartner n)).emcyObj 0x8210 2 (0x1600 + n) 0)))) ∧
  (∀ (n : Fin 64) (s : State), s.tpdoPar n 5 ≠ 0 → s.tpdoOn n = true → 254 ≤ s.tpdoPar n 2 →
    ((s.tp n).inhibit = false → exec (.tpdoEventTimerExpiry n) s = .next (finish s (tpdoSend n s))) ∧
    ((s.tp n).inhibit = true → exec (.tpdoEventTimerExpiry n) s = .next (finish s (setTp n { s.tp n with due := true } s)))) ∧
  (∀ (n : Fin 64) (s : State), (s.tp n).due = false →
    exec (.tpdoInhibitTimeExpiry n) s = .next (finish s (setTp n { s.tp n with inhibit := false } s))) ∧
  (∀ (n : Fin 64) (s : State), (s.tp n).due = true → s.tpdoOn n = true → 254 ≤ s.tpdoPar n 2 →
    exec (.tpdoInhibitTimeExpiry n) s = .next (finish s (tpdoSend n (setTp n { s.tp n with inhibit := false } s)))) ∧
  (∀ (counter : Option Nat) (s : State), s.coOn = true → s.nmt = .operational →
    exec (.syncReceived counter) s = .next (finish s ((List.range 64).foldl (tpdoSync counter) (rpdosApply s)))) ∧
  (∀ (s u : State), s.coOn = true → s.nmt ≠ .stopped → bitOf (s.odVal 0x1005 0) 30 = true → s.odVal 0x1006 0 ≠ 0 → s.odVal 0x1019 0 = 0 →
    u = coSend (s.odVal 0x1005 0) [] s →
    (s.nmt = .preOperational → exec .syncProduce s = .next (finish s u)) ∧
    (s.nmt = .operational → exec .syncProduce s = .next (finish s ((List.range 64).foldl (tpdoSync none) (rpdosApply u)))))

/-- TIME, the EMCY inhibit time and heartbeats (R48, R56, R57, R535), on a channel that runs. In a node that is not stopped and consumes TIME, a TIME
object gives the coarse time of a follower as the seconds since 1970 of its days since 1984 and its milliseconds; a grandmaster that produces TIME
sends UTC in that form. The end of the inhibit time lets the one waiting EMCY out, unless the node is stopped. A heartbeat carries the NMT state. A
consumed node that is late and not yet recorded is recorded, with EMCY 0x8130 naming the node, and its next heartbeat clears the record and changes no
register and no byte of memory. PRESUMED layout of TIME_OF_DAY: CiA 301 (assumption 20). The NMT services (R49, R50, R71), for a command that names
this node or all, on a channel that runs, from a partner that is not muted. The node takes the state commanded; with stop and pre-operational nothing
waits of PDOs any more, and stopping ends every SDO transfer. After reset communication the values of 0x1000 to 0x1FFF and 0x2002 are the stored ones,
after reset node every other object too; the boot-up message is sent and the node is pre-operational. A command that names another node changes
nothing. Where the rules leave a point open, the clause follows the model's choice in log entries 18 and 51. -/
def Obligations.CommunicationServices : Prop :=
  ((∀ (d : List Byte) (s : State), s.coOn = true → s.nmt ≠ .stopped → bitOf (s.odVal 0x1012 0) 31 = true → d.length = 6 →
    exec (.timeReceived d) s = .next (finish s { s with alm := { s.alm with
      timeObject := some (441763200 + leNat (d.drop 4) * 86400 + leNat (d.take 4) % 2 ^ 28 / 1000) } })) ∧
  (∀ (s : State), s.coOn = true → s.nmt ≠ .stopped → bitOf (s.odVal 0x1012 0) 30 = true → s.isGrandmaster = true →
    exec .timeProduce s = .next (finish s (coSend (s.odVal 0x1012 0)
      (leBytes 4 (((s.alm.sec : Int) - s.utcOffset - 441763200).toNat % 86400 * 1000 + s.alm.ns / 1000000) ++
        leBytes 2 (((s.alm.sec : Int) - s.utcOffset - 441763200).toNat / 86400)) s))) ∧
  (∀ (e : Emcy) (s : State), s.emcyWait = [e] → s.nmt ≠ .stopped →
    exec .emcyInhibitExpiry s = .next (finish s ({ s with emcyInhibit := false, emcyWait := [] }.emcyOut e))) ∧
  (∀ (s : State), s.coOn = true → s.odVal 0x1017 0 ≠ 0 →
    exec .heartbeatProduce s = .next (finish s (coSend (0x700 + s.nodeId) [byte s.nmt.code] s))) ∧
  (∀ (k : Fin 8) (s : State), s.coOn = true → (s.consumed k).2 ≠ 0 → tabGet false s.hbLost (k + 1) = false →
    exec (.heartbeatConsumerTimeout k) s =
      .next (finish s ({ s with hbLost := tabSet false s.hbLost (k + 1) true }.emcyObj 0x8130 0 (s.consumed k).1 0))) ∧
  (∀ (node : Nat) (k : Fin 8) (s : State), s.coOn = true → (s.consumed k).1 = node → (s.consumed k).2 ≠ 0 →
    ∃ t, exec (.heartbeatReceived node) s = .next t ∧ tabGet false t.hbLost (k + 1) = false ∧ regsSame s t ∧ memSame s t)) ∧
  ((∀ (node : Nat) (s : State), s.nmtTakes node = true → ∃ t, exec (.nmtStart node) s = .next t ∧ t.nmt = .operational) ∧
  (∀ (node : Nat) (s : State), s.nmtTakes node = true →
    ∃ t, exec (.nmtStop node) s = .next t ∧ t.nmt = .stopped ∧ (∀ k, t.sdo k = none) ∧ t.dict.tpdo = [] ∧ t.dict.rpdo = []) ∧
  (∀ (node : Nat) (s : State), s.nmtTakes node = true →
    ∃ t, exec (.nmtEnterPreOperational node) s = .next t ∧ t.nmt = .preOperational ∧ t.dict.tpdo = [] ∧ t.dict.rpdo = []) ∧
  (∀ (node : Nat) (s u : State), s.nmtTakes node = true → u = comRestore (dictDrop s) →
    ∃ t, exec (.nmtResetCommunication node) s = .next (finish s t) ∧ t = nmtTo .preOperational (coSend (0x700 + u.nodeId) [0] u) ∧
      t.nmt = .preOperational ∧ (finish s t).nmt = .preOperational) ∧
  (∀ (node : Nat) (s u : State), s.nmtTakes node = true → u = nodeRestore (comRestore (dictDrop s)) →
    ∃ t, exec (.nmtResetNode node) s = .next (finish s t) ∧ t = nmtTo .preOperational (coSend (0x700 + u.nodeId) [0] u) ∧
      t.nmt = .preOperational ∧ (finish s t).nmt = .preOperational) ∧
  (∀ (node : Nat) (s : State) (c : Instr), node ≠ 0 → node ≠ s.nodeId → c ∈ [.nmtStart node, .nmtStop node, .nmtEnterPreOperational node,
    .nmtResetCommunication node, .nmtResetNode node] → exec c s = .next (finish s s)))

/-- The object access protocol (R58, R60 to R64), for a message that the interface listens to, from a partner that is not muted, whose fields are as
R59 says. An OPEN on the switch with the right TAG under an access key that is set takes the first free session and answers with its number. In a
session, a request with the right TAG and the next sequence number: a CLOSE on the switch ends the session and is not answered; a READ whose object
answers at once is executed and answered, and the answer is stored with the session; a WRITE of a whole value to an entry that takes it, other than
the service port's image, is executed, and answered and stored where the object answers at once. A repetition of the last READ gets the stored answer
again and runs nothing; a WRITE out of turn is answered with NAK 2, and one with a wrong TAG with NAK 1, each after a violation is counted. The idle
timeout ends a session of the switch with no answer outstanding. Where the rules leave a point open, the clause follows the model's choice in log
entries 15 and 16. -/
def Obligations.Sessions : Prop :=
  (∀ (m : ObjMsg) (k : Nat) (s : State), s.listens m = true → s.mutedPartner (msgIface m) (msgWho m) = false → formatCode 1 m = 0 →
    m.service = false → (s.accessKey false).all (· == 0) = false → m.tag = tagOf (s.accessKey false) (msgBytes m) →
    (sessNums false).find? (fun k => (s.sess k).isNone) = some k →
    ∃ t x n, exec (.sessionOpen m) s = .next t ∧ t.sess k = some x ∧ x.id = s.newSession ∧ x.who = m.who ∧ x.last = 0 ∧
      sends s t [.objMessage false m.who { msgReply m 2 n with session := s.newSession }
        (tagOf (s.accessKey false) (replyBytes { msgReply m 2 n with session := s.newSession }))] ∧ regsSame s t ∧ memSame s t) ∧
  (∀ (m : ObjMsg) (k : Nat) (x y : Sess) (s u : State), s.listens m = true → s.mutedPartner (msgIface m) (msgWho m) = false →
    s.sessOf m = some (k, x) → m.tag = tagOf x.key (msgBytes m) → m.seq = (x.last + 1) % 2 ^ 32 → m.seq ≠ x.last →
    y = { x with last := m.seq, stored := none, who := m.who } → u = setSess k (some y) s →
    (formatCode 3 m = 0 → k < 3 → exec (.sessionClose m) s = .next (finish s (setSess k none u))) ∧
    (∀ a : ObjAnswer, formatCode 0x10 m = 0 → objAnswer (sessPath k) m.index m.sub u (objRead (sessPath k) m.index m.sub u) = some a →
      exec (.sessionRead m) s = .next (finish s (sessReply k
        (accessReply m.session m.seq m.index m.sub m.offset m.length a (objRead (sessPath k) m.index m.sub u)) (objRead (sessPath k) m.index m.sub u)))) ∧
    (∀ v : State, formatCode 0x20 m = 0 → m.flags = 1 → m.offset = 0 → y.part = none → ¬ (k = 3 ∧ m.index = 0x4D00 ∧ m.sub = 2) →
      downloadCode (sessPath k) m.index m.sub none u = 0 → (∀ n, u.entrySize m.index m.sub = some n → (m.data.take m.length).length ≤ n) → k < 4 →
      v = setSess k (some { y with dead := false }) u →
      exec (.sessionWrite m) s = .next (finish s (sessSettle k m 0
        (objAnswer (sessPath k) m.index m.sub v (objWrite (sessPath k) m.index m.sub (u.swapped m.index m.sub (m.data.take m.length)) v))
        (objWrite (sessPath k) m.index m.sub (u.swapped m.index m.sub (m.data.take m.length)) v))))) ∧
  (∀ (k : Nat) (r : ObjReply) (x : Sess) (s : State), s.sess k = some x → r.seq = x.last →
    sessReply k r s = replySend (k == 3) x.who x.key r (setSess k (some { x with stored := some r }) s)) ∧
  (∀ (m : ObjMsg) (k : Nat) (x : Sess) (r : ObjReply) (s : State), s.listens m = true → s.mutedPartner (msgIface m) (msgWho m) = false →
    formatCode 0x10 m = 0 → s.sessOf m = some (k, x) → m.tag = tagOf x.key (msgBytes m) → m.seq = x.last → x.stored = some r →
    exec (.sessionRead m) s = .next (finish s (s.emit (.objMessage m.service m.who r (tagOf x.key (replyBytes r)))))) ∧
  (∀ (m : ObjMsg) (k : Nat) (x : Sess) (s : State), s.listens m = true → s.mutedPartner (msgIface m) (msgWho m) = false →
    formatCode 0x20 m = 0 → s.sessOf m = some (k, x) →
    (m.tag = tagOf x.key (msgBytes m) → m.seq ≠ x.last → m.seq ≠ (x.last + 1) % 2 ^ 32 →
      exec (.sessionWrite m) s = .next (finish s (nak m 2 (msgViolation m 7 s)))) ∧
    (m.tag ≠ tagOf x.key (msgBytes m) → exec (.sessionWrite m) s = .next (finish s (nak m 1 (msgViolation m 6 s))))) ∧
  (∀ (k : Fin 4) (x : Sess) (s : State), k ≠ 3 → s.sess k = some x → x.wait = [] →
    exec (.sessionIdleTimeout k) s = .next (finish s (setSess k none s)))

/-- The application range (R72). A declaration of one entry that may stand adds it and is answered; one that may not stand is answered and changes
nothing. The answer of application firmware to the one access outstanding of an SDO transfer goes to its client: the value read, the end of the
download, or the abort that the answer names; an access that is not answered in time ends with abort 0x0800_0000. Where the rules leave a point open,
the clause follows the model's choice in log entry 17. -/
def Obligations.ApplicationRange : Prop :=
  (∀ (a : AppDecl) (s : State), s.dom.core = true → isApp a.index = true → a.sub < 256 → s.appEntry a.index a.sub = none →
    ∃ t, exec (.appObjectDeclare [a]) s = .next t ∧ sends s t [.appDeclared true] ∧ regsSame s t ∧ memSame s t ∧
      t.appEntry a.index a.sub = some { numeric := a.numeric, size := a.size, acc := a.acc, dflt := a.dflt }) ∧
  (∀ (l : List AppDecl) (s : State), s.dom.core = true → declareOk l s = false →
    exec (.appObjectDeclare l) s = .next (finish s (s.emit (.appDeclared false)))) ∧
  (∀ (k : Fin 4) (v : List Byte) (code : Nat) (a : AppAccess) (x : Sdo) (b : Bool) (s u : State), s.appDue (.sdo k) = [a] → s.sdo k = some x →
    u = setAppDue (.sdo k) [] s →
    (a.data = none → x.phase = .answer true b → exec (.appObjectAnswer (.sdo k) v 0) s =
      .next (finish s (uploadValue k x b v (u.objValue (.sdo k) a.index a.sub v)))) ∧
    (∀ d, a.data = some d → x.phase = .answer false b → exec (.appObjectAnswer (.sdo k) v 0) s =
      .next (finish s (sdoSend k (doneFrame x b) (setSdo k none (u.emit (.objWritten (.sdo k) a.index a.sub .accepted)))))) ∧
    (code ≠ 0 → x.phase = .answer true b → exec (.appObjectAnswer (.sdo k) v code) s =
      .next (finish s (sdoAbortFrame k x.index x.sub code (setSdo k none (u.objAborted (.sdo k) a.index a.sub code))))) ∧
    (x.phase = .answer true b → exec (.appObjectTimeout (.sdo k)) s =
      .next (finish s (sdoAbortFrame k x.index x.sub 0x08000000 (setSdo k none (u.objAborted (.sdo k) a.index a.sub 0x08000000))))))

/-- Supply bands and domain starts (R90, R91, R93, R98, R99). While the Switch domain is on, a fitted feed enters a band: its channels follow
(feedBandChannels), and in a dark band so do the valves that it feeds; an absent feed has no band. The module supply enters a band: outside Full the
valves' boosts stop; in Hold, Reduced, Full and Overvoltage the Core domain comes back where the power state has it on; in Off the main regulator
takes Core, Comms and Field with it, and below 6 V the Switch domain goes too. While the Switch domain is off, the Keep domain goes where the band is
below 6 V and KEEP_IN is too, and else nothing happens. A change of the lost ground studs makes every fitted channel follow, and with both lost every
valve. A domain that is off starts: the Switch domain in RUN with the Almanac going on from the RTC; the Keep domain in state RUN with no phase, every
other register as it was; Comms and Field with the main regulator, and their configuration by base firmware. One that is on stays as it is. Where the
rules leave a point open, the clause follows the model's choice in log entries 2, 34 and 49. -/
def Obligations.SupplyAndDomains : Prop :=
  (∀ (k : Fin 4) (b : Fin 6) (s : State), s.dom.switch = true →
    (feedFitted s.variant k = true →
      exec (.feedBandChange k b) s = .next (finish s
        (if (bandOf b).dark then valvesBand k (feedBandChannels k (bandOf b) s) else feedBandChannels k (bandOf b) s))) ∧
    (feedFitted s.variant k = false → exec (.feedBandChange k b) s = .next (finish s s))) ∧
  (∀ (b : Fin 6) (keep : Bool) (s u : State), s.dom.switch = true → u = ({ s with supply := { s.supply with module := bandOf b } } : State) →
    ((b : Nat) = 4 → exec (.moduleSupplyBandChange b keep) s = .next (finish s (coreReturns u))) ∧
    ((b : Nat) = 2 ∨ (b : Nat) = 3 ∨ (b : Nat) = 5 → exec (.moduleSupplyBandChange b keep) s = .next (finish s (coreReturns (boostOff u)))) ∧
    ((b : Nat) = 1 → ∃ t, exec (.moduleSupplyBandChange b keep) s = .next (finish s t) ∧ t = regulatorOff (boostOff u) ∧
      t.dom.core = false ∧ t.dom.comms = false ∧ t.dom.field = false) ∧
    ((b : Nat) = 0 → ∃ t, exec (.moduleSupplyBandChange b keep) s = .next (finish s t) ∧ t = switchSupplyGone keep (regulatorOff (boostOff u)) ∧
      t.dom.core = false ∧ t.dom.comms = false ∧ t.dom.field = false ∧ t.dom.switch = false)) ∧
  (∀ (b : Fin 6) (keep : Bool) (s : State), s.dom.switch = false →
    (keep = true ∨ (b : Nat) ≠ 0 → exec (.moduleSupplyBandChange b keep) s = .next (finish s s)) ∧
    (keep = false → (b : Nat) = 0 → exec (.moduleSupplyBandChange b keep) s = .next (finish s (keepOff s)))) ∧
  (∀ (lost : Fin 3) (s u v : State), u = ({ s with supply := { s.supply with studsLost := lost } } : State) →
    v = (u.chansWhere fun _ => true).foldl (fun t n => bandChannel n t) u →
    exec (.groundStudLoss lost) s = .next (finish s (if (lost : Nat) = 2 then (List.range 4).foldl (fun t k => valvesBand k t) v else v))) ∧
  (∀ s : State, s.dom.switch = false → s.dom.keep = true →
    (s.pwrPhase ≠ 5 → s.pwrState ≠ 3 → exec .switchDomainStart s =
      .next (finish s (almResume ({ switchStart (runState s) with pwr := { (switchStart (runState s)).pwr with pll := true } } : State)))) ∧
    (s.pwrPhase = 5 → exec .switchDomainStart s = .next (finish s (switchStart (dormantOver s))))) ∧
  (∀ s : State, s.dom.keep = false → ∃ t, exec .keepDomainStart s = .next t ∧ t.dom.keep = true ∧ t.getF F.PWR_STAT_STATE 0 = 0 ∧
    t.getF F.PWR_STAT_PHASE 0 = 0 ∧ regsBut s t [(.PWR_STAT, 0)] ∧ memSame s t ∧ sends s t []) ∧
  (∀ s : State, s.dom.comms = false → s.regulated = true → exec .commsDomainStart s = .next (finish s (firmwareConfigure true false (commsOn s)))) ∧
  (∀ (pins : Nat) (s : State), s.dom.field = false → s.regulated = true →
    exec (.fieldDomainStart pins) s = .next (finish s (firmwareConfigure false true (fieldStart pins s)))) ∧
  (∀ (pins : Nat) (s : State) (c : Instr), (c = .switchDomainStart ∧ s.dom.switch = true) ∨ (c = .keepDomainStart ∧ s.dom.keep = true) ∨
    (c = .commsDomainStart ∧ s.dom.comms = true) ∨ (c = .fieldDomainStart pins ∧ s.dom.field = true) → exec c s = .next (finish s s))

/-- The tick of the Almanac (R117, R118, R127, R132, R134, R141, R143), while it runs. A tick adds the rate addend to NS and its fraction; at
1,000,000,000 that much is taken from NS and SEC counts; the wrap count is that of full time. At the TAI second that begins the next UTC day LEAP61
raises the UTC offset by one and clears, and LEAP59 lowers it by one and clears; a load of the RTC that is due happens at a whole second. With time
goes what the last cycle left to be done (timeOn), and where it left nothing, nothing. A step that is due gives SEC and NS the new value in the tick,
counts EPOCH, and marks what the queues hold. The Almanac's registers (R120, R121, R123, R127, R128, R132). A read of ALM_SEC_LO or ALM_SHORT latches,
for the master that reads, the rest of the time of its tick, and changes nothing else. The addend is software's in role FREE, within its range; else
the write is refused and REFUSED is set. A write of ALM_CTRL is refused whole with REFUSED set, or gives ROLE, CANCH and CANSYNC_TX, and an accepted
STEP is due at the next tick. Where the rules leave a point open, the clause follows the model's choice in log entries 4, 9 and 21. -/
def Obligations.AlmanacTime : Prop :=
  ((∀ s : State, s.almRuns = true → (s.alm.ns * 2 ^ 32 + s.alm.frac + s.alm.addend) / 2 ^ 32 < 1000000000 →
    exec .almanacTick s = .next (finish s (timeOn { s with up := s.up + 8, alm := { s.alm with
      ns := (s.alm.ns * 2 ^ 32 + s.alm.frac + s.alm.addend) / 2 ^ 32, frac := (s.alm.ns * 2 ^ 32 + s.alm.frac + s.alm.addend) % 2 ^ 32 } }))) ∧
  (∀ s : State, s.alm.servoDue = none → s.alm.stepDue = none → s.cyc = {} → (∀ p ∈ s.liveEntries, p.2.ended = false) → timeOn s = s) ∧
  (∀ (s : State) (c : Instr), c = .almanacTick ∨ c = .nsRollover → s.almRuns = true → s.alm.servoDue = none → s.alm.stepDue = none → s.cyc = {} →
    1000000000 ≤ (s.alm.ns * 2 ^ 32 + s.alm.frac + s.alm.addend) / 2 ^ 32 → ∃ t, exec c s = .next t ∧
      t.alm.sec = s.alm.sec + 1 ∧ t.alm.ns = (s.alm.ns * 2 ^ 32 + s.alm.frac + s.alm.addend) / 2 ^ 32 - 1000000000 ∧
      t.alm.frac = (s.alm.ns * 2 ^ 32 + s.alm.frac + s.alm.addend) % 2 ^ 32 ∧ t.up = s.up + 8 ∧ regsBut s t [(.ALM_UTC, 0)] ∧ memSame s t ∧ sends s t [] ∧
      (s.flag F.ALM_UTC_LEAP61 0 = true → (((s.alm.sec + 1 : Nat) : Int) - (s.utcOffset + 1)) % 86400 = 0 →
        t.getF F.ALM_UTC_UTC_OFFSET 0 = codeOf 16 (s.utcOffset + 1) % 2 ^ 16 ∧ t.flag F.ALM_UTC_LEAP61 0 = false) ∧
      (s.flag F.ALM_UTC_LEAP61 0 = false → s.flag F.ALM_UTC_LEAP59 0 = true → (((s.alm.sec + 1 : Nat) : Int) - (s.utcOffset - 1)) % 86400 = 0 →
        t.getF F.ALM_UTC_UTC_OFFSET 0 = codeOf 16 (s.utcOffset - 1) % 2 ^ 16 ∧ t.flag F.ALM_UTC_LEAP59 0 = false) ∧
      (s.flag F.ALM_UTC_LEAP61 0 = false → s.flag F.ALM_UTC_LEAP59 0 = false → t.rd .ALM_UTC 0 = s.rd .ALM_UTC 0) ∧
      (s.alm.rtcLoad = true → t.alm.rtcSec = s.alm.sec + 1 ∧ t.alm.rtcSub = 0 ∧ t.alm.rtcAt = t.up ∧ t.alm.rtcLoad = false)) ∧
  (∀ s : State, s.almRuns = true → s.alm.stepDue = none → (tick s).wrap ≠ s.wrap → ∃ t, exec .shortTimeWrap s = .next t ∧ t.wrap = (tick s).wrap ∧
    t.total = (tick s).total ∧ t.up = s.up + 8) ∧
  (∀ (sec ns : Nat) (s : State), s.alm.stepDue = some (sec, ns) →
    exec .almanacStep s = .next (finish s (({ s with alm := { s.alm with sec := sec, ns := ns, frac := 0, stepDue := none } } : State).setF
      F.ALM_STATUS_EPOCH 0 (s.getF F.ALM_STATUS_EPOCH 0 + 1)).ageQueues) ∧
    (s.almRuns = true → ∃ t, exec .almanacTick s = .next t ∧ t.alm.sec = sec ∧ t.alm.ns = ns ∧ t.alm.stepDue = none ∧
      t.getF F.ALM_STATUS_EPOCH 0 = (s.getF F.ALM_STATUS_EPOCH 0 + 1) % 2 ^ F.ALM_STATUS_EPOCH.wd))) ∧
  ((∀ (m : Master) (s : State), ∃ t, exec (.almSecLoRead m) s = .next t ∧ t.rd .ALM_SEC_HI (bk m 0) = word (s.alm.sec / 2 ^ 32 % 65536) ∧
    t.rd .ALM_NS (bk m 0) = word s.alm.ns ∧ t.rd .ALM_SHORT_LAT (bk m 0) = word s.short ∧ t.rd .ALM_WRAP (bk m 0) = word s.wrap ∧
    sends s t [.value m 0x402 (word s.alm.sec)] ∧ memSame s t ∧
    regsBut s t [(.ALM_SEC_HI, bk m 0), (.ALM_NS, bk m 0), (.ALM_SHORT_LAT, bk m 0), (.ALM_WRAP, bk m 0)]) ∧
  (∀ (m : Master) (s : State), ∃ t, exec (.almShortRead m) s = .next t ∧ t.rd .ALM_WRAP (bk m 0) = word s.wrap ∧
    sends s t [.value m 0x405 (word s.short)] ∧ memSame s t ∧ regsBut s t [(.ALM_WRAP, bk m 0)]) ∧
  (∀ (m : Master) (v : Word) (a : Nat) (s : State), a = F.ALM_ADDEND_HI_INT.of v * 2 ^ 32 + (s.rd .ALM_ADDEND_LO 0).toNat →
    (0x07FEF9DB23 ≤ a → a ≤ 0x08010624DD → s.role = 0 →
      exec (.almAddendWrite m v) s = .next (finish s (({ s with alm := { s.alm with addend := a } } : State).emit (.written m 0x409 .accepted)))) ∧
    (0x07FEF9DB23 ≤ a → a ≤ 0x08010624DD → s.role ≠ 0 →
      exec (.almAddendWrite m v) s = .next (finish s ((s.setB F.ALM_STATUS_REFUSED 0 true).emit (.written m 0x409 .state)))) ∧
    (a < 0x07FEF9DB23 ∨ 0x08010624DD < a →
      exec (.almAddendWrite m v) s = .next (finish s ((s.setB F.ALM_STATUS_REFUSED 0 true).emit (.written m 0x409 .invalid))))) ∧
  (∀ (m : Master) (v : Word) (s : State), ctrlCheck v s ≠ .accepted →
    exec (.almRole m v) s = .next (finish s ((s.setB F.ALM_STATUS_REFUSED 0 true).emit (.written m 0x400 (ctrlCheck v s))))) ∧
  (∀ (m : Master) (v : Word) (s u : State), ctrlCheck v s = .accepted →
    u = (claimMove s ((roleSet (F.ALM_CTRL_ROLE.of v) s).setF F.ALM_CTRL_CANCH 0 (F.ALM_CTRL_CANCH.of v))).setB F.ALM_CTRL_CANSYNC_TX 0
      (F.ALM_CTRL_CANSYNC_TX.on v) →
    (F.ALM_CTRL_STEP.on v = false → exec (.almRole m v) s = .next (finish s (u.emit (.written m 0x400 .accepted)))) ∧
    (F.ALM_CTRL_STEP.on v = true → exec (.almStepWrite m v) s = .next (finish s (({ u with alm := { u.alm with
      stepDue := some ((u.rd .ALM_SET_SEC_LO 0).toNat + u.getF F.ALM_SET_SEC_HI_SET_SEC_HI 0 * 2 ^ 32, u.getF F.ALM_SET_NS_SET_NS 0) } } : State).emit
        (.written m 0x400 .accepted))))))

/-- PPS, the time message, the servo and the RTC (R129, R135, R136, R143, R145), while the Almanac runs. An edge is stamped at the pin, less the
synchronizer and the front end; within 1 s ± 1 ms of the previous accepted one it is accepted: ALM_PPS_STAMP takes the stamp, PPS_OK is set, a waiting
message committed 10 ms to 990 ms before it names its second and is used up, and without a message the second is one more than the last one's; where
the module takes PPS as its source (role GM, not deferred) the offset goes to the servo, and the message gives the UTC data. Any other edge, outside
ACQUIRE, counts as ignored. 3 s without an edge clear PPS_OK; three intervals without a measurement bring HOLDOVER at the mean addend. In role GM a
time message committed waits for its edge, and one that waited already is discarded and counted; in another role the commit is refused with STATE; a
message whose window has passed is discarded and counted. While TIME_VALID is set the RTC is to be loaded at the next whole second, and while LOCKED
its TRIM is corrected (a free value within ± 2000). Where the rules leave a point open, the clause follows the model's choice in log entries 12, 21
and 50. -/
def Obligations.AlmanacSources : Prop :=
  (∀ (p t : Nat) (s u : State), s.almRuns = true → t = ppsStamp s → s.alm.lastPps = some p → p + 999000000 ≤ t → t ≤ p + 1001000000 →
    (s.alm.message = none → u = (({ s with alm := { s.alm with ppsAt := some s.up, lastPps := some t, ppsSecond := s.alm.ppsSecond.map (· + 1) } } : State).wr
        .ALM_PPS_STAMP 0 (word t)).setB F.ALM_STATUS_PPS_OK 0 true →
      (s.servoRole ≠ 1 → exec .ppsEdge s = .next (finish s u)) ∧
      (∀ n, s.servoRole = 1 → s.alm.ppsSecond = some n → exec .ppsEdge s = .next (finish s (servoMeasure (((n + 1) * 1000000000 : Nat) - (t : Int)) u)))) ∧
    (∀ m : TimeMessage, s.alm.message = some m → m.commit + 10000000 ≤ t → t ≤ m.commit + 990000000 → s.servoRole = 1 → t ≤ s.total →
      u = (({ utcSet m.utc s with alm := { s.alm with ppsAt := some s.up, message := none, lastPps := some t, ppsSecond := some m.second } } : State).wr
        .ALM_PPS_STAMP 0 (word t)).setB F.ALM_STATUS_PPS_OK 0 true →
      exec .ppsEdge s = .next (finish s (servoMeasure ((m.second * 1000000000 : Nat) - (t : Int)) u)))) ∧
  (∀ s : State, s.almRuns = true → (∀ p, s.alm.lastPps = some p → ppsStamp s < p + 999000000 ∨ p + 1001000000 < ppsStamp s) → s.servo ≠ 1 →
    (∀ m, s.alm.message = some m → m.commit ≠ s.total) →
    exec .ppsEdge s = .next (finish s ({ s with alm := { s.alm with ppsAt := some s.up, ppsIgnored := s.alm.ppsIgnored + 1 } } : State))) ∧
  (∀ s : State, exec .ppsOkTimeout s = .next (finish s (s.setB F.ALM_STATUS_PPS_OK 0 false))) ∧
  (∀ s : State, s.servo = 1 ∨ s.servo = 2 → ∃ t, exec .servoHoldoverTimeout s = .next t ∧ t.servo = 3 ∧ t.alm.addend = meanAddend s ∧
    t.alm.holdSince = s.up ∧ t.alm.addends = s.alm.addends ∧ sends s t [] ∧ memSame s t ∧ regsBut s t [(.ALM_STATUS, 0)]) ∧
  (∀ (p : DPath) (sec : Nat) (s : State),
    (s.role = 1 → exec (.timeMessageCommit p sec) s = .next (finish s (({ s with alm := { s.alm with
      discarded := if s.alm.message = none then s.alm.discarded else s.alm.discarded + 1,
      message := some { second := sec % 2 ^ 48, utc := s.alm.utcStaged, commit := s.total, atEdge := s.alm.ppsAt == some s.up } } } : State).objDone
        p 0x2200 0x0A .accepted))) ∧
    (s.role ≠ 1 → exec (.timeMessageCommit p sec) s = .next (finish s (s.objDone p 0x2200 0x0A .state)))) ∧
  (∀ (m : TimeMessage) (s : State), s.alm.message = some m → exec .timeMessageDiscard s =
    .next (finish s ({ s with alm := { s.alm with message := none, discarded := s.alm.discarded + 1 } } : State))) ∧
  (∀ s : State, s.flag F.ALM_STATUS_TIME_VALID 0 = true → s.servo ≠ 2 →
    exec .rtcAlign s = .next (finish s ({ s with alm := { s.alm with rtcLoad := true } } : State))) ∧
  (∀ s : State, s.flag F.ALM_STATUS_TIME_VALID 0 = true → s.servo = 2 → ∃ t, exec .rtcAlign s = .next t ∧ t.alm.rtcLoad = true ∧
    t.getF F.NET_RTC_TRIM_TRIM 0 = codeOf 16 (clampInt (-2000) 2000 (Config.rtcTrim s.fresh)) % 2 ^ 16 ∧ regsBut s t [(.NET_RTC_TRIM, 0)])

/-- CAN time sync (R139, R140, R149, R152). At the end of a sync period a waiting ALM_CANSYNC comes into force, and the producer, on a channel that
runs and sends, sends a TSYNC with its servo and UTC flags; then it sends a FUP with the stamp of the TSYNC's start of frame. A follower, whose
partner is not muted, keeps a TSYNC until its FUP: the FUP with the same sequence, within 100 ms and with a reference, gives the time of that start of
frame, with the second taken nearest the reference, and the servo measures; one that comes later, or without a reference, drops the TSYNC; one of
another sequence is a violation, and the TSYNC waits on. After 100 ms without a FUP the TSYNC is dropped. Where the rules leave a point open, the
clause follows the model's choice in log entries 21, 50 and 51. -/
def Obligations.CanSync : Prop :=
  (∀ (d : List Byte) (sof : Nat) (s : State), s.role = 3 → d.length = 8 → byteAt d 0 = 0x10 → syncMuted s = false →
    exec (.tsync d sof) s = .next (finish s ({ s with alm := { s.alm with
      tsync := some { seq := byteAt d 1 / 16, flags := byteAt d 1 % 16, utc := beField d 2 2, sof := sof } } } : State))) ∧
  (∀ (d : List Byte) (w : TsyncWait) (s u : State), s.role = 3 → d.length = 8 → byteAt d 0 = 0x18 → syncMuted s = false → s.alm.tsync = some w →
    u = ({ s with alm := { s.alm with tsync := none } } : State) →
    (byteAt d 1 / 16 ≠ w.seq → exec (.fup d) s = .next (finish s (s.violation 3 0x05 (s.getF F.ALM_CTRL_CANCH 0 * 65536)))) ∧
    (∀ ref, byteAt d 1 / 16 = w.seq → s.total ≤ w.sof + 100000000 → syncReference w s = some ref → exec (.fup d) s = .next (finish s
      (servoMeasure (((nearestSecond (beField d 6 2) ref * 1000000000 + beField d 2 4 % 2 ^ 30 + s.getF F.ALM_CANSYNC_PROP 0 : Nat) : Int) - (w.sof : Int))
        (utcSet (tsyncUtc w) u)))) ∧
    (byteAt d 1 / 16 = w.seq → w.sof + 100000000 < s.total ∨ syncReference w s = none → exec (.fup d) s = .next (finish s u))) ∧
  (∀ s : State, exec .tsyncTimeout s = .next (finish s ({ s with alm := { s.alm with tsync := none } } : State))) ∧
  (∀ s : State, s.heldOf .ALM_CANSYNC 0 = none → s.role = 1 → s.flag F.ALM_CTRL_CANSYNC_TX 0 = true → s.canOn (s.getF F.ALM_CTRL_CANCH 0) = true →
    s.canSends (s.getF F.ALM_CTRL_CANCH 0) = true → ∃ t, exec .canSyncProduce s = .next t ∧
    sends s t [.canFrame (s.getF F.ALM_CTRL_CANCH 0) (s.getF F.ALM_CANSYNC_ID 0) (tsyncData s)] ∧ t.alm.txFup = some s.alm.txSeq ∧
    t.alm.txSeq = (s.alm.txSeq + 1) % 16 ∧ regsSame s t ∧ memSame s t) ∧
  (∀ (w : Word) (s : State), s.heldOf .ALM_CANSYNC 0 = some w → s.role ≠ 1 →
    exec .canSyncProduce s = .next (finish s ((s.unhold .ALM_CANSYNC 0).wr .ALM_CANSYNC 0 w))) ∧
  (∀ (sof q : Nat) (s : State), s.alm.txFup = some q → s.canOn (s.getF F.ALM_CTRL_CANCH 0) = true → s.canSends (s.getF F.ALM_CTRL_CANCH 0) = true →
    ∃ t, exec (.canSyncFupSend sof) s = .next t ∧ t.alm.txFup = none ∧ regsSame s t ∧ memSame s t ∧
    sends s t [.canFrame (s.getF F.ALM_CTRL_CANCH 0) (s.getF F.ALM_CANSYNC_ID 0 + 1)
      ([0x18, byte (q * 16)] ++ (leBytes 4 (sof % 1000000000)).reverse ++ (leBytes 2 (sof / 1000000000)).reverse)])

/-- gPTP (R137, R138, R146 to R148), for partners that are not muted. A Sync that is malformed, of another domain or on a port that is not capable is
a violation. A one-step Sync on the slave port is measured by a follower and forwarded to the other ports; a two-step one is forwarded and waits for
its Follow_Up. The grandmaster sends a Sync on every capable port, and another module none. With no clock selected, an Announce selects its clock, and
a grandmaster defers to a better one and acquires. The module's own Announce leaves on every capable port with its clock's quality, after a clock not
heard for 3 s has been given up. A peer-delay request leaves on a fitted port that is up; an exchange gives the port its delay, makes it capable up to
800 ns, and the sixteenth after link-up is its baseline. Where the rules leave a point open, the clause follows the model's choice in log entries 5,
21 and 50. -/
def Obligations.Gptp : Prop :=
  (∀ (m : PtpSync) (s : State), s.mutedPartner 6 m.port.val = false →
    (ptpBad s m.bad m.domain m.port.val = true → exec (.ptpSync m) s = .next (finish s (s.violation 6 0x0A m.port.val))) ∧
    (ptpBad s m.bad m.domain m.port.val = false → s.slavePort m.port.val = true → m.followUp = false → m.twoStep = false → s.servoRole = 2 →
      exec (.ptpSync m) s = .next (finish s (syncForward m (servoMeasure (syncOffset m s) s).used))) ∧
    (ptpBad s m.bad m.domain m.port.val = false → s.slavePort m.port.val = true → m.followUp = false → m.twoStep = true →
      exec (.ptpSync m) s = .next (finish s ({ s.emits ((s.ptpPortsBut m.port.val).map fun k => .ptpSyncTwo k m.seq) with
        alm := { s.alm with twoStep := some m } } : State)))) ∧
  (∀ s : State,
    (s.isGrandmaster = true → exec .syncTransmit s = .next (finish s (s.emits (s.ptpPorts.map fun k => .ptpSync k s.total 0)))) ∧
    (s.isGrandmaster = false → exec .syncTransmit s = .next (finish s s))) ∧
  (∀ (a : Announce) (s : State), s.mutedPartner 6 a.port.val = false → ptpBad s a.bad a.domain a.port.val = false → s.alm.gm = none →
    (s.role = 0 → exec (.announce a) s = .next (finish s ({ s with alm := { s.alm with gm := some a, gmAt := s.up } } : State))) ∧
    (s.role = 1 → s.flag F.ALM_STATUS_GM_DEFERRED 0 = false → rankBetter (rankOf a) s.ownRank = true → ∃ t, exec (.announce a) s = .next t ∧
      t.alm.gm = some a ∧ t.flag F.ALM_STATUS_GM_DEFERRED 0 = true ∧ t.servo = 1)) ∧
  (∀ s : State,
    (s.alm.gm = none ∨ s.up < s.alm.gmAt + 3000000000 → exec .announceTransmit s = .next (finish s
      (s.emits (s.ptpPorts.map fun k => .ptpAnnounce k s.priority1 s.clockClass s.alm.set.priority2)))) ∧
    (∀ (a : Announce) (u : State), s.alm.gm = some a → s.alm.gmAt + 3000000000 ≤ s.up → u = gmLost s →
      exec .announceTransmit s = .next (finish s (u.emits (u.ptpPorts.map fun k => .ptpAnnounce k u.priority1 u.clockClass u.alm.set.priority2))) ∧
      u.alm.gm = none ∧ (s.role = 1 → u.flag F.ALM_STATUS_GM_DEFERRED 0 = false))) ∧
  (∀ (p : Fin 8) (s : State), ethFitted s.variant p.val = true → (s.ptpPort p.val).linkUp = true →
    exec (.pdelayRequestTransmit p) s = .next (finish s (s.emit (.pdelayReq p.val)))) ∧
  (∀ (p : Fin 8) (delay : Nat) (s : State), ethFitted s.variant p.val = true → (s.ptpPort p.val).linkUp = true → s.heldOf .ALM_PHYCAL p = none →
    ((s.ptpPort p).exchanges = 15 → ∃ t, exec (.peerDelayExchange p delay) s = .next t ∧ (t.ptpPort p).delay = delay ∧ (t.ptpPort p).exchanges = 16 ∧
      (t.ptpPort p).asCapable = decide (delay ≤ 12800) ∧ t.getF F.ALM_PHYCAL_BASE p = delay % 2 ^ F.ALM_PHYCAL_BASE.wd ∧
      t.flag F.ALM_PHYCAL_BASE_VALID p = true ∧ regsBut s t [(.ALM_PHYCAL, p)]) ∧
    ((s.ptpPort p).exchanges < 15 → s.flag F.ALM_PHYCAL_BASE_VALID p = false → exec (.peerDelayExchange p delay) s = .next (finish s
      (s.setPtpPort p { s.ptpPort p with delay := delay, exchanges := (s.ptpPort p).exchanges + 1, asCapable := decide (delay ≤ 12800) })))) ∧
  (∀ (p : Fin 8) (s : State), ethFitted s.variant p.val = false → exec (.pdelayRequestTransmit p) s = .next (finish s s))

/-- Milestones (R132, R159, R160, R162, R165, R166, R170 to R174, R177). A SUBMIT of the request that a master has staged, or that is written to
0x2300:01, is decided after a step that is due, and MST_RESULT carries its code, its entry and its tag; an accepted request takes the lowest free
entry with the instant that it was placed at, which MST_PLACED shows. A CANCEL ends an entry whose next run is not too near, with its record, or lets
that run be the last; one that has ended stays as it is; an unknown tag is answered so. A CANCEL_ALL does so for every live entry. A run of an entry
that has not ended, at or after its instant, carries its items out in order, counts, and ends the entry where it is the last or was cancelled; it
leaves a record where it ends, where each run has one, or where an item was missed. An entry that has ended is free with the next tick. A read of
MST_RESULT answers the master's own; a read of MST_EVTc answers the event and clears NEW. Where the rules leave a point open, the clause follows the
model's choice in log entries 23 and 26. -/
def Obligations.Milestones : Prop :=
  (∀ (m : Master) (req : Option (List Word)) (s u : State), (∀ p, m ≠ .dict p) → u = stepIfDue s →
    ((u.admission (s.staged m)).1 ≠ .accepted →
      exec (.milestoneSubmit m req) s = .next (finish s ((mstResult m (u.admission (s.staged m)).1 0 (reqWord (s.staged m) 0) u).emit
        (.written m 0x500 (u.admission (s.staged m)).1)))) ∧
    (∀ e, (u.admission (s.staged m)).1 = .accepted → u.freeEntry = some e →
      exec (.milestoneSubmit m req) s = .next (finish s ((mstResult m .accepted e (reqWord (s.staged m) 0)
        ((u.setEntry e (some
          { words := placedWords (s.staged m) (u.admission (s.staged m)).2, first := (u.admission (s.staged m)).2, owner := m,
            plans := u.planList (reqItems (reqWord (s.staged m))) })).wr .MST_PLACED (bk m 0) (word (u.admission (s.staged m)).2))).emit
              (.written m 0x500 .accepted))))) ∧
  (∀ (p : DPath) (ws : List Word) (s : State), ws.length = 18 →
    exec (.milestoneSubmit (.dict p) (some ws)) s = .next (finish s ((mstResult (.dict p) (submit (.dict p) ws s).1 (submit (.dict p) ws s).2.1 (reqWord ws 0)
      (submit (.dict p) ws s).2.2).objDone p 0x2300 1 (submit (.dict p) ws s).1))) ∧
  (∀ (m : Master) (tag : Nat) (s : State), (∀ p, m ≠ .dict p) → tag < 65536 →
    (s.tagged tag = none → exec (.milestoneCancel m tag) s = .next (finish s ((mstResult m .unknownTag 0 tag s).emit (.written m 0x500 .unknownTag)))) ∧
    (∀ e x, s.tagged tag = some e → s.entry e = some x →
      (x.ended = true → exec (.milestoneCancel m tag) s = .next (finish s ((mstResult m .accepted 0 tag s).emit (.written m 0x500 .accepted)))) ∧
      (x.ended = false → s.earliest ≤ x.next → exec (.milestoneCancel m tag) s = .next (finish s
        ((mstResult m .accepted 0 tag (mstRecord e x 2 [] [] (s.setEntry e (some { x with ended := true })))).emit (.written m 0x500 .accepted)))) ∧
      (x.ended = false → x.next < s.earliest → exec (.milestoneCancel m tag) s =
        .next (finish s ((mstResult m .accepted 0 tag (s.setEntry e (some { x with cancelled := max 2 x.cancelled }))).emit (.written m 0x500 .accepted)))))) ∧
  (∀ (p : DPath) (s : State), exec (.milestoneCancelAll (.dict p)) s =
    .next (finish s (((s.liveEntries.map (·.1)).foldl (fun t e => cancelEntry 2 e t) s).objDone p 0x2300 3 .accepted))) ∧
  (∀ (e : Fin 64) (x y : MstEntry) (s : State) (r : List Nat × State) (missed : List Nat), s.entry e = some x → x.ended = false → s.almRuns = true →
    x.next ≤ s.total → r = runItems x.plans x.items s →
    missed = (List.range x.items.length).map (fun k => (x.items.map (·.mask)).getD k 0 - r.1.getD k 0) →
    y = { x with runs := x.runs + 1, lastShort := x.next % 2 ^ 32, ended := x.cancelled != 0 || x.lastRun } →
    (y.ended = true ∨ x.recEach = true ∨ missed.any (· != 0) = true → exec (.milestoneRun e) s = .next (finish s (mstRecord e y
      (if x.cancelled ≠ 0 then x.cancelled else if x.lastRun then 1 else 0) r.1 missed (r.2.setEntry e (some y))))) ∧
    (y.ended = false → x.recEach = false → missed.any (· != 0) = false → exec (.milestoneRun e) s = .next (finish s (r.2.setEntry e (some y))))) ∧
  (∀ (e : Nat) (x : MstEntry) (s : State), s.entry e = some x → x.ended = true → (entriesFree s).entry e = none) ∧
  (∀ (m : Master) (s : State), exec (.mstResultRead m) s = .next (finish s (s.emit (.value m 0x501 (s.rd .MST_RESULT (bk m 0)))))) ∧
  (∀ (m : Master) (c : Fin 4) (s : State), ∃ t, exec (.mstEvtRead m c) s = .next t ∧ t.flag F.MST_EVT_NEW c = false ∧
    sends s t [.value m (Reg.addr .MST_EVT c) (s.rd .MST_EVT c)] ∧ regsBut s t [(.MST_EVT, c)] ∧ memSame s t)

/-- The windows of the record queues (R159, R219, R302, R313, R322, R339, R355, R475), on fitted channels. A read of the first word answers the head's
first word and locks it (the head of a CAN queue takes its count with the lock), and answers 0 from an empty queue; a read of the last word answers
the head's last word, 0 from an empty queue, and a locked head leaves the queue; nothing else changes. -/
def Obligations.QueueWindows : Prop :=
  (∀ (m : Master) (c4 : Fin 4) (c8 : Fin 8) (b : Fin 2) (s : State) (c : Instr) (addr : Nat) (i : QId), linFitted s.variant c4 = true → canFitted s.variant c8 = true →
    (c, addr, i) ∈ [(.mstCq0Read m, Reg.addr .MST_CQ 0, .milestone), (.outTrq0Read m, Reg.addr .OUT_TRQ 0, .transition),
      (.vlvEvq0Read m, Reg.addr .VLV_EVQ 0, .valve), (.sinEq0Read m, Reg.addr .SIN_EQ0 0, .edge), (.fioCq0Read m, Reg.addr .FIO_CQ0 0, .field),
      (.linRq0Read m c4, Reg.addr .LIN_RQ (4 * c4), .lin c4), (.fcruLog0Read m, Reg.addr .FCRU_LOG 0, .faultLog),
      (.canQueueWord0Read m c8 b, 0x60000000 + 0x1000 * c8 + 0x80 * b, .can c8 b)] →
    ((s.q i).recs = [] → exec c s = .next (finish s (s.emit (.value m addr 0)))) ∧
    (∀ r l, (s.q i).recs = r :: l → (∀ n q, i ≠ .can n q) →
      exec c s = .next (finish s ((s.setQ i { s.q i with locked := true }).emit (.value m addr (r.words.getD 0 0))))) ∧
    (∀ r l, (s.q i).recs = r :: l → i = .can c8 b → exec c s = .next (finish s ((canLock c8 b s).emit (.value m addr (r.words.getD 0 0)))))) ∧
  (∀ (m : Master) (c4 : Fin 4) (c8 : Fin 8) (b : Fin 2) (s : State) (c : Instr) (addr k : Nat) (i : QId), linFitted s.variant c4 = true → canFitted s.variant c8 = true →
    (c, addr, k, i) ∈ [(.mstCq10Read m, Reg.addr .MST_CQ 10, 10, .milestone), (.outTrq3Read m, Reg.addr .OUT_TRQ 3, 3, .transition),
      (.vlvEvq3Read m, Reg.addr .VLV_EVQ 3, 3, .valve), (.sinEq1Read m, Reg.addr .SIN_EQ1 0, 1, .edge), (.fioCq1Read m, Reg.addr .FIO_CQ1 0, 1, .field),
      (.linRq3Read m c4, Reg.addr .LIN_RQ (4 * c4 + 3), 3, .lin c4), (.fcruLog4Read m, Reg.addr .FCRU_LOG 4, 4, .faultLog),
      (.canQueueWord18Read m c8 b, 0x60000000 + 0x1000 * c8 + 0x80 * b + 72, 18, .can c8 b)] →
    ((s.q i).locked = false → exec c s = .next (finish s (s.emit (.value m addr ((s.q i).word k))))) ∧
    ((s.q i).locked = true →
      exec c s = .next (finish s ((s.setQ i { s.q i with recs := (s.q i).recs.drop 1, locked := false }).emit (.value m addr ((s.q i).word k))))))

/-- The head record of a queue over the dictionary (R177, R193, R219, R226, R329, R330, R341, R360, R485): an empty queue of milestones, edges, field
changes or the fault log aborts with 0x0800_0024; else the record's words go out, and the record leaves the queue. So do those of a capture channel,
with its counts, and of a LIN and a CAN queue whose head is not locked; a locked head of a CAN queue refuses. The last transition of a fitted channel
goes out, its seconds alone or as R226 packs it, and is latched for the path; an absent channel has no object. Where the rules leave a point open, the
clause follows the model's choice in log entries 17 and 23. -/
def Obligations.RecordReads : Prop :=
  (∀ (p : DPath) (s : State) (c : Instr) (index sub : Nat) (i : QId),
    (c, index, sub, i) ∈ [(.completionRecordRead p, 0x2300, 6, .milestone), (.edgeRecordRead p, 0x4000, 0xC5, .edge),
      (.fieldChangeRecordRead p, 0x4100, 0x28, .field), (.faultLogRecordRead p, 0x4A00, 9, .faultLog)] →
    ((s.q i).recs = [] → exec c s = .next (finish s (s.emit (.objAbort p index sub 0x08000024)))) ∧
    (∀ r l, (s.q i).recs = r :: l → exec c s = .next (finish s ((s.setQ i { s.q i with recs := l, locked := false }).emit
      (.objRead p index sub (r.words.flatMap fun w => leBytes 4 w.toNat)))))) ∧
  (∀ (p : DPath) (n : Fin 32) (r : Rec) (l : List Rec) (s : State), (s.q (.capture n)).recs = r :: l →
    exec (.captureRecordRead p n) s = .next (finish s ((s.setQ (.capture n) { s.q (.capture n) with recs := l, locked := false }).emit
      (.objRead p (0x2410 + n) 0x0B ([r.words.getD 0 0, r.words.getD 1 0,
        word (l.length + 0x10000 * (s.q (.capture n)).lost) ||| r.words.getD 2 0].flatMap fun w => leBytes 4 w.toNat))))) ∧
  (∀ (p : DPath) (c : Fin 4) (r : Rec) (l : List Rec) (s : State), linFitted s.variant c = true → (s.q (.lin c)).recs = r :: l → (s.q (.lin c)).locked = false →
    exec (.linRecordRead p c) s = .next (finish s ((s.setQ (.lin c) { s.q (.lin c) with recs := l, locked := false }).emit
      (.objRead p 0x4480 (0x15 + c) (r.words.flatMap fun w => leBytes 4 w.toNat))))) ∧
  (∀ (p : DPath) (n : Fin 8) (q : Fin 2) (r : Rec) (l : List Rec) (s : State), canFitted s.variant n = true → (s.q (.can n q)).recs = r :: l →
    ((s.q (.can n q)).locked = true → exec (.canQueueRecordRead p n q) s = .next (finish s (s.objAborted p (0x4400 + n) (0xA0 + q) 0x08000022))) ∧
    ((s.q (.can n q)).locked = false → exec (.canQueueRecordRead p n q) s = .next (finish s ((s.setQ (.can n q) { s.q (.can n q) with recs := l, locked := false }).emit
      (.objRead p (0x4400 + n) (0xA0 + q)
        ((r.words.mapIdx fun j w => if j = 1 then withCount w (l.length + 1) else w).flatMap fun w => leBytes 4 w.toNat)))))) ∧
  (∀ (p : DPath) (n : Fin 96) (s : State), chanFitted s.variant n = true →
    exec (.lastTransitionRead p n true) s = .next (finish s ((latchTransition (masterBank (.dict p)) n s).emit
      (.objRead p (0x3100 + n) 0x0E (leBytes 8 ((s.ch n).last.sec % 2 ^ 32 + 2 ^ 32 * (s.ch n).last.ns + 2 ^ 62 * b01 (s.ch n).last.on + 2 ^ 63 * b01 (s.ch n).last.nocross))))) ∧
    exec (.lastTransitionRead p n false) s = .next (finish s ((latchTransition (masterBank (.dict p)) n s).emit
      (.objRead p (0x3100 + n) 0x0A (leBytes 6 (s.ch n).last.sec))))) ∧
  (∀ (p : DPath) (n : Fin 96) (packed : Bool) (s : State), chanFitted s.variant n = false →
    exec (.lastTransitionRead p n packed) s = .next (finish s (s.emit (.objAbort p (0x3100 + n) (if packed then 0x0E else 0x0A) 0x06020000))))

/-- The waveform counters (R178, R180, R183). The count that a step of a running counter lands on is one more, and 0 at or above TOP; in up/down mode
it is one more counting up and one less counting down. Where no channel compares, the step gives the count that value and changes nothing else but
this: at a landing on 0, where no setting waits, the number of periods counts and the direction is up; at a landing on TOP in up/down mode the
direction is down. The boundary, the turnaround and the match are the step that lands there; a catch-up match that is due happens at once; a counter
that does not run stands. After each the channels and field points follow the outputs (twUpdate). Where the rules leave a point open, the clause
follows the model's choice in log entry 24. -/
def Obligations.WaveformSteps : Prop :=
  (∀ (c : Fin 8) (s : State),
    (s.wcuUpDown c = false → s.wcuNextCount c = if s.wcuTop c ≤ s.wcuCount c then 0 else s.wcuCount c + 1) ∧
    (s.wcuUpDown c = true → s.wcuNextCount c = if s.wcuDown c then s.wcuCount c - 1 else s.wcuCount c + 1)) ∧
  (∀ (c : Fin 8) (s : State), s.wcuRuns c = true → (∀ n ∈ wcuChans c, s.twCompare n = false) → s.wcuNextCount c ≠ 0 →
    (s.wcuUpDown c = false ∨ s.wcuNextCount c ≠ s.wcuTop c → exec (.wcuCountStep c) s =
      .next (finish s (twUpdate s (s.wr .WCU_CNT c (word (s.wcuNextCount c)))))) ∧
    (s.wcuUpDown c = true → s.wcuNextCount c = s.wcuTop c → s.wcuDown c = false → exec (.wcuTopTurnaround c) s =
      .next (finish s (twUpdate s ((s.wr .WCU_CNT c (word (s.wcuTop c))).setB F.WCU_STAT_DIR c true))))) ∧
  (∀ (c : Fin 8) (s t : State) (i : Instr), i = .wcuCountStep c ∨ i = .wcuPeriodBoundary c → s.wcuRuns c = true →
    (∀ n ∈ wcuChans c, s.twCompare n = false ∧ s.heldOf .WCU_CCTRL n = none) → s.wcuNextCount c = 0 → s.heldOf .WCU_CTRL c = none →
    s.heldOf .WCU_TOP c = none → t = wcuStep c s → exec i s = .next (finish s (twUpdate s t)) ∧
      t.rd .WCU_CNT c = 0 ∧ t.getF F.WCU_STAT_PERIODS c = (s.getF F.WCU_STAT_PERIODS c + 1) % 2 ^ F.WCU_STAT_PERIODS.wd ∧ t.wcuDown c = false ∧
      t.wcuRuns c = true ∧ regsBut s t [(.WCU_CNT, c), (.WCU_STAT, c)]) ∧
  (∀ (n : Fin 32) (s : State), s.wcuRuns (n / 4) = true → s.twCompare n = true →
    ((s.tw n).catchUp = true → exec (.wcuCompareMatch n) s = .next (finish s (twUpdate s (wcuMatch n s)))) ∧
    ((s.tw n).catchUp = false → s.wcuNextCount (n / 4) = (s.rd .WCU_CMP n).toNat →
      exec (.wcuCompareMatch n) s = .next (finish s (twUpdate s (wcuStep (n / 4) s))))) ∧
  (∀ (c : Fin 8) (s : State), s.wcuRuns c = false → exec (.wcuCountStep c) s = .next (finish s (twUpdate s s)))

/-- The writes and reads of the waveform unit (R179 to R182, R185, R188, R189), for values without a reserved bit. A write of WCU_CTRLc that is not
refused takes its settings, and EN starts the counter at 0 or stops it; GSTART and GSTOP act on every counter named; a counter that the FCRU holds
refuses the start whole. A compare value of a channel that does not compare, or whose counter stands, is in force at once; a channel takes its
configuration, and ARM at once; an absent source is refused. Every answer goes into the master's WCU_RESULT, with the counter or 8 + the channel. A
read of WCU_CAPHn answers the head's stamp, removes the record and latches its count and flags for the master, and 0 from an empty queue. Where the
rules leave a point open, the clause follows the model's choice in log entries 13 and 24. -/
def Obligations.WaveformRegisters : Prop :=
  (∀ (m : Master) (c : Fin 8) (v : Word) (s : State), reservedSet .WCU_CTRL v = false → ¬ (F.WCU_CTRL_MODE.on v = true ∧ s.next .WCU_TOP c = 1) →
    (F.WCU_CTRL_EN.on v = true → tabGet false s.wcuBlocked c = true →
      exec (.wcuEn m c v) s = .next (finish s (twUpdate s (s.answer m .WCU_RESULT .state c (Reg.addr .WCU_CTRL c))))) ∧
    (F.WCU_CTRL_EN.on v = true → tabGet false s.wcuBlocked c = false → exec (.wcuEn m c v) s = .next (finish s (twUpdate s
      ((wcuStart c (wcuHold .WCU_CTRL c c (v &&& word 0x3FFFE) s)).answer m .WCU_RESULT .accepted c (Reg.addr .WCU_CTRL c))))) ∧
    (F.WCU_CTRL_EN.on v = false → exec (.wcuEn m c v) s = .next (finish s (twUpdate s
      ((wcuStop c (wcuHold .WCU_CTRL c c (v &&& word 0x3FFFE) s)).answer m .WCU_RESULT .accepted c (Reg.addr .WCU_CTRL c)))))) ∧
  (∀ (m : Master) (v : Word) (s : State), reservedSet .WCU_GSTART v = false →
    ((onesUpTo 8 v.toNat).any (fun c => tabGet false s.wcuBlocked c) = true →
      exec (.wcuGstart m v) s = .next (finish s (twUpdate s (s.answer m .WCU_RESULT .state 0 (Reg.addr .WCU_GSTART 0))))) ∧
    ((onesUpTo 8 v.toNat).any (fun c => tabGet false s.wcuBlocked c) = false → exec (.wcuGstart m v) s =
      .next (finish s (twUpdate s (((onesUpTo 8 v.toNat).foldl (fun t c => wcuStart c t) s).answer m .WCU_RESULT .accepted 0 (Reg.addr .WCU_GSTART 0)))))) ∧
  (∀ (m : Master) (v : Word) (s : State), reservedSet .WCU_GSTOP v = false → exec (.wcuGstop m v) s =
    .next (finish s (twUpdate s (((onesUpTo 8 v.toNat).foldl (fun t c => wcuStop c t) s).answer m .WCU_RESULT .accepted 0 (Reg.addr .WCU_GSTOP 0))))) ∧
  (∀ (m : Master) (n : Fin 32) (v : Word) (s : State), s.wcuRuns (n / 4) = false ∨ s.twCompare n = false →
    exec (.wcuCmpWrite m n v) s = .next (finish s (twUpdate s ((s.wr .WCU_CMP n v).answer m .WCU_RESULT .accepted (8 + n) (Reg.addr .WCU_CMP n))))) ∧
  (∀ (m : Master) (n : Fin 32) (v : Word) (s u : State), reservedSet .WCU_CCTRL v = false → F.WCU_CCTRL_FUNC.of v ≠ 3 → F.WCU_CCTRL_SRC.of v ≤ 0x77 →
    F.WCU_CCTRL_EDGE.of v ≠ 0 → F.WCU_CCTRL_VEVT.of v ≠ 3 → u = wcuHold .WCU_CCTRL n (n / 4) (v &&& word 0x37FFFF) s →
    (capSrcFitted s.variant (F.WCU_CCTRL_SRC.of v) = true → exec (.wcuArm m n v) s = .next (finish s (twUpdate s
      ((if F.WCU_CCTRL_ARM.on v then u.setB F.WCU_CCTRL_ARM n true else u).answer m .WCU_RESULT .accepted (8 + n) (Reg.addr .WCU_CCTRL n))))) ∧
    (capSrcFitted s.variant (F.WCU_CCTRL_SRC.of v) = false → exec (.wcuArm m n v) s = .next (finish s (twUpdate s
      (s.answer m .WCU_RESULT .absent (8 + n) (Reg.addr .WCU_CCTRL n)))))) ∧
  (∀ (m : Master) (n : Fin 32) (s : State),
    ((s.q (.capture n)).recs = [] → exec (.wcuCaphRead m n) s = .next (finish s ((s.wr .WCU_CAP (bk m n) 0).emit (.value m (Reg.addr .WCU_CAPH n) 0)))) ∧
    (∀ r l, (s.q (.capture n)).recs = r :: l → ∃ t, exec (.wcuCaphRead m n) s = .next t ∧ (t.q (.capture n)).recs = l ∧
      t.rd .WCU_CAPV (bk m n) = r.words.getD 1 0 ∧ t.rd .WCU_CAP (bk m n) = r.words.getD 2 0 ∧
      sends s t [.value m (Reg.addr .WCU_CAPH n) (r.words.getD 0 0)] ∧ memSame s t ∧ regsBut s t [(.WCU_CAPV, bk m n), (.WCU_CAP, bk m n)]))

/-- The latches of the outputs, APPLY and the DDIN pins (R197, R199, R202, R206, R221, R222, R224), for values without a reserved bit. A latch write
gives the channel its latch, and the channel follows; one that would change the latch of a channel in SAFE is refused with STATE. A bank write that
names an absent channel is refused with ABSENT and the lowest such channel, and recorded as an absent access; else one that would change the latch of
a channel in SAFE is refused with STATE and the lowest such channel; else it gives every named latch its level, and their channels follow. APPLY
brings every pending value of the channel into force; a write without the bit changes nothing. The filtered level of a DDIN pin reaches the channels
that select it, while the Switch domain is on. Where the rules leave a point open, the clause follows the model's choice in log entries 46 and 47. -/
def Obligations.OutputLatches : Prop :=
  (∀ (m : Master) (n : Fin 96) (v : Word) (s : State), chanFitted s.variant n = true → reservedSet .OUT_LVL v = false →
    (latchRefused s n (F.OUT_LVL_LEVEL.on v) = false → exec (.outLvlWrite m n v) s = .next (finish s
      ((chanUpdate n false (latchSet n (F.OUT_LVL_LEVEL.on v) s)).answer m .OUT_RESULT .accepted n (Reg.addr .OUT_LVL n)))) ∧
    (latchRefused s n (F.OUT_LVL_LEVEL.on v) = true →
      exec (.outLvlWrite m n v) s = .next (finish s (s.answer m .OUT_RESULT .state n (Reg.addr .OUT_LVL n))))) ∧
  (∀ (m : Master) (j : Fin 3) (v : Word) (n : Nat) (s : State) (named all : List Nat), named = (onesUpTo 32 v.toNat).map (· + 32 * (j : Nat)) →
    all = (((List.range 32).map (· + 32 * (j : Nat))).filter fun n => chanFitted s.variant n) →
    (named.find? (fun n => ! chanFitted s.variant n) = some n →
      exec (.outLatbWrite m j v) s = .next (finish s ((absentMark (Reg.addr .OUT_LATB j) s).answer m .OUT_RESULT .absent n (Reg.addr .OUT_LATB j))) ∧
      exec (.outLatsWrite m j v) s = .next (finish s ((absentMark (Reg.addr .OUT_LATS j) s).answer m .OUT_RESULT .absent n (Reg.addr .OUT_LATS j))) ∧
      exec (.outLatcWrite m j v) s = .next (finish s ((absentMark (Reg.addr .OUT_LATC j) s).answer m .OUT_RESULT .absent n (Reg.addr .OUT_LATC j)))) ∧
    (named.all (fun n => chanFitted s.variant n) = true →
      (all.find? (fun n => latchRefused s n (bitOf v.toNat (n - 32 * j))) = some n →
        exec (.outLatbWrite m j v) s = .next (finish s (s.answer m .OUT_RESULT .state n (Reg.addr .OUT_LATB j)))) ∧
      (all.any (fun n => latchRefused s n (bitOf v.toNat (n - 32 * j))) = false → exec (.outLatbWrite m j v) s = .next (finish s
        ((chansUpdate all (all.foldl (fun t n => latchSet n (bitOf v.toNat (n - 32 * j)) t) s)).answer m .OUT_RESULT .accepted 0 (Reg.addr .OUT_LATB j)))) ∧
      (named.find? (fun n => latchRefused s n true) = some n →
        exec (.outLatsWrite m j v) s = .next (finish s (s.answer m .OUT_RESULT .state n (Reg.addr .OUT_LATS j)))) ∧
      (named.any (fun n => latchRefused s n true) = false → exec (.outLatsWrite m j v) s = .next (finish s
        ((chansUpdate named (named.foldl (fun t n => latchSet n true t) s)).answer m .OUT_RESULT .accepted 0 (Reg.addr .OUT_LATS j)))) ∧
      (named.find? (fun n => latchRefused s n false) = some n →
        exec (.outLatcWrite m j v) s = .next (finish s (s.answer m .OUT_RESULT .state n (Reg.addr .OUT_LATC j)))) ∧
      (named.any (fun n => latchRefused s n false) = false → exec (.outLatcWrite m j v) s = .next (finish s
        ((chansUpdate named (named.foldl (fun t n => latchSet n false t) s)).answer m .OUT_RESULT .accepted 0 (Reg.addr .OUT_LATC j)))))) ∧
  (∀ (m : Master) (n : Fin 96) (v : Word) (s : State), chanFitted s.variant n = true → reservedSet .OUT_APPLY v = false →
    (F.OUT_APPLY_APPLY.on v = true → exec (.outApply m n v) s =
      .next (finish s ((chanReconfigure n s (chApplyPending n s)).answer m .OUT_RESULT .accepted n (Reg.addr .OUT_APPLY n)))) ∧
    (F.OUT_APPLY_APPLY.on v = false → exec (.outApply m n v) s = .next (finish s (s.answer m .OUT_RESULT .accepted n (Reg.addr .OUT_APPLY n))))) ∧
  (∀ (m : Master) (n : Fin 96) (v : Word) (s : State), chanFitted s.variant n = false →
    exec (.outLvlWrite m n v) s = .next (finish s (s.absentWrite m .OUT_RESULT n (Reg.addr .OUT_LVL n))) ∧
    exec (.outApply m n v) s = .next (finish s (s.absentWrite m .OUT_RESULT n (Reg.addr .OUT_APPLY n)))) ∧
  (∀ (k : Fin 8) (high : Bool) (s u : State), u = s.setF ⟨.OUT_INP, k, 1⟩ 0 (b01 high) →
    u.getF ⟨.OUT_INP, k, 1⟩ 0 = b01 high ∧
    (s.dom.switch = true → exec (.ddinEdge k high) s =
      .next (finish s (chansUpdate (u.chansWhere fun n => u.src n == 3 && u.getF F.OUT_CFG_DDSEL n == k) u))) ∧
    (s.dom.switch = false → exec (.ddinEdge k high) s = .next (finish s s)))

/-- The times of an output channel (R204, R205, R210, R214, R217). The inrush window ends: the window's mark, a pause of its detector and its
reservation go, and a channel in INRUSH is ON or PWM; without a window nothing changes. Off detection ends the command of a TW or DDIN channel, and
changes nothing where the command is active. At the fall of IGN every channel whose stage counts as on and whose RUNON is not 0 starts its run-on
timer, and a rise stops the timers; a timer that ends gives the command back to the line. An inserted delay that ends gives the stage the waiting
level: the window of a channel in INRUSH starts, and the thermal latch keeps the stage off; with no waiting level nothing changes. Where the rules
leave a point open, the clause follows the model's choice in log entries 25 and 47. -/
def Obligations.OutputTimes : Prop :=
  (∀ (n : Fin 96) (s w u : State), w = unreserve n (inrushStop n s) →
    u = cycEnd n (if s.flag F.PROT_STAT_PAUSED n then w.setCh n { w.ch n with span := none } else w) → s.flag F.OUT_STAT_INR n = true →
    u.chState n = s.chState n ∧ u.flag F.OUT_STAT_INR n = false ∧ u.flag F.PROT_STAT_PAUSED n = false ∧
    (s.chState n = 3 → exec (.inrushWindowEnd n) s = .next (finish s (scholdRelease (chFeed n) (toState n (u.onCode n) u)))) ∧
    (s.chState n ≠ 3 → exec (.inrushWindowEnd n) s = .next (finish s u))) ∧
  (∀ (n : Fin 96) (s : State), s.flag F.OUT_STAT_INR n = false → exec (.inrushWindowEnd n) s = .next (finish s s)) ∧
  (∀ (n : Fin 96) (s : State), (s.ch n).act = true →
    (s.command n = false → s.steadySrc n = false →
      exec (.offDetected n) s = .next (finish s (commandOff n true false (s.setCh n { s.ch n with act := false })))) ∧
    (s.command n = true → exec (.offDetected n) s = .next (finish s s))) ∧
  (∀ s u : State, u = s.setB F.NET_STAT_IGN 0 false → s.ignHigh = true → exec .ignFilteredRise s = .next (finish s s) ∧
    exec .ignFilteredFall s = .next (finish s (runonStartAll (accIgnFall (if u.asleep then u else awakeStart F.NET_AWAKE_AWAKE_MAX u))))) ∧
  (∀ s : State, s.ignHigh = false → exec .ignFilteredFall s = .next (finish s s) ∧
    exec .ignFilteredRise s = .next (finish s (ignRise s)) ∧ ∃ u, ignRise s = runonStopAll u) ∧
  (∀ (n : Fin 96) (s : State), s.runon n = false → exec (.runonExpiry n) s = .next (finish s s)) ∧
  (∀ (n : Fin 96) (s u : State), s.runon n = true → u = chanUpdate n false (s.setCh n { s.ch n with runonEnd := none }) →
    ((u.ch n).act = true → u.command n = false → exec (.runonExpiry n) s =
      .next (finish s (commandOff n false false (u.setCh n { u.ch n with act := false })))) ∧
    ((u.ch n).act = false ∨ u.command n = true → exec (.runonExpiry n) s = .next (finish s u))) ∧
  (∀ (n : Fin 96) (rel : Nat) (b : Bool) (l : List (Nat × Bool)) (s u : State), (s.ch n).aligned = (rel, b) :: l → u = s.setCh n { s.ch n with aligned := l } →
    (u.stage n = b → exec (.alignDelayEnd n) s =
      .next (finish s (if b && u.chState n == 3 && ! u.flag F.OUT_STAT_INR n then inrushStart n u else u))) ∧
    (u.stage n ≠ b → b = false → exec (.alignDelayEnd n) s = .next (finish s (edge n false true 0 true (stageTo n false u)))) ∧
    (u.stage n ≠ b → b = true → u.thermal n = true → exec (.alignDelayEnd n) s = .next (finish s u)) ∧
    (u.stage n ≠ b → b = true → u.thermal n = false → u.chState n = 3 → exec (.alignDelayEnd n) s = .next (finish s (stageUp n true false u))) ∧
    (u.stage n ≠ b → b = true → u.thermal n = false → u.chState n ≠ 3 →
      exec (.alignDelayEnd n) s = .next (finish s (edge n true true 0 true (stageTo n true u))))) ∧
  (∀ (n : Fin 96) (s : State), (s.ch n).aligned = [] → exec (.alignDelayEnd n) s = .next (finish s s))

/-- Transitions of the outputs (R215, R218, R219, R221, R226). A crossing in the direction of the oldest awaited transition is recorded with the
Almanac's time and counted, and its delay is held as a measurement, where it counts as one and came within 200 µs; one in the other direction changes
nothing. A falling crossing that no transition awaits, after a switching of the stage that has had none, is kept for off detection. Without a crossing
the oldest awaited transition is recorded with the time of its switching, marked NOCROSS. A read of OUT_LTSECn answers the low seconds of the last
transition and latches the rest for the master; one of the last transition through the dictionary answers its time and latches it for the path. Where
the rules leave a point open, the clause follows the model's choice in log entries 25 and 47. -/
def Obligations.OutputTransitions : Prop :=
  (∀ (n : Fin 96) (rising : Bool) (e : Edge) (l : List Edge) (s u : State), (s.ch n).awaited = e :: l →
    u = recordTransition n e { sec := s.alm.sec, ns := s.alm.ns, on := e.on } (s.setCh n { s.ch n with awaited := l }) →
    (e.on = rising → e.measures && s.measurable n && decide (s.up ≤ e.at_ + 200000) = true → exec (.outputCrossing n rising) s =
      .next (finish s (holdMeasurement n e.on (s.up - e.at_) (s.getF F.TOLL_VOLT_VOLT (chFeed n)) u))) ∧
    (e.on = rising → e.measures && s.measurable n && decide (s.up ≤ e.at_ + 200000) = false → exec (.outputCrossing n rising) s = .next (finish s u)) ∧
    (e.on ≠ rising → exec (.outputCrossing n rising) s = .next (finish s s)) ∧
    (u.ch n).count = (s.ch n).count + 1 ∧
    exec (.noCross n) s = .next (finish s (recordTransition n e
      { sec := (s.total - (s.up - e.at_)) / 1000000000, ns := (s.total - (s.up - e.at_)) % 1000000000, on := e.on, nocross := true }
      (s.setCh n { s.ch n with awaited := l })))) ∧
  (∀ (n : Fin 96) (s : State), (s.ch n).awaited = [] →
    (∀ f, (s.ch n).fallAt = some f → s.stage n = false → (s.ch n).lastFall = none → exec (.outputCrossing n false) s = .next (finish s (s.setCh n { s.ch n with
      lastFall := some (s.alm.sec, s.alm.ns),
      fallDly := if s.measurable n && decide (s.up ≤ f + 200000) then some (s.up - f, s.getF F.TOLL_VOLT_VOLT (chFeed n)) else none }))) ∧
    exec (.outputCrossing n true) s = .next (finish s s) ∧ exec (.noCross n) s = .next (finish s s)) ∧
  (∀ (m : Master) (n : Fin 96) (s : State), chanFitted s.variant n = true → ∃ t, exec (.outLtsecRead m n) s = .next t ∧
    sends s t [.value m (Reg.addr .OUT_LTSEC n) (word (s.ch n).last.sec)] ∧ t.rd .OUT_LTNS (bk m n) = word (s.ch n).last.ns ∧
    t.rd .OUT_TCNT (bk m n) = word ((s.ch n).count % 65536) ∧
    t.rd .OUT_LTHI (bk m n) = word ((s.ch n).last.sec / 2 ^ 32 % 65536 + 0x10000 * b01 (s.ch n).last.on + 0x20000 * b01 (s.ch n).last.nocross + 0x40000 * b01 (s.ch n).last.rtct) ∧
    regsBut s t [(.OUT_LTHI, bk m n), (.OUT_LTNS, bk m n), (.OUT_TCNT, bk m n)] ∧ memSame s t) ∧
  (∀ (p : DPath) (n : Fin 96) (s : State), chanFitted s.variant n = true →
    exec (.lastTransitionRead p n true) s = .next (finish s ((latchTransition (masterBank (.dict p)) n s).emit
      (.objRead p (0x3100 + n) 0x0E (leBytes 8 (packedTransition (s.ch n).last))))) ∧
    exec (.lastTransitionRead p n false) s = .next (finish s ((latchTransition (masterBank (.dict p)) n s).emit
      (.objRead p (0x3100 + n) 0x0A (leBytes 6 (s.ch n).last.sec)))))

/-- The protection of a channel (R228, R229, R231, R233, R236, R239). A short circuit trips a conducting stage with cause 1 and counts nothing of it
to the feed for 1 ms; where the stage is off it changes nothing. A junction at 170 °C latches and trips with cause 5; one at 150 °C clears its latch,
and where none is left the channel resumes. A feed that sets DIP pauses the detectors of its channels in their inrush windows, until DIP clears or the
pause has lasted its time; then the span restarts. A model step brings the coupling values into force, then moves the heat of every channel, then
judges the latches. A back-off that ends leads to a queued switch-on, or after a short waits under SCHOLD while another channel of its feed is in
INRUSH. The count of retries clears in ON and PWM. Where the rules leave a point open, the clause follows the model's choice in log entries 26 and 47.
-/
def Obligations.ChannelProtection : Prop :=
  (∀ (n : Fin 96) (s : State), chanFitted s.variant n = true →
    (s.stage n = true → exec (.shortCircuitCutoff n) s = .next (finish s (trip n 1 (s.setCh n { s.ch n with cutUntil := s.up + 1000000 })))) ∧
    (s.stage n = false → exec (.shortCircuitCutoff n) s = .next (finish s s))) ∧
  (∀ (n : Fin 96) (tj : Int) (s u : State), chanFitted s.variant n = true → u = (s.setF F.PROT_JT_TJ n (codeOf 16 tj)).setB F.PROT_STAT_LATCH_J n true →
    u.thermal n = true ∧ exec (.junctionOvertemp n tj) s = .next (finish s (thermalSet s n (trip n 5 u)))) ∧
  (∀ (n : Fin 96) (tj : Int) (s u : State), chanFitted s.variant n = true → u = (s.setF F.PROT_JT_TJ n (codeOf 16 tj)).setB F.PROT_STAT_LATCH_J n false →
    (s.thermal n = true → u.thermal n = false → exec (.junctionCooled n tj) s = .next (finish s (thermalCleared n u))) ∧
    (s.thermal n = false ∨ u.thermal n = true → exec (.junctionCooled n tj) s = .next (finish s u))) ∧
  (∀ (k : Fin 4) (s u : State), feedFitted s.variant k = true → u = snsDisturb (feedChans k) (s.setB F.TOLL_STAT_DIP k true) →
    (s.flag F.TOLL_STAT_DIP k = false → exec (.dipSet k) s =
      .next (finish s ((feedChans k).foldl (fun t n => if t.flag F.OUT_STAT_INR n then t.setB F.PROT_STAT_PAUSED n true else t) u))) ∧
    (s.flag F.TOLL_STAT_DIP k = true → exec (.dipSet k) s = .next (finish s u))) ∧
  (∀ (k : Fin 4) (s : State), exec (.dipClear k) s =
    .next (finish s ((feedChans k).foldl (fun t n => pauseEnd n false t) (s.setB F.TOLL_STAT_DIP k false)))) ∧
  (∀ (n : Fin 96) (s : State),
    (s.flag F.PROT_STAT_PAUSED n = true → exec (.dipPauseTimeout n) s =
      .next (finish s ((s.setB F.PROT_STAT_PAUSED n false).setCh n { s.ch n with span := none, dipSpent := true }))) ∧
    (s.flag F.PROT_STAT_PAUSED n = false → exec (.dipPauseTimeout n) s = .next (finish s s))) ∧
  (∀ s u : State, s.dom.switch = true → u = (s.chansWhere fun _ => true).foldl (fun t n => t.applyHeld .PROT_CPL n) s →
    exec .wireModelStep s = .next (finish s ((s.chansWhere fun _ => true).foldl (fun t n => wireLatch n t)
      (((s.chansWhere fun _ => true).map fun n => (n, u.wireH n)).foldl (fun t p => heatSet p.1 p.2 t) u)))) ∧
  (∀ (n : Fin 96) (s u : State), s.chState n = 5 → s.retryCommand n = true → s.flag F.PROT_STAT_WAIT n = false → s.flag F.PROT_STAT_SCHOLD n = false →
    u = s.setCh n { s.ch n with backoffEnd := 0 } →
    (s.getF F.PROT_STAT_CAUSE n ≠ 1 ∨ (feedChans (chFeed n)).any (fun j => j != n && s.chState j == 3) = false →
      exec (.backoffEnd n) s = .next (finish s (waitAdd n none u))) ∧
    (s.getF F.PROT_STAT_CAUSE n = 1 → (feedChans (chFeed n)).any (fun j => j != n && s.chState j == 3) = true →
      exec (.backoffEnd n) s = .next (finish s (u.setB F.PROT_STAT_SCHOLD n true)))) ∧
  (∀ (n : Fin 96) (s : State), s.chState n = 1 ∨ s.chState n = 2 → ∃ t, exec (.retryReset n) s = .next t ∧ t.getF F.PROT_STAT_USED n = 0 ∧
    regsBut s t [(.PROT_STAT, n)] ∧ memSame s t ∧ sends s t [])

/-- Tollgate (R241 to R248, R254). A new budget is judged against the feed's plan, and waits for the planning step; a write that leaves the budget as
it is is not judged (the model's choice, log entry 47). A planning step takes the measurements of the fitted feeds, then serves each of them: its
budget, its base, its commanded and then its queued switch-ons. A feed above 1.25 × B sheds in order until the rest is at most B; a feed that is not
changes nothing. A shed channel is offered when the feed's current and its own fit B, and else, or where none is shed, nothing changes. CLR clears the
feed's counts. Where the rules leave a point open, the clause follows the model's choice in log entry 26. -/
def Obligations.Tollgate : Prop :=
  (∀ (m : Master) (k : Fin 4) (v : Word) (s : State), feedFitted s.variant k = true → reservedSet .TOLL_CLR v = false → F.TOLL_CLR_CLR.on v = true →
    ∃ t, exec (.tollClr m k v) s = .next t ∧ t.rd .TOLL_CNT k = 0 ∧ sends s t [.written m (Reg.addr .TOLL_CLR k) .accepted] ∧ memSame s t ∧
      t.rd .TOLL_RESULT (bk m 0) = resultWord .accepted (k + 1) (Reg.addr .TOLL_CLR k) ∧ regsBut s t [(.TOLL_CNT, k), (.TOLL_RESULT, bk m 0)]) ∧
  (∀ (m : Master) (k : Fin 4) (v : Word) (s : State), feedFitted s.variant k = true → reservedSet .TOLL_CFG v = false →
    10 ≤ F.TOLL_CFG_BUDGET.of v → F.TOLL_CFG_BUDGET.of v ≤ 150 → F.TOLL_CFG_STAGGER.of v ≤ 20 → 1 ≤ F.TOLL_CFG_RESTORE.of v → F.TOLL_CFG_RESTORE.of v ≤ 100 →
    (s.planBase k + s.planMax k ≤ F.TOLL_CFG_BUDGET.of v * 100 ∨ F.TOLL_CFG_BUDGET.of (s.next .TOLL_CFG k) = F.TOLL_CFG_BUDGET.of v →
      exec (.tollBudget m k v) s = .next (finish s ((s.hold .TOLL_CFG k v).answer m .TOLL_RESULT .accepted (k + 1) (Reg.addr .TOLL_CFG k)))) ∧
    (F.TOLL_CFG_BUDGET.of v * 100 < s.planBase k + s.planMax k → F.TOLL_CFG_BUDGET.of (s.next .TOLL_CFG k) ≠ F.TOLL_CFG_BUDGET.of v →
      exec (.tollBudget m k v) s = .next (finish s (s.answer m .TOLL_RESULT .toll (k + 1) (Reg.addr .TOLL_CFG k))))) ∧
  (∀ (feeds : List (Nat × Nat)) (s : State) (l : List Nat), s.dom.switch = true → l = ((List.range 4).filter fun k => feedFitted s.variant k) →
    exec (.planningStep feeds) s = .next (finish s
      (l.foldl planFeed (l.foldl (fun t k => match feeds[k]? with | some p => feedMeasure k p t | none => t) s)))) ∧
  (∀ (k : Fin 4) (s : State),
    (s.flag F.TOLL_STAT_OVER k = true → (s.feedBand k).dark = false → exec (.shedding k) s = .next (finish s (shed k s))) ∧
    (s.flag F.TOLL_STAT_OVER k = false → exec (.shedding k) s = .next (finish s s))) ∧
  (∀ (k : Fin 4) (s : State), (s.tf k).cur ≤ ((s.budget k * 10 : Nat) : Int) →
    (s.offered k = none → exec (.restoreOffer k) s = .next (finish s s)) ∧
    (∀ n : Nat, s.offered k = some n →
      ((s.tf k).cur + (s.ch n).iShed ≤ ((s.budget k * 10 : Nat) : Int) → exec (.restoreOffer k) s = .next (finish s (waitAdd n none s))) ∧
      (((s.budget k * 10 : Nat) : Int) < (s.tf k).cur + (s.ch n).iShed → exec (.restoreOffer k) s = .next (finish s s))))

/-- Current measurement (R259 to R261, R263 to R265, R267 to R269, R271 to R275, R277, R278), with no stored value waiting. A sample outside a gain
window is published with the offset and the gain in force, and joins the offset; where a window would open, a good reference opens it with that sample
and a bad one is a fault of the feed. In a window the first three samples of a heavy or medium channel are held back, and the next one closes it; in
one whose reference was removed early what is held goes out with the next sample. The light scan steps on with each conversion, an absent channel
using its slot; a tester session pauses it. A session marks the light channels' samples and blinds them; its end lets them go on. A capture that ends
is skipped, learned or judged. A write of SNS_SIGCFGn is held and its RELEARN noted. A read of SNS_VALn answers the sample and latches its stamp; a
selected curve is latched for the master. Where the rules leave a point open, the clause follows the model's choice in log entries 27 and 48. -/
def Obligations.Sensing : Prop :=
  (∀ (n : Fin 64) (raw : Int) (refOk : Bool) (x : CalSample) (s u : State), s.dom.switch = true → chanFitted s.variant n = true → (s.snsCh n).win = none →
    s.heldOf .SNS_CAL n = none → x = s.sample n (s.snsScaled n raw) → u = offsetSample n raw (snsPublish n x (s.snsScaled n raw) false s) →
    (u.gainOpens n = false → exec (.samplePublish n raw refOk) s = .next (finish s u)) ∧
    (u.gainOpens n = true → refOk = true → exec (.samplePublish n raw refOk) s = .next (finish s
      (u.setSns n { u.snsCh n with win := some { first := s.snsScaled n raw, gain := u.getF F.SNS_CAL_GAIN n } }))) ∧
    (u.gainOpens n = true → refOk = false → exec (.samplePublish n raw refOk) s = .next (finish s (refFault (chFeed n) u)))) ∧
  (∀ (n : Fin 64) (raw : Int) (refOk : Bool) (w : GainWin) (x : CalSample) (s : State), s.dom.switch = true → chanFitted s.variant n = true →
    (s.snsCh n).win = some w → x = s.sample n (s.snsScaled n raw) →
    (w.aborted = false → w.held.length < 3 → exec (.samplePublish n raw refOk) s =
      .next (finish s (s.setSns n { s.snsCh n with win := some { w with held := w.held ++ [x] } }))) ∧
    (w.aborted = false → 3 ≤ w.held.length → exec (.samplePublish n raw refOk) s = .next (finish s (gainClose n w x s))) ∧
    (w.aborted = true → exec (.samplePublish n raw refOk) s = .next (finish s (gainAborted n w x s)))) ∧
  (∀ (raw : Int) (refOk : Bool) (s u : State), s.dom.switch = true → u = ({ s with snsSlot := (s.snsSlot + 1) % 32 } : State) →
    (s.flag F.SNS_STATUS_TESTER 0 = false → chanFitted s.variant (64 + s.snsSlot) = true →
      exec (.lightConversion raw refOk) s = .next (finish s (snsSample (64 + s.snsSlot) (lightReading raw) refOk u))) ∧
    (s.flag F.SNS_STATUS_TESTER 0 = false → chanFitted s.variant (64 + s.snsSlot) = false → exec (.lightConversion raw refOk) s = .next (finish s u)) ∧
    (s.flag F.SNS_STATUS_TESTER 0 = true → exec (.lightConversion raw refOk) s = .next (finish s s))) ∧
  (∀ (n : Fin 96) (s : State), s.dom.switch = true → chanFitted s.variant n = true →
    (∃ t, exec (.ofsOld n) s = .next t ∧ t.flag F.SNS_CSTAT_OFS_OLD n = true ∧ regsBut s t [(.SNS_CSTAT, n)] ∧ memSame s t ∧ sends s t []) ∧
    (∃ t, exec (.gainDue n) s = .next t ∧ t.flag F.SNS_CSTAT_GAIN_DUE n = true ∧ regsBut s t [(.SNS_CSTAT, n)] ∧ memSame s t ∧ sends s t [])) ∧
  (∀ (isel : Fin 32) (s u : State), s.dom.switch = true → s.flag F.SNS_STATUS_TESTER 0 = false →
    u = ((s.setB F.SNS_STATUS_TESTER 0 true).setF F.SNS_STATUS_ISEL 0 isel).countF F.SNS_STATUS_SESSIONS 0 →
    exec (.testerSessionStart isel) s = .next (finish s (u.lights.foldl (fun t n =>
      ((t.setB F.SNS_VAL_STALE n true).setB F.PROT_STAT_BLIND n true).setSns n { t.snsCh n with win := none, offs := [] }) u)) ∧
    exec (.iselChange isel) s = .next (finish s s)) ∧
  (∀ (isel : Fin 32) (s : State), s.flag F.SNS_STATUS_TESTER 0 = true →
    exec (.iselChange isel) s = .next (finish s (s.setF F.SNS_STATUS_ISEL 0 isel)) ∧ exec (.testerSessionStart isel) s = .next (finish s s)) ∧
  (∀ s : State, exec .testerSessionEnd s = .next (finish s (s.lights.foldl (fun t n => t.setB F.PROT_STAT_BLIND n false)
    ((s.setB F.SNS_STATUS_TESTER 0 false).setF F.SNS_STATUS_ISEL 0 0)))) ∧
  (∀ (n : Fin 64) (x : List Int) (c : Capture) (s u v : State), (s.snsCh n).cap = some c → u = s.setSns n { s.snsCh n with cap := none } →
    v = (if c.volt = 0 then { u with fresh := u.fresh + 128 } else u).setF F.SNS_SIGPK_LASTPK n (codeOf 16 (maxOf (sigScaled s.fresh c.volt x))) →
    (c.skip = true → exec (.signatureCaptureEnd n x) s = .next (finish s (verdictSet n 4 u))) ∧
    (c.skip = false → v.flag F.SNS_SIGSTAT_LEARNT n = true →
      exec (.signatureCaptureEnd n x) s = .next (finish s (sigJudge n c (sigScaled s.fresh c.volt x) v))) ∧
    (c.skip = false → v.flag F.SNS_SIGSTAT_LEARNT n = false →
      exec (.signatureCaptureEnd n x) s = .next (finish s (verdictSet n 0 (sigLearn n (sigScaled s.fresh c.volt x) v))))) ∧
  (∀ (m : Master) (n : Fin 64) (v : Word) (s u : State), chanFitted s.variant n = true → reservedSet .SNS_SIGCFG v = false → 1 ≤ F.SNS_SIGCFG_TOL.of v →
    F.SNS_SIGCFG_TOL.of v ≤ 50 → 5 ≤ F.SNS_SIGCFG_DEG_LIM.of v → F.SNS_SIGCFG_DEG_LIM.of v ≤ 100 → F.SNS_SIGCFG_DEG_LIM.of v < F.SNS_SIGCFG_CHG_LIM.of v →
    F.SNS_SIGCFG_CHG_LIM.of v ≤ 200 → u = s.hold .SNS_SIGCFG n (v &&& word 0x7FFFFFFF) → exec (.relearn m (n.castLE (Nat.le_add_right 64 32)) v) s = .next (finish s
      ((u.setSns n { u.snsCh n with relearn := F.SNS_SIGCFG_RELEARN.on v }).answer m .SNS_RESULT .accepted n (Reg.addr .SNS_SIGCFG n)))) ∧
  (∀ (m : Master) (n : Fin 96) (v : Word) (s : State), 64 ≤ n.val → chanFitted s.variant n = true →
    exec (.relearn m n v) s = .next (finish s (s.answer m .SNS_RESULT (if v = 0 then .accepted else .invalid) n (Reg.addr .SNS_SIGCFG n)))) ∧
  (∀ (m : Master) (v : Word) (s : State), reservedSet .SNS_SIGSEL v = false → F.SNS_SIGSEL_CURVE.of v ≠ 3 → F.SNS_SIGSEL_CHAN.of v < 64 →
    chanFitted s.variant (F.SNS_SIGSEL_CHAN.of v) = true → exec (.snsSigsel m v) s = .next (finish s
      (((List.range 64).foldl (fun t w => t.wr .SNS_CURVE (bk m w) (curveWord (s.snsCh (F.SNS_SIGSEL_CHAN.of v)) (F.SNS_SIGSEL_CURVE.of v) w))
        (s.wr .SNS_SIGSEL (1024 * masterBank m) v)).answer m .SNS_RESULT .accepted (F.SNS_SIGSEL_CHAN.of v) (Reg.addr .SNS_SIGSEL 0)))) ∧
  (∀ (m : Master) (n : Fin 96) (s : State), chanFitted s.variant n = true →
    exec (.snsValRead m n) s = .next (finish s ((s.wr .SNS_STAMP (bk m n) (word (s.snsCh n).stamp)).emit (.value m (Reg.addr .SNS_VAL n) (s.rd .SNS_VAL n)))))

/-- Commands to valves (R291, R293, R295, R296, R299, R300, R306), for values without a reserved bit. A start is refused with STATE where R295 bars
it, has no further effect on a valve in BOOST or PEAK or one that waits, begins a boost at once where none defers it, waits where its deferral is
within MAXDEF, and is else refused and counted; OFF acts as R300 says; both in one write are INVALID. VLV_STARTM is decided whole, and VLV_OFFM takes
every valve named; a mask that names an absent valve is refused with ABSENT. CLR frees a group from FAULT, and CNTCLR clears its counts. VLV_RESULT
names the valve and a deferral. Where the rules leave a point open, the clause follows the model's choice in log entry 28. -/
def Obligations.ValveCommands : Prop :=
  (∀ (m : Master) (v : Fin 24) (w : Word) (s : State), valveFitted s.variant v = true → reservedSet .VLV_CMD w = false → F.VLV_CMD_START.on w = true →
    (F.VLV_CMD_OFF.on w = false → exec (.vlvStart m v w) s = .next (finish s
      (((startCommand v s).2.2.wr .VLV_RESULT (bk m 0) (word ((startCommand v s).1.num + 0x100 * (v % 32) + 0x8000 * b01 (startCommand v s).2.1 + 0x10000 * Reg.addr .VLV_CMD v))).emit
        (.written m (Reg.addr .VLV_CMD v) (startCommand v s).1)))) ∧
    (F.VLV_CMD_OFF.on w = true → exec (.vlvStart m v w) s = .next (finish s
      ((s.wr .VLV_RESULT (bk m 0) (word (Code.invalid.num + 0x100 * (v % 32) + 0x10000 * Reg.addr .VLV_CMD v))).emit (.written m (Reg.addr .VLV_CMD v) .invalid)))) ∧
    (s.startBarred v = true → startCommand v s = (.state, false, s)) ∧
    (s.startBarred v = false → s.vState v = 1 ∨ s.vState v = 2 ∨ s.vState v = 3 ∨ s.flag F.VLV_STAT_RPEND v = true → startCommand v s = (.accepted, false, s)) ∧
    (s.startBarred v = false → s.vState v ≠ 1 → s.vState v ≠ 2 → s.vState v ≠ 3 → s.flag F.VLV_STAT_RPEND v = false →
      (s.deferral v = 0 → startCommand v s = (.accepted, false, enterBoost v s)) ∧
      (s.deferral v ≠ 0 → s.deferral v ≤ s.getF F.VLV_GCFG_MAXDEF (v / 4) * 100000 → ∀ u,
        u = (s.setVlv v { s.vlv v with promise := s.up + s.deferral v }).countF F.VLV_GCNT_DEFERRED (v / 4) →
        startCommand v s = (.accepted, true, if s.vState v = 0 then vlvTo v 1 u else u.setB F.VLV_STAT_RPEND v true)) ∧
      (s.getF F.VLV_GCFG_MAXDEF (v / 4) * 100000 < s.deferral v → startCommand v s = (.groupBusy, false, s.countF F.VLV_GCNT_BUSY (v / 4))))) ∧
  (∀ (m : Master) (v : Fin 24) (w : Word) (s : State), valveFitted s.variant v = true → reservedSet .VLV_CMD w = false → F.VLV_CMD_START.on w = false →
    F.VLV_CMD_OFF.on w = true → exec (.vlvOff m v w) s = .next (finish s
      (((offCommand v s).wr .VLV_RESULT (bk m 0) (word (0x100 * (v % 32) + 0x10000 * Reg.addr .VLV_CMD v))).emit (.written m (Reg.addr .VLV_CMD v) .accepted)))) ∧
  (∀ (m : Master) (w : Word) (s : State) (l : List Nat), reservedSet .VLV_STARTM w = false → l = onesUpTo 24 w.toNat →
    (l.all (fun v => valveFitted s.variant v) = true →
      exec (.vlvStartm m w) s = .next (finish s (((startMask l s s).2.2.2.wr .VLV_RESULT (bk m 0)
        (word ((startMask l s s).1.num + 0x100 * ((startMask l s s).2.1 % 32) + 0x8000 * b01 (startMask l s s).2.2.1 + 0x10000 * Reg.addr .VLV_STARTM 0))).emit
          (.written m (Reg.addr .VLV_STARTM 0) (startMask l s s).1)))) ∧
    (∀ v, l.find? (fun v => ! valveFitted s.variant v) = some v → exec (.vlvStartm m w) s = .next (finish s
      ((s.wr .VLV_RESULT (bk m 0) (word (Code.absent.num + 0x100 * (v % 32) + 0x10000 * Reg.addr .VLV_STARTM 0))).emit
        (.written m (Reg.addr .VLV_STARTM 0) .absent))))) ∧
  (∀ (m : Master) (w : Word) (s : State) (l : List Nat), reservedSet .VLV_OFFM w = false → l = onesUpTo 24 w.toNat →
    (l.all (fun v => valveFitted s.variant v) = true → exec (.vlvOffm m w) s = .next (finish s
      (((l.foldl (fun t v => offCommand v t) s).wr .VLV_RESULT (bk m 0) (word (0x10000 * Reg.addr .VLV_OFFM 0))).emit (.written m (Reg.addr .VLV_OFFM 0) .accepted)))) ∧
    (∀ v, l.find? (fun v => ! valveFitted s.variant v) = some v → exec (.vlvOffm m w) s = .next (finish s
      ((s.wr .VLV_RESULT (bk m 0) (word (Code.absent.num + 0x100 * (v % 32) + 0x10000 * Reg.addr .VLV_OFFM 0))).emit
        (.written m (Reg.addr .VLV_OFFM 0) .absent))))) ∧
  (∀ (m : Master) (g : Fin 6) (w : Word) (s : State), groupFitted s.variant g = true → reservedSet .VLV_GCLR w = false →
    (F.VLV_GCLR_CLR.on w = true → F.VLV_GCLR_CNTCLR.on w = false → exec (.vlvClr m g w) s = .next (finish s
      (((groupApply g (groupClear g s)).wr .VLV_RESULT (bk m 0) (word (0x100 * (4 * g % 32) + 0x10000 * Reg.addr .VLV_GCLR g))).emit (.written m (Reg.addr .VLV_GCLR g) .accepted)))) ∧
    (F.VLV_GCLR_CLR.on w = false → F.VLV_GCLR_CNTCLR.on w = true → ∃ t, exec (.vlvCntclr m g w) s = .next t ∧ t.rd .VLV_GCNT g = 0 ∧
      sends s t [.written m (Reg.addr .VLV_GCLR g) .accepted] ∧ regsBut s t [(.VLV_GCNT, g), (.VLV_RESULT, bk m 0)] ∧ memSame s t))

/-- The course of a valve event (R284, R285, R287, R292, R297 to R300, R470). A valve that waits boosts when boost is free, and else nothing changes;
the peak, the stroke dip, TMAX, DWELL and HOLDMAX take it through its phases; when its current has decayed its record is made and the valve is IDLE,
or waits for a pending restart; one that the FCRU has disabled in its event has its record then. A valve whose TMAX passes below 100 mA, a short and a
hot junction bring FAULT in an event and change nothing outside one, and the high side of a group brings it for its enabled valves. The capacitor's
voltage is clamped at RAIL + 5 V, and the feed path ends at RAIL - 2 V. Where the rules leave a point open, the clause follows the model's choice in
log entry 28. -/
def Obligations.ValvePhases : Prop :=
  (∀ (v : Fin 24) (s : State), s.vState v = 1 ∨ s.flag F.VLV_STAT_RPEND v = true → s.boostNow v = true → exec (.boostFree v) s = .next (finish s (enterBoost v s))) ∧
  (∀ (v : Fin 24) (s : State), s.boostNow v = false → exec (.boostFree v) s = .next (finish s s)) ∧
  (∀ (v : Fin 24) (cur : Nat) (s u : State), s.vState v = 2 → u = ttpLate v (vlvCur v cur s) →
    exec (.peakReached v) s = .next (finish s (vlvCur v (s.getF F.VLV_CUR_PEAK v) (phaseTo v 2 (vlvTo v 3 (boostEnd v (strokeJudge v (ttpJudge v (valveCapture v 0 s)))))))) ∧
    ((s.vlv v).restart = false →
      exec (.strokeDip v cur) s = .next (finish s (valveCapture v 1 ((vlvCur v cur s).setVlv v { s.vlv v with dip := true })))) ∧
    (cur < 10 → exec (.tmaxElapsed v cur) s = .next (finish s (valveFault v 3 s))) ∧
    (10 ≤ cur → s.flag F.VLV_MODE_LATEACT v = true → exec (.tmaxElapsed v cur) s = .next (finish s (valveOff v 2 false u))) ∧
    (10 ≤ cur → s.flag F.VLV_MODE_LATEACT v = false → exec (.tmaxElapsed v cur) s =
      .next (finish s (vlvCur v (s.getF F.VLV_CUR_HOLD v) (phaseTo v 3 (vlvTo v 4 (boostEnd v (strokeJudge v u)))))))) ∧
  (∀ (v : Fin 24) (s : State), s.vState v = 3 → exec (.dwellElapsed v) s =
    .next (finish s (vlvCur v (s.getF F.VLV_CUR_HOLD v) (phaseTo v 3 (vlvTo v 4 (valveCapture v 2 s)))))) ∧
  (∀ (v : Fin 24) (s : State), s.vState v = 4 →
    (s.getF F.VLV_MODE_HOLDMAX v ≠ 0 → exec (.holdmaxElapsed v) s = .next (finish s (valveOff v 1 false s))) ∧
    (s.getF F.VLV_MODE_HOLDMAX v = 0 → exec (.holdmaxElapsed v) s = .next (finish s s))) ∧
  (∀ (v : Fin 24) (s u : State), u = vlvCur v 0 (valveRecord v (phaseTo v 4 (valveCapture v 2 s))) →
    (s.vState v = 5 ∨ s.vState v = 6 → s.flag F.VLV_STAT_RPEND v = true →
      exec (.valveCurrentDecayed v) s = .next (finish s ((vlvTo v 1 u).setB F.VLV_STAT_RPEND v false))) ∧
    (s.vState v = 5 ∨ s.vState v = 6 → s.flag F.VLV_STAT_RPEND v = false →
      exec (.valveCurrentDecayed v) s = .next (finish s (groupApply (v / 4) (vlvTo v 0 u)))) ∧
    (s.vState v = 8 → (s.vlv v).event.fin = 3 → exec (.valveCurrentDecayed v) s = .next (finish s u))) ∧
  (∀ (g : Fin 6) (s : State), ∃ t, exec (.rechargeWindowEnd g) s = .next t ∧ t.flag F.VLV_GSTAT_RECHG g = false ∧ regsBut s t [(.VLV_GSTAT, g)] ∧ memSame s t ∧ sends s t []) ∧
  (∀ (v : Fin 24) (s : State), s.vBusy v = true → exec (.valveShort v) s = .next (finish s (valveFault v 1 s)) ∧
    exec (.valveJunctionOvertemp v) s = .next (finish s (valveFault v 2 s))) ∧
  (∀ (v : Fin 24) (s : State), s.vBusy v = false → exec (.valveShort v) s = .next (finish s s) ∧ exec (.valveJunctionOvertemp v) s = .next (finish s s)) ∧
  (∀ (g : Fin 6) (s : State), groupFitted s.variant g = true → exec (.highSideCutoff g) s = .next (finish s
    ((((groupValves g).filter fun v => s.vEnabled v && s.vState v != 7).foldl (fun t v => valveFault v 4 t)
      (s.setB F.VLV_GSTAT_HSFAULT g true)).emcyObj 0xFF53 0 (0x3900 + g) 0x04))) ∧
  (∀ (g : Fin 6) (capv : Nat) (s u : State), groupFitted s.variant g = true → s.boostRuns = true →
    u = s.setF F.VLV_GSTAT_CAPV g (min capv (s.getF F.VLV_GCFG_RAIL g * 10 + 50)) →
    (s.getF F.VLV_GCFG_RAIL g * 10 ≤ capv + 20 → exec (.boostRailAvailable g capv) s = .next (finish s (u.setB F.VLV_GSTAT_FEEDPATH g false))) ∧
    (capv + 20 < s.getF F.VLV_GCFG_RAIL g * 10 → exec (.boostRailAvailable g capv) s = .next (finish s u)))

/-- Switch inputs (R309 to R313, R315, R316). A pin that crosses its threshold begins a run towards the new level, with its stamp 336 ns back; a run
that has begun goes on, and a crossing back drops it; a run that has lasted its time changes the level. A resistor-coded reading in a new band is a
candidate, which takes the position when it has been read twice or more over DEBOUNCE; a reading of the present position drops the candidate; other
inputs take no conversion. A pulse input without an edge for long enough has period 0. A poll sample confirms an open poll window where a polled input
is still away from its level at the entry; while the module sleeps, a sample in which a polled input is away from it is recognised as source 3, where
that is armed and has no window; while it is up and no entry or eve runs, it changes nothing. Where the rules leave a point open, the clause follows
the model's choice in log entry 29. -/
def Obligations.SwitchInputs : Prop :=
  (∀ (n : Fin 64) (raw : Bool) (s u : State), s.dom.switch = true → s.almStopped = false → sinFitted s.variant n = true → u = s.setB F.SIN_STAT_RAW n raw →
    (s.sinMode n = 0 ∨ s.sinMode n = 1 →
      (u.sinTarget n = u.sinLevel n → exec (.sinPinCrossing n raw) s = .next (finish s (runDrop n u))) ∧
      (u.sinTarget n ≠ u.sinLevel n → (u.si n).run ≠ none → exec (.sinPinCrossing n raw) s = .next (finish s u)) ∧
      (u.sinTarget n ≠ u.sinLevel n → (u.si n).run = none → exec (.sinPinCrossing n raw) s =
        .next (finish s ((u.setSi n { u.si n with run := some (s.shortLess 336) }).setB F.SIN_STAT_RUN n true)))) ∧
    (s.sinMode n = 2 → exec (.sinPinCrossing n raw) s = .next (finish s s)) ∧
    (s.sinMode n = 3 → exec (.sinPinCrossing n raw) s = .next (finish s (pulseEdge n (s.shortLess 336) u)))) ∧
  (∀ (n : Fin 64) (stamp : Nat) (s : State), s.dom.switch = true → s.almStopped = false → sinFitted s.variant n = true → (s.si n).run = some stamp →
    exec (.sinLevelChange n) s = .next (finish s (accInputs s (levelChange n (s.sinTarget n) stamp false (runDrop n s))))) ∧
  (∀ (n : Fin 64) (ohms : Option Nat) (s u : State) (x : Input), s.dom.switch = true → s.almStopped = false → sinFitted s.variant n = true → s.sinMode n = 2 →
    u = s.setF F.SIN_STAT_RES n (match ohms with | some r => sat 0xFFFF r | none => 0xFFFF) → x = u.si n →
    (u.posOf n ohms = u.sinPos n → x.resume = none → exec (.sinResConversion n ohms) s = .next (finish s (accInputs s
      ((u.setSi n { x with candN := 0 }).setB F.SIN_STAT_RUN n false)))) ∧
    (u.posOf n ohms ≠ u.sinPos n ∨ x.resume ≠ none → x.candN = 0 ∨ x.cand ≠ u.posOf n ohms → exec (.sinResConversion n ohms) s = .next (finish s (accInputs s
      ((u.setSi n { x with cand := u.posOf n ohms, candN := 1, candStamp := u.short,
                           candAt := if x.candN = 0 ∧ x.resume.isSome = true then x.candAt else u.up }).setB F.SIN_STAT_RUN n true)))) ∧
    (u.posOf n ohms ≠ u.sinPos n ∨ x.resume ≠ none → x.candN ≠ 0 → x.cand = u.posOf n ohms →
      (x.candAt + u.getF F.SIN_CFG_DEBOUNCE n * 1000 ≤ u.up → exec (.sinResConversion n ohms) s =
        .next (finish s (accInputs s (posChange n (u.posOf n ohms) x.candStamp ((u.setSi n { x with candN := 0 }).setB F.SIN_STAT_RUN n false))))) ∧
      (u.up < x.candAt + u.getF F.SIN_CFG_DEBOUNCE n * 1000 → exec (.sinResConversion n ohms) s =
        .next (finish s (accInputs s ((u.setSi n { x with candN := x.candN + 1 }).setB F.SIN_STAT_RUN n true)))))) ∧
  (∀ (n : Fin 64) (ohms : Option Nat) (s : State), s.sinMode n ≠ 2 → exec (.sinResConversion n ohms) s = .next (finish s s)) ∧
  (∀ (n : Fin 64) (s : State), s.sinMode n = 3 → ∃ t, exec (.sinPeriodTimeout n) s = .next t ∧ t.rd .SIN_PER n = 0 ∧ regsBut s t [(.SIN_PER, n)] ∧
    memSame s t ∧ sends s t []) ∧
  (∀ (levels : Nat) (s u : State) (at_ : Nat → Bool), at_ = (fun n => (s.si n).atEntry.1 != 0) → u = ({ s with net := { s.net with polled := [] } } : State) →
    (s.net.windows.contains 3 = true → s.net.polled ≠ [] →
      (pollChanges levels at_ s.net.polled s = [] → exec (.pollSample levels) s = .next (finish s u)) ∧
      (pollChanges levels at_ s.net.polled s ≠ [] → exec (.pollSample levels) s = .next (finish s (wakeConfirm 3 u)))) ∧
    (s.net.windows.contains 3 = false → s.asleep = true → s.sourceArmed 3 = true →
      (pollChanges levels at_ s.net.pollSet s = [] → exec (.pollSample levels) s = .next (finish s s)) ∧
      (pollChanges levels at_ s.net.pollSet s ≠ [] → exec (.pollSample levels) s =
        .next (finish s (recognise 3 { s with net := { s.net with polled := pollChanges levels at_ s.net.pollSet s } })))) ∧
    (s.net.windows.contains 3 = false → s.asleep = false → s.entering = false → s.nmState ≠ 2 → s.nmState ≠ 3 →
      exec (.pollSample levels) s = .next (finish s s)))

/-- Field points (R322 to R325, R327, R328, R412), for values without a reserved bit. A pin that crosses its switching point shows its level, and on
an input begins a run, stamped 1,216 ns back, or breaks it; a run that goes on keeps its stamp, and one that has lasted FILTER changes the filtered
level, its flag and its record. A refresh write takes the image and brings the points back to RUN; one that names an absent point is refused whole
with it; FIO_OUTS, FIO_OUTC and KICK are refused in TIMEOUT, and a write that would set a PARKHOLD output in an entry to DORMANT is refused. The
timer's expiry takes the points in RUN to TIMEOUT, counts, and is reported. A cause of the common fault that sets, sets FAULT; FAULT clears by a write
while no cause holds, and stays while one does. Where the rules leave a point open, the clause follows the model's choice in log entry 29. -/
def Obligations.FieldPoints : Prop :=
  (∀ (p : Fin 32) (high : Bool) (s u : State), s.dom.field = true → s.toState ≠ 3 → fioFitted s.variant p = true → u = s.setB (portBit .FIO_PIN p) 0 high →
    (u.fioIsOut p = true → exec (.fioPinCrossing p high) s = .next (finish s u)) ∧
    (u.fioIsOut p = false → high = u.fioIn p → exec (.fioPinCrossing p high) s = .next (finish s (u.setFp p { u.fp p with run := none }))) ∧
    (u.fioIsOut p = false → high ≠ u.fioIn p → (u.fp p).run ≠ none → exec (.fioPinCrossing p high) s = .next (finish s u)) ∧
    (u.fioIsOut p = false → high ≠ u.fioIn p → (u.fp p).run = none →
      exec (.fioPinCrossing p high) s = .next (finish s (u.setFp p { u.fp p with run := some (u.shortLess 1216) })))) ∧
  (∀ (p : Fin 32) (stamp : Nat) (s : State), s.dom.field = true → s.toState ≠ 3 → (s.fp p).run = some stamp →
    exec (.fioInputChange p) s = .next (finish s (fieldChange p (s.fioPin p) stamp false (s.setFp p { s.fp p with run := none })))) ∧
  (∀ (m : Master) (w : Word) (s : State), absentPoint s w = none →
    (parkHeldRise s w = false → exec (.fioOut m w) s = .next (finish s ((((refresh s).wr .FIO_OUT 0 w).wr .FIO_RESULT (bk m 0)
      (word (0x10000 * Reg.addr .FIO_OUT 0))).emit (.written m (Reg.addr .FIO_OUT 0) .accepted)))) ∧
    (s.toState ≠ 2 → parkHeldRise s (s.rd .FIO_OUT 0 ||| w) = false → exec (.fioOuts m w) s = .next (finish s
      ((((refresh s).wr .FIO_OUT 0 (s.rd .FIO_OUT 0 ||| w)).wr .FIO_RESULT (bk m 0) (word (0x10000 * Reg.addr .FIO_OUTS 0))).emit
        (.written m (Reg.addr .FIO_OUTS 0) .accepted)))) ∧
    (s.toState ≠ 2 → parkHeldRise s (s.rd .FIO_OUT 0 &&& ~~~ w) = false → exec (.fioOutc m w) s = .next (finish s
      ((((refresh s).wr .FIO_OUT 0 (s.rd .FIO_OUT 0 &&& ~~~ w)).wr .FIO_RESULT (bk m 0) (word (0x10000 * Reg.addr .FIO_OUTC 0))).emit
        (.written m (Reg.addr .FIO_OUTC 0) .accepted)))) ∧
    (parkHeldRise s w = true → exec (.fioOut m w) s = .next (finish s ((s.wr .FIO_RESULT (bk m 0) (word (7 + 0x10000 * Reg.addr .FIO_OUT 0))).emit
      (.written m (Reg.addr .FIO_OUT 0) .state)))) ∧
    (s.toState = 2 → exec (.fioOuts m w) s = .next (finish s ((s.wr .FIO_RESULT (bk m 0) (word (7 + 0x10000 * Reg.addr .FIO_OUTS 0))).emit
        (.written m (Reg.addr .FIO_OUTS 0) .state))) ∧
      exec (.fioOutc m w) s = .next (finish s ((s.wr .FIO_RESULT (bk m 0) (word (7 + 0x10000 * Reg.addr .FIO_OUTC 0))).emit
        (.written m (Reg.addr .FIO_OUTC 0) .state))))) ∧
  (∀ (m : Master) (w : Word) (p : Nat) (s : State), absentPoint s w = some p →
    exec (.fioOut m w) s = .next (finish s ((s.wr .FIO_RESULT (bk m 0) (word (5 + 0x100 * (p % 256) + 0x10000 * Reg.addr .FIO_OUT 0))).emit
      (.written m (Reg.addr .FIO_OUT 0) .absent))) ∧
    exec (.fioOuts m w) s = .next (finish s ((s.wr .FIO_RESULT (bk m 0) (word (5 + 0x100 * (p % 256) + 0x10000 * Reg.addr .FIO_OUTS 0))).emit
      (.written m (Reg.addr .FIO_OUTS 0) .absent))) ∧
    exec (.fioOutc m w) s = .next (finish s ((s.wr .FIO_RESULT (bk m 0) (word (5 + 0x100 * (p % 256) + 0x10000 * Reg.addr .FIO_OUTC 0))).emit
      (.written m (Reg.addr .FIO_OUTC 0) .absent)))) ∧
  (∀ (m : Master) (w : Word) (s : State), reservedSet .FIO_KICK w = false →
    (s.toState ≠ 2 → F.FIO_KICK_KICK.on w = true → exec (.fioKick m w) s = .next (finish s
      (((refresh s).wr .FIO_RESULT (bk m 0) (word (0x10000 * Reg.addr .FIO_KICK 0))).emit (.written m (Reg.addr .FIO_KICK 0) .accepted)))) ∧
    (s.toState = 2 → exec (.fioKick m w) s = .next (finish s
      ((s.wr .FIO_RESULT (bk m 0) (word (7 + 0x10000 * Reg.addr .FIO_KICK 0))).emit (.written m (Reg.addr .FIO_KICK 0) .state))))) ∧
  (∀ (m : Master) (w : Word) (s : State),
    (s.rd .FIO_COSF 0 &&& ~~~ w ≠ 0 → exec (.fioCosfClear m w) s = .next (finish s
      (((s.wr .FIO_COSF 0 (s.rd .FIO_COSF 0 &&& ~~~ w)).wr .FIO_RESULT (bk m 0) (word (0x10000 * Reg.addr .FIO_COSF 0))).emit (.written m (Reg.addr .FIO_COSF 0) .accepted)))) ∧
    (s.rd .FIO_COSF 0 &&& ~~~ w = 0 → exec (.fioCosfClear m w) s = .next (finish s
      ((((s.wr .FIO_COSF 0 0).withdraw 14).wr .FIO_RESULT (bk m 0) (word (0x10000 * Reg.addr .FIO_COSF 0))).emit (.written m (Reg.addr .FIO_COSF 0) .accepted))))) ∧
  (∀ s : State,
    (s.toState = 1 → exec .fieldTimeout s = .next (finish s
      (((((s.setF F.FIO_STATUS_TOSTATE 0 2).countF F.FIO_STATUS_TOCNT 0).request 15).raise 169 0).emcyObj 0xFF62 0 0x4100 0x24))) ∧
    (s.toState ≠ 1 → exec .fieldTimeout s = .next (finish s s))) ∧
  (∀ (m : Master) (w : Word) (s : State), reservedSet .FIO_STATUS w = false → F.FIO_STATUS_FAULT.on w = true →
    (s.fioCause = false → ∃ t, exec (.fioFault m w) s = .next t ∧ t.flag F.FIO_STATUS_FAULT 0 = false ∧
      sends s t [.written m (Reg.addr .FIO_STATUS 0) .accepted] ∧ regsBut s t [(.FIO_STATUS, 0), (.FIO_RESULT, bk m 0)] ∧ memSame s t) ∧
    (s.fioCause = true → exec (.fioFault m w) s = .next (finish s ((s.wr .FIO_RESULT (bk m 0) (word (0x10000 * Reg.addr .FIO_STATUS 0))).emit
      (.written m (Reg.addr .FIO_STATUS 0) .accepted))))) ∧
  (∀ (low : Bool) (volt : Nat) (s : State), s.dom.field = true → exec (.suplow low volt) s = .next (finish s
    (causeSet F.FIO_STATUS_SUPLOW low (s.setF F.FIO_SUPV_VOLT 0 (sat 65535 volt))))) ∧
  (∀ (p : Fin 32) (s : State), s.fioDriven p = true → exec (.fioOvld p) s = .next (finish s (causeSet F.FIO_STATUS_OVLD
    ((tabSet false s.fioPause p true).any fun x => x.2) ({ s with fioPause := tabSet false s.fioPause p true } : State)))) ∧
  (∀ (p : Fin 32) (s : State), exec (.fioOverloadRetry p) s = .next (finish s (causeSet F.FIO_STATUS_OVLD
    ((tabSet false s.fioPause p false).any fun x => x.2) ({ s with fioPause := tabSet false s.fioPause p false } : State)))) ∧
  (∀ (p : Fin 32) (hot : Bool) (s : State), s.dom.field = true → fioFitted s.variant p = true → exec (.fioOvt p hot) s = .next (finish s (causeSet F.FIO_STATUS_OVT
    ((tabSet false s.fioHot p hot).any fun x => x.2) ({ s with fioHot := tabSet false s.fioHot p hot } : State)))) ∧
  (∀ (f : Fld) (s : State), f = F.FIO_STATUS_SUPLOW ∨ f = F.FIO_STATUS_OVLD ∨ f = F.FIO_STATUS_OVT →
    s.flag f 0 = false → (causeSet f true s).flag F.FIO_STATUS_FAULT 0 = true)

/-- The state of a CAN channel (R334 to R337, R340, R343), for values without a reserved bit. In CONFIG a MODE starts integration or LOOPBACK; outside
it only MODE 0 is taken, and applies when no attempt is in progress; integration ends in NORMAL or LISTEN. A frame received in NORMAL, LISTEN or QUIET
is filtered, and one that a queue stores confirms the channel's wake. An error sets its code and, on a channel that sends, the counters, and fails the
attempt in progress if the module was sending; TEC above 255 is bus-off, which recovery ends with both counters 0, EMCY 0x8140 following on the
CANopen channel. RECOVER starts recovery in BUS_OFF while ABOR is clear. The end of QUIET begins an integration. Where the rules leave a point open,
the clause follows the model's choice in log entry 30. -/
def Obligations.CanStates : Prop :=
  (∀ (m : Master) (n : Fin 8) (w : Word) (s : State), canFitted s.variant n = true → reservedSet .CAN_MODE w = false → F.CAN_MODE_MODE.of w ≤ 4 →
    (s.canState n = 0 → exec (.canModeWrite m n w) s = .next (finish s ((((s.wr .CAN_MODE n w).setF F.CAN_STAT_STATE n (if F.CAN_MODE_MODE.of w = 1 ∨ F.CAN_MODE_MODE.of w = 2 then 1
      else if F.CAN_MODE_MODE.of w = 3 then 4 else if F.CAN_MODE_MODE.of w = 4 then 5 else 0)).wr .CAN_RESULT (bk m n) (word (0x10000 * Reg.addr .CAN_MODE n))).emit
        (.written m (Reg.addr .CAN_MODE n) .accepted)))) ∧
    (s.canState n ≠ 0 → F.CAN_MODE_MODE.of w ≠ 0 → exec (.canModeWrite m n w) s =
      .next (finish s ((s.wr .CAN_RESULT (bk m n) (word (7 + 0x10000 * Reg.addr .CAN_MODE n))).emit (.written m (Reg.addr .CAN_MODE n) .state))))) ∧
  (∀ (n : Fin 8) (s : State), s.activeMb n = none →
    ((s.heldOf .CAN_MODE n).isSome = true → exec (.canConfigEnter n) s = .next (finish s (configEnter n s))) ∧
    ((s.heldOf .CAN_MODE n).isSome = false → exec (.canConfigEnter n) s = .next (finish s s))) ∧
  (∀ (n : Fin 8) (s : State), s.canState n = 1 → exec (.canIntegrateComplete n) s = .next (finish s (s.setF F.CAN_STAT_STATE n (if s.getF F.CAN_MODE_MODE n = 2 then 3 else 2)))) ∧
  (∀ (n : Fin 8) (f : CanFrame) (s t : State), (f.ide = true ∨ f.id ≠ 0) → s.canOn n = true →
    t = (if s.canState n = 2 then filtersApply n (recLess n (canFilter n f s)) else if s.canState n = 3 ∨ s.canState n = 7 then filtersApply n (canFilter n f s)
      else filtersApply n s) →
    ((s.q (.can n 0)).recs.length < (t.q (.can n 0)).recs.length ∨ (s.q (.can n 1)).recs.length < (t.q (.can n 1)).recs.length →
      exec (.canFrameReceived n f) s = .next (finish s (wakeConfirm (4 + n) t))) ∧
    ((t.q (.can n 0)).recs.length ≤ (s.q (.can n 0)).recs.length → (t.q (.can n 1)).recs.length ≤ (s.q (.can n 1)).recs.length →
      exec (.canFrameReceived n f) s = .next (finish s t))) ∧
  (∀ (n : Fin 8) (f : CanFrame) (s : State), (f.ide = true ∨ f.id ≠ 0) → s.canOn n = false → exec (.canFrameReceived n f) s = .next (finish s s)) ∧
  (∀ (n : Fin 8) (lec : Fin 8) (dph tx : Bool) (tec rec_ : Nat) (s u v : State), s.canOn n = true → lec ≠ 0 →
    u = (s.setF F.CAN_ERR_LEC n (if lec.val = 7 ∧ s.flag F.CAN_MODE_PXHD n = false then 2 else lec)).setB F.CAN_ERR_DPH n dph →
    (s.canState n = 3 ∨ s.canState n = 7 → u.activeMb n = none → exec (.canError n lec dph tx tec rec_) s = .next (finish s (filtersApply n u))) ∧
    (s.canState n = 2 ∨ s.canState n = 4 → v = countersTo n tec rec_ u →
      (255 < tec → exec (.canError n lec dph tx tec rec_) s = .next (finish s (filtersApply n (busOff n v)))) ∧
      (tec ≤ 255 → v.activeMb n = none ∨ tx = false → exec (.canError n lec dph tx tec rec_) s = .next (finish s (filtersApply n v))) ∧
      (tec ≤ 255 → tx = true → ∀ b, v.activeMb n = some b →
        exec (.canError n lec dph tx tec rec_) s = .next (finish s (filtersApply n (attemptFails n b 4 v)))))) ∧
  (∀ (n : Fin 8) (s u : State), s.canState n = 8 → tabGet false s.canRecover n = true →
    u = s.setF F.CAN_STAT_STATE n (if s.getF F.CAN_MODE_MODE n = 3 then 4 else 2) →
    ((n : Nat) ≠ s.canOpenCh → exec (.canBusOffRecovery n) s = .next (finish s (countersTo n 0 0 ({ u with canRecover := tabSet false u.canRecover n false } : State)))) ∧
    ((n : Nat) = s.canOpenCh → exec (.canBusOffRecovery n) s =
      .next (finish s ((countersTo n 0 0 ({ u with canRecover := tabSet false u.canRecover n false } : State)).emcyObj 0x8140 0 0 0)))) ∧
  (∀ (m : Master) (n : Fin 8) (w : Word) (s : State), canFitted s.variant n = true → s.canState n = 8 → s.flag F.CAN_MODE_ABOR n = false →
    reservedSet .CAN_ERR (w ||| word (2 ^ F.CAN_ERR_RECOVER.lo)) = false → ∃ t, exec (.canRecover m n w) s = .next t ∧ tabGet false t.canRecover n = true ∧
      sends s t [.written m (Reg.addr .CAN_ERR n) .accepted] ∧ regsBut s t [(.CAN_RESULT, bk m n)] ∧ memSame s t) ∧
  (∀ (n : Fin 8) (s : State), s.canState n ≠ 7 → exec (.canQuietEnd n) s = .next (finish s s)) ∧
  (∀ (n : Fin 8) (s : State), s.canState n = 7 → exec (.canQuietEnd n) s = .next (finish s (nmAwakeCheck (s.setF F.CAN_STAT_STATE n 1))))

/-- CAN mailboxes (R342, R343, R345). A buffer word is taken in EMPTY and LOADED, and the mailbox is then EMPTY; later it is ignored with WIGN. A good
buffer is LOADED; REQ makes a LOADED mailbox PENDING with its stamp; ABORT ends a PENDING one that was never tried with ABORTED; CLEAR empties it. The
mailbox selected becomes ACTIVE, and without one nothing changes; a frame sent ends its request with SENT, or begins the one that was asked for
meanwhile; one lost to arbitration keeps it PENDING, or ends it under ONESHOT or a waiting ABORT. Where the rules leave a point open, the clause
follows the model's choice in log entry 30. -/
def Obligations.CanMailboxes : Prop :=
  (∀ (m : Master) (n : Fin 8) (b : Fin 32) (k : Fin 18) (w : Word) (s : State), canFitted s.variant n = true → s.claimedMb n b = false →
    (s.mbState n b < 2 → exec (.mailboxBufferWrite m n b k w) s = .next (finish s
      (({ s.setF F.MB_STAT_STATE (mbIx n b) 0 with mbuf := tabSet 0 s.mbuf (mbIx n b * 18 + k) w } : State).emit (.written m (0x60000000 + 0x1000 * n + 0x100 + 0x50 * b + 4 * k) .accepted)))) ∧
    (2 ≤ s.mbState n b → exec (.mailboxBufferWrite m n b k w) s = .next (finish s
      ((s.setB F.MB_STAT_WIGN (mbIx n b) true).emit (.written m (0x60000000 + 0x1000 * n + 0x100 + 0x50 * b + 4 * k) .accepted))))) ∧
  (∀ (m : Master) (n : Fin 8) (b : Fin 32) (w : Word) (s : State), canFitted s.variant n = true → s.claimedMb n b = false → s.entering = false →
    reservedSet .MB_CTRL w = false → w &&& 0xF = 0 →
    (s.mbState n b < 2 → mbLoadOk (s.mbWord n b 0) (s.mbWord n b 1) = true → ∃ t, exec (.mbLoad m n b w) s = .next t ∧ t.mbState n b = 1 ∧
      sends s t [.written m (Reg.addr .MB_CTRL (mbIx n b)) .accepted]) ∧
    (s.mbState n b = 1 → s.canState n ≠ 8 → F.MB_CTRL_MSONLY.on w = false → ∃ t, exec (.mbReq m n b w) s = .next t ∧ t.mbState n b = 2 ∧
      t.rd .MB_RQT (mbIx n b) = word s.short ∧ t.getF F.MB_STAT_ATTEMPTS (mbIx n b) = 0 ∧ sends s t [.written m (Reg.addr .MB_CTRL (mbIx n b)) .accepted]) ∧
    (s.mbState n b = 2 → s.getF F.MB_STAT_ATTEMPTS (mbIx n b) = 0 → ∃ t, exec (.mbAbort m n b w) s = .next t ∧ t.mbState n b = 1 ∧
      t.getF F.MB_STAT_OUTCOME (mbIx n b) = 2 ∧ sends s t [.written m (Reg.addr .MB_CTRL (mbIx n b)) .accepted]) ∧
    (s.mbState n b < 2 → ∃ t, exec (.mbClear m n b w) s = .next t ∧ t.mbState n b = 0 ∧ sends s t [.written m (Reg.addr .MB_CTRL (mbIx n b)) .accepted])) ∧
  (∀ (n : Fin 8) (s : State), s.canOn n = true → s.canSends n = true → s.activeMb n = none → s.heldOf .CAN_MODE n = none →
    (∀ b, s.selectMb n = some b →
      exec (.canTxSelect n) s = .next (finish s ((s.setF F.MB_STAT_STATE (mbIx n b) 3).countF F.MB_STAT_ATTEMPTS (mbIx n b)))) ∧
    (s.selectMb n = none → exec (.canTxSelect n) s = .next (finish s s))) ∧
  (∀ (n : Fin 8) (b sof : Nat) (s u : State), s.activeMb n = some b → s.canState n = 2 → s.flag F.CAN_MODE_SELFRX n = false →
    u = (s.wr .MB_TS (mbIx n b) (word sof)).emit (.canTx n b (s.mbWords n b)) →
    (s.flag F.MB_STAT_REREQ (mbIx n b) = false → tabGet false s.mbAbort (mbIx n b) = false → exec (.canTxSent n sof) s =
      .next (finish s (filtersApply n (countersTo n (s.getF F.CAN_STAT_TEC n - 1) (s.getF F.CAN_STAT_REC n) (mbEnd n b 1 1 u))))) ∧
    (s.flag F.MB_STAT_REREQ (mbIx n b) = true → tabGet false s.mbAbort (mbIx n b) = false → exec (.canTxSent n sof) s =
      .next (finish s (filtersApply n (countersTo n (s.getF F.CAN_STAT_TEC n - 1) (s.getF F.CAN_STAT_REC n)
        ((mbEnd n b 2 1 u).setF F.MB_STAT_ATTEMPTS (mbIx n b) 0))))) ∧
    (tabGet false s.mbAbort (mbIx n b) = true → exec (.canTxSent n sof) s =
      .next (finish s (filtersApply n (countersTo n (s.getF F.CAN_STAT_TEC n - 1) (s.getF F.CAN_STAT_REC n) (mbEnd n b 1 5 u)))))) ∧
  (∀ (n : Fin 8) (b : Nat) (s : State), s.activeMb n = some b →
    (s.flag F.MB_CTRL_ONESHOT (mbIx n b) = true ∨ tabGet false s.mbAbort (mbIx n b) = true →
      exec (.canTxArbitrationLost n) s = .next (finish s (mbEnd n b 1 3 s))) ∧
    (s.flag F.MB_CTRL_ONESHOT (mbIx n b) = false → tabGet false s.mbAbort (mbIx n b) = false → exec (.canTxArbitrationLost n) s =
      .next (finish s (mbFailed n b 3 (s.setF F.MB_STAT_STATE (mbIx n b) 2)))))

/-- LIN commanders (R352 to R357), for values without a reserved bit. EN takes an OFF channel to IDLE, or to RUN where the schedule is to run, and a
channel to OFF at once or at the end of its frame; a rate that changes with EN set is refused. RUN starts the schedule of an IDLE channel at the table
it names, and a write without it stops a running one; a write during a slot or the go-to-sleep command waits; a start during a power entry is refused.
SLEEP sends the go-to-sleep command at once where no slot is in progress, and waits for the slot else; WAKE sends its pulse and runs. The next slot of
the table begins with its break; the end of a frame writes the slot's result, and a good frame received its data; the end of the go-to-sleep command
is SLEEP. Where the rules leave a point open, the clause follows the model's choice in log entry 31. -/
def Obligations.LinCommanders : Prop :=
  (∀ (m : Master) (c : Fin 4) (w : Word) (s u : State), linFitted s.variant c = true → reservedSet .LIN_CFG w = false →
    1000 ≤ F.LIN_CFG_RATE.of w → F.LIN_CFG_RATE.of w ≤ 20000 → u = (s.setF F.LIN_CFG_RATE c (F.LIN_CFG_RATE.of w)).setB F.LIN_CFG_EN c (F.LIN_CFG_EN.on w) →
    (s.flag F.LIN_CFG_EN c = false → s.linState c = 0 → F.LIN_CFG_SLEEP.on w = false → F.LIN_CFG_WAKE.on w = false → F.LIN_CFG_EN.on w = true →
      (s.flag F.LIN_SCH_RUN c = false → exec (.linEn m c w) s = .next (finish s ((linTo c 1 u).answer m .LIN_RESULT .accepted c (Reg.addr .LIN_CFG c)))) ∧
      (s.flag F.LIN_SCH_RUN c = true → exec (.linEn m c w) s = .next (finish s ((linStart c (linTo c 1 u)).answer m .LIN_RESULT .accepted c (Reg.addr .LIN_CFG c))))) ∧
    (s.flag F.LIN_CFG_EN c = true → F.LIN_CFG_RATE.of w = s.getF F.LIN_CFG_RATE c → s.linState c ≠ 0 → F.LIN_CFG_EN.on w = false →
      F.LIN_CFG_SLEEP.on w = false → F.LIN_CFG_WAKE.on w = false →
      ((s.ln c).inFrame = false → exec (.linEn m c w) s = .next (finish s ((linOff c u).answer m .LIN_RESULT .accepted c (Reg.addr .LIN_CFG c)))) ∧
      ((s.ln c).inFrame = true → exec (.linEn m c w) s =
        .next (finish s ((u.setLn c { s.ln c with offAsked := true }).answer m .LIN_RESULT .accepted c (Reg.addr .LIN_CFG c))))) ∧
    (s.flag F.LIN_CFG_EN c = true → F.LIN_CFG_RATE.of w ≠ s.getF F.LIN_CFG_RATE c →
      exec (.linEn m c w) s = .next (finish s (s.answer m .LIN_RESULT .state c (Reg.addr .LIN_CFG c))))) ∧
  (∀ (m : Master) (c : Fin 4) (w : Word) (s u : State), linFitted s.variant c = true → reservedSet .LIN_SCH w = false → u = schApply c (s.hold .LIN_SCH c w) →
    (s.entering = true → F.LIN_SCH_RUN.on w = true → exec (.linRun m c w) s = .next (finish s (s.answer m .LIN_RESULT .state c (Reg.addr .LIN_SCH c)))) ∧
    (s.entering = false → (s.ln c).inSlot = true ∨ (s.ln c).sleeping = true →
      exec (.linRun m c w) s = .next (finish s ((s.hold .LIN_SCH c w).answer m .LIN_RESULT .accepted c (Reg.addr .LIN_SCH c)))) ∧
    (s.entering = false → (s.ln c).inSlot = false → (s.ln c).sleeping = false → F.LIN_SCH_RUN.on w = true → u.linState c = 1 →
      exec (.linRun m c w) s = .next (finish s ((linStart c u).answer m .LIN_RESULT .accepted c (Reg.addr .LIN_SCH c)))) ∧
    (s.entering = false → (s.ln c).inSlot = false → (s.ln c).sleeping = false → F.LIN_SCH_RUN.on w = false → u.linState c = 2 →
      exec (.linRun m c w) s = .next (finish s ((linStop c u).answer m .LIN_RESULT .accepted c (Reg.addr .LIN_SCH c))))) ∧
  (∀ (m : Master) (c : Fin 4) (w v : Word) (s : State), linFitted s.variant c = true → v = w ||| word (2 ^ F.LIN_CFG_SLEEP.lo) →
    reservedSet .LIN_CFG v = false → 1000 ≤ F.LIN_CFG_RATE.of v → F.LIN_CFG_RATE.of v ≤ 20000 → F.LIN_CFG_RATE.of v = s.getF F.LIN_CFG_RATE c →
    F.LIN_CFG_EN.on v = true → F.LIN_CFG_WAKE.on v = false → s.linState c = 1 ∨ s.linState c = 2 →
    ((s.ln c).inSlot = false → (s.ln c).sleeping = false →
      ∃ t, exec (.linSleep m c w) s = .next t ∧ (t.ln c).sleeping = true ∧ (t.ln c).inFrame = true ∧ t.linState c = s.linState c ∧
        sends s t [.written m (Reg.addr .LIN_CFG c) .accepted, .linFrame c 0x3C (byte 0 :: List.replicate 7 (byte 0xFF))] ∧
        regsBut s t [(.LIN_CFG, (c : Nat)), (.LIN_RESULT, bk m 0)] ∧ memSame s t) ∧
    ((s.ln c).inSlot = true → ∃ t, exec (.linSleep m c w) s = .next t ∧ (t.ln c).sleepAsked = true ∧ (t.ln c).inSlot = true ∧ t.linState c = s.linState c ∧
      sends s t [.written m (Reg.addr .LIN_CFG c) .accepted] ∧ regsBut s t [(.LIN_CFG, (c : Nat)), (.LIN_RESULT, bk m 0)] ∧ memSame s t)) ∧
  (∀ (m : Master) (c : Fin 4) (w v : Word) (s : State), linFitted s.variant c = true → v = w ||| word (2 ^ F.LIN_CFG_WAKE.lo) →
    reservedSet .LIN_CFG v = false → 1000 ≤ F.LIN_CFG_RATE.of v → F.LIN_CFG_RATE.of v ≤ 20000 → F.LIN_CFG_RATE.of v = s.getF F.LIN_CFG_RATE c →
    F.LIN_CFG_EN.on v = true → F.LIN_CFG_SLEEP.on v = false → s.linState c = 3 →
    ∃ t, exec (.linWake m c w) s = .next t ∧ t.linState c = 2 ∧ t.flag F.LIN_SCH_RUN c = true ∧ (t.ln c).waking = true ∧
      sends s t [.written m (Reg.addr .LIN_CFG c) .accepted, .linPulse c] ∧ memSame s t ∧
      regsBut s t [(.LIN_CFG, (c : Nat)), (.LIN_STAT, (c : Nat)), (.LIN_SCH, (c : Nat)), (.LIN_RESULT, bk m 0)]) ∧
  (∀ (c : Fin 4) (s : State), s.linOn c = true → s.linState c = 3 →
    exec (.linBusWake c) s = .next (finish s (((linTo c 2 (s.setB F.LIN_STAT_WAKEREQ c true)).setB F.LIN_SCH_RUN c true).setLn c { s.ln c with waking := true }))) ∧
  (∀ (c : Fin 4) (i : Nat) (s u : State) (k : Instr), s.linOn c = true → (s.ln c).inSlot = false → (s.ln c).sleepAsked = false → (s.ln c).back = [] →
    s.heldOf .LIN_SCH c = none → (∀ j < 4, s.heldOf .LIN_TDEF (4 * c + j) = none) → s.flag F.LIN_SCH_RUN c = true →
    (s.ln c).idx < F.LIN_TDEF_LEN.of (s.linDef c (s.linTable c)) → i = (F.LIN_TDEF_FIRST.of (s.linDef c (s.linTable c)) + (s.ln c).idx) % 64 →
    slotEn (s.linWord c i 0).toNat = true → slotOk (s.linWord c i 0).toNat = true →
    (k = .linSlotStart c ∧ s.linState c = 2 ∧ (s.ln c).inFrame = false ∧ (s.ln c).waking = false ∧ u = s) ∨
      (k = .linWakeResume c ∧ (s.ln c).waking = true ∧ u = s.setLn c { s.ln c with waking := false }) →
    exec k s = .next (finish s (slotBegin c i u))) ∧
  (∀ (c : Fin 4) (res : Fin 7) (data : List Byte) (s u : State), s.linOn c = true → (s.ln c).inFrame = true →
    u = (if (s.ln c).sleeping = true then (linTo c 3 ((schApply c s).setB F.LIN_SCH_RUN c false)).setLn c
        { (schApply c s).ln c with inFrame := false, inSlot := false, sleeping := false, sleepAsked := false }
      else frameEnds c res data s) →
    ((s.ln c).offAsked = false → exec (.linFrameEnd c res data) s = .next (finish s u)) ∧
    ((s.ln c).offAsked = true → exec (.linFrameEnd c res data) s = .next (finish s (linOff c u))) ∧
    ((s.ln c).sleeping = true → u.linState c = 3) ∧
    ((s.ln c).offAsked = false → (s.ln c).sleeping = false → (res : Nat) = 0 → (s.ln c).failed = [] → slotRec (s.ln c).w0.toNat = false →
      ∃ t, exec (.linFrameEnd c res data) s = .next t ∧ (t.ln c).inFrame = false ∧ (t.ln c).again = false ∧ regsSame s t ∧ memSame s t ∧ sends s t [] ∧
        t.linWord c (s.ln c).slot 1 = word (0x100 * sat 255 (bitsOf (s.linWord c (s.ln c).slot 1).toNat 8 8)) ∧
        (slotDir (s.ln c).w0.toNat = false → t.linWord c (s.ln c).slot 2 = (bytesWords 2 (data.take (slotLen (s.ln c).w0.toNat))).getD 0 0 ∧
          t.linWord c (s.ln c).slot 3 = (bytesWords 2 (data.take (slotLen (s.ln c).w0.toNat))).getD 1 0))) ∧
  (∀ (m : Master) (c : Fin 4) (w : Word) (s : State), linFitted s.variant c = true → reservedSet .LIN_BRKTS w = false →
    ((s.ln c).inFrame = true → (s.ln c).sleeping = false → exec (.linBrktsWrite m c w) s =
      .next (finish s ((s.setLn c { s.ln c with stamp := some w }).answer m .LIN_RESULT .accepted c (Reg.addr .LIN_BRKTS c)))) ∧
    ((s.ln c).inFrame = false ∨ (s.ln c).sleeping = true →
      exec (.linBrktsWrite m c w) s = .next (finish s (s.answer m .LIN_RESULT .accepted c (Reg.addr .LIN_BRKTS c)))))

/-- Frames of the Ethernet switch and of the service port (R145, R366 to R370, R372, R376, R385). A frame received at a port that is up is counted and
checked; while the switch is enabled a good one is filtered, its source learned, and queued for its ports, with its mirror copy; while it is not, it
goes no further; where the port is down nothing changes. The highest queue that may send does, and a frame of an unshaped queue leaves tagged or
untagged as the VLAN says. Links come up and go down with what hangs on them; a learned address ages out. The service port counts and checks the
frames it gets, answers ARP requests for its address, takes datagrams for its own address, and counts the others. Where the rules leave a point open,
the clause follows the model's choice in log entry 32. -/
def Obligations.SwitchFrames : Prop :=
  (∀ (p : Fin 8) (f g : EthFrame) (s u v : State) (full : Bool), s.dom.comms = true → s.portUp p = true → g = { f with sfd := s.stampIn p f.sfd } →
    u = ethCount p cRxb (frameLenIn g) (ethCount p cRxf 1 s) → (full, v) = learn g (u.ingressTag p g).1 p u →
    (g.bad = true → exec (.ethFrameReceived p f) s = .next (finish s (boundary p (ethCount p cFcs 1 u)))) ∧
    (g.bad = false → frameLenIn g < 64 → exec (.ethFrameReceived p f) s = .next (finish s (boundary p (ethCount p cRunt 1 u)))) ∧
    (g.bad = false → 1522 < frameLenIn g → exec (.ethFrameReceived p f) s = .next (finish s (boundary p (ethCount p cOversize 1 u)))) ∧
    (g.bad = false → 64 ≤ frameLenIn g → frameLenIn g ≤ 1522 → u.ethEn = false → exec (.ethFrameReceived p f) s = .next (finish s (boundary p u))) ∧
    (g.bad = false → 64 ≤ frameLenIn g → frameLenIn g ≤ 1522 → u.ethEn = true →
      (u.admits p g (u.ingressTag p g).1 = false → exec (.ethFrameReceived p f) s =
        .next (finish s (boundary p (if u.mirrors p 0 then mirrorCopy g p (ethCount p cVlan 1 u) else ethCount p cVlan 1 u)))) ∧
      (∀ w, u.admits p g (u.ingressTag p g).1 = true →
        w = queueAll g (u.ingressTag p g).1 (u.ingressTag p g).2 p none
          ((if g.etype = 0x88F7 then [8] else v.egressPorts g (u.ingressTag p g).1 full).filter fun q => q != (p : Nat) && v.portUp q) v →
        exec (.ethFrameReceived p f) s = .next (finish s (boundary p (if u.mirrors p 0 then mirrorCopy g p w else w)))))) ∧
  (∀ (p : Fin 8) (f : EthFrame) (s : State), s.dom.comms = false ∨ s.portUp p = false → exec (.ethFrameReceived p f) s = .next (finish s s)) ∧
  (∀ (p : Fin 9) (q sfd : Nat) (s : State), s.portUp p = true → q < 8 → s.mayServe p q = true → (∀ j < 8, q < j → s.mayServe p j = false) →
    exec (.ethFrameTransmitted (p.castLE (Nat.le_add_right 9 1)) sfd) s =
      .next (finish s (boundary p (sendHead p q (if (p : Nat) = 8 then sfd else s.stampOut p sfd) s)))) ∧
  (∀ (p q sfd : Nat) (e : EthQ) (rest : List EthQ) (s u : State) (tag : Option (Nat × Nat)), p < 8 → s.eq p q = e :: rest → e.asIs = false → e.job = none →
    s.slope p true = 0 → s.slope p false = 0 → s.mirrors p 1 = false → u = setEq p q rest s → tag = (if s.vlanUntag e.vid p then none else some (e.pcp, e.vid)) →
    sendHead p q sfd s = (ethCount p cTxb (frameLen e.frame tag.isSome) (ethCount p cTxf 1 u)).emit (.ethFrame p (frameBytesOut { e.frame with tag := tag } tag))) ∧
  (∀ (sfd : Nat) (s : State), exec (.ethFrameTransmitted 9 sfd) s = .next (finish s (sendHead 9 0 sfd s))) ∧
  (∀ (mac vid : Nat) (s : State), ∃ t, exec (.ethAddressAgeOut mac vid) s = .next t ∧ sends s t [] ∧ regsSame s t ∧ memSame s t ∧
    t.eth.queues = s.eth.queues ∧ ∀ l, l ∈ t.eth.learned ↔ l ∈ s.eth.learned ∧ ¬ (l.mac = mac ∧ l.vid = vid)) ∧
  (∀ (p : Fin 10) (sqi : Fin 8) (s u : State), (p : Nat) < 9 → s.dom.comms = true → ethFitted s.variant p = true → s.flag F.ETH_PCFG_EN p = true →
    u = (((s.setB F.ALM_PHYCAL_BASE_VALID p false).setB F.ETH_PSTAT_LINK p true).setF F.ETH_PSTAT_SQI p sqi).setB ⟨.ETH_STAT, p, 1⟩ 0 true →
    exec (.ethLinkUp p sqi) s = .next (finish s ((u.setPtpPort p { u.ptpPort p with linkUp := true, exchanges := 0 }).odTake 0x4500 0x7E))) ∧
  (∀ (sqi : Fin 8) (s : State), s.dom.comms = true → s.flag F.ETH_SVCSTAT_EN 0 = true →
    exec (.ethLinkUp 9 sqi) s = .next (finish s ((s.setB F.ETH_SVCSTAT_LINK 0 true).odTake 0x4500 0x7F))) ∧
  (∀ (p : Fin 10) (s u v : State), (p : Nat) < 8 →
    u = ((((s.setB F.ETH_PSTAT_LINK p false).setB ⟨.ETH_STAT, p, 1⟩ 0 false).countF F.ETH_PSTAT_DOWNS p).setF F.ETH_PSTAT_SQI p 0).setB F.ALM_PHYCAL_BASE_VALID p false →
    v = u.setPtpPort p { u.ptpPort p with linkUp := false, asCapable := false, exchanges := 0 } →
    (s.flag F.ETH_PSTAT_LINK p = true → exec (.ethLinkDown p) s = .next (finish s (queuesDrop p (if v.slavePort p then gmLost v else v)))) ∧
    (s.flag F.ETH_PSTAT_LINK p = false → exec (.ethLinkDown p) s = .next (finish s s))) ∧
  (∀ s : State, exec (.ethLinkDown 9) s = .next (finish s (queuesDrop 9 (s.setB F.ETH_SVCSTAT_LINK 0 false)))) ∧
  (∀ s : State, ∃ t, exec .svcEnRise s = .next t ∧ t.svc.en = true ∧ t.flag F.ETH_SVCSTAT_EN 0 = s.dom.comms ∧ sends s t [] ∧
    regsBut s t [(.ETH_SVCSTAT, 0)] ∧ memSame s t) ∧
  (∀ s : State, ∃ t, exec .svcEnFall s = .next t ∧ t.svc.en = false ∧
    t.flag F.ETH_SVCSTAT_EN 0 = false ∧ t.flag F.ETH_SVCSTAT_LINK 0 = false ∧ t.sess 3 = none) ∧
  (∀ (f : EthFrame) (s u : State), s.svcUp = true → u = ethCount 9 cRxb (frameLenIn f) (ethCount 9 cRxf 1 s) →
    (f.bad = true → exec (.svcFrameReceived f) s = .next (finish s (ethCount 9 cFcs 1 u))) ∧
    (f.bad = false → 1522 < frameLenIn f → exec (.svcFrameReceived f) s = .next (finish s (ethCount 9 cOversize 1 u))) ∧
    (f.bad = false → frameLenIn f ≤ 1522 → svcArp f s = true → exec (.svcFrameReceived f) s = .next (finish s
      ((ethCount 9 cTxb ((arpAnswer f s).length + 4) (ethCount 9 cTxf 1 u)).emit (.ethFrame 9 (arpAnswer f s))))) ∧
    (f.bad = false → frameLenIn f ≤ 1522 → svcArp f s = false → svcFor f && udpFor f s.svcIp = true →
      exec (.svcFrameReceived f) s = .next (finish s (ringWrite 4 f none 0 0 9 u).2)) ∧
    (f.bad = false → frameLenIn f ≤ 1522 → svcFor f = false → exec (.svcFrameReceived f) s = .next (finish s (u.countF F.ETH_SVCSTAT_IGN 0))))

/-- Registers of the Ethernet unit (R373, R375, R381, R383, R384), for values without a reserved bit. KICK has the descriptors of a transmit ring
taken, and does nothing on a receive ring; a read of ETH_RXF latches the port's other counters for the master; CLR clears a port's counters; a read of
ETH_BUF starts its low mark again; VALID takes the three words of a static entry, is INVALID for a VLAN it cannot have, and ABSENT for a port that is
not there. Where the rules leave a point open, the clause follows the model's choice in log entry 32. -/
def Obligations.SwitchRegisters : Prop :=
  (∀ (m : Master) (r : Fin 6) (w v : Word) (s : State), regFitted s.variant .ETH_RING r = true → v = w ||| word (2 ^ F.ETH_RING_KICK.lo) →
    reservedSet .ETH_RING v = false → F.ETH_RING_SIZE.of v = s.getF F.ETH_RING_SIZE r → s.getF F.ETH_RING_SIZE r ≤ 128 →
    exec (.ethKick m r w) s = .next (finish s
      (ethAnswer m .ETH_RING r .accepted (if (r : Nat) % 2 = 1 then takeAll 128 r s else s)))) ∧
  (∀ (m : Master) (p : Fin 10) (s : State), regFitted s.variant .ETH_RXF p = true → ∃ t, exec (.ethRxfRead m p) s = .next t ∧
    t.rd .ETH_RXB (bk m p) = word (s.ethCnt p cRxb) ∧ t.rd .ETH_TXF (bk m p) = word (s.ethCnt p cTxf) ∧ t.rd .ETH_TXB (bk m p) = word (s.ethCnt p cTxb) ∧
    t.rd .ETH_D1 (bk m p) = word (s.ethCnt p cFcs + 0x10000 * s.ethCnt p cOversize) ∧
    t.rd .ETH_D2 (bk m p) = word (s.ethCnt p cRunt + 0x10000 * s.ethCnt p cVlan) ∧
    t.rd .ETH_D3 (bk m p) = word (s.ethCnt p cNobuf + 0x10000 * s.ethCnt p cLinkdn) ∧ t.rd .ETH_D4 (bk m p) = word (s.ethCnt p cMirdrop) ∧
    t.eth = s.eth ∧ sends s t [.value m (Reg.addr .ETH_RXF p) (word (s.ethCnt p cRxf))] ∧ memSame s t ∧
    regsBut s t (counterRegs.map fun r => (r, bk m p))) ∧
  (∀ (m : Master) (p : Fin 10) (w : Word) (s : State), regFitted s.variant .ETH_CCLR p = true → reservedSet .ETH_CCLR w = false → F.ETH_CCLR_CLR.on w = true →
    ∃ t, exec (.ethCclr m p w) s = .next t ∧ (∀ k, k < 16 → t.ethCnt p k = 0) ∧ (∀ q k, q ≠ (p : Nat) → k < 16 → t.ethCnt q k = s.ethCnt q k) ∧
      sends s t [.written m (Reg.addr .ETH_CCLR p) .accepted] ∧ regsBut s t [(.ETH_RESULT, bk m 0)] ∧ memSame s t) ∧
  (∀ (m : Master) (s : State), regFitted s.variant .ETH_BUF 0 = true → ∃ t, exec (.ethBufRead m) s = .next t ∧
    t.eth = { s.eth with low := s.freeCells } ∧ sends s t [.value m (Reg.addr .ETH_BUF 0) (word (s.freeCells + 0x10000 * s.eth.low))] ∧
    regsSame s t ∧ memSame s t) ∧
  (∀ (m : Master) (e : Fin 64) (w v : Word) (s : State), regFitted s.variant .ETH_SA_CTL e = true → v = w ||| word (2 ^ F.ETH_SA_CTL_VALID.lo) →
    reservedSet .ETH_SA_CTL v = false →
    (absentPorts s.variant (F.ETH_SA_CTL_PORTS.of v) = true →
      exec (.staticEntryValid m e w) s = .next (finish s (ethAnswer m .ETH_SA_CTL e .absent s))) ∧
    (absentPorts s.variant (F.ETH_SA_CTL_PORTS.of v) = false → F.ETH_SA_HI_VID.of (s.next .ETH_SA_HI e) ≠ 0 → F.ETH_SA_HI_VID.of (s.next .ETH_SA_HI e) ≠ 4095 →
      ∃ t, exec (.staticEntryValid m e w) s = .next t ∧
        t.rd .ETH_SA_CTL e = v ∧ t.rd .ETH_SA_LO e = s.next .ETH_SA_LO e ∧ t.rd .ETH_SA_HI e = s.next .ETH_SA_HI e ∧
        sends s t [.written m (Reg.addr .ETH_SA_CTL e) .accepted] ∧ memSame s t) ∧
    (absentPorts s.variant (F.ETH_SA_CTL_PORTS.of v) = false → F.ETH_SA_HI_VID.of (s.next .ETH_SA_HI e) = 0 ∨ F.ETH_SA_HI_VID.of (s.next .ETH_SA_HI e) = 4095 →
      exec (.staticEntryValid m e w) s = .next (finish s (ethAnswer m .ETH_SA_CTL e .invalid s))))

/-- The network manager (R387 to R393). NMEN in ACTIVE starts it with a round, or ends it; a WAKEREQ, also through 0x4600:31, keeps the round from
being agreed and cancels an eve, and rounds resume while the entry has not begun. A vote counts for its round, and one that asks for a wake, or that a
mandatory node sends without SLEEP, is a wake request; a malformed one is a violation. A round that every mandatory node agreed on is followed by one
that must be agreed too, and then the eve begins; at the point of no return the entry is asked for, again each time the retry is due, and forced when
ENTRY_T has passed. The awake timer forces the eve and records the keepers. Where the rules leave a point open, the clause follows the model's choice
in log entries 33 and 51. -/
def Obligations.NetworkManager : Prop :=
  (∀ (m : Master) (w : Word) (s u v : State), reservedSet .NET_CTRL w = false → F.NET_CTRL_HOLD.on w = false → F.NET_CTRL_WAKEREQ.on w = false →
    u = s.wrMasked .NET_CTRL 0 w →
    (s.nmOn = false ∧ u.nmOn = true ∧ u.pwrState = 0 ∧ v = nmStart u) ∨ (s.nmOn = true ∧ u.nmOn = false ∧ v = nmOff u) ∨
      ((s.nmOn = u.nmOn ∨ u.nmOn = true ∧ u.pwrState ≠ 0) ∧ v = u) →
    exec (.nmen m w) s = .next (finish s
      ((v.wr .NET_RESULT (bk m 0) (word (0x10000 * Reg.addr .NET_CTRL 0))).emit (.written m (Reg.addr .NET_CTRL 0) .accepted)))) ∧
  (∀ (m : Master) (w : Word) (s : State), reservedSet .NET_CTRL w = true →
    exec (.nmen m w) s = .next (finish s
      ((s.wr .NET_RESULT (bk m 0) (word (Code.num .invalid + 0x10000 * Reg.addr .NET_CTRL 0))).emit (.written m (Reg.addr .NET_CTRL 0) .invalid)))) ∧
  (∀ (p : DPath) (w : Word) (s u v : State), u = ({ s with net := { s.net with wakeSeen := true } } : State) →
    (s.nmState = 2 ∨ s.nmState = 3 ∧ s.entering = false) ∧ v = nmCancel u ∨ (s.nmState = 3 ∧ s.entering = true) ∧ v = wakeLatch none u ∨
      (s.nmState ≠ 2 ∧ s.nmState ≠ 3) ∧ v = u →
    exec (.wakereq (.dict p) w) s = .next (finish s (v.objDone p 0x4600 0x31 .accepted))) ∧
  (∀ (c : Fin 4) (w : Word) (s u v : State), reservedSet .NET_CTRL w = false → F.NET_CTRL_HOLD.on w = false → F.NET_CTRL_WAKEREQ.on w = true →
    s.nmOn = F.NET_CTRL_NMEN.on w → u = s.wrMasked .NET_CTRL 0 w →
    s.nmState = 2 ∧ v = nmCancel ({ u with net := { u.net with wakeSeen := true } } : State) ∨
      s.nmState < 2 ∧ v = ({ u with net := { u.net with wakeSeen := true } } : State) →
    exec (.wakereq (.core c) w) s = .next (finish s
      ((v.wr .NET_RESULT (bk (.core c) 0) (word (0x10000 * Reg.addr .NET_CTRL 0))).emit (.written (.core c) (Reg.addr .NET_CTRL 0) .accepted)))) ∧
  (∀ (n : Fin 8) (id node b0 b1 : Nat) (data : List Byte) (s : State), s.nmCh n = true → s.canOn n = true → s.nmState = 1 →
    id = s.getF F.NET_NMID_BASE 0 + node → 1 ≤ node → node ≤ 63 → s.mutedPartner 2 (n * 65536 + node) = false →
    b0 = (data.getD 0 0).toNat → b1 = (data.getD 1 0).toNat →
    (data.length = 8 → b0 = node → (data.getD 2 0).toNat = s.getF F.NET_STAT_ROUND 0 → b1 < 2 → b1 = 1 ∨ s.mandatory n node = false →
      exec (.nmVoteReceived n id data) s = .next (finish s ({ s with net := { s.net with votes := tabSet 0 s.net.votes (nodeIx n node) (b1 + 1) } } : State))) ∧
    (data.length = 8 → b0 = node → (data.getD 2 0).toNat = s.getF F.NET_STAT_ROUND 0 → b1 = 0 → s.mandatory n node = true →
      exec (.nmVoteReceived n id data) s = .next (finish s ({ s with net := { s.net with
        votes := tabSet 0 s.net.votes (nodeIx n node) 1, wakeSeen := true } } : State))) ∧
    (data.length = 8 → b0 = node → (data.getD 2 0).toNat = s.getF F.NET_STAT_ROUND 0 → b1 = 2 ∨ b1 = 3 →
      exec (.nmVoteReceived n id data) s = .next (finish s ({ s with net := { s.net with
        votes := tabSet 0 s.net.votes (nodeIx n node) (b1 + 1), woke := tabSet 0 s.net.woke (nodeIx n node) 4, wakeSeen := true } } : State))) ∧
    (data.length ≠ 8 ∨ b0 ≠ node ∨ 4 ≤ b1 ∨ (data.getD 2 0).toNat ≠ s.getF F.NET_STAT_ROUND 0 →
      exec (.nmVoteReceived n id data) s = .next (finish s (s.violationEmcy 2 4 (n * 65536 + node))))) ∧
  (∀ s : State,
    (s.nmState ≠ 1 → exec .nmRoundEnd s = .next (finish s s)) ∧
    (s.nmState = 1 → s.net.inRound = false → exec .nmRoundEnd s = .next (finish s (nmRound s))) ∧
    (s.nmState = 1 → s.net.inRound = true → s.agreed = false →
      exec .nmRoundEnd s = .next (finish s (nmRound ((votesClose s).setB F.NET_STAT_AGREE 0 false)))) ∧
    (s.nmState = 1 → s.net.inRound = true → s.agreed = true → s.flag F.NET_STAT_AGREE 0 = false →
      exec .nmRoundEnd s = .next (finish s (nmRound ((votesClose s).setB F.NET_STAT_AGREE 0 true)))) ∧
    (s.nmState = 1 → s.net.inRound = true → s.agreed = true → s.flag F.NET_STAT_AGREE 0 = true →
      exec .nmRoundEnd s = .next (finish s (nmEve false (votesClose s))))) ∧
  (∀ (t : Nat) (s : State), t = (if s.flag F.NET_CTRL_TARGET 0 then 1 else 2) →
    (s.nmState = 2 → exec .pointOfNoReturn s = .next (finish s (entryRequest t (s.flag F.NET_STAT_FORCED 0) (nmTo 3 s)).2.2)) ∧
    (s.nmState ≠ 2 → exec .pointOfNoReturn s = .next (finish s s)) ∧
    (s.nmState = 3 → s.entering = false → s.pwrState < 2 → exec .nmEntryRetry s = .next (finish s (entryRequest t false s).2.2) ∧
      exec .entryT s = .next (finish s (entryRequest t true s).2.2)) ∧
    (s.nmState ≠ 3 → exec .nmEntryRetry s = .next (finish s s) ∧ exec .entryT s = .next (finish s s))) ∧
  (∀ (e : Nat) (s u : State), s.net.awakeEnd = some e → s.pwrState < 2 →
    u = (({ s with net := { s.net with awakeEnd := none } } : State).setB F.NET_STAT_EXPIRED 0 true).emcyObj 0xFF80 0 0x4600 0x30 →
    (s.nmState = 1 → exec .awakeTimerExpiry s = .next (finish s
      (nmEve true ({ u with net := { u.net with keeper := ((keeperRecords u).reverse ++ u.net.keeper).take 16 } } : State)))) ∧
    (s.nmState ≠ 1 → exec .awakeTimerExpiry s = .next (finish s u))) ∧
  (∀ s : State, s.net.awakeEnd = none → exec .awakeTimerExpiry s = .next (finish s s))

/-- Wakes (R394 to R399). An armed source that is recognised in PARK or DORMANT opens its window, begins the exit and is counted, and the RTC's is
confirmed at once; recognised in the eve it cancels the eve, and during an entry it is latched; one that is not armed does nothing. A window that ends
unconfirmed is a false wake: the last one returns the module by a forced entry unless a wake was confirmed, and one at the limit disarms its source. A
wake frame of a channel's decoder is a wake of its source. The alarm clears its EN and wakes, and outside PARK and DORMANT requests the interrupt; it
is set only for a second to come. The wake link (R400). The module acknowledges its own address and no other; a write sets the pointer and the mailbox
bytes; a pointer beyond 0x06, or a byte at a place that cannot be written, is not acknowledged; a read gives bytes from the pointer on, which wraps; a
STOP counts the transaction, records it, and confirms a wake by the link. Where the rules leave a point open, the clause follows the model's choice in
log entry 33. -/
def Obligations.WakesAndWakeLink : Prop :=
  (∀ (src : Fin 8) (s u v : State) (c : Instr),
    (c = .wakeRecognised src) ∨
      (∃ (n : Fin 4) (f : CanFrame), c = .selectiveWakeMatch n (some f) ∧ wakeFrame n f s = true ∧ (src : Nat) = 4 + n) ∨
      (∃ n : Fin 4, c = .selectiveWakeMatch n none ∧ (src : Nat) = 4 + n) →
    s.asleep = true → s.nmState = 0 ∨ s.nmState = 4 → s.pwrPhase ≠ 5 → s.net.windows = [] → u = (exitBegin s).wr .NET_WSRC 0 (word src) →
    v = wakeCount src (({ u with net := { u.net with windows := [(src : Nat)] } } : State).setB F.NET_WSRC_OPEN 0 true) →
    (s.sourceArmed src = true → (src : Nat) ≠ 1 → exec c s = .next (finish s v)) ∧
    (s.sourceArmed src = true → (src : Nat) = 1 → exec c s = .next (finish s (wakeConfirm 1 v))) ∧
    (s.sourceArmed src = false → exec c s = .next (finish s s))) ∧
  (∀ (src : Fin 8) (s u : State), s.sourceArmed src = true → u = ({ s with net := { s.net with wakeSeen := true } } : State) →
    (s.entering = false → s.nmState = 2 → (src : Nat) < 4 ∨ s.flag F.NET_STAT_FORCED 0 = false →
      exec (.wakeRecognised src) s = .next (finish s (nmCancel (wakeCount src u)))) ∧
    (s.entering = true → s.nmState = 0 ∨ s.nmState = 3 → exec (.wakeRecognised src) s = .next (finish s (wakeLatch (some src) u)))) ∧
  (∀ (n : Fin 4) (f : CanFrame) (s : State), wakeFrame n f s = false → exec (.selectiveWakeMatch n (some f)) s = .next (finish s s)) ∧
  (∀ (src : Fin 8) (s u : State), s.net.windows = [(src : Nat)] →
    u = (falseCount src (({ s with net := { s.net with windows := [], run := tabSet 0 s.net.run src (tabGet 0 s.net.run src + 1) } } : State).setB
      F.NET_WSRC_OPEN 0 false)).setB F.NET_WSRC_FALSE 0 true →
    ((src : Nat) = 0 ∨ tabGet 0 s.net.run src + 1 < u.getF F.NET_CFG_FWLIM 0 → s.net.confirmed = false →
      exec (.confirmationWindowExpiry src) s = .next (finish s (entryRequest (s.net.returnTo - 1) true u).2.2)) ∧
    ((src : Nat) = 0 ∨ tabGet 0 s.net.run src + 1 < u.getF F.NET_CFG_FWLIM 0 → s.net.confirmed = true →
      exec (.confirmationWindowExpiry src) s = .next (finish s (nmAwakeCheck u))) ∧
    ((src : Nat) ≠ 0 → u.getF F.NET_CFG_FWLIM 0 ≤ tabGet 0 s.net.run src + 1 → s.net.confirmed = false →
      exec (.confirmationWindowExpiry src) s = .next (finish s (entryRequest (s.net.returnTo - 1) true
        ({ u.setB ⟨.NET_ARM, 8 + src, 1⟩ 0 true with net := { u.net with disarmed := true } } : State)).2.2))) ∧
  (∀ (src : Fin 8) (s : State), s.net.windows = [] → exec (.confirmationWindowExpiry src) s = .next (finish s s)) ∧
  (∀ s : State, s.flag F.NET_RTCALM_HI_EN 0 = true → s.dom.keep = true → s.pwrState < 2 → s.pwrPhase = 0 → s.net.windows = [] →
    s.nmState = 0 ∨ s.nmState = 1 ∧ s.net.pnrUp ≤ s.up → exec .rtcAlarm s = .next (finish s ((s.setB F.NET_RTCALM_HI_EN 0 false).request 31))) ∧
  (∀ s u v : State, s.flag F.NET_RTCALM_HI_EN 0 = true → s.dom.keep = true → s.asleep = true → s.nmState = 0 → s.pwrPhase ≠ 5 → s.net.windows = [] →
    u = (exitBegin (s.setB F.NET_RTCALM_HI_EN 0 false)).wr .NET_WSRC 0 (word 1) →
    v = wakeCount 1 (({ u with net := { u.net with windows := [1] } } : State).setB F.NET_WSRC_OPEN 0 true) →
    (s.sourceArmed 1 = true → exec .rtcAlarm s = .next (finish s (wakeConfirm 1 v))) ∧
    (s.sourceArmed 1 = false → exec .rtcAlarm s = .next (finish s (s.setB F.NET_RTCALM_HI_EN 0 false)))) ∧
  (∀ s : State, s.flag F.NET_RTCALM_HI_EN 0 = false → exec .rtcAlarm s = .next (finish s s)) ∧
  (∀ (m : Master) (w : Word) (sec : Nat) (s : State), reservedSet .NET_RTCALM_HI w = false →
    sec = (s.next .NET_RTCALM_LO 0).toNat + 2 ^ 32 * F.NET_RTCALM_HI_SEC_HI.of w →
    (F.NET_RTCALM_HI_EN.on w = true → s.rtcNow.1 < sec → exec (.netRtcalm m w) s = .next (finish s
      ((((s.applyHeld .NET_RTCALM_LO 0).wr .NET_RTCALM_HI 0 w).wr .NET_RESULT (bk m 0) (word (0x10000 * Reg.addr .NET_RTCALM_HI 0))).emit
        (.written m (Reg.addr .NET_RTCALM_HI 0) .accepted)))) ∧
    (F.NET_RTCALM_HI_EN.on w = false → exec (.netRtcalm m w) s = .next (finish s
      (((s.wr .NET_RTCALM_HI 0 w).wr .NET_RESULT (bk m 0) (word (0x10000 * Reg.addr .NET_RTCALM_HI 0))).emit
        (.written m (Reg.addr .NET_RTCALM_HI 0) .accepted)))) ∧
    (F.NET_RTCALM_HI_EN.on w = true → sec ≤ s.rtcNow.1 → exec (.netRtcalm m w) s = .next (finish s
      ((s.wr .NET_RESULT (bk m 0) (word (Code.num .invalid + 0x10000 * Reg.addr .NET_RTCALM_HI 0))).emit (.written m (Reg.addr .NET_RTCALM_HI 0) .invalid))))) ∧
  (∀ (addr : Nat) (read : Bool) (s : State), s.dom.keep = true → s.pwrState < 2 → s.pwrPhase = 0 → s.net.windows = [] →
    s.nmState = 0 ∨ s.nmState = 1 ∧ s.net.pnrUp ≤ s.up → s.net.link.active = false →
    (addr = s.getF F.NET_WLCFG_ADDR 0 → s.mutedPartner 7 0 = false → ∃ t, exec (.wakeLinkAddress addr read) s = .next t ∧ t.net.link.active = true ∧
      t.net.link.read = read ∧ t.net.link.bytes = 0 ∧ t.net.link.ptr = s.net.link.ptr ∧ sends s t [.linkAck true] ∧ regsSame s t ∧ memSame s t) ∧
    (addr = s.getF F.NET_WLCFG_ADDR 0 → s.mutedPartner 7 0 = true → exec (.wakeLinkAddress addr read) s = .next (finish s (s.emit (.linkAck false)))) ∧
    (addr ≠ s.getF F.NET_WLCFG_ADDR 0 → exec (.wakeLinkAddress addr read) s = .next (finish s s))) ∧
  (∀ (ptr : Nat) (b : Byte) (data : List Byte) (s : State), s.net.link.active = true → s.net.link.read = false → s.net.link.viol = false →
    (2 ≤ ptr → ptr ≤ 5 → ∃ t, exec (.wakeLinkWrite ptr [b]) s = .next t ∧ t.net.link.ptr = ptr + 1 ∧ t.net.link.bytes = s.net.link.bytes + 1 ∧
      t.rd .NET_WLMBX 0 = putBits (s.rd .NET_WLMBX 0) (8 * (ptr - 2)) 8 b.toNat ∧ sends s t [.linkAck true, .linkAck true] ∧
      regsBut s t [(.NET_WLMBX, 0)] ∧ memSame s t) ∧
    (ptr ≤ 6 → exec (.wakeLinkWrite ptr []) s = .next (finish s (({ s with net := { s.net with link := { s.net.link with ptr := ptr } } } : State).emit
      (.linkAck true)))) ∧
    (ptr < 2 ∨ ptr = 6 → exec (.wakeLinkWrite ptr (b :: data)) s = .next (finish s
      (linkNack (({ s with net := { s.net with link := { s.net.link with ptr := ptr } } } : State).emit (.linkAck true))))) ∧
    (6 < ptr → exec (.wakeLinkWrite ptr data) s = .next (finish s (linkNack s)))) ∧
  (∀ (n acked : Nat) (s : State), s.net.link.active = true → s.net.link.read = true → s.net.link.viol = false → ∃ t,
    exec (.wakeLinkRead n acked) s = .next t ∧ t.net.link.ptr = (s.net.link.ptr + n) % 7 ∧ t.net.link.bytes = s.net.link.bytes + min acked n ∧
    sends s t [.linkData ((List.range n).map fun i => linkByte ((s.net.link.ptr + i) % 7) s)] ∧ regsSame s t ∧ memSame s t) ∧
  (∀ s : State, s.net.link.active = true → s.heldOf .NET_WLCFG 0 = none →
    (s.net.windows = [] → ∃ t, exec .wakeLinkStop s = .next t ∧
      t.net.link.active = false ∧ t.net.link.ptr = s.net.link.ptr ∧ t.getF F.NET_WLSTAT_TRANS 0 = (s.getF F.NET_WLSTAT_TRANS 0 + 1) % 2 ^ F.NET_WLSTAT_TRANS.wd ∧
      (s.dom.core = true → t.rd .NET_WLTS 0 = word s.short) ∧ (s.dom.core = false → t.rd .NET_WLTS 0 = s.rd .NET_WLTS 0) ∧ sends s t [] ∧
      regsBut s t [(.NET_WLSTAT, 0), (.NET_WLTS, 0)] ∧ memSame s t) ∧
    (s.net.windows = [2] → 1 ≤ s.net.link.bytes → ∃ t, exec .wakeLinkStop s = .next t ∧ t.net.link.active = false ∧ t.net.windows = [] ∧
      t.net.confirmed = true ∧ t.flag F.NET_WSRC_CONFIRMED 0 = true))

/-- Entries and exits (R411 to R421). A polite request by a core or through 0x2100:01 is refused while a unit is busy, and every refuser is counted; a
forced one is not; none is taken during an entry or an exit, or for a target that is no state. NOTICE is followed by SAVE, which ends with SAVED or
with its time, and HW by the entry itself at the next whole second, which the RTC is loaded with. PARK goes on to DORMANT if it may; so does a loss of
the Switch supply. An exit locks the PLLs, which starts the Switch domain if it was off, and brings the domains on; a handle that is down after a wake
by the inputs starts an attempt. Where the rules leave a point open, the clause follows the model's choice in log entry 34. -/
def Obligations.EntriesAndExits : Prop :=
  (∀ (c : Fin 4) (target : Nat) (s : State), target = 1 ∨ target = 2 → s.pwrState < 2 → s.pwrPhase = 0 →
    (s.busyMask (target == 2) = 0 → exec (.pwrRequestPolite (.core c) target) s = .next (finish s
      (((entryAccept target false s).wr .PWR_RESULT (bk (.core c) 0) 0).emit (.written (.core c) (Reg.addr .PWR_REQ 0) .accepted)))) ∧
    (s.busyMask (target == 2) ≠ 0 → exec (.pwrRequestPolite (.core c) target) s = .next (finish s
      (((countRefusers (s.busyMask (target == 2)) s).wr .PWR_RESULT (bk (.core c) 0) (pwrResult .state (s.busyMask (target == 2)))).emit
        (.written (.core c) (Reg.addr .PWR_REQ 0) .state)))) ∧
    exec (.pwrRequestForced (.core c) target) s = .next (finish s
      (((entryAccept target true s).wr .PWR_RESULT (bk (.core c) 0) 0).emit (.written (.core c) (Reg.addr .PWR_REQ 0) .accepted)))) ∧
  (∀ (p : DPath) (target : Nat) (s : State), target = 1 ∨ target = 2 → s.pwrState < 2 → s.pwrPhase = 0 →
    (s.busyMask (target == 2) = 0 → exec (.pwrRequestPolite (.dict p) target) s = .next (finish s
      (((entryAccept target false s).wr .PWR_RESULT (pwrBank (.dict p)) 0).objDone p 0x2100 1 .accepted))) ∧
    (s.busyMask (target == 2) ≠ 0 → exec (.pwrRequestPolite (.dict p) target) s = .next (finish s
      (((countRefusers (s.busyMask (target == 2)) s).wr .PWR_RESULT (pwrBank (.dict p)) (pwrResult .state (s.busyMask (target == 2)))).objDone
        p 0x2100 1 .state))) ∧
    exec (.pwrRequestForced (.dict p) target) s = .next (finish s
      (((entryAccept target true s).wr .PWR_RESULT (pwrBank (.dict p)) 0).objDone p 0x2100 1 .accepted))) ∧
  (∀ (c : Fin 4) (i : Instr) (target : Nat) (s : State), i = .pwrRequestPolite (.core c) target ∨ i = .pwrRequestForced (.core c) target →
    (target = 1 ∨ target = 2 → 2 ≤ s.pwrState ∨ s.pwrPhase ≠ 0 → exec i s = .next (finish s
      ((s.wr .PWR_RESULT (bk (.core c) 0) (pwrResult .state 0)).emit (.written (.core c) (Reg.addr .PWR_REQ 0) .state)))) ∧
    (target = 0 ∨ target = 3 → exec i s = .next (finish s
      ((s.wr .PWR_RESULT (bk (.core c) 0) (pwrResult .invalid 0)).emit (.written (.core c) (Reg.addr .PWR_REQ 0) .invalid))))) ∧
  (∀ s : State, (s.pwrPhase = 1 → exec .noticeEnd s = .next (finish s (s.setF F.PWR_STAT_PHASE 0 2))) ∧
    (s.pwrPhase ≠ 1 → exec .noticeEnd s = .next (finish s s))) ∧
  (∀ (m : Master) (w : Word) (s : State), reservedSet .PWR_SAVED w = false → F.PWR_SAVED_SAVED.on w = true →
    (s.pwrPhase = 2 → exec (.pwrSaved m w) s = .next (finish s
      (((hwPhase (firmwareSave s)).wr .PWR_RESULT (bk m 0) 0).emit (.written m (Reg.addr .PWR_SAVED 0) .accepted)))) ∧
    (s.pwrPhase ≠ 2 → exec (.pwrSaved m w) s = .next (finish s ((s.wr .PWR_RESULT (bk m 0) 0).emit (.written m (Reg.addr .PWR_SAVED 0) .accepted))))) ∧
  (∀ s : State, (s.pwrPhase = 2 → exec .saveTimeout s = .next (finish s (hwPhase { s with pwr := { s.pwr with saveTo := true } }))) ∧
    (s.pwrPhase ≠ 2 → exec .saveTimeout s = .next (finish s s))) ∧
  (∀ s : State,
    (s.pwrPhase = 4 → s.almStopped = false → exec .align s = .next (finish s (entryComplete ({ s with alm := { s.alm with
      rtcSec := s.alm.sec + b01 (s.alm.ns != 0), rtcSub := 0, rtcAt := s.up + (if s.alm.ns = 0 then 0 else 1000000000 - s.alm.ns), rtcValid := true,
      rtcLoad := false } } : State)))) ∧
    (s.pwrPhase = 4 → s.almStopped = true → exec .align s = .next (finish s (entryComplete s))) ∧
    (s.pwrPhase ≠ 4 → exec .align s = .next (finish s s))) ∧
  (∀ s : State, s.pwrState = 2 → s.pwrPhase = 0 →
    (s.flag F.PWR_CFG_AUTODORM 0 = false → exec .parkToDormantTest s = .next (finish s s)) ∧
    (s.flag F.PWR_CFG_AUTODORM 0 = true → s.busyMask true &&& 0x82 ≠ 0 → exec .parkToDormantTest s = .next (finish s s)) ∧
    (s.flag F.PWR_CFG_AUTODORM 0 = true → s.busyMask true &&& 0x82 = 0 → exec .parkToDormantTest s = .next (finish s (entryComplete (hwPhase
      (((entryApply ({ s with pwr := { s.pwr with cut := 0, saveTo := false } } : State)).setB F.PWR_STAT_FORCED 0 false).setF F.PWR_STAT_TGT 0 2))))) ∧
    (s.dom.keep = true → ∃ t, exec .switchSupplyLoss s = .next t ∧ t.pwrState = 3 ∧ t.dom.switch = false ∧ t.dom.field = false ∧ t.pwr.loss = true ∧
      t.pwr.saved = s.pwr.saved ∧ memSame s t)) ∧
  (∀ s : State, s.pwrState ≠ 2 ∨ s.pwrPhase ≠ 0 → exec .parkToDormantTest s = .next (finish s s) ∧ exec .switchSupplyLoss s = .next (finish s s)) ∧
  (∀ (pins : Nat) (s u v : State), s.pwrPhase = 5 →
    (s.pwr.pll = false → s.dom.switch = true →
      exec (.pllLock pins) s = .next (finish s (inputsResume pins (almResume { s with pwr := { s.pwr with pll := true } })))) ∧
    (s.pwr.pll = false → s.dom.switch = false → u = switchStart (dormantOver s) →
      v = ((List.range 64).filter fun n => sinFitted u.variant n && u.sinMode n != 2).foldl (fun t n => t.setB F.SIN_STAT_LEVEL n ((t.si n).atEntry.1 != 0)) u →
      exec (.pllLock pins) s = .next (finish s (inputsResume pins (almResume { v with pwr := { v.pwr with pll := true } })))) ∧
    (s.pwr.pll = true → s.supply.module.dark = false →
      u = firmwareConfigure (! s.dom.comms) (! s.dom.field) (((fieldOn pins (coreOn (commsOn s))).setF F.PWR_STAT_PHASE 0 0).setF F.PWR_STAT_STATE 0 0) →
      (u.getF F.NET_WSRC_SOURCE 0 = 3 ∧ u.sinLevel (u.getF F.ACC_CFG_HANDSI 0) = true ∧ v = accTrigger 0 u) ∨
        ((u.getF F.NET_WSRC_SOURCE 0 ≠ 3 ∨ u.sinLevel (u.getF F.ACC_CFG_HANDSI 0) = false) ∧ v = u) →
      exec (.domainsOn pins) s = .next (finish s (nmAwakeCheck v))) ∧
    (s.pwr.pll = true → exec (.pllLock pins) s = .next (finish s s)) ∧
    (s.pwr.pll = false ∨ s.supply.module.dark = true → exec (.domainsOn pins) s = .next (finish s s))) ∧
  (∀ (pins : Nat) (s : State), s.pwrPhase ≠ 5 → exec (.pllLock pins) s = .next (finish s s) ∧ exec (.domainsOn pins) s = .next (finish s s))

/-- Logic and arithmetic (R433, R434). GD takes the sum, the difference, the logic function or the shift of GA with GB or with the immediate, LUI the
immediate in its upper half; PC goes on and nothing else changes, no flag either. A reserved field that is not 0 traps UNDEF (stated of the register
forms, the shifts by an immediate and LUI). Where the rules leave a point open, the clause follows the model's choice in log entries 10 and 11. -/
def Obligations.CoreArithmetic : Prop :=
  (∀ (c : Fin 4) (f : BitVec 24) (s : State) (i : Instr) (x y w : Word), fetches s c → x = s.greg c (opA f) → y = s.greg c (opB f) →
    (i = .add c f ∧ w = x + y) ∨ (i = .sub c f ∧ w = x - y) ∨ (i = .and c f ∧ w = x &&& y) ∨ (i = .or c f ∧ w = x ||| y) ∨
      (i = .xor c f ∧ w = x ^^^ y) ∨ (i = .shl c f ∧ w = x <<< (y.toNat % 32)) ∨ (i = .shr c f ∧ w = x >>> (y.toNat % 32)) ∨
      (i = .sar c f ∧ w = x.sshiftRight (y.toNat % 32)) →
    (bitsOf f.toNat 0 12 = 0 → ∃ t, exec i s = .next t ∧ coreOnly s t c ((s.co c).took (opD f) w)) ∧
    (bitsOf f.toNat 0 12 ≠ 0 → exec i s = .next (finish s (takeTrap c (s.trapHere c 0x01) s)))) ∧
  (∀ (c : Fin 4) (f : BitVec 24) (s : State) (i : Instr) (x w : Word), fetches s c → x = s.greg c (opA f) →
    (i = .addi c f ∧ w = x + (BitVec.ofNat 16 f.toNat).signExtend 32) ∨ (i = .andi c f ∧ w = x &&& word (f.toNat % 2 ^ 16)) ∨
      (i = .ori c f ∧ w = x ||| word (f.toNat % 2 ^ 16)) ∨ (i = .xori c f ∧ w = x ^^^ word (f.toNat % 2 ^ 16)) ∨
      (i = .lui c f ∧ opA f = 0 ∧ w = word (f.toNat % 2 ^ 16) <<< 16) →
    ∃ t, exec i s = .next t ∧ coreOnly s t c ((s.co c).took (opD f) w)) ∧
  (∀ (c : Fin 4) (f : BitVec 24) (s : State) (i : Instr) (x w : Word), fetches s c → x = s.greg c (opA f) →
    (i = .shli c f ∧ w = x <<< (f.toNat % 32)) ∨ (i = .shri c f ∧ w = x >>> (f.toNat % 32)) ∨ (i = .sari c f ∧ w = x.sshiftRight (f.toNat % 32)) →
    (bitsOf f.toNat 5 11 = 0 → ∃ t, exec i s = .next t ∧ coreOnly s t c ((s.co c).took (opD f) w)) ∧
    (bitsOf f.toNat 5 11 ≠ 0 → exec i s = .next (finish s (takeTrap c (s.trapHere c 0x01) s)))) ∧
  (∀ (c : Fin 4) (f : BitVec 24) (s : State), fetches s c → opA f ≠ 0 → exec (.lui c f) s = .next (finish s (takeTrap c (s.trapHere c 0x01) s)))

/-- Comparisons, multiplies and divides (R434, R435, R437, R438). CMP and CMPI set Z, N, C and V of GA minus the operand, TST those of the and; the
rest of STAT stays. A multiply leaves MHI and MLO to its completion; a divide leaves QUO and REM to its completion, and a divisor of 0 traps. Where
the rules leave a point open, the clause follows the model's choice in log entries 10 and 11. -/
def Obligations.CoreCompareMultiplyDivide : Prop :=
  (∀ (c : Fin 4) (f : BitVec 24) (s : State) (i : Instr) (x y : Word), fetches s c → opD f = 0 → x = s.greg c (opA f) →
    (i = .cmp c f ∧ bitsOf f.toNat 0 12 = 0 ∧ y = s.greg c (opB f)) ∨ (i = .cmpi c f ∧ y = (BitVec.ofNat 16 f.toNat).signExtend 32) →
    ∃ t, exec i s = .next t ∧ coreOnly s t c { (s.co c).gone with stat := (t.co c).stat } ∧
      bitsOf (t.co c).stat.toNat 4 28 = bitsOf (s.co c).stat.toNat 4 28 ∧ bitOf (t.co c).stat.toNat 0 = (x == y) ∧
      bitOf (t.co c).stat.toNat 1 = (x - y).msb ∧ bitOf (t.co c).stat.toNat 2 = decide (y.toNat ≤ x.toNat) ∧
      bitOf (t.co c).stat.toNat 3 = decide (x.toInt - y.toInt < -(2 ^ 31) ∨ 2 ^ 31 ≤ x.toInt - y.toInt)) ∧
  (∀ (c : Fin 4) (f : BitVec 24) (s : State) (x : Word), fetches s c → opD f = 0 → bitsOf f.toNat 0 12 = 0 →
    x = s.greg c (opA f) &&& s.greg c (opB f) →
    ∃ t, exec (.tst c f) s = .next t ∧ coreOnly s t c { (s.co c).gone with stat := (t.co c).stat } ∧
      bitsOf (t.co c).stat.toNat 2 30 = bitsOf (s.co c).stat.toNat 4 28 * 4 ∧ bitOf (t.co c).stat.toNat 0 = (x == 0) ∧
      bitOf (t.co c).stat.toNat 1 = x.msb) ∧
  (∀ (c : Fin 4) (f : BitVec 24) (s : State) (i : Instr) (p : Nat), fetches s c → opD f = 0 → bitsOf f.toNat 0 12 = 0 → (s.co c).muls.length < 3 →
    (i = .mulu c f ∧ p = (s.greg c (opA f)).toNat * (s.greg c (opB f)).toNat) ∨
      (i = .muls c f ∧ (p : Int) = ((s.greg c (opA f)).toInt * (s.greg c (opB f)).toInt) % 2 ^ 64) →
    ∃ t, exec i s = .next t ∧ coreOnly s t c { (s.co c).gone with muls := (s.co c).muls ++ [(word (p / 2 ^ 32), word p)] }) ∧
  (∀ (c : Fin 4) (h l : Word) (r : List (Word × Word)) (s : State), (s.co c).muls = (h, l) :: r →
    ∃ t, exec (.multiplyComplete c) s = .next t ∧ coreOnly s t c { s.co c with mhi := h, mlo := l, muls := r }) ∧
  (∀ (c : Fin 4) (f : BitVec 24) (s : State) (i : Instr) (x y q r : Word), fetches s c → opD f = 0 → bitsOf f.toNat 0 12 = 0 →
    x = s.greg c (opA f) → y = s.greg c (opB f) →
    (i = .divu c f ∧ q = x / y ∧ r = x % y) ∨ (i = .divs c f ∧ q = x.sdiv y ∧ r = x.srem y) →
    (y ≠ 0 → (s.co c).div = none → ∃ t, exec i s = .next t ∧ coreOnly s t c { (s.co c).gone with div := some (q, r) }) ∧
    (y = 0 → exec i s = .next (finish s (takeTrap c (s.trapHere c 0x09) s)))) ∧
  (∀ (c : Fin 4) (q r : Word) (s : State), (s.co c).div = some (q, r) →
    ∃ t, exec (.divideComplete c) s = .next t ∧ coreOnly s t c { s.co c with quo := q, rem := r, div := none })

/-- Loads and stores (R430, R431, R434, R448, R449). In base mode, at an aligned address of SRAM or retention RAM without an ECC error, GD takes the
bytes at GA + sx, zero- or sign-extended; a store writes the low bytes of GD there and no other byte, and keeps the memory's canonical form. TBL reads
a word of instruction space. A misaligned address traps DALIGN, an unassigned one DADDR. Where the rules leave a point open, the clause follows the
model's choice in log entries 6, 10 and 11. -/
def Obligations.LoadsAndStores : Prop :=
  (∀ (c : Fin 4) (f : BitVec 24) (s : State) (i : Instr) (a k : Nat) (w : Word), fetches s c → (s.co c).app = false →
    a = (s.greg c (opA f) + (BitVec.ofNat 16 f.toNat).signExtend 32).toNat → inSram a = true ∨ inRetention a = true → a % k = 0 → s.eccBad a = false →
    (i = .ldw c f ∧ k = 4 ∧ w = word (leNat (s.memBytes a 4))) ∨ (i = .ldhu c f ∧ k = 2 ∧ w = word (leNat (s.memBytes a 2))) ∨
      (i = .ldbu c f ∧ k = 1 ∧ w = word (leNat (s.memBytes a 1))) ∨
      (i = .ldh c f ∧ k = 2 ∧ w = (BitVec.ofNat 16 (leNat (s.memBytes a 2))).signExtend 32) ∨
      (i = .ldb c f ∧ k = 1 ∧ w = (BitVec.ofNat 8 (leNat (s.memBytes a 1))).signExtend 32) →
    ∃ t, exec i s = .next t ∧ coreOnly s t c ((s.co c).took (opD f) w)) ∧
  (∀ (c : Fin 4) (f : BitVec 24) (s : State) (i : Instr) (a k : Nat), fetches s c → (s.co c).app = false →
    a = (s.greg c (opA f) + (BitVec.ofNat 16 f.toNat).signExtend 32).toNat → inSram a = true ∨ inRetention a = true → a % k = 0 →
    (i = .stw c f ∧ k = 4) ∨ (i = .sth c f ∧ k = 2 ∧ s.eccBad a = false) ∨ (i = .stb c f ∧ k = 1 ∧ s.eccBad a = false) →
    ∃ t, exec i s = .next t ∧ t.co c = (s.co c).gone ∧ (∀ d, d ≠ (c : Nat) → t.co d = s.co d) ∧ regsSame s t ∧ sends s t [] ∧
      t.memBytes a k = leBytes k (s.greg c (opD f)).toNat ∧ (∀ b, b < a ∨ a + k ≤ b → t.memByte b = s.memByte b) ∧ (memWf s → memWf t)) ∧
  (∀ (c : Fin 4) (f : BitVec 24) (s : State) (a : Nat), fetches s c → (s.co c).app = false →
    a = (s.greg c (opA f) + (BitVec.ofNat 16 f.toNat).signExtend 32).toNat % 2 ^ 24 →
    (a < 2 ^ 21 → s.flashBad a = false → ∃ t, exec (.tbl c f) s = .next t ∧ coreOnly s t c ((s.co c).took (opD f) (s.flashWord a))) ∧
    (2 ^ 21 ≤ a → exec (.tbl c f) s = .next (finish s (takeTrap c { code := 0x07, addr := a } s))) ∧
    (a < 2 ^ 21 → s.flashBad a = true → exec (.tbl c f) s = .next (finish s (takeTrap c { code := 0x0B, addr := a } s)))) ∧
  (∀ (c : Fin 4) (f : BitVec 24) (s : State) (i : Instr) (a k : Nat) (st : Bool), fetches s c →
    a = (s.greg c (opA f) + (BitVec.ofNat 16 f.toNat).signExtend 32).toNat →
    (i = .ldw c f ∧ k = 4 ∧ st = false) ∨ (i = .ldh c f ∧ k = 2 ∧ st = false) ∨ (i = .ldhu c f ∧ k = 2 ∧ st = false) ∨
      (i = .ldb c f ∧ k = 1 ∧ st = false) ∨ (i = .ldbu c f ∧ k = 1 ∧ st = false) ∨ (i = .stw c f ∧ k = 4 ∧ st = true) ∨
      (i = .sth c f ∧ k = 2 ∧ st = true) ∨ (i = .stb c f ∧ k = 1 ∧ st = true) →
    (a % k ≠ 0 ∨ (st = true ∧ k < 4 ∧ 0x60000000 ≤ a ∧ a < 0x60013000) → exec i s = .next (finish s (takeTrap c { code := 0x05, addr := a } s))) ∧
    (a % k = 0 → areaOf a = none → (st = true → k = 4 ∨ wordOnly a = false) →
      exec i s = .next (finish s (takeTrap c { code := 0x04, addr := a } s))))

/-- String instructions (R439, R440). BSET loads SPTR, DPTR and CNT. With REP 0, in base mode and on words of SRAM without an ECC error, BCPY copies
the word at SPTR to DPTR, BFIL stores G, BGET loads G, and BCMP and BFND set the flags of their difference; the pointers step by 4 in the direction of
DIR. A run with CNT 0 makes no element. A fill of CNT words ends with CNT 0, the pointer past them and G in each. Where the rules leave a point open,
the clause follows the model's choice in log entries 10 and 11. -/
def Obligations.StringInstructions : Prop :=
  (∀ (c : Fin 4) (f : BitVec 24) (s : State), fetches s c → bitsOf f.toNat 0 12 = 0 → ∃ t, exec (.bset c f) s = .next t ∧
    coreOnly s t c { (s.co c).gone with sptr := s.greg c (opA f), dptr := s.greg c (opB f), cnt := s.greg c (opD f) }) ∧
  (∀ (c : Fin 4) (f : BitVec 24) (n p q : Nat) (s : State) (u v : Word), fetches s c → (s.co c).app = false → bitsOf f.toNat 8 12 = 0 →
    opSel f = 0 ∨ opSel f = 4 → p = (s.co c).sptr.toNat → q = (s.co c).dptr.toNat → inSram p = true → inSram q = true → p % 4 = 0 → q % 4 = 0 →
    s.eccBad p = false → s.eccBad q = false → u = (if opSel f = 0 then (s.co c).sptr + 4 else (s.co c).sptr - 4) →
    v = (if opSel f = 0 then (s.co c).dptr + 4 else (s.co c).dptr - 4) →
    (opD f = 0 → ∃ t, exec (.bcpy c f n) s = .next t ∧ t.co c = { (s.co c).gone with sptr := u, dptr := v } ∧ regsSame s t ∧ sends s t [] ∧
      t.memWord q = s.memWord p ∧ ∀ b, b < q ∨ q + 4 ≤ b → t.memByte b = s.memByte b) ∧
    (∃ t, exec (.bfil c f n) s = .next t ∧ t.co c = { (s.co c).gone with dptr := v } ∧ regsSame s t ∧ sends s t [] ∧
      t.memWord q = s.greg c (opD f) ∧ ∀ b, b < q ∨ q + 4 ≤ b → t.memByte b = s.memByte b) ∧
    (∃ t, exec (.bget c f n) s = .next t ∧ coreOnly s t c { (s.co c).took (opD f) (s.memWord p) with sptr := u }) ∧
    (opD f = 0 → ∃ t, exec (.bcmp c f n) s = .next t ∧ coreOnly s t c
      { (s.co c).gone with sptr := u, dptr := v, stat := putFlags (s.co c).stat (compareFlags (s.memWord p) (s.memWord q)) }) ∧
    (∃ t, exec (.bfnd c f n) s = .next t ∧ coreOnly s t c
      { (s.co c).gone with dptr := v, stat := putFlags (s.co c).stat (compareFlags (s.greg c (opD f)) (s.memWord q)) })) ∧
  (∀ (c : Fin 4) (f : BitVec 24) (n : Nat) (s : State) (i : Instr), fetches s c → (s.co c).cnt = 0 → opSel f % 4 = 1 → rsvString f false = false →
    (i = .bcpy c f n ∧ opD f = 0) ∨ i = .bfil c f n ∨ i = .bget c f n ∨ (i = .bcmp c f n ∧ opD f = 0) ∨ i = .bfnd c f n →
    ∃ t, exec i s = .next t ∧ coreOnly s t c (s.co c).gone) ∧
  (∀ (c : Fin 4) (f : BitVec 24) (n k q : Nat) (s : State), fetches s c → (s.co c).app = false → bitsOf f.toNat 8 12 = 0 → opSel f = 1 →
    q = (s.co c).dptr.toNat → k = (s.co c).cnt.toNat → k ≤ n → q % 4 = 0 → inSram q = true → q + 4 * k ≤ 0x20200000 →
    ∃ t, exec (.bfil c f n) s = .next t ∧ t.co c = { (s.co c).gone with cnt := 0, dptr := (s.co c).dptr + word (4 * k) } ∧ regsSame s t ∧ sends s t [] ∧
      (∀ j, j < k → t.memWord (q + 4 * j) = s.greg c (opD f)) ∧ ∀ b, b < q ∨ q + 4 * k ≤ b → t.memByte b = s.memByte b)

/-- I/O, special registers and the return stack (R427, R434, R436, R444, R450). IN reads the register at its address and OUT leaves the write to the
crossing of its unit; an address without a register traps IOADDR, and in application mode one that CORE_IOPM does not permit traps IOPERM. IOS waits
for the core's writes. MFS and MTS move special registers. RSPUSH and RSPOP move the stack; a limit traps, or is recorded under WRAP. Where the rules
leave a point open, the clause follows the model's choice in log entries 10, 11 and 13. -/
def Obligations.IoAndSpecialRegisters : Prop :=
  (∀ (c : Fin 4) (f : BitVec 24) (s : State) (i o : Instr) (a : Nat), fetches s c →
    (i = .inp c f ∧ o = .out c f ∧ opA f = 0 ∧ a = f.toNat % 2 ^ 16) ∨
      (i = .inx c f ∧ o = .outx c f ∧ a = ((s.greg c (opA f)).toNat + f.toNat % 2 ^ 16) % 2 ^ 16) →
    ((s.co c).app = false ∨ s.iopmPermits c a = true → (regAt a).isSome = true →
      exec i s = .next (finish s (retire c (setG c (opD f) (inRead (.core c) a s).1 (inRead (.core c) a s).2))) ∧
      (∀ (r : Reg) (n : Nat) (k : Crossing), regAt a = some (r, n) → (unitOf a).bind crossingOf = some k →
        (s.crossingQ k r.highway).length < crossingSize k → ∃ t, exec o s = .next t ∧ coreOnly s t c (s.co c).gone ∧
          t.transit = s.transit ++ [{ cross := k, highway := r.highway, master := .core c, addr := a, value := s.greg c (opD f) }]) ∧
      ((unitOf a).bind crossingOf = none → exec o s = .next (finish s (retire c (accInputs s (ioWrite (.core c) a (s.greg c (opD f)) s)))))) ∧
    ((s.co c).app = true → s.iopmPermits c a = false →
      exec i s = .next (finish s (takeTrap c { code := 0x03, addr := a } s)) ∧ exec o s = .next (finish s (takeTrap c { code := 0x03, addr := a } s))) ∧
    ((s.co c).app = false ∨ s.iopmPermits c a = true → regAt a = none →
      exec i s = .next (finish s (takeTrap c { code := 0x02, addr := a } s)) ∧ exec o s = .next (finish s (takeTrap c { code := 0x02, addr := a } s)))) ∧
  (∀ (c : Fin 4) (s : State), fetches s c → exec (.ios c 0) s = .next (finish s (retire c (drainAll (.core c) s))) ∧
    (s.transit = [] → ∃ t, exec (.ios c 0) s = .next t ∧ coreOnly s t c (s.co c).gone)) ∧
  (∀ (c : Fin 4) (f : BitVec 24) (s : State) (w : Word), fetches s c → bitsOf f.toNat 8 12 = 0 →
    (opSel f = 0 ∧ w = putBits (s.co c).stat 11 1 (b01 (s.co c).div.isSome)) ∨ (opSel f = 1 ∧ w = (s.co c).cnt) ∨ (opSel f = 2 ∧ w = (s.co c).sptr) ∨
      (opSel f = 3 ∧ w = (s.co c).dptr) ∨ (opSel f = 4 ∧ w = (s.co c).mhi) ∨ (opSel f = 5 ∧ w = (s.co c).mlo) ∨ (opSel f = 6 ∧ w = (s.co c).quo) ∨
      (opSel f = 7 ∧ w = (s.co c).rem) ∨ (opSel f = 10 ∧ w = (s.co c).ecause) ∨ (opSel f = 11 ∧ w = (s.co c).eaddr) ∨
      (1 ≤ (s.co c).lvl ∧ (s.co c).lvl ≤ 9 ∧ ((opSel f = 8 ∧ w = word (tabGet 0 (s.co c).epc (s.co c).lvl)) ∨
        (opSel f = 9 ∧ w = tabGet 0 (s.co c).estat (s.co c).lvl))) →
    ∃ t, exec (.mfs c f) s = .next t ∧ coreOnly s t c ((s.co c).took (opD f) w)) ∧
  (∀ (c : Fin 4) (f : BitVec 24) (s : State) (w : Word) (x : Core), fetches s c → bitsOf f.toNat 8 12 = 0 → w = s.greg c (opD f) → (s.co c).app = false →
    (opSel f = 0 ∧ x = { s.co c with stat := w &&& 0x7EF }) ∨ (opSel f = 1 ∧ x = { s.co c with cnt := w }) ∨ (opSel f = 2 ∧ x = { s.co c with sptr := w }) ∨
      (opSel f = 3 ∧ x = { s.co c with dptr := w }) ∨ (opSel f = 4 ∧ x = { s.co c with mhi := w }) ∨ (opSel f = 5 ∧ x = { s.co c with mlo := w }) ∨
      (opSel f = 6 ∧ x = { s.co c with quo := w }) ∨ (opSel f = 7 ∧ x = { s.co c with rem := w }) →
    ∃ t, exec (.mts c f) s = .next t ∧ coreOnly s t c x.gone) ∧
  (∀ (c : Fin 4) (f : BitVec 24) (s : State), fetches s c → bitsOf f.toNat 8 12 = 0 → (s.co c).app = true → opSel f = 8 ∨ opSel f = 9 →
    exec (.mts c f) s = .next (finish s (takeTrap c (s.trapHere c 0x0A) s))) ∧
  (∀ (c : Fin 4) (f : BitVec 24) (s : State), fetches s c → bitsOf f.toNat 0 20 = 0 →
    ((s.co c).depth < 16 → ∃ t, exec (.rspush c f) s = .next t ∧ coreOnly s t c { (s.co c).gone with
      stack := tabSet 0 (s.co c).stack (s.co c).sp ((s.greg c (opD f)).toNat % 2 ^ 24), sp := ((s.co c).sp + 1) % 16, depth := (s.co c).depth + 1 }) ∧
    (0 < (s.co c).depth → ∃ t, exec (.rspop c f) s = .next t ∧ coreOnly s t c { (s.co c).took (opD f)
      (word (tabGet 0 (s.co c).stack (((s.co c).sp + 15) % 16))) with sp := ((s.co c).sp + 15) % 16, depth := (s.co c).depth - 1 }) ∧
    (16 ≤ (s.co c).depth → s.stackTraps c = true → exec (.rspush c f) s = .next (finish s (takeTrap c (s.trapHere c 0x08) s))) ∧
    ((s.co c).depth = 0 → s.stackTraps c = true → exec (.rspop c f) s = .next (finish s (takeTrap c (s.trapHere c 0x08) s))) ∧
    (16 ≤ (s.co c).depth → s.stackTraps c = false → ∃ t, exec (.rspush c f) s = .next t ∧ t.flag F.CORE_RSD_OVF (coreIx c 0) = true ∧
      (t.co c).depth = (s.co c).depth ∧ regsBut s t [(.CORE_RSD, coreIx c 0)] ∧ memSame s t))

/-- Control flow (R434, R435, R444). BR and JMPX go to their target; CALL and CALLX first push PC + 1, and RET goes to what it pops; Bcc goes to
OFFSET from the next instruction where its condition holds of Z, N, C and V, and on where not; NOP goes on. Where the rules leave a point open, the
clause follows the model's choice in log entries 10 and 11. -/
def Obligations.ControlFlow : Prop :=
  (∀ (c : Fin 4) (f : BitVec 24) (s : State) (i j : Instr) (a : Nat), fetches s c →
    (i = .br c f ∧ j = .call c f ∧ a = f.toNat) ∨
      (i = .jmpx c f ∧ j = .callx c f ∧ opD f = 0 ∧ bitsOf f.toNat 0 16 = 0 ∧ a = (s.greg c (opA f)).toNat % 2 ^ 24) →
    (∃ t, exec i s = .next t ∧ coreOnly s t c { s.co c with pc := a }) ∧
    ((s.co c).depth < 16 → ∃ t, exec j s = .next t ∧ coreOnly s t c { s.co c with
      pc := a, stack := tabSet 0 (s.co c).stack (s.co c).sp (((s.co c).pc + 1) % 2 ^ 24), sp := ((s.co c).sp + 1) % 16, depth := (s.co c).depth + 1 }) ∧
    (16 ≤ (s.co c).depth → s.stackTraps c = true → exec j s = .next (finish s (takeTrap c (s.trapHere c 0x08) s)))) ∧
  (∀ (c : Fin 4) (s : State), fetches s c →
    (0 < (s.co c).depth → ∃ t, exec (.ret c 0) s = .next t ∧ coreOnly s t c { s.co c with
      pc := tabGet 0 (s.co c).stack (((s.co c).sp + 15) % 16) % 2 ^ 24, sp := ((s.co c).sp + 15) % 16, depth := (s.co c).depth - 1 }) ∧
    ((s.co c).depth = 0 → s.stackTraps c = true → exec (.ret c 0) s = .next (finish s (takeTrap c (s.trapHere c 0x08) s))) ∧
    (∃ t, exec (.nop c 0) s = .next t ∧ coreOnly s t c (s.co c).gone)) ∧
  (∀ (c : Fin 4) (f : BitVec 24) (s : State) (z n cy v taken : Bool), fetches s c → z = bitOf (s.co c).stat.toNat 0 → n = bitOf (s.co c).stat.toNat 1 →
    cy = bitOf (s.co c).stat.toNat 2 → v = bitOf (s.co c).stat.toNat 3 →
    (opCond f = 0 ∧ taken = z) ∨ (opCond f = 1 ∧ taken = !z) ∨ (opCond f = 2 ∧ taken = !cy) ∨ (opCond f = 3 ∧ taken = cy) ∨
      (opCond f = 4 ∧ taken = (n != v)) ∨ (opCond f = 5 ∧ taken = (n == v)) ∨ (opCond f = 6 ∧ taken = n) ∨ (opCond f = 7 ∧ taken = !n) ∨
      (opCond f = 8 ∧ taken = true) →
    ∃ t, exec (.bcc c f) s = .next t ∧ coreOnly s t c { s.co c with
      pc := if taken then ((((s.co c).pc : Int) + 1 + (BitVec.ofNat 20 f.toNat).toInt) % 2 ^ 24).toNat else ((s.co c).pc + 1) % 2 ^ 24 }) ∧
  (∀ (c : Fin 4) (f : BitVec 24) (s : State), fetches s c → 9 ≤ opCond f → exec (.bcc c f) s = .next (finish s (takeTrap c (s.trapHere c 0x01) s)))

/-- Traps, interrupts and returns (R444, R445, R446, R448, R449, R450). SYSC and BRK trap: PC and STAT are saved in the shadow set of level 9, STAT
has LVL 9 with IE and MODE clear, PC is the vector, ECAUSE and EADDR say why and where; at LVL 9 the core stops and its source is raised. A pending
line above LVL is entered at its level at the vector of the line. RETI restores PC and STAT of its level; at level 0 it traps UNDEF and in application
mode PRIV. Where the rules leave a point open, the clause follows the model's choice in log entry 11. -/
def Obligations.TrapsAndReturns : Prop :=
  (∀ (c : Fin 4) (f : BitVec 24) (s : State) (i : Instr) (code sel : Nat), fetches s c →
    (i = .sysc c f ∧ bitsOf f.toNat 8 16 = 0 ∧ code = 0x0C ∧ sel = bitsOf f.toNat 0 8) ∨ (i = .brk c 0 ∧ s.debugHolds = false ∧ code = 0x0D ∧ sel = 0) →
    ((s.co c).lvl ≠ 9 → ∃ t, exec i s = .next t ∧ coreOnly s t c { s.co c with
      epc := tabSet 0 (s.co c).epc 9 (s.co c).pc, estat := tabSet 0 (s.co c).estat 9 (s.co c).statRead,
      stat := putBits (putBits (putBits (s.co c).stat 6 4 9) 5 1 0) 10 1 0, pc := (s.vbase c + code) % 2 ^ 24,
      ecause := word (code + 0x100 * sel), eaddr := word (s.co c).pc }) ∧
    ((s.co c).lvl = 9 → ∃ t, exec i s = .next t ∧ coreOnly s t c { s.co c with run := .stopped } ∧
      t.raised = s.raised ++ [(132 + (c : Nat), word (code + 0x100 * sel))])) ∧
  (∀ (c : Fin 4) (s : State), fetches s c → s.debugHolds = true → ∃ t, exec (.brk c 0) s = .next t ∧ coreOnly s t c (s.co c).gone) ∧
  (∀ (c : Fin 4) (s : State), fetches s c →
    (1 ≤ (s.co c).lvl → (s.co c).lvl ≤ 9 → (s.co c).app = false → ∃ t, exec (.reti c 0) s = .next t ∧ coreOnly s t c { s.co c with
      pc := tabGet 0 (s.co c).epc (s.co c).lvl % 2 ^ 24, stat := tabGet 0 (s.co c).estat (s.co c).lvl &&& 0x7EF,
      serving := tabSet 0 (s.co c).serving (s.co c).lvl 0 }) ∧
    ((s.co c).lvl = 0 → exec (.reti c 0) s = .next (finish s (takeTrap c (s.trapHere c 0x01) s))) ∧
    ((s.co c).lvl ≠ 0 → (s.co c).app = true → exec (.reti c 0) s = .next (finish s (takeTrap c (s.trapHere c 0x0A) s)))) ∧
  (∀ (c : Fin 4) (i : Nat) (s : State), s.coreRuns c = true → (s.co c).ie = true → s.bestLine c = some i → ∃ t,
    exec (.interruptEntry c) s = .next t ∧ coreOnly s t c { s.co c with
      epc := tabSet 0 (s.co c).epc (s.lineLevel i) (s.co c).pc, estat := tabSet 0 (s.co c).estat (s.lineLevel i) (s.co c).statRead,
      stat := putBits (putBits (putBits (s.co c).stat 6 4 (s.lineLevel i)) 5 1 0) 10 1 0, pc := (s.vbase c + (0x10 + i)) % 2 ^ 24,
      serving := tabSet 0 (s.co c).serving (s.lineLevel i) (i + 1) } ∧
    (lineOfUnit i = false → tabGet false t.irq i = false) ∧ (lineOfUnit i = true → t.irq = s.irq)) ∧
  (∀ (c : Fin 4) (s : State), s.coreRuns c = false ∨ (s.co c).ie = false ∨ s.bestLine c = none → exec (.interruptEntry c) s = .next (finish s s))

/-- Events and timed waits (R441, R442, R443, R446). WAITEV retires with the selected conditions that hold, or waits until one does; its event bits
among them clear. SIGEV sets SIGNAL in the other cores named. WTU ends with 0 at its target, with 1 at its timeout, with 2 at an interrupt, and waits
otherwise. CORE_SWSET requests its software line. Where the rules leave a point open, the clause follows the model's choice in log entry 11. -/
def Obligations.EventsAndWaits : Prop :=
  (∀ (c : Fin 4) (f : BitVec 24) (s : State) (m sel : Nat), fetches s c → bitsOf f.toNat 0 20 = 0 → m = (s.greg c (opD f)).toNat % 16 →
    sel = (if m = 0 then 15 else m) →
    (s.conditions c &&& sel = 0 → ∃ t, exec (.waitev c f) s = .next t ∧ coreOnly s t c { s.co c with wait := .event (opD f) sel }) ∧
    (s.conditions c &&& sel ≠ 0 → ∃ t, exec (.waitev c f) s = .next t ∧ t.co c = { (s.co c).took (opD f) (word (s.conditions c &&& sel)) with wait := .none } ∧
      t.getF F.CORE_EVT_EV (coreIx c 0) = s.getF F.CORE_EVT_EV (coreIx c 0) - (s.getF F.CORE_EVT_EV (coreIx c 0) &&& (s.conditions c &&& sel)) ∧
      regsBut s t [(.CORE_EVT, coreIx c 0)] ∧ memSame s t ∧ sends s t [])) ∧
  (∀ (c : Fin 4) (g sel : Nat) (s : State), s.coreWaits c = true → (s.co c).wait = .event g sel →
    (s.conditions c &&& sel = 0 → exec (.waitevWake c) s = .next (finish s s)) ∧
    (s.conditions c &&& sel ≠ 0 → ∃ t, exec (.waitevWake c) s = .next t ∧
      t.co c = { (s.co c).took g (word (s.conditions c &&& sel)) with wait := .none } ∧ regsBut s t [(.CORE_EVT, coreIx c 0)] ∧ memSame s t ∧ sends s t [])) ∧
  (∀ (c : Fin 4) (f : BitVec 24) (s : State), fetches s c → bitsOf f.toNat 0 20 = 0 → ∃ t, exec (.sigev c f) s = .next t ∧ t.co c = (s.co c).gone ∧
    (∀ k, k < 4 → bitOf (s.greg c (opD f)).toNat k = true → k ≠ (c : Nat) → s.coreThere k = true → t.flag ⟨.CORE_EVT, 0, 1⟩ (coreIx k 0) = true) ∧
    t.rd .CORE_EVT (coreIx c 0) = s.rd .CORE_EVT (coreIx c 0) ∧ memSame s t ∧ sends s t []) ∧
  (∀ (c : Fin 4) (f : BitVec 24) (s : State) (a b : Word), fetches s c → bitsOf f.toNat 0 12 = 0 → a = s.greg c (opA f) → b = s.greg c (opB f) →
    (0 ≤ (word s.short - a).toInt → ∃ t, exec (.wtu c f) s = .next t ∧ coreOnly s t c { (s.co c).took (opD f) 0 with wait := .none }) ∧
    ((word s.short - a).toInt < 0 → s.coreInterrupted c = true → ∃ t, exec (.wtu c f) s = .next t ∧
      coreOnly s t c { (s.co c).took (opD f) 2 with wait := .none }) ∧
    ((word s.short - a).toInt < 0 → s.coreInterrupted c = false → ∃ t, exec (.wtu c f) s = .next t ∧
      coreOnly s t c { s.co c with wait := .time (opD f) a (if b = 0 then none else some (s.up + b.toNat)) })) ∧
  (∀ (c : Fin 4) (g : Nat) (a : Word) (d : Option Nat) (s : State), s.coreWaits c = true → (s.co c).wait = .time g a d →
    (0 ≤ (word s.short - a).toInt → ∃ t, exec (.wtuEnd c) s = .next t ∧ coreOnly s t c { (s.co c).took g 0 with wait := .none }) ∧
    ((word s.short - a).toInt < 0 → (∃ e, d = some e ∧ e ≤ s.up) → ∃ t, exec (.wtuEnd c) s = .next t ∧
      coreOnly s t c { (s.co c).took g 1 with wait := .none }) ∧
    ((word s.short - a).toInt < 0 → (∀ e, d = some e → s.up < e) → s.coreInterrupted c = true → ∃ t, exec (.wtuEnd c) s = .next t ∧
      coreOnly s t c { (s.co c).took g 2 with wait := .none }) ∧
    ((word s.short - a).toInt < 0 → (∀ e, d = some e → s.up < e) → s.coreInterrupted c = false → exec (.wtuEnd c) s = .next (finish s s))) ∧
  (∀ (m : Master) (v : Word) (s : State), v.toNat < 64 → ∃ t, exec (.coreSwset m v) s = .next t ∧ tabGet false t.irq (64 + v.toNat) = true ∧
    (∀ l, l ≠ 64 + v.toNat → tabGet false t.irq l = tabGet false s.irq l) ∧ sends s t [.written m (Reg.addr .CORE_SWSET 0) .accepted] ∧
    regsSame s t ∧ memSame s t)

/-- The block transfer engine (R454 to R459). START is checked whole and makes the channel BUSY with its count; a count of 0 is accepted without
effect; ABORT ends a BUSY channel. A word in data space moves from the source to the destination and is counted off; the last one ends the transfer,
which requests the channel's line where IRQ is set; a source with an ECC error ends it in FAULT. Where the rules leave a point open, the clause
follows the model's choice in log entry 36. -/
def Obligations.BlockTransfers : Prop :=
  (∀ (m : Master) (c : Fin 8) (v w : Word) (s : State), w = v ||| word (2 ^ F.BTE_CTRL_START.lo) → reservedSet .BTE_CTRL w = false →
    F.BTE_CTRL_ABORT.on w = false →
    (s.bteBusy c = true ∨ s.entering = true → exec (.bteStart m c v) s = .next (finish s (s.answer m .BTE_RESULT .state c (Reg.addr .BTE_CTRL c)))) ∧
    (s.bteBusy c = false → s.entering = false → F.BTE_CTRL_DIR.of w ≠ 3 →
      (s.getF F.BTE_CNT_COUNT c = 0 → exec (.bteStart m c v) s = .next (finish s (s.answer m .BTE_RESULT .accepted c (Reg.addr .BTE_CTRL c)))) ∧
      (0 < s.getF F.BTE_CNT_COUNT c → s.getF F.BTE_CNT_COUNT c < 2 ^ 24 → bteRangeOk m w c (s.getF F.BTE_CNT_COUNT c) s = true →
        exec (.bteStart m c v) s = .next (finish s
          ((bteBegin m c (s.getF F.BTE_CNT_COUNT c) (s.wrMasked .BTE_CTRL c w)).answer m .BTE_RESULT .accepted c (Reg.addr .BTE_CTRL c)))) ∧
      (0 < s.getF F.BTE_CNT_COUNT c → bteRangeOk m w c (s.getF F.BTE_CNT_COUNT c) s = false →
        exec (.bteStart m c v) s = .next (finish s (s.answer m .BTE_RESULT .invalid c (Reg.addr .BTE_CTRL c)))))) ∧
  (∀ (m : Master) (c : Fin 8) (v w : Word) (s : State), w = v ||| word (2 ^ F.BTE_CTRL_ABORT.lo) → reservedSet .BTE_CTRL w = false →
    F.BTE_CTRL_START.on w = false →
    (s.bteBusy c = false → exec (.bteAbort m c v) s = .next (finish s (s.answer m .BTE_RESULT .accepted c (Reg.addr .BTE_CTRL c)))) ∧
    (s.bteBusy c = true → ∃ t, exec (.bteAbort m c v) s = .next t ∧ t.bteState c = 3 ∧
      (s.flag F.BTE_CTRL_IRQ c = true → tabGet false t.irq (38 + c) = true) ∧ (s.flag F.BTE_CTRL_IRQ c = false → t.irq = s.irq) ∧
      sends s t [.written m (Reg.addr .BTE_CTRL c) .accepted] ∧ regsBut s t [(.BTE_STAT, (c : Nat)), (.BTE_RESULT, bk m 0)] ∧ memSame s t)) ∧
  (∀ (c i a b : Nat) (s : State), s.dom.core = true → s.bteTurn = some c → s.getF F.BTE_CTRL_DIR c = 0 → s.flag F.BTE_CTRL_SFIX c = false →
    s.flag F.BTE_CTRL_DFIX c = false → i = s.getF F.BTE_CNT_COUNT c - s.getF F.BTE_RES_RESID c → a = (s.rd .BTE_SRC c).toNat + 4 * i →
    b = (s.rd .BTE_DST c).toNat + 4 * i → inSram a = true → inSram b = true → a % 4 = 0 → b % 4 = 0 →
    (s.eccBad a = false → ∃ t, exec .bteWord s = .next t ∧ t.memWord b = s.memWord a ∧ (∀ x, x < b ∨ b + 4 ≤ x → t.memByte x = s.memByte x) ∧
      t.rd .BTE_RES c = word (s.getF F.BTE_RES_RESID c - 1) ∧ t.bteState c = (if s.getF F.BTE_RES_RESID c - 1 = 0 then 2 else s.bteState c) ∧
      sends s t [] ∧ regsBut s t [(.BTE_RES, c), (.BTE_STAT, c)]) ∧
    (s.eccBad a = true → ∃ t, exec .bteWord s = .next t ∧ t.bteState c = 5 ∧ t.getF F.BTE_STAT_FCAUSE c = 0x0B ∧ t.rd .BTE_FADDR c = word a ∧
      memSame s t ∧ sends s t [] ∧ regsBut s t [(.BTE_STAT, c), (.BTE_FADDR, c)])) ∧
  (∀ s : State, s.bteTurn = none → exec .bteWord s = .next (finish s s))

/-- Starts, the debugger, and the comparators (R429, R460, R464 to R469). A core that is ready starts at PC 0. A debugger in service mode holds a
core, reads and writes its registers and data space while it is held, and lets it go on. A pair that miscompares leaves service: the other one takes
over in SAFE, in DUAL its core stops, and without another the cores restart; a resync brings the pair back, or says why not. The comparator test lets
the cores start. Where the rules leave a point open, the clause follows the model's choice in log entries 2 and 35. -/
def Obligations.StartsAndPairs : Prop :=
  (∀ (c : Fin 4) (s : State), s.dom.core = true → (s.co c).run = .ready → ∃ t, exec (.coreStart c) s = .next t ∧ t.co c = coreFresh s.up ∧
    (∀ d, d ≠ (c : Nat) → t.co d = s.co d) ∧ t.rd .CORE_VBASE (coreIx c 0) = 0 ∧ t.fcru.restarting = false ∧ memSame s t) ∧
  (∀ (c : Fin 4) (s : State), s.dom.core = false ∨ (s.co c).run ≠ .ready → exec (.coreStart c) s = .next (finish s s)) ∧
  (∀ (c : Fin 4) (s : State), s.debugOn c = true → (s.co c).run = .running → ∃ t, exec (.debugHalt c) s = .next t ∧
    coreOnly s t c { s.co c with run := .halted }) ∧
  (∀ (c : Fin 4) (s : State), (s.co c).run = .halted → ∃ t, exec (.debugResume c) s = .next t ∧ coreOnly s t c { s.co c with run := .running }) ∧
  (∀ (c : Fin 4) (s : State), (s.co c).run ≠ .halted → exec (.debugResume c) s = .next (finish s s)) ∧
  (∀ (c : Fin 4) (s : State), s.debugOn c = false ∨ (s.co c).run ≠ .running → exec (.debugHalt c) s = .next (finish s s)) ∧
  (∀ (c : Fin 4) (g : Fin 16) (v : Word) (s : State), s.debugOn c = true → (s.co c).run = .halted →
    exec (.debugAccess c (.regRead g)) s = .next (finish s (s.emit (.debugValue (s.greg c g)))) ∧
    (∃ t, exec (.debugAccess c (.regWrite g v)) s = .next t ∧ coreOnly s t c { s.co c with g := tabSet 0 (s.co c).g g v }) ∧
    (∀ a : Word, a.toNat % 4 = 0 → inSram a.toNat = true →
      exec (.debugAccess c (.load a)) s = .next (finish s (s.emit (.debugValue (s.memWord a.toNat)))) ∧
      (∃ t, exec (.debugAccess c (.store a v)) s = .next t ∧ t.memWord a.toNat = v ∧
        (∀ x, x < a.toNat ∨ a.toNat + 4 ≤ x → t.memByte x = s.memByte x) ∧ regsSame s t ∧ sends s t []))) ∧
  (∀ (p : Fin 2) (l : Fin 304) (s u : State), s.dom.core = true → s.pairIn p = true →
    u = (((s.setF F.FCRU_MISC_LANE 0 l).setB F.FCRU_MISC_PAIR 0 ((p : Nat) == 1)).setB F.FCRU_MISC_SPARE 0 (s.bootMode == 0 && s.activePair != (p : Nat))).countF
      F.FCRU_MISC_COUNT 0 →
    (s.bootMode = 1 → exec (.pairMiscompare p l) s = .next (finish s ((u.raise (128 + p) l).setCo p { u.co p with run := .stopped }))) ∧
    (s.bootMode = 0 → s.activePair ≠ p → exec (.pairMiscompare p l) s = .next (finish s (pairOut p (u.raise (128 + p) l)))) ∧
    (s.bootMode = 0 → s.activePair = p → u.pairIn (1 - p) = true → exec (.pairMiscompare p l) s = .next (finish s
      (((((pairOut p u).setF F.FCRU_PSTAT_ACTIVE 0 (1 - p)).countF F.FCRU_PSTAT_SWOVERS 0).raise (128 + p) l).emcyObj 0xFFA2 0 0x4B00 1))) ∧
    (s.bootMode = 0 → s.activePair = p → u.pairIn (1 - p) = false → exec (.pairMiscompare p l) s =
      .next (finish s ((u.raise 130 l).setCo 0 { u.co 0 with run := .stopped })))) ∧
  (∀ (m : Master) (v : Word) (s : State), pairBFitted s.variant = true → reservedSet .FCRU_RSYNC v = false → v ≠ 0 →
    (s.bootMode = 0 → s.pairIn 0 = true → s.pairIn 1 = false → s.getF F.FCRU_PSTAT_RSYNC 0 ≠ 1 → s.entering = false → (s.co 0).run = .running →
      ∃ t, exec (.fcruRsyncGo m v) s = .next t ∧ t.getF F.FCRU_PSTAT_RSYNC 0 = 1 ∧ t.co 0 = { s.co 0 with run := .stalled } ∧
        sends s t [.written m (Reg.addr .FCRU_RSYNC 0) .accepted] ∧ memSame s t) ∧
    (s.bootMode ≠ 0 → ∃ t, exec (.fcruRsyncGo m v) s = .next t ∧ sends s t [.written m (Reg.addr .FCRU_RSYNC 0) .state] ∧
      regsBut s t [(.FCRU_RESULT, bk m 0)] ∧ memSame s t)) ∧
  (∀ s u : State, s.getF F.FCRU_PSTAT_RSYNC 0 = 1 → s.pairIn 0 = true → (s.co 0).div = none → (s.co 0).run = .stalled →
    u = s.setCo 0 { s.co 0 with run := .running } →
    exec (.resyncComplete none) s = .next (finish s
      (((((u.setB F.FCRU_PSTAT_BIN 0 true).setB F.FCRU_PSTAT_BFAIL 0 false).setF F.FCRU_PSTAT_ACTIVE 0 0).setF F.FCRU_PSTAT_RSYNC 0 2).emcyObj 0xFFA3 0 0x4B00 1)) ∧
    ∀ l : Fin 304, exec (.resyncComplete (some l)) s = .next (finish s
      ((((u.setB F.FCRU_PSTAT_BFAIL 0 true).setF F.FCRU_PSTAT_RSYNC 0 3).raise 131 (0x10000 + l)).emcyObj 0xFFA3 0 0x4B00 1))) ∧
  (∀ s : State, s.fcru.testing = true → s.bootMode = 0 → pairBFitted s.variant = true → ∃ t, exec (.comparatorTestComplete none none) s = .next t ∧
    t.pairIn 0 = true ∧ t.pairIn 1 = true ∧ t.flag F.FCRU_PSTAT_ACTIVE 0 = false ∧ t.fcru.testing = false ∧ (t.co 0).run = .ready ∧ memSame s t ∧ sends s t []) ∧
  (∀ s : State, (s.co 0).run = .starting → s.bootMode ≠ 2 → ∃ t, exec .comparatorTestRetry s = .next t ∧ t.fcru.testing = true ∧ regsSame s t ∧ memSame s t)

/-- Fault sources (R470 to R474, R481, R484). An event of a fitted source counts, opens its window, sets its pending bit, is SEVERE from N on, and
brings the reactions of its class; it is lost while a reaction of the source is in progress. The end of the window clears the count and the class. A
raise names a software source. A partner's mute ends. The fault unit's controls (R470, R472, R474, R484). SAFE is cleared once no source that raised
it is pending, and is refused until then; a 1 in FCRU_PEND acknowledges its source; the configuration of the selected source is checked whole. Where
the rules leave a point open, the clause follows the model's choice in log entries 35 and 40. -/
def Obligations.FaultUnit : Prop :=
  (∀ (i : Nat) (info : Word) (l : List (Nat × Word)) (s u : State), s.raised = (i, info) :: l → u = ({ s with raised := l } : State) →
    (srcFitted s.variant i = false ∨ (s.fsrc i).busy = true → exec (.fcruSourceEvent none) s = .next (finish s u)) ∧
    (∀ (n r : Nat) (sev : Bool) (e : Option Nat) (v : State), srcFitted s.variant i = true → (s.fsrc i).busy = false →
      n = (if (s.fsrc i).winEnd.isSome then sat 255 ((s.fsrc i).count + 1) else 1) → sev = decide (s.srcN i ≤ n) →
      r = actingReactions s (if sev then s.srcSevere i else s.srcMinor i) →
      e = (if (s.fsrc i).winEnd.isSome then (s.fsrc i).winEnd else some (s.up + s.srcWin i * 1000000)) →
      v = ((u.setFsrc i { s.fsrc i with count := n, severe := sev, busy := r != 0, events := sat 0xFFFFFFFF ((s.fsrc i).events + 1), info := info, winEnd := e }).setB ⟨.FCRU_PEND, i % 32, 1⟩ (i / 32) true) →
      (sev = false → exec (.fcruSourceEvent none) s = .next (finish s (react i 0 r n info ((v.countF F.FCRU_STAT_EVENTS 0).odoCount 10 i 0 1)))) ∧
      (sev = true → exec (.fcruSourceEvent none) s = .next (finish s ((react i 1 r n info
        (((v.setB ⟨.FCRU_SEV, i % 32, 1⟩ (i / 32) true).countF F.FCRU_STAT_EVENTS 0).odoCount 10 i 0 1)).emcyObj 0xFFA0 0 0x4A00 (0x40 + i)))))) ∧
  (∀ (i sev n : Nat) (info : Word) (u : State), react i sev 0 n info u = u ∧ react i sev 1 n info u = faultRecord i sev 1 n info u ∧
    react i sev 3 n info u = (faultRecord i sev 3 n info u).request 37 ∧
    react i sev 0x13 n info u = (faultRecord i sev 0x13 n info (safeReact i u)).request 37) ∧
  (∀ s : State, s.raised = [] → exec (.fcruSourceEvent none) s = .next (finish s s)) ∧
  (∀ (i : Fin 192) (info : Word) (s : State), (srcOutside i = true → exec (.fcruSourceEvent (some (i, info))) s = .next (finish s (fcruEvent i info s))) ∧
    (srcOutside i = false → exec (.fcruSourceEvent (some (i, info))) s = .next (finish s s))) ∧
  (∀ (i : Fin 192) (s : State), (∀ e, (s.fsrc i).winEnd = some e → ∃ t, exec (.fcruWindowEnd i) s = .next t ∧
      t.fsrc i = { s.fsrc i with winEnd := none, count := 0, severe := false } ∧ (∀ j, j ≠ (i : Nat) → t.fsrc j = s.fsrc j) ∧ regsSame s t ∧ memSame s t) ∧
    ((s.fsrc i).winEnd = none → exec (.fcruWindowEnd i) s = .next (finish s s)) ∧
    (∃ t, exec (.fcruReactionComplete i) s = .next t ∧ t.fsrc i = { s.fsrc i with busy := false } ∧ (∀ j, j ≠ (i : Nat) → t.fsrc j = s.fsrc j) ∧
      regsSame s t ∧ memSame s t ∧ sends s t [])) ∧
  (∀ (m : Master) (v : Word) (s : State), reservedSet .FCRU_RAISE v = false → ∃ t, exec (.fcruRaise m v) s = .next t ∧
    t.raised = s.raised ++ [(176 + F.FCRU_RAISE_SRC.of v, word (F.FCRU_RAISE_INFO.of v))] ∧ sends s t [.written m (Reg.addr .FCRU_RAISE 0) .accepted] ∧
    regsBut s t [(.FCRU_RESULT, bk m 0)] ∧ memSame s t) ∧
  (∀ (iface who : Nat) (s : State), ∃ t, exec (.muteEnd iface who) s = .next t ∧ t.mutedPartner iface who = false ∧
    (∀ i w, (i, w) ≠ (iface, who) → t.mutedPartner i w = s.mutedPartner i w) ∧ regsSame s t ∧ memSame s t ∧ sends s t []) ∧
  (∀ (m : Master) (v : Word) (s u : State), reservedSet .FCRU_CTRL v = false → v ≠ 0 →
    u = ((({ s with fcru := { s.fcru with safeBy := [] } } : State).setB F.FCRU_STAT_SAFE 0 false).setF F.FCRU_STAT_SAFESRC 0 0) →
    (s.fcru.safeBy.any s.srcPending = true → exec (.fcruSafeclr m v) s = .next (finish s
      ((s.wr .FCRU_RESULT (bk m 0) (word (Code.num .state + 0x10000 * Reg.addr .FCRU_CTRL 0))).emit (.written m (Reg.addr .FCRU_CTRL 0) .state)))) ∧
    (s.fcru.safeBy.any s.srcPending = false → exec (.fcruSafeclr m v) s = .next (finish s
      (((if s.flag F.FCRU_STAT_SAFE 0 then safeClearAll u else u).wr .FCRU_RESULT (bk m 0) (word (0x10000 * Reg.addr .FCRU_CTRL 0))).emit
        (.written m (Reg.addr .FCRU_CTRL 0) .accepted))))) ∧
  (∀ (m : Master) (w : Fin 6) (b : Fin 32) (s : State), ∃ t, exec (.fcruPendClear m w (word (2 ^ (b : Nat)))) s = .next t ∧
    t.srcPending (32 * w + b) = false ∧ (∀ i, i ≠ 32 * (w : Nat) + b → t.srcPending i = s.srcPending i) ∧
    sends s t [.written m (Reg.addr .FCRU_PEND w) .accepted] ∧ regsBut s t [(.FCRU_PEND, (w : Nat)), (.FCRU_RESULT, bk m 0)] ∧ memSame s t ∧
    (32 * (w : Nat) + b = 168 → t.fioForced = false) ∧ (32 * (w : Nat) + b = 170 → t.boostCut = false)) ∧
  (∀ (m : Master) (v : Word) (i : Nat) (s : State), i = s.fcruSel m → srcFitted s.variant i = true → reservedSet .FCRU_SCFG v = false →
    (srcCfgOk s.variant s.bootMode i v.toNat = true → ∃ t, exec (.fcruScfg m v) s = .next t ∧ t.srcCfg i = v.toNat ∧
      (∀ j, j ≠ i → t.srcCfg j = s.srcCfg j) ∧ sends s t [.written m (Reg.addr .FCRU_SCFG 0) .accepted] ∧ regsBut s t [(.FCRU_RESULT, bk m 0)] ∧ memSame s t) ∧
    (srcCfgOk s.variant s.bootMode i v.toNat = false → ∃ t, exec (.fcruScfg m v) s = .next t ∧ t.srcCfg i = s.srcCfg i ∧
      sends s t [.written m (Reg.addr .FCRU_SCFG 0) .invalid] ∧ regsBut s t [(.FCRU_RESULT, bk m 0)] ∧ memSame s t))

/-- Attempts and rounds of cab access (R491, R492, R494 to R499, R503, R506). The schedule and POLL start an attempt with the wake train where one may
start; CALREQ starts a calibration in service mode. The train's end sends the POLL of a round with a fresh nonce; RESP and REPORT fill their slot;
FINAL is sent. A round that is empty ends the attempt; one with a winner opens its session; one that must be repeated is followed by the next. Where
the rules leave a point open, the clause follows the model's choice in log entry 37. -/
def Obligations.CabAccessRounds : Prop :=
  (∀ s : State, s.attemptOk = true → s.getF F.ACC_CFG_SCHED 0 ≠ 0 → s.ignHigh = true →
    (s.driveEnabled = false → exec .accScheduleTrigger s = .next (finish s (trainStart 1 1 s))) ∧
    (s.driveEnabled = true → exec .accScheduleTrigger s = .next (finish s s))) ∧
  (∀ s : State, s.attemptOk = false ∨ s.getF F.ACC_CFG_SCHED 0 = 0 ∨ s.ignHigh = false → exec .accScheduleTrigger s = .next (finish s s)) ∧
  (∀ (m : Master) (w v : Word) (s : State), accFitted s.variant = true → v = w ||| word (2 ^ F.ACC_CTRL_POLL.lo) → reservedSet .ACC_CTRL v = false →
    F.ACC_CTRL_END.on v = false → F.ACC_CTRL_CALREQ.on v = false →
    (s.attemptOk = true → ∃ t, exec (.accPoll m w) s = .next t ∧ t.accState = 1 ∧ t.acc.train = true ∧ t.acc.ant = F.ACC_CTRL_ANT.of v ∧ t.acc.rounds = 0 ∧
      sends s t [.written m (Reg.addr .ACC_CTRL 0) .accepted, .uwbTrain (F.ACC_CTRL_ANT.of v)] ∧
      regsBut s t [(.ACC_STAT, 0), (.ACC_RESULT, bk m 0)] ∧ memSame s t) ∧
    (s.attemptOk = false → exec (.accPoll m w) s = .next (finish s ((s.wr .ACC_RESULT (bk m 0)
      (word (Code.num .state + 0x10000 * Reg.addr .ACC_CTRL 0))).emit (.written m (Reg.addr .ACC_CTRL 0) .state))))) ∧
  (∀ (m : Master) (w v : Word) (s : State), s.accOn = true → v = w ||| word (2 ^ F.ACC_CTRL_CALREQ.lo) → reservedSet .ACC_CTRL v = false →
    F.ACC_CTRL_END.on v = false → F.ACC_CTRL_POLL.on v = false → s.entering = false →
    (s.accState = 0 → s.flag F.SVC_STAT_MODE 0 = true → 30 ≤ F.ACC_CTRL_CALDIST.of v → F.ACC_CTRL_CALDIST.of v ≤ 300 →
      ∃ t, exec (.accCalreq m w) s = .next t ∧ t.accState = 4 ∧ t.acc.train = true ∧ t.acc.ant = F.ACC_CTRL_CALANT.of v ∧
        t.acc.calDist = F.ACC_CTRL_CALDIST.of v ∧
        sends s t [.written m (Reg.addr .ACC_CTRL 0) .accepted, .uwbTrain (F.ACC_CTRL_CALANT.of v)] ∧ memSame s t) ∧
    (s.flag F.SVC_STAT_MODE 0 = false → exec (.accCalreq m w) s = .next (finish s ((s.wr .ACC_RESULT (bk m 0)
      (word (Code.num .state + 0x10000 * Reg.addr .ACC_CTRL 0))).emit (.written m (Reg.addr .ACC_CTRL 0) .state))))) ∧
  (∀ (s : State) (c : Instr), (c = .wakeTrainEnd ∧ s.acc.train = true) ∨ (c = .nextRound ∧ s.acc.due = true) → ∃ t n, exec c s = .next t ∧
    n = ((List.range 16).map fun i => Config.randomByte (16 * s.fresh + i)) ∧ t.acc.nonce = n ∧ t.acc.inRound = true ∧ t.acc.train = false ∧ t.acc.due = false ∧
    t.acc.rounds = s.acc.rounds + 1 ∧ t.acc.slots = [] ∧ sends s t [.uwbPoll s.acc.ant n] ∧ memSame s t ∧
    (c = .wakeTrainEnd → s.accState = 1 → t.accState = 2)) ∧
  (∀ (k : Fin 8) (col : Bool) (tok : Option (Fin 16)) (ra rb db ctr : Nat) (tag : List Byte) (s : State) (x y : AccSlot), s.acc.inRound = true →
    x = { s.accSlot k with collided := (s.accSlot k).collided || col, resp := some (ra, tok.map (·.val)) } →
    y = { s.accSlot k with collided := (s.accSlot k).collided || col, report := some (rb, db, ctr % 2 ^ 32, tag) } →
    exec (.accResp k col tok ra) s = .next (finish s ({ s with acc := { s.acc with slots := tabSet {} s.acc.slots k x } } : State)) ∧
    exec (.accReport k col rb db ctr tag) s = .next (finish s ({ s with acc := { s.acc with slots := tabSet {} s.acc.slots k y } } : State)) ∧
    exec .accFinal s = .next (finish s (s.emit (.uwbFinal s.acc.ant)))) ∧
  (∀ s : State, s.acc.inRound = true → s.accState = 2 → s.acc.slots = [] → (∀ t < 16, s.flag F.ACC_TOK_RESYNC t = false) →
    exec .roundEnd s = .next (finish s (attemptEnd 1 ({ s with acc := { s.acc with inRound := false, slots := [], calTof := [] } } : State)))) ∧
  (∀ (s u : State) (vs : List Verdict) (seen : List Nat) (tok : Nat) (f : Int × Nat), s.acc.inRound = true → s.accState ≠ 4 →
    judgeAll (List.range 8) s = (vs, seen, u) → winner vs = some (tok, f) →
    exec .roundEnd s = .next (finish s (grant tok f ({ u with acc := { u.acc with inRound := false, slots := [], calTof := [] } } : State)))) ∧
  (∀ (k : Fin 8) (col : Bool) (tok : Option (Fin 16)) (ra rb db ctr : Nat) (tag : List Byte) (s : State), s.acc.inRound = false →
    exec .roundEnd s = .next (finish s s) ∧ exec .accFinal s = .next (finish s s) ∧ exec (.accResp k col tok ra) s = .next (finish s s) ∧
    exec (.accReport k col rb db ctr tag) s = .next (finish s s))

/-- Sessions, drive enable and enrolment (R489, R499, R501, R502). END and the session's timeout withdraw the lock and record the end. A drive-enable
frame carries the next value of the rolling counter; when the wait for IGN ends with IGN low the enable clears, and three WITHDRAWN frames follow. An
enrolment is taken from the service session while the unit is idle. Where the rules leave a point open, the clause follows the model's choice in log
entries 37 and 51. -/
def Obligations.CabAccessSessions : Prop :=
  (∀ s u : State, s.accState = 3 → u = accTo 0 (accRecord 1 1 (lockWithdraw ({ s with acc := { s.acc with lockna := false } } : State))) →
    exec .accSessionTimeout s = .next (finish s u)) ∧
  (∀ (m : Master) (w v : Word) (s : State), accFitted s.variant = true → v = w ||| word (2 ^ F.ACC_CTRL_END.lo) → reservedSet .ACC_CTRL v = false →
    F.ACC_CTRL_POLL.on v = false → F.ACC_CTRL_CALREQ.on v = false →
    (s.accState = 3 → exec (.accEnd m w) s = .next (finish s
      (((accTo 0 (accRecord 1 2 (lockWithdraw ({ s with acc := { s.acc with lockna := false } } : State)))).wr .ACC_RESULT (bk m 0)
        (word (0x10000 * Reg.addr .ACC_CTRL 0))).emit (.written m (Reg.addr .ACC_CTRL 0) .accepted)))) ∧
    (s.accState ≠ 3 → exec (.accEnd m w) s = .next (finish s
      ((s.wr .ACC_RESULT (bk m 0) (word (0x10000 * Reg.addr .ACC_CTRL 0))).emit (.written m (Reg.addr .ACC_CTRL 0) .accepted))))) ∧
  (∀ s : State, s.accState ≠ 3 → exec .accSessionTimeout s = .next (finish s s)) ∧
  (∀ (s : State) (data : List Byte), s.driveEnabled = true → s.canOn s.deCh = true → s.canSends s.deCh = true →
    data = (leBytes 4 s.acc.deCount).reverse ++ [byte 1, byte s.acc.deToken, 0, 0] → ∃ t, exec .driveEnableFrame s = .next t ∧
    t.acc = { s.acc with deCount := (s.acc.deCount + 1) % 2 ^ 32 } ∧ regsSame s t ∧ memSame s t ∧
    sends s t [.canFdFrame s.deCh (s.getF F.ACC_DE_DEID 0) (data ++ Config.driveTag s.svc.driveKey (s.getF F.ACC_DE_DEID 0) data)]) ∧
  (∀ s : State, s.driveEnabled = false ∨ s.canOn s.deCh = false ∨ s.canSends s.deCh = false → exec .driveEnableFrame s = .next (finish s s)) ∧
  (∀ s : State, s.acc.deWait = true → (s.ignHigh = true → ∃ t, exec .dewait s = .next t ∧ t.acc = { s.acc with deWait := false } ∧ regsSame s t ∧ memSame s t) ∧
    (s.ignHigh = false → s.driveEnabled = true → ∃ t, exec .dewait s = .next t ∧ t.driveEnabled = false ∧
      t.acc = { s.acc with deWait := false, withdraw := 3 } ∧ regsBut s t [(.ACC_STAT, 0)] ∧ memSame s t ∧ sends s t [])) ∧
  (∀ (s : State) (data : List Byte), 0 < s.acc.withdraw → s.canOn s.deCh = true → s.canSends s.deCh = true →
    data = (leBytes 4 s.acc.deCount).reverse ++ [byte 0, byte s.acc.deToken, 0, 0] → ∃ t, exec .withdrawnFrame s = .next t ∧
    t.acc = { s.acc with withdraw := s.acc.withdraw - 1, deCount := (s.acc.deCount + 1) % 2 ^ 32 } ∧ regsSame s t ∧ memSame s t ∧
    sends s t [.canFdFrame s.deCh (s.getF F.ACC_DE_DEID 0) (data ++ Config.driveTag s.svc.driveKey (s.getF F.ACC_DE_DEID 0) data)]) ∧
  (∀ s : State, (s.acc.deWait = false → exec .dewait s = .next (finish s s)) ∧ (s.acc.withdraw = 0 → exec .withdrawnFrame s = .next (finish s s))) ∧
  (∀ (i : Fin 16) (d : List Byte) (s : State), accFitted s.variant = true → d.length = 28 →
    (s.accState = 0 → ∃ t, exec (.tokenEnrolment .service i d) s = .next t ∧
      t.token i = (if d.all (· == 0) then none else some { id := d.take 8, key := (d.drop 8).take 16 }) ∧
      t.getF F.ACC_LAST_LAST i = leNat (d.drop 24) % 2 ^ F.ACC_LAST_LAST.wd ∧ t.flag F.ACC_TOK_RESYNC i = false ∧
      sends s t [.objWritten .service 0x4800 (0x20 + i) .accepted] ∧ regsBut s t [(.ACC_LAST, (i : Nat)), (.ACC_TOK, (i : Nat))] ∧ memSame s t) ∧
    (s.accState ≠ 0 → exec (.tokenEnrolment .service i d) s = .next (finish s (s.objAborted .service 0x4800 (0x20 + i) 0x08000022)))) ∧
  (∀ (k i : Nat) (h : i < 16) (hk : k < 4) (d : List Byte) (s : State), accFitted s.variant = true →
    exec (.tokenEnrolment (.sdo ⟨k, hk⟩) ⟨i, h⟩ d) s = .next (finish s (s.objAborted (.sdo ⟨k, hk⟩) 0x4800 (0x20 + i) 0x08000022)))

/-- IDN_PRESENCE (R7). -/
def Obligations.PresenceOfVariants : Prop :=
  ∀ (m : Master) (s : State),
    (s.variant = .px96 → (ioRead m 0x4B01 s).1 = 0xFFFFFFFF) ∧
    (s.variant = .px64 → (ioRead m 0x4B01 s).1 = 0x93FCFC77) ∧
    (s.variant = .px48 → (ioRead m 0x4B01 s).1 = 0x000C3C33)

/-- A read returns the value in force, and a value that waits for its apply point does not show in the register's own reads (R34). -/
def Obligations.ReadsShowTheValueInForce : Prop :=
  (∀ (m : Master) (a n : Nat) (r : Reg) (w : Word) (s : State), regAt a = some (r, n) → (ioRead m a (s.hold r n w)).1 = (ioRead m a s).1) ∧
  (∀ (m : Master) (a n : Nat) (r : Reg) (s : State), regAt a = some (r, n) → regFitted s.variant r n = true →
    r ∈ [Reg.OUT_CFG, .OUT_THR, .OUT_INR, .OUT_RUNON, .OUT_ALN, .PROT_WIRE, .PROT_RETRY, .PROT_TOLL, .PROT_LIM, .PROT_CPL, .SNS_CAL, .TOLL_CFG, .VLV_CUR, .VLV_TIM, .VLV_GCFG, .SIN_CFG,
      .FIO_CFG, .FIO_TOCFG, .CAN_MODE, .LIN_SCH, .LIN_TDEF, .ETH_PCFG, .ETH_CBSA, .ETH_CBSB, .ETH_QMAP, .ETH_MIRROR, .ETH_VLAN, .ALM_CANSYNC, .ALM_PHYCAL,
      .WCU_TOP, .WCU_CCTRL, .NET_CFG, .NET_NMID, .NET_WLCFG, .PWR_CFG] → (ioRead m a s).1 = s.rd r n)

/-- A resync is refused with STATE in the cases of R467, and with ABSENT on the PX-48; it then changes nothing but the master's FCRU_RESULT (R467). -/
def Obligations.ResyncRefusals : Prop :=
  (∀ (m : Master) (s : State), pairBFitted s.variant = true →
    s.bootMode ≠ 0 ∨ (s.pairIn 0 = true ∧ s.pairIn 1 = true) ∨ s.getF F.FCRU_PSTAT_RSYNC 0 = 1 ∨ s.entering = true →
    exec (.fcruRsyncGo m 1) s = .next (finish s ((s.wr .FCRU_RESULT (bk m 0) (word (7 + 0x10000 * Reg.addr .FCRU_RSYNC 0))).emit
      (.written m (Reg.addr .FCRU_RSYNC 0) .state)))) ∧
  (∀ (m : Master) (s : State), s.variant = .px48 →
    exec (.fcruRsyncGo m 1) s = .next (finish s ((s.wr .FCRU_RESULT (bk m 0) (word (5 + 0x10000 * Reg.addr .FCRU_RSYNC 0))).emit
      (.written m (Reg.addr .FCRU_RSYNC 0) .absent))))

/-- Firmware update (R514 to R517). BEGIN empties the inactive bank and erases it; segments in order fill it, after an interruption from the page that
was not complete, and the last one commits; the checks of R513 decide between READY and REJECTED and answer the last segment; ABANDON drops the image.
RESTART by the service session saves, swaps the banks and restarts the cores on trial; the trial's end of migration goes on, with the settings of
before kept, or reverts; CONFIRM, and AUTOCONF where the header asks for it, end it with the count of rollback raised; the timeout reverts; the run
time is saved. Where the rules leave a point open, the clause follows the model's choice in log entries 38 and 39. -/
def Obligations.Updates : Prop :=
  (∀ (c : Fin 4) (s : State), (s.updState = 0 ∨ s.updState = 5 ∨ s.updState = 6) → s.entering = false →
    exec (.updBegin (.dict .service)) s = .next (finish s ((updTo 1 (journalAdd 1 0 (bankEmptied s))).emit (.objWritten .service 0x4D00 1 .accepted))) ∧
    (s.appMaster (.core c) = false → exec (.updBegin (.core c)) s = .next (finish s
      (((updTo 1 (journalAdd 1 0 (bankEmptied s))).wr .SVC_RESULT (bk (.core c) 0) 0).emit (.written (.core c) (Reg.addr .SVC_UCMD 0) .accepted))))) ∧
  (∀ (c : Fin 4) (s : State), 0 < s.updState → s.updState ≤ 6 →
    exec (.updAbandon (.dict .service)) s = .next (finish s ((updTo 0 (bankEmptied (journalAdd 10 0 s))).emit (.objWritten .service 0x4D00 1 .accepted))) ∧
    (s.appMaster (.core c) = false → exec (.updAbandon (.core c)) s = .next (finish s
      (((updTo 0 (bankEmptied (journalAdd 10 0 s))).wr .SVC_RESULT (bk (.core c) 0) 0).emit (.written (.core c) (Reg.addr .SVC_UCMD 0) .accepted))))) ∧
  (∀ (c : Fin 4) (i : Instr) (s : State), (i = .updAbandon (.core c) ∧ s.updState = 0) ∨ (i = .updBegin (.core c) ∧ s.updState = 2) ∨
      i = .updRestart (.core c) ∨ (i = .updConfirm (.core c) ∧ s.updState = 5) ∨
      ((i = .updAbandon (.core c) ∨ i = .updBegin (.core c)) ∧ s.appMaster (.core c) = true) →
    exec i s = .next (finish s ((s.wr .SVC_RESULT (bk (.core c) 0) (word (Code.num .state))).emit (.written (.core c) (Reg.addr .SVC_UCMD 0) .state)))) ∧
  (∀ (s : State), s.updState = 1 → ∃ t, exec .eraseComplete s = .next t ∧ t.updState = 2 ∧ memSame s t ∧
    (∀ a, a / 2 ^ 20 = 1 - s.flashBank → tabGet flashBlank t.flash a = flashBlank) ∧
    (∀ a, a / 2 ^ 20 ≠ 1 - s.flashBank → tabGet flashBlank t.flash a = tabGet flashBlank s.flash a)) ∧
  (∀ (data : List Byte) (s u : State), s.flag F.SVC_STAT_MODE 0 = true → s.updState = 2 → s.svc.received + data.length ≤ 4190720 →
    u = updTo 2 (imageBytes data s) →
    exec (.imageSegment s.svc.received data false) s = .next (finish s (u.emit (.objWritten .service 0x4D00 2 .accepted))) ∧
    exec (.imageSegment s.svc.received data true) s = .next (finish s (updTo 4 (bankProgram (2 ^ 20 - 128)
      (bankProgram (1024 * u.getF F.SVC_USTAT_PAGES 0) u.svc.part u).svc.header (bankProgram (1024 * u.getF F.SVC_USTAT_PAGES 0) u.svc.part u)))) ∧
    (∀ o, o ≠ s.svc.received → exec (.imageSegment o data false) s = .next (finish s (s.objAborted .service 0x4D00 2 0x08000020)))) ∧
  (∀ (o : Nat) (data : List Byte) (s : State), s.flag F.SVC_STAT_MODE 0 = true → s.updState = 3 → o = 512 + 4096 * s.getF F.SVC_USTAT_PAGES 0 →
    o + data.length ≤ 4190720 → exec (.imageSegment o data false) s = .next (finish s
      ((updTo 2 (imageBytes data ({ s with svc := { s.svc with part := [], received := o } } : State))).emit (.objWritten .service 0x4D00 2 .accepted)))) ∧
  (∀ (s u : State), s.updState = 4 →
    (imageCode s = 0 → u = updTo 5 ({ journalAdd 4 0 s with svc := { (journalAdd 4 0 s).svc with bankEmpty := false } } : State) →
      (s.flag F.SVC_STAT_MODE 0 = false → exec .verifyComplete s = .next (finish s u)) ∧
      (s.flag F.SVC_STAT_MODE 0 = true → exec .verifyComplete s = .next (finish s
        (sessAnswered 3 0x4D00 2 .done (u.emit (.objWritten .service 0x4D00 2 .accepted)))))) ∧
    (∀ c : Nat, imageCode s ≠ 0 → u = updTo 6 (journalAdd 5 (imageCode s) s) → c = (if imageCode s = 6 then 0x06060000 else 0x06090030) →
      (s.flag F.SVC_STAT_MODE 0 = false → exec .verifyComplete s = .next (finish s u)) ∧
      (s.flag F.SVC_STAT_MODE 0 = true → exec .verifyComplete s = .next (finish s
        (sessAnswered 3 0x4D00 2 (.abort c) (u.objAborted .service 0x4D00 2 c)))))) ∧
  (∀ (s u : State), s.updState = 5 → s.entering = false → u = journalAdd 6 0 (odoSave (calSave s)) →
    exec (.updRestart (.dict .service)) s = .next (finish s ((coresReset (updTo 7 (banksSwap ({ u with svc := { u.svc with
      migrated := ! decide (u.svc.setFmt < hdrSetfmt u.svc.header), oldSet := none, trialNs := 0, trialFrom := none, trialSaved := 0 } } : State)))).emit
        (.objWritten .service 0x4D00 1 .accepted)))) ∧
  (∀ (s : State), s.updState = 7 → s.svc.migrated = false →
    (exec (.migrationEnd true) s = .next (finish s (coresReset (updRevert 7 s)))) ∧
    (exec (.migrationEnd false) s = .next (finish s (journalAdd 7 0 ({ s with svc := { s.svc with
      migrated := true, oldSet := some s.settings, setFmt := hdrSetfmt s.activeHeader } } : State))))) ∧
  (∀ (c : Fin 4) (s u v : State), s.updState = 7 → s.svc.migrated = true → u = journalAdd 8 0 (arbRaise (hdrSecver s.activeHeader) s) →
    v = updTo 0 ({ u with svc := { u.svc with oldSet := none, trialNs := 0, trialFrom := none, migrated := false } } : State) →
    (bitOf (hdrNat s.activeHeader 7 1) 0 = true → exec .autoconf s = .next (finish s v)) ∧
    (bitOf (hdrNat s.activeHeader 7 1) 0 = false → exec .autoconf s = .next (finish s s)) ∧
    exec (.updConfirm (.dict .service)) s = .next (finish s (v.emit (.objWritten .service 0x4D00 1 .accepted))) ∧
    exec (.updConfirm (.core c)) s = .next (finish s ((v.wr .SVC_RESULT (bk (.core c) 0) 0).emit (.written (.core c) (Reg.addr .SVC_UCMD 0) .accepted)))) ∧
  (∀ (b : Bool) (s : State),
    (s.updState = 7 → exec .trialTimeout s = .next (finish s (coresReset (updRevert 8 s)))) ∧
    (s.updState = 7 → exec .trialTimeSave s = .next (finish s ({ s with svc := { s.svc with trialSaved := s.trialTime } } : State))) ∧
    (s.updState ≠ 7 → exec .trialTimeout s = .next (finish s s) ∧ exec .trialTimeSave s = .next (finish s s) ∧ exec .autoconf s = .next (finish s s) ∧
      exec (.migrationEnd b) s = .next (finish s s)))

/-- Pairing (R520 to R524, R530). A record from the service session is stored only if every check of R521 passes; the check at a start of the cores
pairs the module or says why not, with EMCY 0xFFB0. MODULE_UNPAIRED goes out while the module is not paired, and a challenge is answered. The
integrator image key is written once. Where the rules leave a point open, the clause follows the model's choice in log entries 38, 39 and 51. -/
def Obligations.Pairing : Prop :=
  (∀ (d : List Byte) (s : State), d.length = 184 →
    (pairCause d true s = 0 → s.otpWritten 0xA8 = true → ∃ t, exec (.pairingRecordWrite .service d) s = .next t ∧ t.svc.record = d ∧ t.paired = true ∧
      t.getF F.SVC_STAT_CAUSE 0 = 0 ∧ sends s t [.objWritten .service 0x4D00 9 .accepted] ∧ regsBut s t [(.SVC_STAT, 0)] ∧ memSame s t) ∧
    (pairCause d true s ≠ 0 → exec (.pairingRecordWrite .service d) s = .next (finish s
      ((s.setF F.SVC_STAT_CAUSE 0 (pairCause d true s)).objAborted .service 0x4D00 9 0x06090030)))) ∧
  (∀ (k : Fin 4) (d : List Byte) (s : State), exec (.pairingRecordWrite (.sdo k) d) s = .next (finish s (s.objAborted (.sdo k) 0x4D00 9 0x08000022)) ∧
    exec (.integratorImageKey (.sdo k) d) s = .next (finish s (s.objAborted (.sdo k) 0x4D00 0x0E 0x08000022))) ∧
  (∀ (s u : State), s.svc.checking = true →
    u = ({ s with svc := { s.svc with checking := false, driveKey := (s.unwrapDrive s.svc.record).getD [] } } : State) →
    (pairCause s.svc.record false s = 0 → exec .pairingStartCheck s = .next (finish s ((u.setF F.SVC_STAT_CAUSE 0 0).setB F.SVC_STAT_PAIRED 0 true))) ∧
    (pairCause s.svc.record false s ≠ 0 → exec .pairingStartCheck s = .next (finish s
      (((u.setF F.SVC_STAT_CAUSE 0 (pairCause s.svc.record false s)).setB F.SVC_STAT_PAIRED 0 false).emcyObj 0xFFB0 0 0x4D00 0x0A)))) ∧
  (∀ s : State, (s.paired = false → s.canOn s.pairCh = true → s.canSends s.pairCh = true → exec .moduleUnpaired s = .next (finish s
      (s.emit (.canFrame s.pairCh (s.getF F.SVC_PCFG_PAIRID 0) ([0x5A, byte (s.getF F.SVC_STAT_CAUSE 0)] ++ s.serial.drop 2))))) ∧
    (s.paired = true → exec .moduleUnpaired s = .next (finish s s))) ∧
  (∀ (n : List Byte) (s : State), n.length = 8 → s.canOn s.pairCh = true → s.canSends s.pairCh = true →
    exec (.pairingChallenge n) s = .next (finish s (s.emit (.canFdFrame s.pairCh (s.getF F.SVC_PCFG_PAIRID 0 + 2)
      ([byte (b01 s.paired)] ++ List.replicate 7 0 ++
        (if s.paired then Config.answerTag s.svc.driveKey (s.getF F.SVC_PCFG_PAIRID 0 + 2) n 1 else List.replicate 8 0)))))) ∧
  (∀ (d : List Byte) (s : State), d.length = 64 →
    (s.otpWritten 0x68 = false → ∃ t, exec (.integratorImageKey .service d) s = .next t ∧ t.otp 0x68 64 = d ∧
      (∀ a, a < 0x48000068 ∨ 0x480000A8 ≤ a → t.memByte a = s.memByte a) ∧ (memWf s → memWf t) ∧
      sends s t [.objWritten .service 0x4D00 0x0E .accepted] ∧ regsSame s t) ∧
    (s.otpWritten 0x68 = true → exec (.integratorImageKey .service d) s = .next (finish s (s.objAborted .service 0x4D00 0x0E 0x08000022))))

/-- The Odometer (R525, R526, R528, R529). The save every 10 minutes saves the calibration with it, and SAVE saves for a master; a save folds what was
counted into the older copy, with the next sequence number, and starts the counts again. A second's sample counts the feed currents, the temperature,
the voltage and the state, but in DORMANT nothing. ODO_SEL latches the words of an item into the master's window. Where the rules leave a point open,
the clause follows the model's choice in log entry 38. -/
def Obligations.OdometerCounts : Prop :=
  (∀ (s : State), (s.dom.core = true → exec .odometerSave s = .next (finish s (odoSave (calSave s)))) ∧
    (s.dom.core = false → exec .odometerSave s = .next (finish s s))) ∧
  (∀ (m : Master) (w : Word) (s : State), reservedSet .ODO_CTRL (w ||| word (2 ^ F.ODO_CTRL_SAVE.lo)) = false → s.svc.copyA.valid = true → s.svc.copyB.valid = true →
    (s.svc.copyB.seq < s.svc.copyA.seq → ∃ t, exec (.odoSave m w) s = .next t ∧ t.svc.copyA = s.svc.copyA ∧ t.svc.copyB =
      { seq := s.svc.copyA.seq + 1, valid := true, counts := foldCounts s.svc.copyA.counts s.odoAcc } ∧ t.odoAcc = [] ∧ t.svc.savedAt = s.rtcNow.1 ∧
      t.acc = { s.acc with deSaved := s.acc.deCount } ∧ tabGet false t.irq 36 = true ∧ regsSame s t ∧ memSame s t ∧
      sends s t [.written m (Reg.addr .ODO_CTRL 0) .accepted]) ∧
    (s.svc.copyA.seq ≤ s.svc.copyB.seq → ∃ t, exec (.odoSave m w) s = .next t ∧ t.svc.copyB = s.svc.copyB ∧ t.svc.copyA =
      { seq := s.svc.copyB.seq + 1, valid := true, counts := foldCounts s.svc.copyB.counts s.odoAcc } ∧ t.odoAcc = [] ∧ t.svc.savedAt = s.rtcNow.1 ∧
      t.acc = { s.acc with deSaved := s.acc.deCount } ∧ tabGet false t.irq 36 = true ∧ regsSame s t ∧ memSame s t ∧
      sends s t [.written m (Reg.addr .ODO_CTRL 0) .accepted])) ∧
  (∀ (plate : Int) (volt f : Nat) (s : State), (s.pwrState = 3 → exec (.odometerSecondSample plate volt) s = .next (finish s s)) ∧
    (s.pwrState ≠ 3 → f < 4 → feedFitted s.variant f = true → ∃ t, exec (.odometerSecondSample plate volt) s = .next t ∧
      [odoKey 3 0 (clampInt 0 15 ((plate + 400) / 100)).toNat, odoKey 11 0 (if s.powerState = 1 then 1 else s.pwrState),
        odoKey 4 0 (if volt < 8000 then 0 else sat 15 ((volt - 6000) / 2000)), odoKey 2 f (sat 15 ((s.tf f).cur / 10000).toNat)].all (fun k =>
        tabGet 0 t.odoAcc k == sat (2 ^ 32 - 1) (tabGet 0 s.odoAcc k + 1)) = true ∧
      (∀ k, k / 8192 ≠ 2 → k / 8192 ≠ 3 → k / 8192 ≠ 4 → k / 8192 ≠ 11 → tabGet 0 t.odoAcc k = tabGet 0 s.odoAcc k) ∧
      regsSame s t ∧ memSame s t ∧ sends s t [])) ∧
  (∀ (m : Master) (w : Word) (g i : Nat) (s : State), reservedSet .ODO_SEL w = false → g = F.ODO_SEL_GROUP.of w → i = F.ODO_SEL_ITEM.of w →
    (i < (odoShape g).1 → ∃ t, exec (.odoSel m w) s = .next t ∧ (∀ k, k < 17 → t.rd .ODO_W (bk m k) = word (s.odoWord g i k)) ∧
      t.rd .ODO_SEL (bk m 0) = w ∧ sends s t [.written m (Reg.addr .ODO_SEL 0) .accepted] ∧ memSame s t ∧
      (∀ r n, r ≠ .ODO_W → r ≠ .ODO_SEL → t.rd r n = s.rd r n)) ∧
    ((odoShape g).1 ≤ i → exec (.odoSel m w) s = .next (finish s (s.emit (.written m (Reg.addr .ODO_SEL 0) .invalid)))))
end

