-- ==== Sys2Proof/Laws/State.lean ====
section
/-!
SUPPORT. Laws/State.lean: what each named update of State leaves alone, one lemma per field and update.
-/
namespace Sys2Proof.Machine

variable (s : State)

/-! ## wr -/
@[simp] theorem State.wr_ident (r : Reg) (n : Nat) (w : Word) : (s.wr r n w).ident = s.ident := rfl
@[simp] theorem State.wr_held (r : Reg) (n : Nat) (w : Word) : (s.wr r n w).held = s.held := rfl
@[simp] theorem State.wr_queues (r : Reg) (n : Nat) (w : Word) : (s.wr r n w).queues = s.queues := rfl
@[simp] theorem State.wr_dom (r : Reg) (n : Nat) (w : Word) : (s.wr r n w).dom = s.dom := rfl
@[simp] theorem State.wr_transit (r : Reg) (n : Nat) (w : Word) : (s.wr r n w).transit = s.transit := rfl
@[simp] theorem State.wr_supply (r : Reg) (n : Nat) (w : Word) : (s.wr r n w).supply = s.supply := rfl
@[simp] theorem State.wr_irq (r : Reg) (n : Nat) (w : Word) : (s.wr r n w).irq = s.irq := rfl
@[simp] theorem State.wr_raised (r : Reg) (n : Nat) (w : Word) : (s.wr r n w).raised = s.raised := rfl
@[simp] theorem State.wr_fcru (r : Reg) (n : Nat) (w : Word) : (s.wr r n w).fcru = s.fcru := rfl
@[simp] theorem State.wr_alm (r : Reg) (n : Nat) (w : Word) : (s.wr r n w).alm = s.alm := rfl
@[simp] theorem State.wr_mst (r : Reg) (n : Nat) (w : Word) : (s.wr r n w).mst = s.mst := rfl
@[simp] theorem State.wr_wcuChan (r : Reg) (n : Nat) (w : Word) : (s.wr r n w).wcuChan = s.wcuChan := rfl
@[simp] theorem State.wr_wcuBlocked (r : Reg) (n : Nat) (w : Word) : (s.wr r n w).wcuBlocked = s.wcuBlocked := rfl
@[simp] theorem State.wr_chan (r : Reg) (n : Nat) (w : Word) : (s.wr r n w).chan = s.chan := rfl
@[simp] theorem State.wr_tollFeed (r : Reg) (n : Nat) (w : Word) : (s.wr r n w).tollFeed = s.tollFeed := rfl
@[simp] theorem State.wr_tollWait (r : Reg) (n : Nat) (w : Word) : (s.wr r n w).tollWait = s.tollWait := rfl
@[simp] theorem State.wr_sns (r : Reg) (n : Nat) (w : Word) : (s.wr r n w).sns = s.sns := rfl
@[simp] theorem State.wr_snsSlot (r : Reg) (n : Nat) (w : Word) : (s.wr r n w).snsSlot = s.snsSlot := rfl
@[simp] theorem State.wr_cyc (r : Reg) (n : Nat) (w : Word) : (s.wr r n w).cyc = s.cyc := rfl
@[simp] theorem State.wr_odoAcc (r : Reg) (n : Nat) (w : Word) : (s.wr r n w).odoAcc = s.odoAcc := rfl
@[simp] theorem State.wr_odoEnergy (r : Reg) (n : Nat) (w : Word) : (s.wr r n w).odoEnergy = s.odoEnergy := rfl
@[simp] theorem State.wr_valve (r : Reg) (n : Nat) (w : Word) : (s.wr r n w).valve = s.valve := rfl
@[simp] theorem State.wr_rechgEnd (r : Reg) (n : Nat) (w : Word) : (s.wr r n w).rechgEnd = s.rechgEnd := rfl
@[simp] theorem State.wr_boostCut (r : Reg) (n : Nat) (w : Word) : (s.wr r n w).boostCut = s.boostCut := rfl
@[simp] theorem State.wr_sin (r : Reg) (n : Nat) (w : Word) : (s.wr r n w).sin = s.sin := rfl
@[simp] theorem State.wr_fio (r : Reg) (n : Nat) (w : Word) : (s.wr r n w).fio = s.fio := rfl
@[simp] theorem State.wr_fioPause (r : Reg) (n : Nat) (w : Word) : (s.wr r n w).fioPause = s.fioPause := rfl
@[simp] theorem State.wr_fioHot (r : Reg) (n : Nat) (w : Word) : (s.wr r n w).fioHot = s.fioHot := rfl
@[simp] theorem State.wr_fioForced (r : Reg) (n : Nat) (w : Word) : (s.wr r n w).fioForced = s.fioForced := rfl
@[simp] theorem State.wr_refused (r : Reg) (n : Nat) (w : Word) : (s.wr r n w).refused = s.refused := rfl
@[simp] theorem State.wr_od (r : Reg) (n : Nat) (w : Word) : (s.wr r n w).od = s.od := rfl
@[simp] theorem State.wr_odNext (r : Reg) (n : Nat) (w : Word) : (s.wr r n w).odNext = s.odNext := rfl
@[simp] theorem State.wr_dict (r : Reg) (n : Nat) (w : Word) : (s.wr r n w).dict = s.dict := rfl
@[simp] theorem State.wr_eth (r : Reg) (n : Nat) (w : Word) : (s.wr r n w).eth = s.eth := rfl
@[simp] theorem State.wr_mem (r : Reg) (n : Nat) (w : Word) : (s.wr r n w).mem = s.mem := rfl
@[simp] theorem State.wr_mbuf (r : Reg) (n : Nat) (w : Word) : (s.wr r n w).mbuf = s.mbuf := rfl
@[simp] theorem State.wr_mbFail (r : Reg) (n : Nat) (w : Word) : (s.wr r n w).mbFail = s.mbFail := rfl
@[simp] theorem State.wr_mbAbort (r : Reg) (n : Nat) (w : Word) : (s.wr r n w).mbAbort = s.mbAbort := rfl
@[simp] theorem State.wr_canLostf (r : Reg) (n : Nat) (w : Word) : (s.wr r n w).canLostf = s.canLostf := rfl
@[simp] theorem State.wr_canRecover (r : Reg) (n : Nat) (w : Word) : (s.wr r n w).canRecover = s.canRecover := rfl
@[simp] theorem State.wr_lin (r : Reg) (n : Nat) (w : Word) : (s.wr r n w).lin = s.lin := rfl
@[simp] theorem State.wr_linSlots (r : Reg) (n : Nat) (w : Word) : (s.wr r n w).linSlots = s.linSlots := rfl
@[simp] theorem State.wr_nmt (r : Reg) (n : Nat) (w : Word) : (s.wr r n w).nmt = s.nmt := rfl
@[simp] theorem State.wr_emcyInhibit (r : Reg) (n : Nat) (w : Word) : (s.wr r n w).emcyInhibit = s.emcyInhibit := rfl
@[simp] theorem State.wr_emcyWait (r : Reg) (n : Nat) (w : Word) : (s.wr r n w).emcyWait = s.emcyWait := rfl
@[simp] theorem State.wr_errors (r : Reg) (n : Nat) (w : Word) : (s.wr r n w).errors = s.errors := rfl
@[simp] theorem State.wr_hbLost (r : Reg) (n : Nat) (w : Word) : (s.wr r n w).hbLost = s.hbLost := rfl
@[simp] theorem State.wr_core (r : Reg) (n : Nat) (w : Word) : (s.wr r n w).core = s.core := rfl
@[simp] theorem State.wr_bteNext (r : Reg) (n : Nat) (w : Word) : (s.wr r n w).bteNext = s.bteNext := rfl
@[simp] theorem State.wr_flash (r : Reg) (n : Nat) (w : Word) : (s.wr r n w).flash = s.flash := rfl
@[simp] theorem State.wr_flashBank (r : Reg) (n : Nat) (w : Word) : (s.wr r n w).flashBank = s.flashBank := rfl
@[simp] theorem State.wr_ecc (r : Reg) (n : Nat) (w : Word) : (s.wr r n w).ecc = s.ecc := rfl
@[simp] theorem State.wr_pwr (r : Reg) (n : Nat) (w : Word) : (s.wr r n w).pwr = s.pwr := rfl
@[simp] theorem State.wr_errUp (r : Reg) (n : Nat) (w : Word) : (s.wr r n w).errUp = s.errUp := rfl
@[simp] theorem State.wr_acc (r : Reg) (n : Nat) (w : Word) : (s.wr r n w).acc = s.acc := rfl
@[simp] theorem State.wr_svc (r : Reg) (n : Nat) (w : Word) : (s.wr r n w).svc = s.svc := rfl
@[simp] theorem State.wr_net (r : Reg) (n : Nat) (w : Word) : (s.wr r n w).net = s.net := rfl
@[simp] theorem State.wr_fresh (r : Reg) (n : Nat) (w : Word) : (s.wr r n w).fresh = s.fresh := rfl
@[simp] theorem State.wr_up (r : Reg) (n : Nat) (w : Word) : (s.wr r n w).up = s.up := rfl
@[simp] theorem State.wr_sent (r : Reg) (n : Nat) (w : Word) : (s.wr r n w).sent = s.sent := rfl
@[simp] theorem State.wr_pending (r : Reg) (n : Nat) (w : Word) : (s.wr r n w).pending = s.pending := rfl

/-! ## setF -/
@[simp] theorem State.setF_ident (f : Fld) (n v : Nat) : (s.setF f n v).ident = s.ident := rfl
@[simp] theorem State.setF_held (f : Fld) (n v : Nat) : (s.setF f n v).held = s.held := rfl
@[simp] theorem State.setF_queues (f : Fld) (n v : Nat) : (s.setF f n v).queues = s.queues := rfl
@[simp] theorem State.setF_dom (f : Fld) (n v : Nat) : (s.setF f n v).dom = s.dom := rfl
@[simp] theorem State.setF_transit (f : Fld) (n v : Nat) : (s.setF f n v).transit = s.transit := rfl
@[simp] theorem State.setF_supply (f : Fld) (n v : Nat) : (s.setF f n v).supply = s.supply := rfl
@[simp] theorem State.setF_irq (f : Fld) (n v : Nat) : (s.setF f n v).irq = s.irq := rfl
@[simp] theorem State.setF_raised (f : Fld) (n v : Nat) : (s.setF f n v).raised = s.raised := rfl
@[simp] theorem State.setF_fcru (f : Fld) (n v : Nat) : (s.setF f n v).fcru = s.fcru := rfl
@[simp] theorem State.setF_alm (f : Fld) (n v : Nat) : (s.setF f n v).alm = s.alm := rfl
@[simp] theorem State.setF_mst (f : Fld) (n v : Nat) : (s.setF f n v).mst = s.mst := rfl
@[simp] theorem State.setF_wcuChan (f : Fld) (n v : Nat) : (s.setF f n v).wcuChan = s.wcuChan := rfl
@[simp] theorem State.setF_wcuBlocked (f : Fld) (n v : Nat) : (s.setF f n v).wcuBlocked = s.wcuBlocked := rfl
@[simp] theorem State.setF_chan (f : Fld) (n v : Nat) : (s.setF f n v).chan = s.chan := rfl
@[simp] theorem State.setF_tollFeed (f : Fld) (n v : Nat) : (s.setF f n v).tollFeed = s.tollFeed := rfl
@[simp] theorem State.setF_tollWait (f : Fld) (n v : Nat) : (s.setF f n v).tollWait = s.tollWait := rfl
@[simp] theorem State.setF_sns (f : Fld) (n v : Nat) : (s.setF f n v).sns = s.sns := rfl
@[simp] theorem State.setF_snsSlot (f : Fld) (n v : Nat) : (s.setF f n v).snsSlot = s.snsSlot := rfl
@[simp] theorem State.setF_cyc (f : Fld) (n v : Nat) : (s.setF f n v).cyc = s.cyc := rfl
@[simp] theorem State.setF_odoAcc (f : Fld) (n v : Nat) : (s.setF f n v).odoAcc = s.odoAcc := rfl
@[simp] theorem State.setF_odoEnergy (f : Fld) (n v : Nat) : (s.setF f n v).odoEnergy = s.odoEnergy := rfl
@[simp] theorem State.setF_valve (f : Fld) (n v : Nat) : (s.setF f n v).valve = s.valve := rfl
@[simp] theorem State.setF_rechgEnd (f : Fld) (n v : Nat) : (s.setF f n v).rechgEnd = s.rechgEnd := rfl
@[simp] theorem State.setF_boostCut (f : Fld) (n v : Nat) : (s.setF f n v).boostCut = s.boostCut := rfl
@[simp] theorem State.setF_sin (f : Fld) (n v : Nat) : (s.setF f n v).sin = s.sin := rfl
@[simp] theorem State.setF_fio (f : Fld) (n v : Nat) : (s.setF f n v).fio = s.fio := rfl
@[simp] theorem State.setF_fioPause (f : Fld) (n v : Nat) : (s.setF f n v).fioPause = s.fioPause := rfl
@[simp] theorem State.setF_fioHot (f : Fld) (n v : Nat) : (s.setF f n v).fioHot = s.fioHot := rfl
@[simp] theorem State.setF_fioForced (f : Fld) (n v : Nat) : (s.setF f n v).fioForced = s.fioForced := rfl
@[simp] theorem State.setF_refused (f : Fld) (n v : Nat) : (s.setF f n v).refused = s.refused := rfl
@[simp] theorem State.setF_od (f : Fld) (n v : Nat) : (s.setF f n v).od = s.od := rfl
@[simp] theorem State.setF_odNext (f : Fld) (n v : Nat) : (s.setF f n v).odNext = s.odNext := rfl
@[simp] theorem State.setF_dict (f : Fld) (n v : Nat) : (s.setF f n v).dict = s.dict := rfl
@[simp] theorem State.setF_eth (f : Fld) (n v : Nat) : (s.setF f n v).eth = s.eth := rfl
@[simp] theorem State.setF_mem (f : Fld) (n v : Nat) : (s.setF f n v).mem = s.mem := rfl
@[simp] theorem State.setF_mbuf (f : Fld) (n v : Nat) : (s.setF f n v).mbuf = s.mbuf := rfl
@[simp] theorem State.setF_mbFail (f : Fld) (n v : Nat) : (s.setF f n v).mbFail = s.mbFail := rfl
@[simp] theorem State.setF_mbAbort (f : Fld) (n v : Nat) : (s.setF f n v).mbAbort = s.mbAbort := rfl
@[simp] theorem State.setF_canLostf (f : Fld) (n v : Nat) : (s.setF f n v).canLostf = s.canLostf := rfl
@[simp] theorem State.setF_canRecover (f : Fld) (n v : Nat) : (s.setF f n v).canRecover = s.canRecover := rfl
@[simp] theorem State.setF_lin (f : Fld) (n v : Nat) : (s.setF f n v).lin = s.lin := rfl
@[simp] theorem State.setF_linSlots (f : Fld) (n v : Nat) : (s.setF f n v).linSlots = s.linSlots := rfl
@[simp] theorem State.setF_nmt (f : Fld) (n v : Nat) : (s.setF f n v).nmt = s.nmt := rfl
@[simp] theorem State.setF_emcyInhibit (f : Fld) (n v : Nat) : (s.setF f n v).emcyInhibit = s.emcyInhibit := rfl
@[simp] theorem State.setF_emcyWait (f : Fld) (n v : Nat) : (s.setF f n v).emcyWait = s.emcyWait := rfl
@[simp] theorem State.setF_errors (f : Fld) (n v : Nat) : (s.setF f n v).errors = s.errors := rfl
@[simp] theorem State.setF_hbLost (f : Fld) (n v : Nat) : (s.setF f n v).hbLost = s.hbLost := rfl
@[simp] theorem State.setF_core (f : Fld) (n v : Nat) : (s.setF f n v).core = s.core := rfl
@[simp] theorem State.setF_bteNext (f : Fld) (n v : Nat) : (s.setF f n v).bteNext = s.bteNext := rfl
@[simp] theorem State.setF_flash (f : Fld) (n v : Nat) : (s.setF f n v).flash = s.flash := rfl
@[simp] theorem State.setF_flashBank (f : Fld) (n v : Nat) : (s.setF f n v).flashBank = s.flashBank := rfl
@[simp] theorem State.setF_ecc (f : Fld) (n v : Nat) : (s.setF f n v).ecc = s.ecc := rfl
@[simp] theorem State.setF_pwr (f : Fld) (n v : Nat) : (s.setF f n v).pwr = s.pwr := rfl
@[simp] theorem State.setF_errUp (f : Fld) (n v : Nat) : (s.setF f n v).errUp = s.errUp := rfl
@[simp] theorem State.setF_acc (f : Fld) (n v : Nat) : (s.setF f n v).acc = s.acc := rfl
@[simp] theorem State.setF_svc (f : Fld) (n v : Nat) : (s.setF f n v).svc = s.svc := rfl
@[simp] theorem State.setF_net (f : Fld) (n v : Nat) : (s.setF f n v).net = s.net := rfl
@[simp] theorem State.setF_fresh (f : Fld) (n v : Nat) : (s.setF f n v).fresh = s.fresh := rfl
@[simp] theorem State.setF_up (f : Fld) (n v : Nat) : (s.setF f n v).up = s.up := rfl
@[simp] theorem State.setF_sent (f : Fld) (n v : Nat) : (s.setF f n v).sent = s.sent := rfl
@[simp] theorem State.setF_pending (f : Fld) (n v : Nat) : (s.setF f n v).pending = s.pending := rfl

/-! ## setB -/
@[simp] theorem State.setB_ident (f : Fld) (n : Nat) (b : Bool) : (s.setB f n b).ident = s.ident := rfl
@[simp] theorem State.setB_held (f : Fld) (n : Nat) (b : Bool) : (s.setB f n b).held = s.held := rfl
@[simp] theorem State.setB_queues (f : Fld) (n : Nat) (b : Bool) : (s.setB f n b).queues = s.queues := rfl
@[simp] theorem State.setB_dom (f : Fld) (n : Nat) (b : Bool) : (s.setB f n b).dom = s.dom := rfl
@[simp] theorem State.setB_transit (f : Fld) (n : Nat) (b : Bool) : (s.setB f n b).transit = s.transit := rfl
@[simp] theorem State.setB_supply (f : Fld) (n : Nat) (b : Bool) : (s.setB f n b).supply = s.supply := rfl
@[simp] theorem State.setB_irq (f : Fld) (n : Nat) (b : Bool) : (s.setB f n b).irq = s.irq := rfl
@[simp] theorem State.setB_raised (f : Fld) (n : Nat) (b : Bool) : (s.setB f n b).raised = s.raised := rfl
@[simp] theorem State.setB_fcru (f : Fld) (n : Nat) (b : Bool) : (s.setB f n b).fcru = s.fcru := rfl
@[simp] theorem State.setB_alm (f : Fld) (n : Nat) (b : Bool) : (s.setB f n b).alm = s.alm := rfl
@[simp] theorem State.setB_mst (f : Fld) (n : Nat) (b : Bool) : (s.setB f n b).mst = s.mst := rfl
@[simp] theorem State.setB_wcuChan (f : Fld) (n : Nat) (b : Bool) : (s.setB f n b).wcuChan = s.wcuChan := rfl
@[simp] theorem State.setB_wcuBlocked (f : Fld) (n : Nat) (b : Bool) : (s.setB f n b).wcuBlocked = s.wcuBlocked := rfl
@[simp] theorem State.setB_chan (f : Fld) (n : Nat) (b : Bool) : (s.setB f n b).chan = s.chan := rfl
@[simp] theorem State.setB_tollFeed (f : Fld) (n : Nat) (b : Bool) : (s.setB f n b).tollFeed = s.tollFeed := rfl
@[simp] theorem State.setB_tollWait (f : Fld) (n : Nat) (b : Bool) : (s.setB f n b).tollWait = s.tollWait := rfl
@[simp] theorem State.setB_sns (f : Fld) (n : Nat) (b : Bool) : (s.setB f n b).sns = s.sns := rfl
@[simp] theorem State.setB_snsSlot (f : Fld) (n : Nat) (b : Bool) : (s.setB f n b).snsSlot = s.snsSlot := rfl
@[simp] theorem State.setB_cyc (f : Fld) (n : Nat) (b : Bool) : (s.setB f n b).cyc = s.cyc := rfl
@[simp] theorem State.setB_odoAcc (f : Fld) (n : Nat) (b : Bool) : (s.setB f n b).odoAcc = s.odoAcc := rfl
@[simp] theorem State.setB_odoEnergy (f : Fld) (n : Nat) (b : Bool) : (s.setB f n b).odoEnergy = s.odoEnergy := rfl
@[simp] theorem State.setB_valve (f : Fld) (n : Nat) (b : Bool) : (s.setB f n b).valve = s.valve := rfl
@[simp] theorem State.setB_rechgEnd (f : Fld) (n : Nat) (b : Bool) : (s.setB f n b).rechgEnd = s.rechgEnd := rfl
@[simp] theorem State.setB_boostCut (f : Fld) (n : Nat) (b : Bool) : (s.setB f n b).boostCut = s.boostCut := rfl
@[simp] theorem State.setB_sin (f : Fld) (n : Nat) (b : Bool) : (s.setB f n b).sin = s.sin := rfl
@[simp] theorem State.setB_fio (f : Fld) (n : Nat) (b : Bool) : (s.setB f n b).fio = s.fio := rfl
@[simp] theorem State.setB_fioPause (f : Fld) (n : Nat) (b : Bool) : (s.setB f n b).fioPause = s.fioPause := rfl
@[simp] theorem State.setB_fioHot (f : Fld) (n : Nat) (b : Bool) : (s.setB f n b).fioHot = s.fioHot := rfl
@[simp] theorem State.setB_fioForced (f : Fld) (n : Nat) (b : Bool) : (s.setB f n b).fioForced = s.fioForced := rfl
@[simp] theorem State.setB_refused (f : Fld) (n : Nat) (b : Bool) : (s.setB f n b).refused = s.refused := rfl
@[simp] theorem State.setB_od (f : Fld) (n : Nat) (b : Bool) : (s.setB f n b).od = s.od := rfl
@[simp] theorem State.setB_odNext (f : Fld) (n : Nat) (b : Bool) : (s.setB f n b).odNext = s.odNext := rfl
@[simp] theorem State.setB_dict (f : Fld) (n : Nat) (b : Bool) : (s.setB f n b).dict = s.dict := rfl
@[simp] theorem State.setB_eth (f : Fld) (n : Nat) (b : Bool) : (s.setB f n b).eth = s.eth := rfl
@[simp] theorem State.setB_mem (f : Fld) (n : Nat) (b : Bool) : (s.setB f n b).mem = s.mem := rfl
@[simp] theorem State.setB_mbuf (f : Fld) (n : Nat) (b : Bool) : (s.setB f n b).mbuf = s.mbuf := rfl
@[simp] theorem State.setB_mbFail (f : Fld) (n : Nat) (b : Bool) : (s.setB f n b).mbFail = s.mbFail := rfl
@[simp] theorem State.setB_mbAbort (f : Fld) (n : Nat) (b : Bool) : (s.setB f n b).mbAbort = s.mbAbort := rfl
@[simp] theorem State.setB_canLostf (f : Fld) (n : Nat) (b : Bool) : (s.setB f n b).canLostf = s.canLostf := rfl
@[simp] theorem State.setB_canRecover (f : Fld) (n : Nat) (b : Bool) : (s.setB f n b).canRecover = s.canRecover := rfl
@[simp] theorem State.setB_lin (f : Fld) (n : Nat) (b : Bool) : (s.setB f n b).lin = s.lin := rfl
@[simp] theorem State.setB_linSlots (f : Fld) (n : Nat) (b : Bool) : (s.setB f n b).linSlots = s.linSlots := rfl
@[simp] theorem State.setB_nmt (f : Fld) (n : Nat) (b : Bool) : (s.setB f n b).nmt = s.nmt := rfl
@[simp] theorem State.setB_emcyInhibit (f : Fld) (n : Nat) (b : Bool) : (s.setB f n b).emcyInhibit = s.emcyInhibit := rfl
@[simp] theorem State.setB_emcyWait (f : Fld) (n : Nat) (b : Bool) : (s.setB f n b).emcyWait = s.emcyWait := rfl
@[simp] theorem State.setB_errors (f : Fld) (n : Nat) (b : Bool) : (s.setB f n b).errors = s.errors := rfl
@[simp] theorem State.setB_hbLost (f : Fld) (n : Nat) (b : Bool) : (s.setB f n b).hbLost = s.hbLost := rfl
@[simp] theorem State.setB_core (f : Fld) (n : Nat) (b : Bool) : (s.setB f n b).core = s.core := rfl
@[simp] theorem State.setB_bteNext (f : Fld) (n : Nat) (b : Bool) : (s.setB f n b).bteNext = s.bteNext := rfl
@[simp] theorem State.setB_flash (f : Fld) (n : Nat) (b : Bool) : (s.setB f n b).flash = s.flash := rfl
@[simp] theorem State.setB_flashBank (f : Fld) (n : Nat) (b : Bool) : (s.setB f n b).flashBank = s.flashBank := rfl
@[simp] theorem State.setB_ecc (f : Fld) (n : Nat) (b : Bool) : (s.setB f n b).ecc = s.ecc := rfl
@[simp] theorem State.setB_pwr (f : Fld) (n : Nat) (b : Bool) : (s.setB f n b).pwr = s.pwr := rfl
@[simp] theorem State.setB_errUp (f : Fld) (n : Nat) (b : Bool) : (s.setB f n b).errUp = s.errUp := rfl
@[simp] theorem State.setB_acc (f : Fld) (n : Nat) (b : Bool) : (s.setB f n b).acc = s.acc := rfl
@[simp] theorem State.setB_svc (f : Fld) (n : Nat) (b : Bool) : (s.setB f n b).svc = s.svc := rfl
@[simp] theorem State.setB_net (f : Fld) (n : Nat) (b : Bool) : (s.setB f n b).net = s.net := rfl
@[simp] theorem State.setB_fresh (f : Fld) (n : Nat) (b : Bool) : (s.setB f n b).fresh = s.fresh := rfl
@[simp] theorem State.setB_up (f : Fld) (n : Nat) (b : Bool) : (s.setB f n b).up = s.up := rfl
@[simp] theorem State.setB_sent (f : Fld) (n : Nat) (b : Bool) : (s.setB f n b).sent = s.sent := rfl
@[simp] theorem State.setB_pending (f : Fld) (n : Nat) (b : Bool) : (s.setB f n b).pending = s.pending := rfl

/-! ## wrMasked -/
@[simp] theorem State.wrMasked_ident (r : Reg) (n : Nat) (w : Word) : (s.wrMasked r n w).ident = s.ident := rfl
@[simp] theorem State.wrMasked_held (r : Reg) (n : Nat) (w : Word) : (s.wrMasked r n w).held = s.held := rfl
@[simp] theorem State.wrMasked_queues (r : Reg) (n : Nat) (w : Word) : (s.wrMasked r n w).queues = s.queues := rfl
@[simp] theorem State.wrMasked_dom (r : Reg) (n : Nat) (w : Word) : (s.wrMasked r n w).dom = s.dom := rfl
@[simp] theorem State.wrMasked_transit (r : Reg) (n : Nat) (w : Word) : (s.wrMasked r n w).transit = s.transit := rfl
@[simp] theorem State.wrMasked_supply (r : Reg) (n : Nat) (w : Word) : (s.wrMasked r n w).supply = s.supply := rfl
@[simp] theorem State.wrMasked_irq (r : Reg) (n : Nat) (w : Word) : (s.wrMasked r n w).irq = s.irq := rfl
@[simp] theorem State.wrMasked_raised (r : Reg) (n : Nat) (w : Word) : (s.wrMasked r n w).raised = s.raised := rfl
@[simp] theorem State.wrMasked_fcru (r : Reg) (n : Nat) (w : Word) : (s.wrMasked r n w).fcru = s.fcru := rfl
@[simp] theorem State.wrMasked_alm (r : Reg) (n : Nat) (w : Word) : (s.wrMasked r n w).alm = s.alm := rfl
@[simp] theorem State.wrMasked_mst (r : Reg) (n : Nat) (w : Word) : (s.wrMasked r n w).mst = s.mst := rfl
@[simp] theorem State.wrMasked_wcuChan (r : Reg) (n : Nat) (w : Word) : (s.wrMasked r n w).wcuChan = s.wcuChan := rfl
@[simp] theorem State.wrMasked_wcuBlocked (r : Reg) (n : Nat) (w : Word) : (s.wrMasked r n w).wcuBlocked = s.wcuBlocked := rfl
@[simp] theorem State.wrMasked_chan (r : Reg) (n : Nat) (w : Word) : (s.wrMasked r n w).chan = s.chan := rfl
@[simp] theorem State.wrMasked_tollFeed (r : Reg) (n : Nat) (w : Word) : (s.wrMasked r n w).tollFeed = s.tollFeed := rfl
@[simp] theorem State.wrMasked_tollWait (r : Reg) (n : Nat) (w : Word) : (s.wrMasked r n w).tollWait = s.tollWait := rfl
@[simp] theorem State.wrMasked_sns (r : Reg) (n : Nat) (w : Word) : (s.wrMasked r n w).sns = s.sns := rfl
@[simp] theorem State.wrMasked_snsSlot (r : Reg) (n : Nat) (w : Word) : (s.wrMasked r n w).snsSlot = s.snsSlot := rfl
@[simp] theorem State.wrMasked_cyc (r : Reg) (n : Nat) (w : Word) : (s.wrMasked r n w).cyc = s.cyc := rfl
@[simp] theorem State.wrMasked_odoAcc (r : Reg) (n : Nat) (w : Word) : (s.wrMasked r n w).odoAcc = s.odoAcc := rfl
@[simp] theorem State.wrMasked_odoEnergy (r : Reg) (n : Nat) (w : Word) : (s.wrMasked r n w).odoEnergy = s.odoEnergy := rfl
@[simp] theorem State.wrMasked_valve (r : Reg) (n : Nat) (w : Word) : (s.wrMasked r n w).valve = s.valve := rfl
@[simp] theorem State.wrMasked_rechgEnd (r : Reg) (n : Nat) (w : Word) : (s.wrMasked r n w).rechgEnd = s.rechgEnd := rfl
@[simp] theorem State.wrMasked_boostCut (r : Reg) (n : Nat) (w : Word) : (s.wrMasked r n w).boostCut = s.boostCut := rfl
@[simp] theorem State.wrMasked_sin (r : Reg) (n : Nat) (w : Word) : (s.wrMasked r n w).sin = s.sin := rfl
@[simp] theorem State.wrMasked_fio (r : Reg) (n : Nat) (w : Word) : (s.wrMasked r n w).fio = s.fio := rfl
@[simp] theorem State.wrMasked_fioPause (r : Reg) (n : Nat) (w : Word) : (s.wrMasked r n w).fioPause = s.fioPause := rfl
@[simp] theorem State.wrMasked_fioHot (r : Reg) (n : Nat) (w : Word) : (s.wrMasked r n w).fioHot = s.fioHot := rfl
@[simp] theorem State.wrMasked_fioForced (r : Reg) (n : Nat) (w : Word) : (s.wrMasked r n w).fioForced = s.fioForced := rfl
@[simp] theorem State.wrMasked_refused (r : Reg) (n : Nat) (w : Word) : (s.wrMasked r n w).refused = s.refused := rfl
@[simp] theorem State.wrMasked_od (r : Reg) (n : Nat) (w : Word) : (s.wrMasked r n w).od = s.od := rfl
@[simp] theorem State.wrMasked_odNext (r : Reg) (n : Nat) (w : Word) : (s.wrMasked r n w).odNext = s.odNext := rfl
@[simp] theorem State.wrMasked_dict (r : Reg) (n : Nat) (w : Word) : (s.wrMasked r n w).dict = s.dict := rfl
@[simp] theorem State.wrMasked_eth (r : Reg) (n : Nat) (w : Word) : (s.wrMasked r n w).eth = s.eth := rfl
@[simp] theorem State.wrMasked_mem (r : Reg) (n : Nat) (w : Word) : (s.wrMasked r n w).mem = s.mem := rfl
@[simp] theorem State.wrMasked_mbuf (r : Reg) (n : Nat) (w : Word) : (s.wrMasked r n w).mbuf = s.mbuf := rfl
@[simp] theorem State.wrMasked_mbFail (r : Reg) (n : Nat) (w : Word) : (s.wrMasked r n w).mbFail = s.mbFail := rfl
@[simp] theorem State.wrMasked_mbAbort (r : Reg) (n : Nat) (w : Word) : (s.wrMasked r n w).mbAbort = s.mbAbort := rfl
@[simp] theorem State.wrMasked_canLostf (r : Reg) (n : Nat) (w : Word) : (s.wrMasked r n w).canLostf = s.canLostf := rfl
@[simp] theorem State.wrMasked_canRecover (r : Reg) (n : Nat) (w : Word) : (s.wrMasked r n w).canRecover = s.canRecover := rfl
@[simp] theorem State.wrMasked_lin (r : Reg) (n : Nat) (w : Word) : (s.wrMasked r n w).lin = s.lin := rfl
@[simp] theorem State.wrMasked_linSlots (r : Reg) (n : Nat) (w : Word) : (s.wrMasked r n w).linSlots = s.linSlots := rfl
@[simp] theorem State.wrMasked_nmt (r : Reg) (n : Nat) (w : Word) : (s.wrMasked r n w).nmt = s.nmt := rfl
@[simp] theorem State.wrMasked_emcyInhibit (r : Reg) (n : Nat) (w : Word) : (s.wrMasked r n w).emcyInhibit = s.emcyInhibit := rfl
@[simp] theorem State.wrMasked_emcyWait (r : Reg) (n : Nat) (w : Word) : (s.wrMasked r n w).emcyWait = s.emcyWait := rfl
@[simp] theorem State.wrMasked_errors (r : Reg) (n : Nat) (w : Word) : (s.wrMasked r n w).errors = s.errors := rfl
@[simp] theorem State.wrMasked_hbLost (r : Reg) (n : Nat) (w : Word) : (s.wrMasked r n w).hbLost = s.hbLost := rfl
@[simp] theorem State.wrMasked_core (r : Reg) (n : Nat) (w : Word) : (s.wrMasked r n w).core = s.core := rfl
@[simp] theorem State.wrMasked_bteNext (r : Reg) (n : Nat) (w : Word) : (s.wrMasked r n w).bteNext = s.bteNext := rfl
@[simp] theorem State.wrMasked_flash (r : Reg) (n : Nat) (w : Word) : (s.wrMasked r n w).flash = s.flash := rfl
@[simp] theorem State.wrMasked_flashBank (r : Reg) (n : Nat) (w : Word) : (s.wrMasked r n w).flashBank = s.flashBank := rfl
@[simp] theorem State.wrMasked_ecc (r : Reg) (n : Nat) (w : Word) : (s.wrMasked r n w).ecc = s.ecc := rfl
@[simp] theorem State.wrMasked_pwr (r : Reg) (n : Nat) (w : Word) : (s.wrMasked r n w).pwr = s.pwr := rfl
@[simp] theorem State.wrMasked_errUp (r : Reg) (n : Nat) (w : Word) : (s.wrMasked r n w).errUp = s.errUp := rfl
@[simp] theorem State.wrMasked_acc (r : Reg) (n : Nat) (w : Word) : (s.wrMasked r n w).acc = s.acc := rfl
@[simp] theorem State.wrMasked_svc (r : Reg) (n : Nat) (w : Word) : (s.wrMasked r n w).svc = s.svc := rfl
@[simp] theorem State.wrMasked_net (r : Reg) (n : Nat) (w : Word) : (s.wrMasked r n w).net = s.net := rfl
@[simp] theorem State.wrMasked_fresh (r : Reg) (n : Nat) (w : Word) : (s.wrMasked r n w).fresh = s.fresh := rfl
@[simp] theorem State.wrMasked_up (r : Reg) (n : Nat) (w : Word) : (s.wrMasked r n w).up = s.up := rfl
@[simp] theorem State.wrMasked_sent (r : Reg) (n : Nat) (w : Word) : (s.wrMasked r n w).sent = s.sent := rfl
@[simp] theorem State.wrMasked_pending (r : Reg) (n : Nat) (w : Word) : (s.wrMasked r n w).pending = s.pending := rfl

/-! ## countF -/
@[simp] theorem State.countF_ident (f : Fld) (n : Nat) : (s.countF f n).ident = s.ident := rfl
@[simp] theorem State.countF_held (f : Fld) (n : Nat) : (s.countF f n).held = s.held := rfl
@[simp] theorem State.countF_queues (f : Fld) (n : Nat) : (s.countF f n).queues = s.queues := rfl
@[simp] theorem State.countF_dom (f : Fld) (n : Nat) : (s.countF f n).dom = s.dom := rfl
@[simp] theorem State.countF_transit (f : Fld) (n : Nat) : (s.countF f n).transit = s.transit := rfl
@[simp] theorem State.countF_supply (f : Fld) (n : Nat) : (s.countF f n).supply = s.supply := rfl
@[simp] theorem State.countF_irq (f : Fld) (n : Nat) : (s.countF f n).irq = s.irq := rfl
@[simp] theorem State.countF_raised (f : Fld) (n : Nat) : (s.countF f n).raised = s.raised := rfl
@[simp] theorem State.countF_fcru (f : Fld) (n : Nat) : (s.countF f n).fcru = s.fcru := rfl
@[simp] theorem State.countF_alm (f : Fld) (n : Nat) : (s.countF f n).alm = s.alm := rfl
@[simp] theorem State.countF_mst (f : Fld) (n : Nat) : (s.countF f n).mst = s.mst := rfl
@[simp] theorem State.countF_wcuChan (f : Fld) (n : Nat) : (s.countF f n).wcuChan = s.wcuChan := rfl
@[simp] theorem State.countF_wcuBlocked (f : Fld) (n : Nat) : (s.countF f n).wcuBlocked = s.wcuBlocked := rfl
@[simp] theorem State.countF_chan (f : Fld) (n : Nat) : (s.countF f n).chan = s.chan := rfl
@[simp] theorem State.countF_tollFeed (f : Fld) (n : Nat) : (s.countF f n).tollFeed = s.tollFeed := rfl
@[simp] theorem State.countF_tollWait (f : Fld) (n : Nat) : (s.countF f n).tollWait = s.tollWait := rfl
@[simp] theorem State.countF_sns (f : Fld) (n : Nat) : (s.countF f n).sns = s.sns := rfl
@[simp] theorem State.countF_snsSlot (f : Fld) (n : Nat) : (s.countF f n).snsSlot = s.snsSlot := rfl
@[simp] theorem State.countF_cyc (f : Fld) (n : Nat) : (s.countF f n).cyc = s.cyc := rfl
@[simp] theorem State.countF_odoAcc (f : Fld) (n : Nat) : (s.countF f n).odoAcc = s.odoAcc := rfl
@[simp] theorem State.countF_odoEnergy (f : Fld) (n : Nat) : (s.countF f n).odoEnergy = s.odoEnergy := rfl
@[simp] theorem State.countF_valve (f : Fld) (n : Nat) : (s.countF f n).valve = s.valve := rfl
@[simp] theorem State.countF_rechgEnd (f : Fld) (n : Nat) : (s.countF f n).rechgEnd = s.rechgEnd := rfl
@[simp] theorem State.countF_boostCut (f : Fld) (n : Nat) : (s.countF f n).boostCut = s.boostCut := rfl
@[simp] theorem State.countF_sin (f : Fld) (n : Nat) : (s.countF f n).sin = s.sin := rfl
@[simp] theorem State.countF_fio (f : Fld) (n : Nat) : (s.countF f n).fio = s.fio := rfl
@[simp] theorem State.countF_fioPause (f : Fld) (n : Nat) : (s.countF f n).fioPause = s.fioPause := rfl
@[simp] theorem State.countF_fioHot (f : Fld) (n : Nat) : (s.countF f n).fioHot = s.fioHot := rfl
@[simp] theorem State.countF_fioForced (f : Fld) (n : Nat) : (s.countF f n).fioForced = s.fioForced := rfl
@[simp] theorem State.countF_refused (f : Fld) (n : Nat) : (s.countF f n).refused = s.refused := rfl
@[simp] theorem State.countF_od (f : Fld) (n : Nat) : (s.countF f n).od = s.od := rfl
@[simp] theorem State.countF_odNext (f : Fld) (n : Nat) : (s.countF f n).odNext = s.odNext := rfl
@[simp] theorem State.countF_dict (f : Fld) (n : Nat) : (s.countF f n).dict = s.dict := rfl
@[simp] theorem State.countF_eth (f : Fld) (n : Nat) : (s.countF f n).eth = s.eth := rfl
@[simp] theorem State.countF_mem (f : Fld) (n : Nat) : (s.countF f n).mem = s.mem := rfl
@[simp] theorem State.countF_mbuf (f : Fld) (n : Nat) : (s.countF f n).mbuf = s.mbuf := rfl
@[simp] theorem State.countF_mbFail (f : Fld) (n : Nat) : (s.countF f n).mbFail = s.mbFail := rfl
@[simp] theorem State.countF_mbAbort (f : Fld) (n : Nat) : (s.countF f n).mbAbort = s.mbAbort := rfl
@[simp] theorem State.countF_canLostf (f : Fld) (n : Nat) : (s.countF f n).canLostf = s.canLostf := rfl
@[simp] theorem State.countF_canRecover (f : Fld) (n : Nat) : (s.countF f n).canRecover = s.canRecover := rfl
@[simp] theorem State.countF_lin (f : Fld) (n : Nat) : (s.countF f n).lin = s.lin := rfl
@[simp] theorem State.countF_linSlots (f : Fld) (n : Nat) : (s.countF f n).linSlots = s.linSlots := rfl
@[simp] theorem State.countF_nmt (f : Fld) (n : Nat) : (s.countF f n).nmt = s.nmt := rfl
@[simp] theorem State.countF_emcyInhibit (f : Fld) (n : Nat) : (s.countF f n).emcyInhibit = s.emcyInhibit := rfl
@[simp] theorem State.countF_emcyWait (f : Fld) (n : Nat) : (s.countF f n).emcyWait = s.emcyWait := rfl
@[simp] theorem State.countF_errors (f : Fld) (n : Nat) : (s.countF f n).errors = s.errors := rfl
@[simp] theorem State.countF_hbLost (f : Fld) (n : Nat) : (s.countF f n).hbLost = s.hbLost := rfl
@[simp] theorem State.countF_core (f : Fld) (n : Nat) : (s.countF f n).core = s.core := rfl
@[simp] theorem State.countF_bteNext (f : Fld) (n : Nat) : (s.countF f n).bteNext = s.bteNext := rfl
@[simp] theorem State.countF_flash (f : Fld) (n : Nat) : (s.countF f n).flash = s.flash := rfl
@[simp] theorem State.countF_flashBank (f : Fld) (n : Nat) : (s.countF f n).flashBank = s.flashBank := rfl
@[simp] theorem State.countF_ecc (f : Fld) (n : Nat) : (s.countF f n).ecc = s.ecc := rfl
@[simp] theorem State.countF_pwr (f : Fld) (n : Nat) : (s.countF f n).pwr = s.pwr := rfl
@[simp] theorem State.countF_errUp (f : Fld) (n : Nat) : (s.countF f n).errUp = s.errUp := rfl
@[simp] theorem State.countF_acc (f : Fld) (n : Nat) : (s.countF f n).acc = s.acc := rfl
@[simp] theorem State.countF_svc (f : Fld) (n : Nat) : (s.countF f n).svc = s.svc := rfl
@[simp] theorem State.countF_net (f : Fld) (n : Nat) : (s.countF f n).net = s.net := rfl
@[simp] theorem State.countF_fresh (f : Fld) (n : Nat) : (s.countF f n).fresh = s.fresh := rfl
@[simp] theorem State.countF_up (f : Fld) (n : Nat) : (s.countF f n).up = s.up := rfl
@[simp] theorem State.countF_sent (f : Fld) (n : Nat) : (s.countF f n).sent = s.sent := rfl
@[simp] theorem State.countF_pending (f : Fld) (n : Nat) : (s.countF f n).pending = s.pending := rfl

/-! ## hold -/
@[simp] theorem State.hold_ident (r : Reg) (n : Nat) (w : Word) : (s.hold r n w).ident = s.ident := rfl
@[simp] theorem State.hold_regs (r : Reg) (n : Nat) (w : Word) : (s.hold r n w).regs = s.regs := rfl
@[simp] theorem State.hold_queues (r : Reg) (n : Nat) (w : Word) : (s.hold r n w).queues = s.queues := rfl
@[simp] theorem State.hold_dom (r : Reg) (n : Nat) (w : Word) : (s.hold r n w).dom = s.dom := rfl
@[simp] theorem State.hold_transit (r : Reg) (n : Nat) (w : Word) : (s.hold r n w).transit = s.transit := rfl
@[simp] theorem State.hold_supply (r : Reg) (n : Nat) (w : Word) : (s.hold r n w).supply = s.supply := rfl
@[simp] theorem State.hold_irq (r : Reg) (n : Nat) (w : Word) : (s.hold r n w).irq = s.irq := rfl
@[simp] theorem State.hold_raised (r : Reg) (n : Nat) (w : Word) : (s.hold r n w).raised = s.raised := rfl
@[simp] theorem State.hold_fcru (r : Reg) (n : Nat) (w : Word) : (s.hold r n w).fcru = s.fcru := rfl
@[simp] theorem State.hold_alm (r : Reg) (n : Nat) (w : Word) : (s.hold r n w).alm = s.alm := rfl
@[simp] theorem State.hold_mst (r : Reg) (n : Nat) (w : Word) : (s.hold r n w).mst = s.mst := rfl
@[simp] theorem State.hold_wcuChan (r : Reg) (n : Nat) (w : Word) : (s.hold r n w).wcuChan = s.wcuChan := rfl
@[simp] theorem State.hold_wcuBlocked (r : Reg) (n : Nat) (w : Word) : (s.hold r n w).wcuBlocked = s.wcuBlocked := rfl
@[simp] theorem State.hold_chan (r : Reg) (n : Nat) (w : Word) : (s.hold r n w).chan = s.chan := rfl
@[simp] theorem State.hold_tollFeed (r : Reg) (n : Nat) (w : Word) : (s.hold r n w).tollFeed = s.tollFeed := rfl
@[simp] theorem State.hold_tollWait (r : Reg) (n : Nat) (w : Word) : (s.hold r n w).tollWait = s.tollWait := rfl
@[simp] theorem State.hold_sns (r : Reg) (n : Nat) (w : Word) : (s.hold r n w).sns = s.sns := rfl
@[simp] theorem State.hold_snsSlot (r : Reg) (n : Nat) (w : Word) : (s.hold r n w).snsSlot = s.snsSlot := rfl
@[simp] theorem State.hold_cyc (r : Reg) (n : Nat) (w : Word) : (s.hold r n w).cyc = s.cyc := rfl
@[simp] theorem State.hold_odoAcc (r : Reg) (n : Nat) (w : Word) : (s.hold r n w).odoAcc = s.odoAcc := rfl
@[simp] theorem State.hold_odoEnergy (r : Reg) (n : Nat) (w : Word) : (s.hold r n w).odoEnergy = s.odoEnergy := rfl
@[simp] theorem State.hold_valve (r : Reg) (n : Nat) (w : Word) : (s.hold r n w).valve = s.valve := rfl
@[simp] theorem State.hold_rechgEnd (r : Reg) (n : Nat) (w : Word) : (s.hold r n w).rechgEnd = s.rechgEnd := rfl
@[simp] theorem State.hold_boostCut (r : Reg) (n : Nat) (w : Word) : (s.hold r n w).boostCut = s.boostCut := rfl
@[simp] theorem State.hold_sin (r : Reg) (n : Nat) (w : Word) : (s.hold r n w).sin = s.sin := rfl
@[simp] theorem State.hold_fio (r : Reg) (n : Nat) (w : Word) : (s.hold r n w).fio = s.fio := rfl
@[simp] theorem State.hold_fioPause (r : Reg) (n : Nat) (w : Word) : (s.hold r n w).fioPause = s.fioPause := rfl
@[simp] theorem State.hold_fioHot (r : Reg) (n : Nat) (w : Word) : (s.hold r n w).fioHot = s.fioHot := rfl
@[simp] theorem State.hold_fioForced (r : Reg) (n : Nat) (w : Word) : (s.hold r n w).fioForced = s.fioForced := rfl
@[simp] theorem State.hold_refused (r : Reg) (n : Nat) (w : Word) : (s.hold r n w).refused = s.refused := rfl
@[simp] theorem State.hold_od (r : Reg) (n : Nat) (w : Word) : (s.hold r n w).od = s.od := rfl
@[simp] theorem State.hold_odNext (r : Reg) (n : Nat) (w : Word) : (s.hold r n w).odNext = s.odNext := rfl
@[simp] theorem State.hold_dict (r : Reg) (n : Nat) (w : Word) : (s.hold r n w).dict = s.dict := rfl
@[simp] theorem State.hold_eth (r : Reg) (n : Nat) (w : Word) : (s.hold r n w).eth = s.eth := rfl
@[simp] theorem State.hold_mem (r : Reg) (n : Nat) (w : Word) : (s.hold r n w).mem = s.mem := rfl
@[simp] theorem State.hold_mbuf (r : Reg) (n : Nat) (w : Word) : (s.hold r n w).mbuf = s.mbuf := rfl
@[simp] theorem State.hold_mbFail (r : Reg) (n : Nat) (w : Word) : (s.hold r n w).mbFail = s.mbFail := rfl
@[simp] theorem State.hold_mbAbort (r : Reg) (n : Nat) (w : Word) : (s.hold r n w).mbAbort = s.mbAbort := rfl
@[simp] theorem State.hold_canLostf (r : Reg) (n : Nat) (w : Word) : (s.hold r n w).canLostf = s.canLostf := rfl
@[simp] theorem State.hold_canRecover (r : Reg) (n : Nat) (w : Word) : (s.hold r n w).canRecover = s.canRecover := rfl
@[simp] theorem State.hold_lin (r : Reg) (n : Nat) (w : Word) : (s.hold r n w).lin = s.lin := rfl
@[simp] theorem State.hold_linSlots (r : Reg) (n : Nat) (w : Word) : (s.hold r n w).linSlots = s.linSlots := rfl
@[simp] theorem State.hold_nmt (r : Reg) (n : Nat) (w : Word) : (s.hold r n w).nmt = s.nmt := rfl
@[simp] theorem State.hold_emcyInhibit (r : Reg) (n : Nat) (w : Word) : (s.hold r n w).emcyInhibit = s.emcyInhibit := rfl
@[simp] theorem State.hold_emcyWait (r : Reg) (n : Nat) (w : Word) : (s.hold r n w).emcyWait = s.emcyWait := rfl
@[simp] theorem State.hold_errors (r : Reg) (n : Nat) (w : Word) : (s.hold r n w).errors = s.errors := rfl
@[simp] theorem State.hold_hbLost (r : Reg) (n : Nat) (w : Word) : (s.hold r n w).hbLost = s.hbLost := rfl
@[simp] theorem State.hold_core (r : Reg) (n : Nat) (w : Word) : (s.hold r n w).core = s.core := rfl
@[simp] theorem State.hold_bteNext (r : Reg) (n : Nat) (w : Word) : (s.hold r n w).bteNext = s.bteNext := rfl
@[simp] theorem State.hold_flash (r : Reg) (n : Nat) (w : Word) : (s.hold r n w).flash = s.flash := rfl
@[simp] theorem State.hold_flashBank (r : Reg) (n : Nat) (w : Word) : (s.hold r n w).flashBank = s.flashBank := rfl
@[simp] theorem State.hold_ecc (r : Reg) (n : Nat) (w : Word) : (s.hold r n w).ecc = s.ecc := rfl
@[simp] theorem State.hold_pwr (r : Reg) (n : Nat) (w : Word) : (s.hold r n w).pwr = s.pwr := rfl
@[simp] theorem State.hold_errUp (r : Reg) (n : Nat) (w : Word) : (s.hold r n w).errUp = s.errUp := rfl
@[simp] theorem State.hold_acc (r : Reg) (n : Nat) (w : Word) : (s.hold r n w).acc = s.acc := rfl
@[simp] theorem State.hold_svc (r : Reg) (n : Nat) (w : Word) : (s.hold r n w).svc = s.svc := rfl
@[simp] theorem State.hold_net (r : Reg) (n : Nat) (w : Word) : (s.hold r n w).net = s.net := rfl
@[simp] theorem State.hold_fresh (r : Reg) (n : Nat) (w : Word) : (s.hold r n w).fresh = s.fresh := rfl
@[simp] theorem State.hold_up (r : Reg) (n : Nat) (w : Word) : (s.hold r n w).up = s.up := rfl
@[simp] theorem State.hold_sent (r : Reg) (n : Nat) (w : Word) : (s.hold r n w).sent = s.sent := rfl
@[simp] theorem State.hold_pending (r : Reg) (n : Nat) (w : Word) : (s.hold r n w).pending = s.pending := rfl

/-! ## unhold -/
@[simp] theorem State.unhold_ident (r : Reg) (n : Nat) : (s.unhold r n).ident = s.ident := rfl
@[simp] theorem State.unhold_regs (r : Reg) (n : Nat) : (s.unhold r n).regs = s.regs := rfl
@[simp] theorem State.unhold_queues (r : Reg) (n : Nat) : (s.unhold r n).queues = s.queues := rfl
@[simp] theorem State.unhold_dom (r : Reg) (n : Nat) : (s.unhold r n).dom = s.dom := rfl
@[simp] theorem State.unhold_transit (r : Reg) (n : Nat) : (s.unhold r n).transit = s.transit := rfl
@[simp] theorem State.unhold_supply (r : Reg) (n : Nat) : (s.unhold r n).supply = s.supply := rfl
@[simp] theorem State.unhold_irq (r : Reg) (n : Nat) : (s.unhold r n).irq = s.irq := rfl
@[simp] theorem State.unhold_raised (r : Reg) (n : Nat) : (s.unhold r n).raised = s.raised := rfl
@[simp] theorem State.unhold_fcru (r : Reg) (n : Nat) : (s.unhold r n).fcru = s.fcru := rfl
@[simp] theorem State.unhold_alm (r : Reg) (n : Nat) : (s.unhold r n).alm = s.alm := rfl
@[simp] theorem State.unhold_mst (r : Reg) (n : Nat) : (s.unhold r n).mst = s.mst := rfl
@[simp] theorem State.unhold_wcuChan (r : Reg) (n : Nat) : (s.unhold r n).wcuChan = s.wcuChan := rfl
@[simp] theorem State.unhold_wcuBlocked (r : Reg) (n : Nat) : (s.unhold r n).wcuBlocked = s.wcuBlocked := rfl
@[simp] theorem State.unhold_chan (r : Reg) (n : Nat) : (s.unhold r n).chan = s.chan := rfl
@[simp] theorem State.unhold_tollFeed (r : Reg) (n : Nat) : (s.unhold r n).tollFeed = s.tollFeed := rfl
@[simp] theorem State.unhold_tollWait (r : Reg) (n : Nat) : (s.unhold r n).tollWait = s.tollWait := rfl
@[simp] theorem State.unhold_sns (r : Reg) (n : Nat) : (s.unhold r n).sns = s.sns := rfl
@[simp] theorem State.unhold_snsSlot (r : Reg) (n : Nat) : (s.unhold r n).snsSlot = s.snsSlot := rfl
@[simp] theorem State.unhold_cyc (r : Reg) (n : Nat) : (s.unhold r n).cyc = s.cyc := rfl
@[simp] theorem State.unhold_odoAcc (r : Reg) (n : Nat) : (s.unhold r n).odoAcc = s.odoAcc := rfl
@[simp] theorem State.unhold_odoEnergy (r : Reg) (n : Nat) : (s.unhold r n).odoEnergy = s.odoEnergy := rfl
@[simp] theorem State.unhold_valve (r : Reg) (n : Nat) : (s.unhold r n).valve = s.valve := rfl
@[simp] theorem State.unhold_rechgEnd (r : Reg) (n : Nat) : (s.unhold r n).rechgEnd = s.rechgEnd := rfl
@[simp] theorem State.unhold_boostCut (r : Reg) (n : Nat) : (s.unhold r n).boostCut = s.boostCut := rfl
@[simp] theorem State.unhold_sin (r : Reg) (n : Nat) : (s.unhold r n).sin = s.sin := rfl
@[simp] theorem State.unhold_fio (r : Reg) (n : Nat) : (s.unhold r n).fio = s.fio := rfl
@[simp] theorem State.unhold_fioPause (r : Reg) (n : Nat) : (s.unhold r n).fioPause = s.fioPause := rfl
@[simp] theorem State.unhold_fioHot (r : Reg) (n : Nat) : (s.unhold r n).fioHot = s.fioHot := rfl
@[simp] theorem State.unhold_fioForced (r : Reg) (n : Nat) : (s.unhold r n).fioForced = s.fioForced := rfl
@[simp] theorem State.unhold_refused (r : Reg) (n : Nat) : (s.unhold r n).refused = s.refused := rfl
@[simp] theorem State.unhold_od (r : Reg) (n : Nat) : (s.unhold r n).od = s.od := rfl
@[simp] theorem State.unhold_odNext (r : Reg) (n : Nat) : (s.unhold r n).odNext = s.odNext := rfl
@[simp] theorem State.unhold_dict (r : Reg) (n : Nat) : (s.unhold r n).dict = s.dict := rfl
@[simp] theorem State.unhold_eth (r : Reg) (n : Nat) : (s.unhold r n).eth = s.eth := rfl
@[simp] theorem State.unhold_mem (r : Reg) (n : Nat) : (s.unhold r n).mem = s.mem := rfl
@[simp] theorem State.unhold_mbuf (r : Reg) (n : Nat) : (s.unhold r n).mbuf = s.mbuf := rfl
@[simp] theorem State.unhold_mbFail (r : Reg) (n : Nat) : (s.unhold r n).mbFail = s.mbFail := rfl
@[simp] theorem State.unhold_mbAbort (r : Reg) (n : Nat) : (s.unhold r n).mbAbort = s.mbAbort := rfl
@[simp] theorem State.unhold_canLostf (r : Reg) (n : Nat) : (s.unhold r n).canLostf = s.canLostf := rfl
@[simp] theorem State.unhold_canRecover (r : Reg) (n : Nat) : (s.unhold r n).canRecover = s.canRecover := rfl
@[simp] theorem State.unhold_lin (r : Reg) (n : Nat) : (s.unhold r n).lin = s.lin := rfl
@[simp] theorem State.unhold_linSlots (r : Reg) (n : Nat) : (s.unhold r n).linSlots = s.linSlots := rfl
@[simp] theorem State.unhold_nmt (r : Reg) (n : Nat) : (s.unhold r n).nmt = s.nmt := rfl
@[simp] theorem State.unhold_emcyInhibit (r : Reg) (n : Nat) : (s.unhold r n).emcyInhibit = s.emcyInhibit := rfl
@[simp] theorem State.unhold_emcyWait (r : Reg) (n : Nat) : (s.unhold r n).emcyWait = s.emcyWait := rfl
@[simp] theorem State.unhold_errors (r : Reg) (n : Nat) : (s.unhold r n).errors = s.errors := rfl
@[simp] theorem State.unhold_hbLost (r : Reg) (n : Nat) : (s.unhold r n).hbLost = s.hbLost := rfl
@[simp] theorem State.unhold_core (r : Reg) (n : Nat) : (s.unhold r n).core = s.core := rfl
@[simp] theorem State.unhold_bteNext (r : Reg) (n : Nat) : (s.unhold r n).bteNext = s.bteNext := rfl
@[simp] theorem State.unhold_flash (r : Reg) (n : Nat) : (s.unhold r n).flash = s.flash := rfl
@[simp] theorem State.unhold_flashBank (r : Reg) (n : Nat) : (s.unhold r n).flashBank = s.flashBank := rfl
@[simp] theorem State.unhold_ecc (r : Reg) (n : Nat) : (s.unhold r n).ecc = s.ecc := rfl
@[simp] theorem State.unhold_pwr (r : Reg) (n : Nat) : (s.unhold r n).pwr = s.pwr := rfl
@[simp] theorem State.unhold_errUp (r : Reg) (n : Nat) : (s.unhold r n).errUp = s.errUp := rfl
@[simp] theorem State.unhold_acc (r : Reg) (n : Nat) : (s.unhold r n).acc = s.acc := rfl
@[simp] theorem State.unhold_svc (r : Reg) (n : Nat) : (s.unhold r n).svc = s.svc := rfl
@[simp] theorem State.unhold_net (r : Reg) (n : Nat) : (s.unhold r n).net = s.net := rfl
@[simp] theorem State.unhold_fresh (r : Reg) (n : Nat) : (s.unhold r n).fresh = s.fresh := rfl
@[simp] theorem State.unhold_up (r : Reg) (n : Nat) : (s.unhold r n).up = s.up := rfl
@[simp] theorem State.unhold_sent (r : Reg) (n : Nat) : (s.unhold r n).sent = s.sent := rfl
@[simp] theorem State.unhold_pending (r : Reg) (n : Nat) : (s.unhold r n).pending = s.pending := rfl

/-! ## used -/
@[simp] theorem State.used_ident  : (s.used).ident = s.ident := rfl
@[simp] theorem State.used_regs  : (s.used).regs = s.regs := rfl
@[simp] theorem State.used_held  : (s.used).held = s.held := rfl
@[simp] theorem State.used_queues  : (s.used).queues = s.queues := rfl
@[simp] theorem State.used_dom  : (s.used).dom = s.dom := rfl
@[simp] theorem State.used_transit  : (s.used).transit = s.transit := rfl
@[simp] theorem State.used_supply  : (s.used).supply = s.supply := rfl
@[simp] theorem State.used_irq  : (s.used).irq = s.irq := rfl
@[simp] theorem State.used_raised  : (s.used).raised = s.raised := rfl
@[simp] theorem State.used_fcru  : (s.used).fcru = s.fcru := rfl
@[simp] theorem State.used_alm  : (s.used).alm = s.alm := rfl
@[simp] theorem State.used_mst  : (s.used).mst = s.mst := rfl
@[simp] theorem State.used_wcuChan  : (s.used).wcuChan = s.wcuChan := rfl
@[simp] theorem State.used_wcuBlocked  : (s.used).wcuBlocked = s.wcuBlocked := rfl
@[simp] theorem State.used_chan  : (s.used).chan = s.chan := rfl
@[simp] theorem State.used_tollFeed  : (s.used).tollFeed = s.tollFeed := rfl
@[simp] theorem State.used_tollWait  : (s.used).tollWait = s.tollWait := rfl
@[simp] theorem State.used_sns  : (s.used).sns = s.sns := rfl
@[simp] theorem State.used_snsSlot  : (s.used).snsSlot = s.snsSlot := rfl
@[simp] theorem State.used_cyc  : (s.used).cyc = s.cyc := rfl
@[simp] theorem State.used_odoAcc  : (s.used).odoAcc = s.odoAcc := rfl
@[simp] theorem State.used_odoEnergy  : (s.used).odoEnergy = s.odoEnergy := rfl
@[simp] theorem State.used_valve  : (s.used).valve = s.valve := rfl
@[simp] theorem State.used_rechgEnd  : (s.used).rechgEnd = s.rechgEnd := rfl
@[simp] theorem State.used_boostCut  : (s.used).boostCut = s.boostCut := rfl
@[simp] theorem State.used_sin  : (s.used).sin = s.sin := rfl
@[simp] theorem State.used_fio  : (s.used).fio = s.fio := rfl
@[simp] theorem State.used_fioPause  : (s.used).fioPause = s.fioPause := rfl
@[simp] theorem State.used_fioHot  : (s.used).fioHot = s.fioHot := rfl
@[simp] theorem State.used_fioForced  : (s.used).fioForced = s.fioForced := rfl
@[simp] theorem State.used_refused  : (s.used).refused = s.refused := rfl
@[simp] theorem State.used_od  : (s.used).od = s.od := rfl
@[simp] theorem State.used_odNext  : (s.used).odNext = s.odNext := rfl
@[simp] theorem State.used_dict  : (s.used).dict = s.dict := rfl
@[simp] theorem State.used_eth  : (s.used).eth = s.eth := rfl
@[simp] theorem State.used_mem  : (s.used).mem = s.mem := rfl
@[simp] theorem State.used_mbuf  : (s.used).mbuf = s.mbuf := rfl
@[simp] theorem State.used_mbFail  : (s.used).mbFail = s.mbFail := rfl
@[simp] theorem State.used_mbAbort  : (s.used).mbAbort = s.mbAbort := rfl
@[simp] theorem State.used_canLostf  : (s.used).canLostf = s.canLostf := rfl
@[simp] theorem State.used_canRecover  : (s.used).canRecover = s.canRecover := rfl
@[simp] theorem State.used_lin  : (s.used).lin = s.lin := rfl
@[simp] theorem State.used_linSlots  : (s.used).linSlots = s.linSlots := rfl
@[simp] theorem State.used_nmt  : (s.used).nmt = s.nmt := rfl
@[simp] theorem State.used_emcyInhibit  : (s.used).emcyInhibit = s.emcyInhibit := rfl
@[simp] theorem State.used_emcyWait  : (s.used).emcyWait = s.emcyWait := rfl
@[simp] theorem State.used_errors  : (s.used).errors = s.errors := rfl
@[simp] theorem State.used_hbLost  : (s.used).hbLost = s.hbLost := rfl
@[simp] theorem State.used_core  : (s.used).core = s.core := rfl
@[simp] theorem State.used_bteNext  : (s.used).bteNext = s.bteNext := rfl
@[simp] theorem State.used_flash  : (s.used).flash = s.flash := rfl
@[simp] theorem State.used_flashBank  : (s.used).flashBank = s.flashBank := rfl
@[simp] theorem State.used_ecc  : (s.used).ecc = s.ecc := rfl
@[simp] theorem State.used_pwr  : (s.used).pwr = s.pwr := rfl
@[simp] theorem State.used_errUp  : (s.used).errUp = s.errUp := rfl
@[simp] theorem State.used_acc  : (s.used).acc = s.acc := rfl
@[simp] theorem State.used_svc  : (s.used).svc = s.svc := rfl
@[simp] theorem State.used_net  : (s.used).net = s.net := rfl
@[simp] theorem State.used_up  : (s.used).up = s.up := rfl
@[simp] theorem State.used_sent  : (s.used).sent = s.sent := rfl
@[simp] theorem State.used_pending  : (s.used).pending = s.pending := rfl

/-! ## emit -/
@[simp] theorem State.emit_ident (e : Sent) : (s.emit e).ident = s.ident := by cases e <;> rfl
@[simp] theorem State.emit_regs (e : Sent) : (s.emit e).regs = s.regs := by cases e <;> rfl
@[simp] theorem State.emit_held (e : Sent) : (s.emit e).held = s.held := by cases e <;> rfl
@[simp] theorem State.emit_queues (e : Sent) : (s.emit e).queues = s.queues := by cases e <;> rfl
@[simp] theorem State.emit_dom (e : Sent) : (s.emit e).dom = s.dom := by cases e <;> rfl
@[simp] theorem State.emit_supply (e : Sent) : (s.emit e).supply = s.supply := by cases e <;> rfl
@[simp] theorem State.emit_irq (e : Sent) : (s.emit e).irq = s.irq := by cases e <;> rfl
@[simp] theorem State.emit_raised (e : Sent) : (s.emit e).raised = s.raised := by cases e <;> rfl
@[simp] theorem State.emit_fcru (e : Sent) : (s.emit e).fcru = s.fcru := by cases e <;> rfl
@[simp] theorem State.emit_alm (e : Sent) : (s.emit e).alm = s.alm := by cases e <;> rfl
@[simp] theorem State.emit_mst (e : Sent) : (s.emit e).mst = s.mst := by cases e <;> rfl
@[simp] theorem State.emit_wcuChan (e : Sent) : (s.emit e).wcuChan = s.wcuChan := by cases e <;> rfl
@[simp] theorem State.emit_wcuBlocked (e : Sent) : (s.emit e).wcuBlocked = s.wcuBlocked := by cases e <;> rfl
@[simp] theorem State.emit_chan (e : Sent) : (s.emit e).chan = s.chan := by cases e <;> rfl
@[simp] theorem State.emit_tollFeed (e : Sent) : (s.emit e).tollFeed = s.tollFeed := by cases e <;> rfl
@[simp] theorem State.emit_tollWait (e : Sent) : (s.emit e).tollWait = s.tollWait := by cases e <;> rfl
@[simp] theorem State.emit_sns (e : Sent) : (s.emit e).sns = s.sns := by cases e <;> rfl
@[simp] theorem State.emit_snsSlot (e : Sent) : (s.emit e).snsSlot = s.snsSlot := by cases e <;> rfl
@[simp] theorem State.emit_cyc (e : Sent) : (s.emit e).cyc = s.cyc := by cases e <;> rfl
@[simp] theorem State.emit_odoAcc (e : Sent) : (s.emit e).odoAcc = s.odoAcc := by cases e <;> rfl
@[simp] theorem State.emit_odoEnergy (e : Sent) : (s.emit e).odoEnergy = s.odoEnergy := by cases e <;> rfl
@[simp] theorem State.emit_valve (e : Sent) : (s.emit e).valve = s.valve := by cases e <;> rfl
@[simp] theorem State.emit_rechgEnd (e : Sent) : (s.emit e).rechgEnd = s.rechgEnd := by cases e <;> rfl
@[simp] theorem State.emit_boostCut (e : Sent) : (s.emit e).boostCut = s.boostCut := by cases e <;> rfl
@[simp] theorem State.emit_sin (e : Sent) : (s.emit e).sin = s.sin := by cases e <;> rfl
@[simp] theorem State.emit_fio (e : Sent) : (s.emit e).fio = s.fio := by cases e <;> rfl
@[simp] theorem State.emit_fioPause (e : Sent) : (s.emit e).fioPause = s.fioPause := by cases e <;> rfl
@[simp] theorem State.emit_fioHot (e : Sent) : (s.emit e).fioHot = s.fioHot := by cases e <;> rfl
@[simp] theorem State.emit_fioForced (e : Sent) : (s.emit e).fioForced = s.fioForced := by cases e <;> rfl
@[simp] theorem State.emit_refused (e : Sent) : (s.emit e).refused = s.refused := by cases e <;> rfl
@[simp] theorem State.emit_od (e : Sent) : (s.emit e).od = s.od := by cases e <;> rfl
@[simp] theorem State.emit_odNext (e : Sent) : (s.emit e).odNext = s.odNext := by cases e <;> rfl
@[simp] theorem State.emit_dict (e : Sent) : (s.emit e).dict = s.dict := by cases e <;> rfl
@[simp] theorem State.emit_eth (e : Sent) : (s.emit e).eth = s.eth := by cases e <;> rfl
@[simp] theorem State.emit_mem (e : Sent) : (s.emit e).mem = s.mem := by cases e <;> rfl
@[simp] theorem State.emit_mbuf (e : Sent) : (s.emit e).mbuf = s.mbuf := by cases e <;> rfl
@[simp] theorem State.emit_mbFail (e : Sent) : (s.emit e).mbFail = s.mbFail := by cases e <;> rfl
@[simp] theorem State.emit_mbAbort (e : Sent) : (s.emit e).mbAbort = s.mbAbort := by cases e <;> rfl
@[simp] theorem State.emit_canLostf (e : Sent) : (s.emit e).canLostf = s.canLostf := by cases e <;> rfl
@[simp] theorem State.emit_canRecover (e : Sent) : (s.emit e).canRecover = s.canRecover := by cases e <;> rfl
@[simp] theorem State.emit_lin (e : Sent) : (s.emit e).lin = s.lin := by cases e <;> rfl
@[simp] theorem State.emit_linSlots (e : Sent) : (s.emit e).linSlots = s.linSlots := by cases e <;> rfl
@[simp] theorem State.emit_nmt (e : Sent) : (s.emit e).nmt = s.nmt := by cases e <;> rfl
@[simp] theorem State.emit_emcyInhibit (e : Sent) : (s.emit e).emcyInhibit = s.emcyInhibit := by cases e <;> rfl
@[simp] theorem State.emit_emcyWait (e : Sent) : (s.emit e).emcyWait = s.emcyWait := by cases e <;> rfl
@[simp] theorem State.emit_errors (e : Sent) : (s.emit e).errors = s.errors := by cases e <;> rfl
@[simp] theorem State.emit_hbLost (e : Sent) : (s.emit e).hbLost = s.hbLost := by cases e <;> rfl
@[simp] theorem State.emit_core (e : Sent) : (s.emit e).core = s.core := by cases e <;> rfl
@[simp] theorem State.emit_bteNext (e : Sent) : (s.emit e).bteNext = s.bteNext := by cases e <;> rfl
@[simp] theorem State.emit_flash (e : Sent) : (s.emit e).flash = s.flash := by cases e <;> rfl
@[simp] theorem State.emit_flashBank (e : Sent) : (s.emit e).flashBank = s.flashBank := by cases e <;> rfl
@[simp] theorem State.emit_ecc (e : Sent) : (s.emit e).ecc = s.ecc := by cases e <;> rfl
@[simp] theorem State.emit_pwr (e : Sent) : (s.emit e).pwr = s.pwr := by cases e <;> rfl
@[simp] theorem State.emit_errUp (e : Sent) : (s.emit e).errUp = s.errUp := by cases e <;> rfl
@[simp] theorem State.emit_acc (e : Sent) : (s.emit e).acc = s.acc := by cases e <;> rfl
@[simp] theorem State.emit_svc (e : Sent) : (s.emit e).svc = s.svc := by cases e <;> rfl
@[simp] theorem State.emit_net (e : Sent) : (s.emit e).net = s.net := by cases e <;> rfl
@[simp] theorem State.emit_fresh (e : Sent) : (s.emit e).fresh = s.fresh := by cases e <;> rfl
@[simp] theorem State.emit_up (e : Sent) : (s.emit e).up = s.up := by cases e <;> rfl
@[simp] theorem State.emit_pending (e : Sent) : (s.emit e).pending = s.pending := by cases e <;> rfl

/-! ## setCo -/
@[simp] theorem State.setCo_ident (c : Nat) (x : Core) : (s.setCo c x).ident = s.ident := rfl
@[simp] theorem State.setCo_regs (c : Nat) (x : Core) : (s.setCo c x).regs = s.regs := rfl
@[simp] theorem State.setCo_held (c : Nat) (x : Core) : (s.setCo c x).held = s.held := rfl
@[simp] theorem State.setCo_queues (c : Nat) (x : Core) : (s.setCo c x).queues = s.queues := rfl
@[simp] theorem State.setCo_dom (c : Nat) (x : Core) : (s.setCo c x).dom = s.dom := rfl
@[simp] theorem State.setCo_transit (c : Nat) (x : Core) : (s.setCo c x).transit = s.transit := rfl
@[simp] theorem State.setCo_supply (c : Nat) (x : Core) : (s.setCo c x).supply = s.supply := rfl
@[simp] theorem State.setCo_irq (c : Nat) (x : Core) : (s.setCo c x).irq = s.irq := rfl
@[simp] theorem State.setCo_raised (c : Nat) (x : Core) : (s.setCo c x).raised = s.raised := rfl
@[simp] theorem State.setCo_fcru (c : Nat) (x : Core) : (s.setCo c x).fcru = s.fcru := rfl
@[simp] theorem State.setCo_alm (c : Nat) (x : Core) : (s.setCo c x).alm = s.alm := rfl
@[simp] theorem State.setCo_mst (c : Nat) (x : Core) : (s.setCo c x).mst = s.mst := rfl
@[simp] theorem State.setCo_wcuChan (c : Nat) (x : Core) : (s.setCo c x).wcuChan = s.wcuChan := rfl
@[simp] theorem State.setCo_wcuBlocked (c : Nat) (x : Core) : (s.setCo c x).wcuBlocked = s.wcuBlocked := rfl
@[simp] theorem State.setCo_chan (c : Nat) (x : Core) : (s.setCo c x).chan = s.chan := rfl
@[simp] theorem State.setCo_tollFeed (c : Nat) (x : Core) : (s.setCo c x).tollFeed = s.tollFeed := rfl
@[simp] theorem State.setCo_tollWait (c : Nat) (x : Core) : (s.setCo c x).tollWait = s.tollWait := rfl
@[simp] theorem State.setCo_sns (c : Nat) (x : Core) : (s.setCo c x).sns = s.sns := rfl
@[simp] theorem State.setCo_snsSlot (c : Nat) (x : Core) : (s.setCo c x).snsSlot = s.snsSlot := rfl
@[simp] theorem State.setCo_cyc (c : Nat) (x : Core) : (s.setCo c x).cyc = s.cyc := rfl
@[simp] theorem State.setCo_odoAcc (c : Nat) (x : Core) : (s.setCo c x).odoAcc = s.odoAcc := rfl
@[simp] theorem State.setCo_odoEnergy (c : Nat) (x : Core) : (s.setCo c x).odoEnergy = s.odoEnergy := rfl
@[simp] theorem State.setCo_valve (c : Nat) (x : Core) : (s.setCo c x).valve = s.valve := rfl
@[simp] theorem State.setCo_rechgEnd (c : Nat) (x : Core) : (s.setCo c x).rechgEnd = s.rechgEnd := rfl
@[simp] theorem State.setCo_boostCut (c : Nat) (x : Core) : (s.setCo c x).boostCut = s.boostCut := rfl
@[simp] theorem State.setCo_sin (c : Nat) (x : Core) : (s.setCo c x).sin = s.sin := rfl
@[simp] theorem State.setCo_fio (c : Nat) (x : Core) : (s.setCo c x).fio = s.fio := rfl
@[simp] theorem State.setCo_fioPause (c : Nat) (x : Core) : (s.setCo c x).fioPause = s.fioPause := rfl
@[simp] theorem State.setCo_fioHot (c : Nat) (x : Core) : (s.setCo c x).fioHot = s.fioHot := rfl
@[simp] theorem State.setCo_fioForced (c : Nat) (x : Core) : (s.setCo c x).fioForced = s.fioForced := rfl
@[simp] theorem State.setCo_refused (c : Nat) (x : Core) : (s.setCo c x).refused = s.refused := rfl
@[simp] theorem State.setCo_od (c : Nat) (x : Core) : (s.setCo c x).od = s.od := rfl
@[simp] theorem State.setCo_odNext (c : Nat) (x : Core) : (s.setCo c x).odNext = s.odNext := rfl
@[simp] theorem State.setCo_dict (c : Nat) (x : Core) : (s.setCo c x).dict = s.dict := rfl
@[simp] theorem State.setCo_eth (c : Nat) (x : Core) : (s.setCo c x).eth = s.eth := rfl
@[simp] theorem State.setCo_mem (c : Nat) (x : Core) : (s.setCo c x).mem = s.mem := rfl
@[simp] theorem State.setCo_mbuf (c : Nat) (x : Core) : (s.setCo c x).mbuf = s.mbuf := rfl
@[simp] theorem State.setCo_mbFail (c : Nat) (x : Core) : (s.setCo c x).mbFail = s.mbFail := rfl
@[simp] theorem State.setCo_mbAbort (c : Nat) (x : Core) : (s.setCo c x).mbAbort = s.mbAbort := rfl
@[simp] theorem State.setCo_canLostf (c : Nat) (x : Core) : (s.setCo c x).canLostf = s.canLostf := rfl
@[simp] theorem State.setCo_canRecover (c : Nat) (x : Core) : (s.setCo c x).canRecover = s.canRecover := rfl
@[simp] theorem State.setCo_lin (c : Nat) (x : Core) : (s.setCo c x).lin = s.lin := rfl
@[simp] theorem State.setCo_linSlots (c : Nat) (x : Core) : (s.setCo c x).linSlots = s.linSlots := rfl
@[simp] theorem State.setCo_nmt (c : Nat) (x : Core) : (s.setCo c x).nmt = s.nmt := rfl
@[simp] theorem State.setCo_emcyInhibit (c : Nat) (x : Core) : (s.setCo c x).emcyInhibit = s.emcyInhibit := rfl
@[simp] theorem State.setCo_emcyWait (c : Nat) (x : Core) : (s.setCo c x).emcyWait = s.emcyWait := rfl
@[simp] theorem State.setCo_errors (c : Nat) (x : Core) : (s.setCo c x).errors = s.errors := rfl
@[simp] theorem State.setCo_hbLost (c : Nat) (x : Core) : (s.setCo c x).hbLost = s.hbLost := rfl
@[simp] theorem State.setCo_bteNext (c : Nat) (x : Core) : (s.setCo c x).bteNext = s.bteNext := rfl
@[simp] theorem State.setCo_flash (c : Nat) (x : Core) : (s.setCo c x).flash = s.flash := rfl
@[simp] theorem State.setCo_flashBank (c : Nat) (x : Core) : (s.setCo c x).flashBank = s.flashBank := rfl
@[simp] theorem State.setCo_ecc (c : Nat) (x : Core) : (s.setCo c x).ecc = s.ecc := rfl
@[simp] theorem State.setCo_pwr (c : Nat) (x : Core) : (s.setCo c x).pwr = s.pwr := rfl
@[simp] theorem State.setCo_errUp (c : Nat) (x : Core) : (s.setCo c x).errUp = s.errUp := rfl
@[simp] theorem State.setCo_acc (c : Nat) (x : Core) : (s.setCo c x).acc = s.acc := rfl
@[simp] theorem State.setCo_svc (c : Nat) (x : Core) : (s.setCo c x).svc = s.svc := rfl
@[simp] theorem State.setCo_net (c : Nat) (x : Core) : (s.setCo c x).net = s.net := rfl
@[simp] theorem State.setCo_fresh (c : Nat) (x : Core) : (s.setCo c x).fresh = s.fresh := rfl
@[simp] theorem State.setCo_up (c : Nat) (x : Core) : (s.setCo c x).up = s.up := rfl
@[simp] theorem State.setCo_sent (c : Nat) (x : Core) : (s.setCo c x).sent = s.sent := rfl
@[simp] theorem State.setCo_pending (c : Nat) (x : Core) : (s.setCo c x).pending = s.pending := rfl

/-! ## setQ -/
@[simp] theorem State.setQ_ident (i : QId) (v : RecQ) : (s.setQ i v).ident = s.ident := rfl
@[simp] theorem State.setQ_regs (i : QId) (v : RecQ) : (s.setQ i v).regs = s.regs := rfl
@[simp] theorem State.setQ_held (i : QId) (v : RecQ) : (s.setQ i v).held = s.held := rfl
@[simp] theorem State.setQ_dom (i : QId) (v : RecQ) : (s.setQ i v).dom = s.dom := rfl
@[simp] theorem State.setQ_transit (i : QId) (v : RecQ) : (s.setQ i v).transit = s.transit := rfl
@[simp] theorem State.setQ_supply (i : QId) (v : RecQ) : (s.setQ i v).supply = s.supply := rfl
@[simp] theorem State.setQ_irq (i : QId) (v : RecQ) : (s.setQ i v).irq = s.irq := rfl
@[simp] theorem State.setQ_raised (i : QId) (v : RecQ) : (s.setQ i v).raised = s.raised := rfl
@[simp] theorem State.setQ_fcru (i : QId) (v : RecQ) : (s.setQ i v).fcru = s.fcru := rfl
@[simp] theorem State.setQ_alm (i : QId) (v : RecQ) : (s.setQ i v).alm = s.alm := rfl
@[simp] theorem State.setQ_mst (i : QId) (v : RecQ) : (s.setQ i v).mst = s.mst := rfl
@[simp] theorem State.setQ_wcuChan (i : QId) (v : RecQ) : (s.setQ i v).wcuChan = s.wcuChan := rfl
@[simp] theorem State.setQ_wcuBlocked (i : QId) (v : RecQ) : (s.setQ i v).wcuBlocked = s.wcuBlocked := rfl
@[simp] theorem State.setQ_chan (i : QId) (v : RecQ) : (s.setQ i v).chan = s.chan := rfl
@[simp] theorem State.setQ_tollFeed (i : QId) (v : RecQ) : (s.setQ i v).tollFeed = s.tollFeed := rfl
@[simp] theorem State.setQ_tollWait (i : QId) (v : RecQ) : (s.setQ i v).tollWait = s.tollWait := rfl
@[simp] theorem State.setQ_sns (i : QId) (v : RecQ) : (s.setQ i v).sns = s.sns := rfl
@[simp] theorem State.setQ_snsSlot (i : QId) (v : RecQ) : (s.setQ i v).snsSlot = s.snsSlot := rfl
@[simp] theorem State.setQ_cyc (i : QId) (v : RecQ) : (s.setQ i v).cyc = s.cyc := rfl
@[simp] theorem State.setQ_odoAcc (i : QId) (v : RecQ) : (s.setQ i v).odoAcc = s.odoAcc := rfl
@[simp] theorem State.setQ_odoEnergy (i : QId) (v : RecQ) : (s.setQ i v).odoEnergy = s.odoEnergy := rfl
@[simp] theorem State.setQ_valve (i : QId) (v : RecQ) : (s.setQ i v).valve = s.valve := rfl
@[simp] theorem State.setQ_rechgEnd (i : QId) (v : RecQ) : (s.setQ i v).rechgEnd = s.rechgEnd := rfl
@[simp] theorem State.setQ_boostCut (i : QId) (v : RecQ) : (s.setQ i v).boostCut = s.boostCut := rfl
@[simp] theorem State.setQ_sin (i : QId) (v : RecQ) : (s.setQ i v).sin = s.sin := rfl
@[simp] theorem State.setQ_fio (i : QId) (v : RecQ) : (s.setQ i v).fio = s.fio := rfl
@[simp] theorem State.setQ_fioPause (i : QId) (v : RecQ) : (s.setQ i v).fioPause = s.fioPause := rfl
@[simp] theorem State.setQ_fioHot (i : QId) (v : RecQ) : (s.setQ i v).fioHot = s.fioHot := rfl
@[simp] theorem State.setQ_fioForced (i : QId) (v : RecQ) : (s.setQ i v).fioForced = s.fioForced := rfl
@[simp] theorem State.setQ_refused (i : QId) (v : RecQ) : (s.setQ i v).refused = s.refused := rfl
@[simp] theorem State.setQ_od (i : QId) (v : RecQ) : (s.setQ i v).od = s.od := rfl
@[simp] theorem State.setQ_odNext (i : QId) (v : RecQ) : (s.setQ i v).odNext = s.odNext := rfl
@[simp] theorem State.setQ_dict (i : QId) (v : RecQ) : (s.setQ i v).dict = s.dict := rfl
@[simp] theorem State.setQ_eth (i : QId) (v : RecQ) : (s.setQ i v).eth = s.eth := rfl
@[simp] theorem State.setQ_mem (i : QId) (v : RecQ) : (s.setQ i v).mem = s.mem := rfl
@[simp] theorem State.setQ_mbuf (i : QId) (v : RecQ) : (s.setQ i v).mbuf = s.mbuf := rfl
@[simp] theorem State.setQ_mbFail (i : QId) (v : RecQ) : (s.setQ i v).mbFail = s.mbFail := rfl
@[simp] theorem State.setQ_mbAbort (i : QId) (v : RecQ) : (s.setQ i v).mbAbort = s.mbAbort := rfl
@[simp] theorem State.setQ_canLostf (i : QId) (v : RecQ) : (s.setQ i v).canLostf = s.canLostf := rfl
@[simp] theorem State.setQ_canRecover (i : QId) (v : RecQ) : (s.setQ i v).canRecover = s.canRecover := rfl
@[simp] theorem State.setQ_lin (i : QId) (v : RecQ) : (s.setQ i v).lin = s.lin := rfl
@[simp] theorem State.setQ_linSlots (i : QId) (v : RecQ) : (s.setQ i v).linSlots = s.linSlots := rfl
@[simp] theorem State.setQ_nmt (i : QId) (v : RecQ) : (s.setQ i v).nmt = s.nmt := rfl
@[simp] theorem State.setQ_emcyInhibit (i : QId) (v : RecQ) : (s.setQ i v).emcyInhibit = s.emcyInhibit := rfl
@[simp] theorem State.setQ_emcyWait (i : QId) (v : RecQ) : (s.setQ i v).emcyWait = s.emcyWait := rfl
@[simp] theorem State.setQ_errors (i : QId) (v : RecQ) : (s.setQ i v).errors = s.errors := rfl
@[simp] theorem State.setQ_hbLost (i : QId) (v : RecQ) : (s.setQ i v).hbLost = s.hbLost := rfl
@[simp] theorem State.setQ_core (i : QId) (v : RecQ) : (s.setQ i v).core = s.core := rfl
@[simp] theorem State.setQ_bteNext (i : QId) (v : RecQ) : (s.setQ i v).bteNext = s.bteNext := rfl
@[simp] theorem State.setQ_flash (i : QId) (v : RecQ) : (s.setQ i v).flash = s.flash := rfl
@[simp] theorem State.setQ_flashBank (i : QId) (v : RecQ) : (s.setQ i v).flashBank = s.flashBank := rfl
@[simp] theorem State.setQ_ecc (i : QId) (v : RecQ) : (s.setQ i v).ecc = s.ecc := rfl
@[simp] theorem State.setQ_pwr (i : QId) (v : RecQ) : (s.setQ i v).pwr = s.pwr := rfl
@[simp] theorem State.setQ_errUp (i : QId) (v : RecQ) : (s.setQ i v).errUp = s.errUp := rfl
@[simp] theorem State.setQ_acc (i : QId) (v : RecQ) : (s.setQ i v).acc = s.acc := rfl
@[simp] theorem State.setQ_svc (i : QId) (v : RecQ) : (s.setQ i v).svc = s.svc := rfl
@[simp] theorem State.setQ_net (i : QId) (v : RecQ) : (s.setQ i v).net = s.net := rfl
@[simp] theorem State.setQ_fresh (i : QId) (v : RecQ) : (s.setQ i v).fresh = s.fresh := rfl
@[simp] theorem State.setQ_up (i : QId) (v : RecQ) : (s.setQ i v).up = s.up := rfl
@[simp] theorem State.setQ_sent (i : QId) (v : RecQ) : (s.setQ i v).sent = s.sent := rfl
@[simp] theorem State.setQ_pending (i : QId) (v : RecQ) : (s.setQ i v).pending = s.pending := rfl

/-! ## request -/
@[simp] theorem State.request_ident (l : Nat) : (s.request l).ident = s.ident := rfl
@[simp] theorem State.request_regs (l : Nat) : (s.request l).regs = s.regs := rfl
@[simp] theorem State.request_held (l : Nat) : (s.request l).held = s.held := rfl
@[simp] theorem State.request_queues (l : Nat) : (s.request l).queues = s.queues := rfl
@[simp] theorem State.request_dom (l : Nat) : (s.request l).dom = s.dom := rfl
@[simp] theorem State.request_transit (l : Nat) : (s.request l).transit = s.transit := rfl
@[simp] theorem State.request_supply (l : Nat) : (s.request l).supply = s.supply := rfl
@[simp] theorem State.request_raised (l : Nat) : (s.request l).raised = s.raised := rfl
@[simp] theorem State.request_fcru (l : Nat) : (s.request l).fcru = s.fcru := rfl
@[simp] theorem State.request_alm (l : Nat) : (s.request l).alm = s.alm := rfl
@[simp] theorem State.request_mst (l : Nat) : (s.request l).mst = s.mst := rfl
@[simp] theorem State.request_wcuChan (l : Nat) : (s.request l).wcuChan = s.wcuChan := rfl
@[simp] theorem State.request_wcuBlocked (l : Nat) : (s.request l).wcuBlocked = s.wcuBlocked := rfl
@[simp] theorem State.request_chan (l : Nat) : (s.request l).chan = s.chan := rfl
@[simp] theorem State.request_tollFeed (l : Nat) : (s.request l).tollFeed = s.tollFeed := rfl
@[simp] theorem State.request_tollWait (l : Nat) : (s.request l).tollWait = s.tollWait := rfl
@[simp] theorem State.request_sns (l : Nat) : (s.request l).sns = s.sns := rfl
@[simp] theorem State.request_snsSlot (l : Nat) : (s.request l).snsSlot = s.snsSlot := rfl
@[simp] theorem State.request_cyc (l : Nat) : (s.request l).cyc = s.cyc := rfl
@[simp] theorem State.request_odoAcc (l : Nat) : (s.request l).odoAcc = s.odoAcc := rfl
@[simp] theorem State.request_odoEnergy (l : Nat) : (s.request l).odoEnergy = s.odoEnergy := rfl
@[simp] theorem State.request_valve (l : Nat) : (s.request l).valve = s.valve := rfl
@[simp] theorem State.request_rechgEnd (l : Nat) : (s.request l).rechgEnd = s.rechgEnd := rfl
@[simp] theorem State.request_boostCut (l : Nat) : (s.request l).boostCut = s.boostCut := rfl
@[simp] theorem State.request_sin (l : Nat) : (s.request l).sin = s.sin := rfl
@[simp] theorem State.request_fio (l : Nat) : (s.request l).fio = s.fio := rfl
@[simp] theorem State.request_fioPause (l : Nat) : (s.request l).fioPause = s.fioPause := rfl
@[simp] theorem State.request_fioHot (l : Nat) : (s.request l).fioHot = s.fioHot := rfl
@[simp] theorem State.request_fioForced (l : Nat) : (s.request l).fioForced = s.fioForced := rfl
@[simp] theorem State.request_refused (l : Nat) : (s.request l).refused = s.refused := rfl
@[simp] theorem State.request_od (l : Nat) : (s.request l).od = s.od := rfl
@[simp] theorem State.request_odNext (l : Nat) : (s.request l).odNext = s.odNext := rfl
@[simp] theorem State.request_dict (l : Nat) : (s.request l).dict = s.dict := rfl
@[simp] theorem State.request_eth (l : Nat) : (s.request l).eth = s.eth := rfl
@[simp] theorem State.request_mem (l : Nat) : (s.request l).mem = s.mem := rfl
@[simp] theorem State.request_mbuf (l : Nat) : (s.request l).mbuf = s.mbuf := rfl
@[simp] theorem State.request_mbFail (l : Nat) : (s.request l).mbFail = s.mbFail := rfl
@[simp] theorem State.request_mbAbort (l : Nat) : (s.request l).mbAbort = s.mbAbort := rfl
@[simp] theorem State.request_canLostf (l : Nat) : (s.request l).canLostf = s.canLostf := rfl
@[simp] theorem State.request_canRecover (l : Nat) : (s.request l).canRecover = s.canRecover := rfl
@[simp] theorem State.request_lin (l : Nat) : (s.request l).lin = s.lin := rfl
@[simp] theorem State.request_linSlots (l : Nat) : (s.request l).linSlots = s.linSlots := rfl
@[simp] theorem State.request_nmt (l : Nat) : (s.request l).nmt = s.nmt := rfl
@[simp] theorem State.request_emcyInhibit (l : Nat) : (s.request l).emcyInhibit = s.emcyInhibit := rfl
@[simp] theorem State.request_emcyWait (l : Nat) : (s.request l).emcyWait = s.emcyWait := rfl
@[simp] theorem State.request_errors (l : Nat) : (s.request l).errors = s.errors := rfl
@[simp] theorem State.request_hbLost (l : Nat) : (s.request l).hbLost = s.hbLost := rfl
@[simp] theorem State.request_core (l : Nat) : (s.request l).core = s.core := rfl
@[simp] theorem State.request_bteNext (l : Nat) : (s.request l).bteNext = s.bteNext := rfl
@[simp] theorem State.request_flash (l : Nat) : (s.request l).flash = s.flash := rfl
@[simp] theorem State.request_flashBank (l : Nat) : (s.request l).flashBank = s.flashBank := rfl
@[simp] theorem State.request_ecc (l : Nat) : (s.request l).ecc = s.ecc := rfl
@[simp] theorem State.request_pwr (l : Nat) : (s.request l).pwr = s.pwr := rfl
@[simp] theorem State.request_errUp (l : Nat) : (s.request l).errUp = s.errUp := rfl
@[simp] theorem State.request_acc (l : Nat) : (s.request l).acc = s.acc := rfl
@[simp] theorem State.request_svc (l : Nat) : (s.request l).svc = s.svc := rfl
@[simp] theorem State.request_net (l : Nat) : (s.request l).net = s.net := rfl
@[simp] theorem State.request_fresh (l : Nat) : (s.request l).fresh = s.fresh := rfl
@[simp] theorem State.request_up (l : Nat) : (s.request l).up = s.up := rfl
@[simp] theorem State.request_sent (l : Nat) : (s.request l).sent = s.sent := rfl
@[simp] theorem State.request_pending (l : Nat) : (s.request l).pending = s.pending := rfl

/-! ## withdraw -/
@[simp] theorem State.withdraw_ident (l : Nat) : (s.withdraw l).ident = s.ident := rfl
@[simp] theorem State.withdraw_regs (l : Nat) : (s.withdraw l).regs = s.regs := rfl
@[simp] theorem State.withdraw_held (l : Nat) : (s.withdraw l).held = s.held := rfl
@[simp] theorem State.withdraw_queues (l : Nat) : (s.withdraw l).queues = s.queues := rfl
@[simp] theorem State.withdraw_dom (l : Nat) : (s.withdraw l).dom = s.dom := rfl
@[simp] theorem State.withdraw_transit (l : Nat) : (s.withdraw l).transit = s.transit := rfl
@[simp] theorem State.withdraw_supply (l : Nat) : (s.withdraw l).supply = s.supply := rfl
@[simp] theorem State.withdraw_raised (l : Nat) : (s.withdraw l).raised = s.raised := rfl
@[simp] theorem State.withdraw_fcru (l : Nat) : (s.withdraw l).fcru = s.fcru := rfl
@[simp] theorem State.withdraw_alm (l : Nat) : (s.withdraw l).alm = s.alm := rfl
@[simp] theorem State.withdraw_mst (l : Nat) : (s.withdraw l).mst = s.mst := rfl
@[simp] theorem State.withdraw_wcuChan (l : Nat) : (s.withdraw l).wcuChan = s.wcuChan := rfl
@[simp] theorem State.withdraw_wcuBlocked (l : Nat) : (s.withdraw l).wcuBlocked = s.wcuBlocked := rfl
@[simp] theorem State.withdraw_chan (l : Nat) : (s.withdraw l).chan = s.chan := rfl
@[simp] theorem State.withdraw_tollFeed (l : Nat) : (s.withdraw l).tollFeed = s.tollFeed := rfl
@[simp] theorem State.withdraw_tollWait (l : Nat) : (s.withdraw l).tollWait = s.tollWait := rfl
@[simp] theorem State.withdraw_sns (l : Nat) : (s.withdraw l).sns = s.sns := rfl
@[simp] theorem State.withdraw_snsSlot (l : Nat) : (s.withdraw l).snsSlot = s.snsSlot := rfl
@[simp] theorem State.withdraw_cyc (l : Nat) : (s.withdraw l).cyc = s.cyc := rfl
@[simp] theorem State.withdraw_odoAcc (l : Nat) : (s.withdraw l).odoAcc = s.odoAcc := rfl
@[simp] theorem State.withdraw_odoEnergy (l : Nat) : (s.withdraw l).odoEnergy = s.odoEnergy := rfl
@[simp] theorem State.withdraw_valve (l : Nat) : (s.withdraw l).valve = s.valve := rfl
@[simp] theorem State.withdraw_rechgEnd (l : Nat) : (s.withdraw l).rechgEnd = s.rechgEnd := rfl
@[simp] theorem State.withdraw_boostCut (l : Nat) : (s.withdraw l).boostCut = s.boostCut := rfl
@[simp] theorem State.withdraw_sin (l : Nat) : (s.withdraw l).sin = s.sin := rfl
@[simp] theorem State.withdraw_fio (l : Nat) : (s.withdraw l).fio = s.fio := rfl
@[simp] theorem State.withdraw_fioPause (l : Nat) : (s.withdraw l).fioPause = s.fioPause := rfl
@[simp] theorem State.withdraw_fioHot (l : Nat) : (s.withdraw l).fioHot = s.fioHot := rfl
@[simp] theorem State.withdraw_fioForced (l : Nat) : (s.withdraw l).fioForced = s.fioForced := rfl
@[simp] theorem State.withdraw_refused (l : Nat) : (s.withdraw l).refused = s.refused := rfl
@[simp] theorem State.withdraw_od (l : Nat) : (s.withdraw l).od = s.od := rfl
@[simp] theorem State.withdraw_odNext (l : Nat) : (s.withdraw l).odNext = s.odNext := rfl
@[simp] theorem State.withdraw_dict (l : Nat) : (s.withdraw l).dict = s.dict := rfl
@[simp] theorem State.withdraw_eth (l : Nat) : (s.withdraw l).eth = s.eth := rfl
@[simp] theorem State.withdraw_mem (l : Nat) : (s.withdraw l).mem = s.mem := rfl
@[simp] theorem State.withdraw_mbuf (l : Nat) : (s.withdraw l).mbuf = s.mbuf := rfl
@[simp] theorem State.withdraw_mbFail (l : Nat) : (s.withdraw l).mbFail = s.mbFail := rfl
@[simp] theorem State.withdraw_mbAbort (l : Nat) : (s.withdraw l).mbAbort = s.mbAbort := rfl
@[simp] theorem State.withdraw_canLostf (l : Nat) : (s.withdraw l).canLostf = s.canLostf := rfl
@[simp] theorem State.withdraw_canRecover (l : Nat) : (s.withdraw l).canRecover = s.canRecover := rfl
@[simp] theorem State.withdraw_lin (l : Nat) : (s.withdraw l).lin = s.lin := rfl
@[simp] theorem State.withdraw_linSlots (l : Nat) : (s.withdraw l).linSlots = s.linSlots := rfl
@[simp] theorem State.withdraw_nmt (l : Nat) : (s.withdraw l).nmt = s.nmt := rfl
@[simp] theorem State.withdraw_emcyInhibit (l : Nat) : (s.withdraw l).emcyInhibit = s.emcyInhibit := rfl
@[simp] theorem State.withdraw_emcyWait (l : Nat) : (s.withdraw l).emcyWait = s.emcyWait := rfl
@[simp] theorem State.withdraw_errors (l : Nat) : (s.withdraw l).errors = s.errors := rfl
@[simp] theorem State.withdraw_hbLost (l : Nat) : (s.withdraw l).hbLost = s.hbLost := rfl
@[simp] theorem State.withdraw_core (l : Nat) : (s.withdraw l).core = s.core := rfl
@[simp] theorem State.withdraw_bteNext (l : Nat) : (s.withdraw l).bteNext = s.bteNext := rfl
@[simp] theorem State.withdraw_flash (l : Nat) : (s.withdraw l).flash = s.flash := rfl
@[simp] theorem State.withdraw_flashBank (l : Nat) : (s.withdraw l).flashBank = s.flashBank := rfl
@[simp] theorem State.withdraw_ecc (l : Nat) : (s.withdraw l).ecc = s.ecc := rfl
@[simp] theorem State.withdraw_pwr (l : Nat) : (s.withdraw l).pwr = s.pwr := rfl
@[simp] theorem State.withdraw_errUp (l : Nat) : (s.withdraw l).errUp = s.errUp := rfl
@[simp] theorem State.withdraw_acc (l : Nat) : (s.withdraw l).acc = s.acc := rfl
@[simp] theorem State.withdraw_svc (l : Nat) : (s.withdraw l).svc = s.svc := rfl
@[simp] theorem State.withdraw_net (l : Nat) : (s.withdraw l).net = s.net := rfl
@[simp] theorem State.withdraw_fresh (l : Nat) : (s.withdraw l).fresh = s.fresh := rfl
@[simp] theorem State.withdraw_up (l : Nat) : (s.withdraw l).up = s.up := rfl
@[simp] theorem State.withdraw_sent (l : Nat) : (s.withdraw l).sent = s.sent := rfl
@[simp] theorem State.withdraw_pending (l : Nat) : (s.withdraw l).pending = s.pending := rfl

/-! ## raise -/
@[simp] theorem State.raise_ident (a b : Nat) : (s.raise a b).ident = s.ident := rfl
@[simp] theorem State.raise_regs (a b : Nat) : (s.raise a b).regs = s.regs := rfl
@[simp] theorem State.raise_held (a b : Nat) : (s.raise a b).held = s.held := rfl
@[simp] theorem State.raise_queues (a b : Nat) : (s.raise a b).queues = s.queues := rfl
@[simp] theorem State.raise_dom (a b : Nat) : (s.raise a b).dom = s.dom := rfl
@[simp] theorem State.raise_transit (a b : Nat) : (s.raise a b).transit = s.transit := rfl
@[simp] theorem State.raise_supply (a b : Nat) : (s.raise a b).supply = s.supply := rfl
@[simp] theorem State.raise_irq (a b : Nat) : (s.raise a b).irq = s.irq := rfl
@[simp] theorem State.raise_fcru (a b : Nat) : (s.raise a b).fcru = s.fcru := rfl
@[simp] theorem State.raise_alm (a b : Nat) : (s.raise a b).alm = s.alm := rfl
@[simp] theorem State.raise_mst (a b : Nat) : (s.raise a b).mst = s.mst := rfl
@[simp] theorem State.raise_wcuChan (a b : Nat) : (s.raise a b).wcuChan = s.wcuChan := rfl
@[simp] theorem State.raise_wcuBlocked (a b : Nat) : (s.raise a b).wcuBlocked = s.wcuBlocked := rfl
@[simp] theorem State.raise_chan (a b : Nat) : (s.raise a b).chan = s.chan := rfl
@[simp] theorem State.raise_tollFeed (a b : Nat) : (s.raise a b).tollFeed = s.tollFeed := rfl
@[simp] theorem State.raise_tollWait (a b : Nat) : (s.raise a b).tollWait = s.tollWait := rfl
@[simp] theorem State.raise_sns (a b : Nat) : (s.raise a b).sns = s.sns := rfl
@[simp] theorem State.raise_snsSlot (a b : Nat) : (s.raise a b).snsSlot = s.snsSlot := rfl
@[simp] theorem State.raise_cyc (a b : Nat) : (s.raise a b).cyc = s.cyc := rfl
@[simp] theorem State.raise_odoAcc (a b : Nat) : (s.raise a b).odoAcc = s.odoAcc := rfl
@[simp] theorem State.raise_odoEnergy (a b : Nat) : (s.raise a b).odoEnergy = s.odoEnergy := rfl
@[simp] theorem State.raise_valve (a b : Nat) : (s.raise a b).valve = s.valve := rfl
@[simp] theorem State.raise_rechgEnd (a b : Nat) : (s.raise a b).rechgEnd = s.rechgEnd := rfl
@[simp] theorem State.raise_boostCut (a b : Nat) : (s.raise a b).boostCut = s.boostCut := rfl
@[simp] theorem State.raise_sin (a b : Nat) : (s.raise a b).sin = s.sin := rfl
@[simp] theorem State.raise_fio (a b : Nat) : (s.raise a b).fio = s.fio := rfl
@[simp] theorem State.raise_fioPause (a b : Nat) : (s.raise a b).fioPause = s.fioPause := rfl
@[simp] theorem State.raise_fioHot (a b : Nat) : (s.raise a b).fioHot = s.fioHot := rfl
@[simp] theorem State.raise_fioForced (a b : Nat) : (s.raise a b).fioForced = s.fioForced := rfl
@[simp] theorem State.raise_refused (a b : Nat) : (s.raise a b).refused = s.refused := rfl
@[simp] theorem State.raise_od (a b : Nat) : (s.raise a b).od = s.od := rfl
@[simp] theorem State.raise_odNext (a b : Nat) : (s.raise a b).odNext = s.odNext := rfl
@[simp] theorem State.raise_dict (a b : Nat) : (s.raise a b).dict = s.dict := rfl
@[simp] theorem State.raise_eth (a b : Nat) : (s.raise a b).eth = s.eth := rfl
@[simp] theorem State.raise_mem (a b : Nat) : (s.raise a b).mem = s.mem := rfl
@[simp] theorem State.raise_mbuf (a b : Nat) : (s.raise a b).mbuf = s.mbuf := rfl
@[simp] theorem State.raise_mbFail (a b : Nat) : (s.raise a b).mbFail = s.mbFail := rfl
@[simp] theorem State.raise_mbAbort (a b : Nat) : (s.raise a b).mbAbort = s.mbAbort := rfl
@[simp] theorem State.raise_canLostf (a b : Nat) : (s.raise a b).canLostf = s.canLostf := rfl
@[simp] theorem State.raise_canRecover (a b : Nat) : (s.raise a b).canRecover = s.canRecover := rfl
@[simp] theorem State.raise_lin (a b : Nat) : (s.raise a b).lin = s.lin := rfl
@[simp] theorem State.raise_linSlots (a b : Nat) : (s.raise a b).linSlots = s.linSlots := rfl
@[simp] theorem State.raise_nmt (a b : Nat) : (s.raise a b).nmt = s.nmt := rfl
@[simp] theorem State.raise_emcyInhibit (a b : Nat) : (s.raise a b).emcyInhibit = s.emcyInhibit := rfl
@[simp] theorem State.raise_emcyWait (a b : Nat) : (s.raise a b).emcyWait = s.emcyWait := rfl
@[simp] theorem State.raise_errors (a b : Nat) : (s.raise a b).errors = s.errors := rfl
@[simp] theorem State.raise_hbLost (a b : Nat) : (s.raise a b).hbLost = s.hbLost := rfl
@[simp] theorem State.raise_core (a b : Nat) : (s.raise a b).core = s.core := rfl
@[simp] theorem State.raise_bteNext (a b : Nat) : (s.raise a b).bteNext = s.bteNext := rfl
@[simp] theorem State.raise_flash (a b : Nat) : (s.raise a b).flash = s.flash := rfl
@[simp] theorem State.raise_flashBank (a b : Nat) : (s.raise a b).flashBank = s.flashBank := rfl
@[simp] theorem State.raise_ecc (a b : Nat) : (s.raise a b).ecc = s.ecc := rfl
@[simp] theorem State.raise_pwr (a b : Nat) : (s.raise a b).pwr = s.pwr := rfl
@[simp] theorem State.raise_errUp (a b : Nat) : (s.raise a b).errUp = s.errUp := rfl
@[simp] theorem State.raise_acc (a b : Nat) : (s.raise a b).acc = s.acc := rfl
@[simp] theorem State.raise_svc (a b : Nat) : (s.raise a b).svc = s.svc := rfl
@[simp] theorem State.raise_net (a b : Nat) : (s.raise a b).net = s.net := rfl
@[simp] theorem State.raise_fresh (a b : Nat) : (s.raise a b).fresh = s.fresh := rfl
@[simp] theorem State.raise_up (a b : Nat) : (s.raise a b).up = s.up := rfl
@[simp] theorem State.raise_sent (a b : Nat) : (s.raise a b).sent = s.sent := rfl
@[simp] theorem State.raise_pending (a b : Nat) : (s.raise a b).pending = s.pending := rfl

/-! ## memByteSet -/
@[simp] theorem State.memByteSet_ident (a : Nat) (b : Byte) : (s.memByteSet a b).ident = s.ident := rfl
@[simp] theorem State.memByteSet_regs (a : Nat) (b : Byte) : (s.memByteSet a b).regs = s.regs := rfl
@[simp] theorem State.memByteSet_held (a : Nat) (b : Byte) : (s.memByteSet a b).held = s.held := rfl
@[simp] theorem State.memByteSet_queues (a : Nat) (b : Byte) : (s.memByteSet a b).queues = s.queues := rfl
@[simp] theorem State.memByteSet_dom (a : Nat) (b : Byte) : (s.memByteSet a b).dom = s.dom := rfl
@[simp] theorem State.memByteSet_transit (a : Nat) (b : Byte) : (s.memByteSet a b).transit = s.transit := rfl
@[simp] theorem State.memByteSet_supply (a : Nat) (b : Byte) : (s.memByteSet a b).supply = s.supply := rfl
@[simp] theorem State.memByteSet_irq (a : Nat) (b : Byte) : (s.memByteSet a b).irq = s.irq := rfl
@[simp] theorem State.memByteSet_raised (a : Nat) (b : Byte) : (s.memByteSet a b).raised = s.raised := rfl
@[simp] theorem State.memByteSet_fcru (a : Nat) (b : Byte) : (s.memByteSet a b).fcru = s.fcru := rfl
@[simp] theorem State.memByteSet_alm (a : Nat) (b : Byte) : (s.memByteSet a b).alm = s.alm := rfl
@[simp] theorem State.memByteSet_mst (a : Nat) (b : Byte) : (s.memByteSet a b).mst = s.mst := rfl
@[simp] theorem State.memByteSet_wcuChan (a : Nat) (b : Byte) : (s.memByteSet a b).wcuChan = s.wcuChan := rfl
@[simp] theorem State.memByteSet_wcuBlocked (a : Nat) (b : Byte) : (s.memByteSet a b).wcuBlocked = s.wcuBlocked := rfl
@[simp] theorem State.memByteSet_chan (a : Nat) (b : Byte) : (s.memByteSet a b).chan = s.chan := rfl
@[simp] theorem State.memByteSet_tollFeed (a : Nat) (b : Byte) : (s.memByteSet a b).tollFeed = s.tollFeed := rfl
@[simp] theorem State.memByteSet_tollWait (a : Nat) (b : Byte) : (s.memByteSet a b).tollWait = s.tollWait := rfl
@[simp] theorem State.memByteSet_sns (a : Nat) (b : Byte) : (s.memByteSet a b).sns = s.sns := rfl
@[simp] theorem State.memByteSet_snsSlot (a : Nat) (b : Byte) : (s.memByteSet a b).snsSlot = s.snsSlot := rfl
@[simp] theorem State.memByteSet_cyc (a : Nat) (b : Byte) : (s.memByteSet a b).cyc = s.cyc := rfl
@[simp] theorem State.memByteSet_odoAcc (a : Nat) (b : Byte) : (s.memByteSet a b).odoAcc = s.odoAcc := rfl
@[simp] theorem State.memByteSet_odoEnergy (a : Nat) (b : Byte) : (s.memByteSet a b).odoEnergy = s.odoEnergy := rfl
@[simp] theorem State.memByteSet_valve (a : Nat) (b : Byte) : (s.memByteSet a b).valve = s.valve := rfl
@[simp] theorem State.memByteSet_rechgEnd (a : Nat) (b : Byte) : (s.memByteSet a b).rechgEnd = s.rechgEnd := rfl
@[simp] theorem State.memByteSet_boostCut (a : Nat) (b : Byte) : (s.memByteSet a b).boostCut = s.boostCut := rfl
@[simp] theorem State.memByteSet_sin (a : Nat) (b : Byte) : (s.memByteSet a b).sin = s.sin := rfl
@[simp] theorem State.memByteSet_fio (a : Nat) (b : Byte) : (s.memByteSet a b).fio = s.fio := rfl
@[simp] theorem State.memByteSet_fioPause (a : Nat) (b : Byte) : (s.memByteSet a b).fioPause = s.fioPause := rfl
@[simp] theorem State.memByteSet_fioHot (a : Nat) (b : Byte) : (s.memByteSet a b).fioHot = s.fioHot := rfl
@[simp] theorem State.memByteSet_fioForced (a : Nat) (b : Byte) : (s.memByteSet a b).fioForced = s.fioForced := rfl
@[simp] theorem State.memByteSet_refused (a : Nat) (b : Byte) : (s.memByteSet a b).refused = s.refused := rfl
@[simp] theorem State.memByteSet_od (a : Nat) (b : Byte) : (s.memByteSet a b).od = s.od := rfl
@[simp] theorem State.memByteSet_odNext (a : Nat) (b : Byte) : (s.memByteSet a b).odNext = s.odNext := rfl
@[simp] theorem State.memByteSet_dict (a : Nat) (b : Byte) : (s.memByteSet a b).dict = s.dict := rfl
@[simp] theorem State.memByteSet_eth (a : Nat) (b : Byte) : (s.memByteSet a b).eth = s.eth := rfl
@[simp] theorem State.memByteSet_mbuf (a : Nat) (b : Byte) : (s.memByteSet a b).mbuf = s.mbuf := rfl
@[simp] theorem State.memByteSet_mbFail (a : Nat) (b : Byte) : (s.memByteSet a b).mbFail = s.mbFail := rfl
@[simp] theorem State.memByteSet_mbAbort (a : Nat) (b : Byte) : (s.memByteSet a b).mbAbort = s.mbAbort := rfl
@[simp] theorem State.memByteSet_canLostf (a : Nat) (b : Byte) : (s.memByteSet a b).canLostf = s.canLostf := rfl
@[simp] theorem State.memByteSet_canRecover (a : Nat) (b : Byte) : (s.memByteSet a b).canRecover = s.canRecover := rfl
@[simp] theorem State.memByteSet_lin (a : Nat) (b : Byte) : (s.memByteSet a b).lin = s.lin := rfl
@[simp] theorem State.memByteSet_linSlots (a : Nat) (b : Byte) : (s.memByteSet a b).linSlots = s.linSlots := rfl
@[simp] theorem State.memByteSet_nmt (a : Nat) (b : Byte) : (s.memByteSet a b).nmt = s.nmt := rfl
@[simp] theorem State.memByteSet_emcyInhibit (a : Nat) (b : Byte) : (s.memByteSet a b).emcyInhibit = s.emcyInhibit := rfl
@[simp] theorem State.memByteSet_emcyWait (a : Nat) (b : Byte) : (s.memByteSet a b).emcyWait = s.emcyWait := rfl
@[simp] theorem State.memByteSet_errors (a : Nat) (b : Byte) : (s.memByteSet a b).errors = s.errors := rfl
@[simp] theorem State.memByteSet_hbLost (a : Nat) (b : Byte) : (s.memByteSet a b).hbLost = s.hbLost := rfl
@[simp] theorem State.memByteSet_core (a : Nat) (b : Byte) : (s.memByteSet a b).core = s.core := rfl
@[simp] theorem State.memByteSet_bteNext (a : Nat) (b : Byte) : (s.memByteSet a b).bteNext = s.bteNext := rfl
@[simp] theorem State.memByteSet_flash (a : Nat) (b : Byte) : (s.memByteSet a b).flash = s.flash := rfl
@[simp] theorem State.memByteSet_flashBank (a : Nat) (b : Byte) : (s.memByteSet a b).flashBank = s.flashBank := rfl
@[simp] theorem State.memByteSet_ecc (a : Nat) (b : Byte) : (s.memByteSet a b).ecc = s.ecc := rfl
@[simp] theorem State.memByteSet_pwr (a : Nat) (b : Byte) : (s.memByteSet a b).pwr = s.pwr := rfl
@[simp] theorem State.memByteSet_errUp (a : Nat) (b : Byte) : (s.memByteSet a b).errUp = s.errUp := rfl
@[simp] theorem State.memByteSet_acc (a : Nat) (b : Byte) : (s.memByteSet a b).acc = s.acc := rfl
@[simp] theorem State.memByteSet_svc (a : Nat) (b : Byte) : (s.memByteSet a b).svc = s.svc := rfl
@[simp] theorem State.memByteSet_net (a : Nat) (b : Byte) : (s.memByteSet a b).net = s.net := rfl
@[simp] theorem State.memByteSet_fresh (a : Nat) (b : Byte) : (s.memByteSet a b).fresh = s.fresh := rfl
@[simp] theorem State.memByteSet_up (a : Nat) (b : Byte) : (s.memByteSet a b).up = s.up := rfl
@[simp] theorem State.memByteSet_sent (a : Nat) (b : Byte) : (s.memByteSet a b).sent = s.sent := rfl
@[simp] theorem State.memByteSet_pending (a : Nat) (b : Byte) : (s.memByteSet a b).pending = s.pending := rfl

/-! ## odSet -/
@[simp] theorem State.odSet_ident (i sub v : Nat) : (s.odSet i sub v).ident = s.ident := rfl
@[simp] theorem State.odSet_regs (i sub v : Nat) : (s.odSet i sub v).regs = s.regs := rfl
@[simp] theorem State.odSet_held (i sub v : Nat) : (s.odSet i sub v).held = s.held := rfl
@[simp] theorem State.odSet_queues (i sub v : Nat) : (s.odSet i sub v).queues = s.queues := rfl
@[simp] theorem State.odSet_dom (i sub v : Nat) : (s.odSet i sub v).dom = s.dom := rfl
@[simp] theorem State.odSet_transit (i sub v : Nat) : (s.odSet i sub v).transit = s.transit := rfl
@[simp] theorem State.odSet_supply (i sub v : Nat) : (s.odSet i sub v).supply = s.supply := rfl
@[simp] theorem State.odSet_irq (i sub v : Nat) : (s.odSet i sub v).irq = s.irq := rfl
@[simp] theorem State.odSet_raised (i sub v : Nat) : (s.odSet i sub v).raised = s.raised := rfl
@[simp] theorem State.odSet_fcru (i sub v : Nat) : (s.odSet i sub v).fcru = s.fcru := rfl
@[simp] theorem State.odSet_alm (i sub v : Nat) : (s.odSet i sub v).alm = s.alm := rfl
@[simp] theorem State.odSet_mst (i sub v : Nat) : (s.odSet i sub v).mst = s.mst := rfl
@[simp] theorem State.odSet_wcuChan (i sub v : Nat) : (s.odSet i sub v).wcuChan = s.wcuChan := rfl
@[simp] theorem State.odSet_wcuBlocked (i sub v : Nat) : (s.odSet i sub v).wcuBlocked = s.wcuBlocked := rfl
@[simp] theorem State.odSet_chan (i sub v : Nat) : (s.odSet i sub v).chan = s.chan := rfl
@[simp] theorem State.odSet_tollFeed (i sub v : Nat) : (s.odSet i sub v).tollFeed = s.tollFeed := rfl
@[simp] theorem State.odSet_tollWait (i sub v : Nat) : (s.odSet i sub v).tollWait = s.tollWait := rfl
@[simp] theorem State.odSet_sns (i sub v : Nat) : (s.odSet i sub v).sns = s.sns := rfl
@[simp] theorem State.odSet_snsSlot (i sub v : Nat) : (s.odSet i sub v).snsSlot = s.snsSlot := rfl
@[simp] theorem State.odSet_cyc (i sub v : Nat) : (s.odSet i sub v).cyc = s.cyc := rfl
@[simp] theorem State.odSet_odoAcc (i sub v : Nat) : (s.odSet i sub v).odoAcc = s.odoAcc := rfl
@[simp] theorem State.odSet_odoEnergy (i sub v : Nat) : (s.odSet i sub v).odoEnergy = s.odoEnergy := rfl
@[simp] theorem State.odSet_valve (i sub v : Nat) : (s.odSet i sub v).valve = s.valve := rfl
@[simp] theorem State.odSet_rechgEnd (i sub v : Nat) : (s.odSet i sub v).rechgEnd = s.rechgEnd := rfl
@[simp] theorem State.odSet_boostCut (i sub v : Nat) : (s.odSet i sub v).boostCut = s.boostCut := rfl
@[simp] theorem State.odSet_sin (i sub v : Nat) : (s.odSet i sub v).sin = s.sin := rfl
@[simp] theorem State.odSet_fio (i sub v : Nat) : (s.odSet i sub v).fio = s.fio := rfl
@[simp] theorem State.odSet_fioPause (i sub v : Nat) : (s.odSet i sub v).fioPause = s.fioPause := rfl
@[simp] theorem State.odSet_fioHot (i sub v : Nat) : (s.odSet i sub v).fioHot = s.fioHot := rfl
@[simp] theorem State.odSet_fioForced (i sub v : Nat) : (s.odSet i sub v).fioForced = s.fioForced := rfl
@[simp] theorem State.odSet_refused (i sub v : Nat) : (s.odSet i sub v).refused = s.refused := rfl
@[simp] theorem State.odSet_odNext (i sub v : Nat) : (s.odSet i sub v).odNext = s.odNext := rfl
@[simp] theorem State.odSet_dict (i sub v : Nat) : (s.odSet i sub v).dict = s.dict := rfl
@[simp] theorem State.odSet_eth (i sub v : Nat) : (s.odSet i sub v).eth = s.eth := rfl
@[simp] theorem State.odSet_mem (i sub v : Nat) : (s.odSet i sub v).mem = s.mem := rfl
@[simp] theorem State.odSet_mbuf (i sub v : Nat) : (s.odSet i sub v).mbuf = s.mbuf := rfl
@[simp] theorem State.odSet_mbFail (i sub v : Nat) : (s.odSet i sub v).mbFail = s.mbFail := rfl
@[simp] theorem State.odSet_mbAbort (i sub v : Nat) : (s.odSet i sub v).mbAbort = s.mbAbort := rfl
@[simp] theorem State.odSet_canLostf (i sub v : Nat) : (s.odSet i sub v).canLostf = s.canLostf := rfl
@[simp] theorem State.odSet_canRecover (i sub v : Nat) : (s.odSet i sub v).canRecover = s.canRecover := rfl
@[simp] theorem State.odSet_lin (i sub v : Nat) : (s.odSet i sub v).lin = s.lin := rfl
@[simp] theorem State.odSet_linSlots (i sub v : Nat) : (s.odSet i sub v).linSlots = s.linSlots := rfl
@[simp] theorem State.odSet_nmt (i sub v : Nat) : (s.odSet i sub v).nmt = s.nmt := rfl
@[simp] theorem State.odSet_emcyInhibit (i sub v : Nat) : (s.odSet i sub v).emcyInhibit = s.emcyInhibit := rfl
@[simp] theorem State.odSet_emcyWait (i sub v : Nat) : (s.odSet i sub v).emcyWait = s.emcyWait := rfl
@[simp] theorem State.odSet_errors (i sub v : Nat) : (s.odSet i sub v).errors = s.errors := rfl
@[simp] theorem State.odSet_hbLost (i sub v : Nat) : (s.odSet i sub v).hbLost = s.hbLost := rfl
@[simp] theorem State.odSet_core (i sub v : Nat) : (s.odSet i sub v).core = s.core := rfl
@[simp] theorem State.odSet_bteNext (i sub v : Nat) : (s.odSet i sub v).bteNext = s.bteNext := rfl
@[simp] theorem State.odSet_flash (i sub v : Nat) : (s.odSet i sub v).flash = s.flash := rfl
@[simp] theorem State.odSet_flashBank (i sub v : Nat) : (s.odSet i sub v).flashBank = s.flashBank := rfl
@[simp] theorem State.odSet_ecc (i sub v : Nat) : (s.odSet i sub v).ecc = s.ecc := rfl
@[simp] theorem State.odSet_pwr (i sub v : Nat) : (s.odSet i sub v).pwr = s.pwr := rfl
@[simp] theorem State.odSet_errUp (i sub v : Nat) : (s.odSet i sub v).errUp = s.errUp := rfl
@[simp] theorem State.odSet_acc (i sub v : Nat) : (s.odSet i sub v).acc = s.acc := rfl
@[simp] theorem State.odSet_svc (i sub v : Nat) : (s.odSet i sub v).svc = s.svc := rfl
@[simp] theorem State.odSet_net (i sub v : Nat) : (s.odSet i sub v).net = s.net := rfl
@[simp] theorem State.odSet_fresh (i sub v : Nat) : (s.odSet i sub v).fresh = s.fresh := rfl
@[simp] theorem State.odSet_up (i sub v : Nat) : (s.odSet i sub v).up = s.up := rfl
@[simp] theorem State.odSet_sent (i sub v : Nat) : (s.odSet i sub v).sent = s.sent := rfl
@[simp] theorem State.odSet_pending (i sub v : Nat) : (s.odSet i sub v).pending = s.pending := rfl

/-! ## refusal -/
@[simp] theorem State.refusal_ident (p : DPath) (code i sub : Nat) : (s.refusal p code i sub).ident = s.ident := rfl
@[simp] theorem State.refusal_regs (p : DPath) (code i sub : Nat) : (s.refusal p code i sub).regs = s.regs := rfl
@[simp] theorem State.refusal_held (p : DPath) (code i sub : Nat) : (s.refusal p code i sub).held = s.held := rfl
@[simp] theorem State.refusal_queues (p : DPath) (code i sub : Nat) : (s.refusal p code i sub).queues = s.queues := rfl
@[simp] theorem State.refusal_dom (p : DPath) (code i sub : Nat) : (s.refusal p code i sub).dom = s.dom := rfl
@[simp] theorem State.refusal_transit (p : DPath) (code i sub : Nat) : (s.refusal p code i sub).transit = s.transit := rfl
@[simp] theorem State.refusal_supply (p : DPath) (code i sub : Nat) : (s.refusal p code i sub).supply = s.supply := rfl
@[simp] theorem State.refusal_irq (p : DPath) (code i sub : Nat) : (s.refusal p code i sub).irq = s.irq := rfl
@[simp] theorem State.refusal_raised (p : DPath) (code i sub : Nat) : (s.refusal p code i sub).raised = s.raised := rfl
@[simp] theorem State.refusal_fcru (p : DPath) (code i sub : Nat) : (s.refusal p code i sub).fcru = s.fcru := rfl
@[simp] theorem State.refusal_alm (p : DPath) (code i sub : Nat) : (s.refusal p code i sub).alm = s.alm := rfl
@[simp] theorem State.refusal_mst (p : DPath) (code i sub : Nat) : (s.refusal p code i sub).mst = s.mst := rfl
@[simp] theorem State.refusal_wcuChan (p : DPath) (code i sub : Nat) : (s.refusal p code i sub).wcuChan = s.wcuChan := rfl
@[simp] theorem State.refusal_wcuBlocked (p : DPath) (code i sub : Nat) : (s.refusal p code i sub).wcuBlocked = s.wcuBlocked := rfl
@[simp] theorem State.refusal_chan (p : DPath) (code i sub : Nat) : (s.refusal p code i sub).chan = s.chan := rfl
@[simp] theorem State.refusal_tollFeed (p : DPath) (code i sub : Nat) : (s.refusal p code i sub).tollFeed = s.tollFeed := rfl
@[simp] theorem State.refusal_tollWait (p : DPath) (code i sub : Nat) : (s.refusal p code i sub).tollWait = s.tollWait := rfl
@[simp] theorem State.refusal_sns (p : DPath) (code i sub : Nat) : (s.refusal p code i sub).sns = s.sns := rfl
@[simp] theorem State.refusal_snsSlot (p : DPath) (code i sub : Nat) : (s.refusal p code i sub).snsSlot = s.snsSlot := rfl
@[simp] theorem State.refusal_cyc (p : DPath) (code i sub : Nat) : (s.refusal p code i sub).cyc = s.cyc := rfl
@[simp] theorem State.refusal_odoAcc (p : DPath) (code i sub : Nat) : (s.refusal p code i sub).odoAcc = s.odoAcc := rfl
@[simp] theorem State.refusal_odoEnergy (p : DPath) (code i sub : Nat) : (s.refusal p code i sub).odoEnergy = s.odoEnergy := rfl
@[simp] theorem State.refusal_valve (p : DPath) (code i sub : Nat) : (s.refusal p code i sub).valve = s.valve := rfl
@[simp] theorem State.refusal_rechgEnd (p : DPath) (code i sub : Nat) : (s.refusal p code i sub).rechgEnd = s.rechgEnd := rfl
@[simp] theorem State.refusal_boostCut (p : DPath) (code i sub : Nat) : (s.refusal p code i sub).boostCut = s.boostCut := rfl
@[simp] theorem State.refusal_sin (p : DPath) (code i sub : Nat) : (s.refusal p code i sub).sin = s.sin := rfl
@[simp] theorem State.refusal_fio (p : DPath) (code i sub : Nat) : (s.refusal p code i sub).fio = s.fio := rfl
@[simp] theorem State.refusal_fioPause (p : DPath) (code i sub : Nat) : (s.refusal p code i sub).fioPause = s.fioPause := rfl
@[simp] theorem State.refusal_fioHot (p : DPath) (code i sub : Nat) : (s.refusal p code i sub).fioHot = s.fioHot := rfl
@[simp] theorem State.refusal_fioForced (p : DPath) (code i sub : Nat) : (s.refusal p code i sub).fioForced = s.fioForced := rfl
@[simp] theorem State.refusal_od (p : DPath) (code i sub : Nat) : (s.refusal p code i sub).od = s.od := rfl
@[simp] theorem State.refusal_odNext (p : DPath) (code i sub : Nat) : (s.refusal p code i sub).odNext = s.odNext := rfl
@[simp] theorem State.refusal_dict (p : DPath) (code i sub : Nat) : (s.refusal p code i sub).dict = s.dict := rfl
@[simp] theorem State.refusal_eth (p : DPath) (code i sub : Nat) : (s.refusal p code i sub).eth = s.eth := rfl
@[simp] theorem State.refusal_mem (p : DPath) (code i sub : Nat) : (s.refusal p code i sub).mem = s.mem := rfl
@[simp] theorem State.refusal_mbuf (p : DPath) (code i sub : Nat) : (s.refusal p code i sub).mbuf = s.mbuf := rfl
@[simp] theorem State.refusal_mbFail (p : DPath) (code i sub : Nat) : (s.refusal p code i sub).mbFail = s.mbFail := rfl
@[simp] theorem State.refusal_mbAbort (p : DPath) (code i sub : Nat) : (s.refusal p code i sub).mbAbort = s.mbAbort := rfl
@[simp] theorem State.refusal_canLostf (p : DPath) (code i sub : Nat) : (s.refusal p code i sub).canLostf = s.canLostf := rfl
@[simp] theorem State.refusal_canRecover (p : DPath) (code i sub : Nat) : (s.refusal p code i sub).canRecover = s.canRecover := rfl
@[simp] theorem State.refusal_lin (p : DPath) (code i sub : Nat) : (s.refusal p code i sub).lin = s.lin := rfl
@[simp] theorem State.refusal_linSlots (p : DPath) (code i sub : Nat) : (s.refusal p code i sub).linSlots = s.linSlots := rfl
@[simp] theorem State.refusal_nmt (p : DPath) (code i sub : Nat) : (s.refusal p code i sub).nmt = s.nmt := rfl
@[simp] theorem State.refusal_emcyInhibit (p : DPath) (code i sub : Nat) : (s.refusal p code i sub).emcyInhibit = s.emcyInhibit := rfl
@[simp] theorem State.refusal_emcyWait (p : DPath) (code i sub : Nat) : (s.refusal p code i sub).emcyWait = s.emcyWait := rfl
@[simp] theorem State.refusal_errors (p : DPath) (code i sub : Nat) : (s.refusal p code i sub).errors = s.errors := rfl
@[simp] theorem State.refusal_hbLost (p : DPath) (code i sub : Nat) : (s.refusal p code i sub).hbLost = s.hbLost := rfl
@[simp] theorem State.refusal_core (p : DPath) (code i sub : Nat) : (s.refusal p code i sub).core = s.core := rfl
@[simp] theorem State.refusal_bteNext (p : DPath) (code i sub : Nat) : (s.refusal p code i sub).bteNext = s.bteNext := rfl
@[simp] theorem State.refusal_flash (p : DPath) (code i sub : Nat) : (s.refusal p code i sub).flash = s.flash := rfl
@[simp] theorem State.refusal_flashBank (p : DPath) (code i sub : Nat) : (s.refusal p code i sub).flashBank = s.flashBank := rfl
@[simp] theorem State.refusal_ecc (p : DPath) (code i sub : Nat) : (s.refusal p code i sub).ecc = s.ecc := rfl
@[simp] theorem State.refusal_pwr (p : DPath) (code i sub : Nat) : (s.refusal p code i sub).pwr = s.pwr := rfl
@[simp] theorem State.refusal_errUp (p : DPath) (code i sub : Nat) : (s.refusal p code i sub).errUp = s.errUp := rfl
@[simp] theorem State.refusal_acc (p : DPath) (code i sub : Nat) : (s.refusal p code i sub).acc = s.acc := rfl
@[simp] theorem State.refusal_svc (p : DPath) (code i sub : Nat) : (s.refusal p code i sub).svc = s.svc := rfl
@[simp] theorem State.refusal_net (p : DPath) (code i sub : Nat) : (s.refusal p code i sub).net = s.net := rfl
@[simp] theorem State.refusal_fresh (p : DPath) (code i sub : Nat) : (s.refusal p code i sub).fresh = s.fresh := rfl
@[simp] theorem State.refusal_up (p : DPath) (code i sub : Nat) : (s.refusal p code i sub).up = s.up := rfl
@[simp] theorem State.refusal_sent (p : DPath) (code i sub : Nat) : (s.refusal p code i sub).sent = s.sent := rfl
@[simp] theorem State.refusal_pending (p : DPath) (code i sub : Nat) : (s.refusal p code i sub).pending = s.pending := rfl

end Sys2Proof.Machine
end

