-- ==== Sys2Proof/Laws/Tab.lean ====
section
/-!
SUPPORT. Laws/Tab.lean: reading a table after setting an entry, and that setting keeps the canonical form.
-/
namespace Sys2Proof.Machine

variable {α : Type}

theorem tabGet_erase_same (d : α) (t : Tab α) (k : Nat) : tabGet d (tabErase t k) k = d := by
  induction t with
  | nil => rfl
  | cons p t ih =>
    obtain ⟨j, a⟩ := p
    by_cases h : j = k <;> simp [tabErase, tabGet, h, ih]

theorem tabGet_erase_other (d : α) (t : Tab α) {j k : Nat} (h : j ≠ k) : tabGet d (tabErase t k) j = tabGet d t j := by
  induction t with
  | nil => rfl
  | cons p t ih =>
    obtain ⟨i, a⟩ := p
    by_cases hk : i = k
    · have hij : ¬ k = j := fun e => h e.symm
      simp [tabErase, tabGet, hk, ih, hij]
    · by_cases hj : i = j
      · subst hj
        simp [tabErase, tabGet, h]
      · simp [tabErase, tabGet, hk, ih, hj]

theorem tabGet_insert_same (d : α) (t : Tab α) (k : Nat) (v : α) (h : ∀ p ∈ t, p.1 ≠ k) : tabGet d (tabInsert t k v) k = v := by
  induction t with
  | nil => simp [tabInsert, tabGet]
  | cons p t ih =>
    obtain ⟨j, a⟩ := p
    have hj : j ≠ k := h (j, a) (by simp)
    have ht : ∀ q ∈ t, q.1 ≠ k := fun q hq => h q (by simp [hq])
    by_cases hlt : k < j <;> simp [tabInsert, tabGet, hlt, hj, ih ht]

theorem tabGet_insert_other (d : α) (t : Tab α) {j k : Nat} (v : α) (h : j ≠ k) : tabGet d (tabInsert t k v) j = tabGet d t j := by
  have hk : ¬ k = j := fun e => h e.symm
  induction t with
  | nil => simp [tabInsert, tabGet, hk]
  | cons p t ih =>
    obtain ⟨i, a⟩ := p
    simp only [tabInsert]
    split <;> simp [tabGet, hk, ih]

theorem tabErase_no_key (t : Tab α) (k : Nat) : ∀ p ∈ tabErase t k, p.1 ≠ k := by
  induction t with
  | nil => simp [tabErase]
  | cons p t ih =>
    obtain ⟨j, a⟩ := p
    by_cases h : j = k
    · simpa [tabErase, h] using ih
    · intro q hq
      simp only [tabErase, h, if_false, List.mem_cons] at hq
      rcases hq with rfl | hq
      · exact h
      · exact ih q hq

/-- An entry reads as it was set. -/
@[simp] theorem tabGet_set_same [DecidableEq α] (d : α) (t : Tab α) (k : Nat) (v : α) : tabGet d (tabSet d t k v) k = v := by
  unfold tabSet
  split
  · next h => rw [tabGet_erase_same, h]
  · exact tabGet_insert_same d _ k v (tabErase_no_key t k)

/-- Every other entry reads as before. -/
theorem tabGet_set_other [DecidableEq α] (d e : α) (t : Tab α) {j k : Nat} (v : α) (h : j ≠ k) :
    tabGet e (tabSet d t k v) j = tabGet e t j := by
  unfold tabSet
  split
  · exact tabGet_erase_other e t h
  · rw [tabGet_insert_other e _ v h, tabGet_erase_other e t h]

/-- Both cases in one. -/
theorem tabGet_set [DecidableEq α] (d : α) (t : Tab α) (j k : Nat) (v : α) :
    tabGet d (tabSet d t k v) j = if j = k then v else tabGet d t j := by
  split
  · next h => subst h; exact tabGet_set_same d t j v
  · next h => exact tabGet_set_other d d t v h

/-! ## The canonical form -/

theorem tabWfFrom_mono [DecidableEq α] (d : Nat → α) (t : Tab α) {lo : Option Nat} {n : Nat} (hlo : ∀ m, lo = some m → m ≤ n)
    (h : tabWfFrom d (some n) t = true) : tabWfFrom d lo t = true := by
  cases t with
  | nil => rfl
  | cons p t =>
    obtain ⟨j, a⟩ := p
    simp only [tabWfFrom, Bool.and_eq_true, decide_eq_true_eq] at h ⊢
    refine ⟨⟨?_, h.1.2⟩, h.2⟩
    cases lo with
    | none => rfl
    | some m => have := hlo m rfl; simp only [decide_eq_true_eq]; omega

theorem tabWfFrom_erase [DecidableEq α] (d : Nat → α) (t : Tab α) (k : Nat) :
    ∀ lo, tabWfFrom d lo t = true → tabWfFrom d lo (tabErase t k) = true := by
  induction t with
  | nil => intro lo h; exact h
  | cons p t ih =>
    obtain ⟨j, a⟩ := p
    intro lo h
    simp only [tabWfFrom, Bool.and_eq_true] at h
    by_cases hj : j = k
    · simp only [tabErase, hj, if_true]
      refine ih lo (tabWfFrom_mono d t (n := j) ?_ h.2)
      intro m hm
      subst hm
      have := h.1.1
      simp only [decide_eq_true_eq] at this
      omega
    · simp only [tabErase, hj, if_false, tabWfFrom, Bool.and_eq_true]
      exact ⟨h.1, ih (some j) h.2⟩

theorem tabWfFrom_insert [DecidableEq α] (d : Nat → α) (t : Tab α) (k : Nat) (v : α) (hv : v ≠ d k) (hk : ∀ p ∈ t, p.1 ≠ k) :
    ∀ lo, (∀ m, lo = some m → m < k) → tabWfFrom d lo t = true → tabWfFrom d lo (tabInsert t k v) = true := by
  induction t with
  | nil =>
    intro lo hlo _
    cases lo with
    | none => simp [tabInsert, tabWfFrom, hv]
    | some m => simp [tabInsert, tabWfFrom, hv, hlo m rfl]
  | cons p t ih =>
    obtain ⟨j, a⟩ := p
    intro lo hlo h
    have hj : j ≠ k := hk (j, a) (by simp)
    have ht : ∀ q ∈ t, q.1 ≠ k := fun q hq => hk q (by simp [hq])
    simp only [tabWfFrom, Bool.and_eq_true] at h
    by_cases hlt : k < j
    · simp only [tabInsert, hlt, if_true, tabWfFrom, Bool.and_eq_true, decide_eq_true_eq]
      refine ⟨⟨?_, hv⟩, ⟨trivial, ?_⟩, h.2⟩
      · cases lo with
        | none => rfl
        | some m => simp only [decide_eq_true_eq]; exact hlo m rfl
      · have := h.1.2; simpa using this
    · simp only [tabInsert, hlt, if_false, tabWfFrom, Bool.and_eq_true]
      refine ⟨h.1, ih ht (some j) ?_ h.2⟩
      intro m hm
      cases hm
      omega

/-- Setting an entry keeps the canonical form, when the table's default agrees with what the key reads as. -/
theorem tabSet_wf [DecidableEq α] (d : Nat → α) (t : Tab α) (k : Nat) (v : α) (h : tabWf d t = true) : tabWf d (tabSet (d k) t k v) = true := by
  unfold tabSet tabWf at *
  split
  · exact tabWfFrom_erase d t k none h
  · next hv =>
    exact tabWfFrom_insert d _ k v hv (tabErase_no_key t k) none (fun m hm => by cases hm) (tabWfFrom_erase d t k none h)

/-- The empty table is in canonical form. -/
theorem tabWf_nil [DecidableEq α] (d : Nat → α) : tabWf d ([] : Tab α) = true := rfl

end Sys2Proof.Machine
end

