-- ==== Sys2Proof/Laws/Ops.lean ====
section
/-!
SUPPORT. Laws/Ops.lean: reading registers, fields, waiting values, cores and bytes after they are written.
-/
namespace Sys2Proof.Machine

/-! ## Keys -/

theorem Reg.ctorIdx_inj {a b : Reg} (h : a.ctorIdx = b.ctorIdx) : a = b := by
  have := congrArg Reg.ofNat h
  rwa [Reg.ofNat_ctorIdx, Reg.ofNat_ctorIdx] at this

theorem Reg.ctorIdx_lt (a : Reg) : a.ctorIdx < 512 := by cases a <;> decide

/-- A key names one register and one index. -/
theorem regKey_inj {r q : Reg} {n m : Nat} (h : regKey r n = regKey q m) : r = q ∧ n = m := by
  unfold regKey at h
  have h1 := Reg.ctorIdx_lt r
  have h2 := Reg.ctorIdx_lt q
  exact ⟨Reg.ctorIdx_inj (by omega), by omega⟩

/-! ## Registers -/

@[simp] theorem State.rd_wr_same (s : State) (r : Reg) (n : Nat) (w : Word) : (s.wr r n w).rd r n = w := by simp [State.rd, State.wr]

theorem State.rd_wr_other (s : State) {r q : Reg} {n m : Nat} (w : Word) (h : q ≠ r ∨ m ≠ n) : (s.wr r n w).rd q m = s.rd q m := by
  have hk : regKey q m ≠ regKey r n := fun e => by
    have := regKey_inj e
    rcases h with h | h
    · exact h this.1
    · exact h this.2
  simp [State.rd, State.wr, tabGet_set_other _ _ _ _ hk]

/-- A register after a write of any register. -/
theorem State.rd_wr (s : State) (r q : Reg) (n m : Nat) (w : Word) :
    (s.wr r n w).rd q m = if q = r ∧ m = n then w else s.rd q m := by
  split
  · next h => obtain ⟨rfl, rfl⟩ := h; simp
  · next h => exact s.rd_wr_other w (by by_cases hq : q = r <;> simp_all)

/-! ## Fields -/

theorem word_toNat (n : Nat) : (word n).toNat = n % 2 ^ 32 := by simp [word]

/-- Bit `i` of a word after a field is put into it. -/
theorem putBits_bit (w : Word) (lo wd v i : Nat) (hi : i < 32) :
    (putBits w lo wd v).getLsbD i = if lo ≤ i ∧ i < lo + wd then v.testBit (i - lo) else w.getLsbD i := by
  have hm : ((2 ^ wd - 1) * 2 ^ lo).testBit i = decide (lo ≤ i ∧ i < lo + wd) := by
    rw [Nat.mul_comm, Nat.testBit_two_pow_mul, Nat.testBit_two_pow_sub_one]
    by_cases h : lo ≤ i <;> simp [h]
    omega
  have hv : (v % 2 ^ wd * 2 ^ lo).testBit i = (decide (lo ≤ i ∧ i < lo + wd) && v.testBit (i - lo)) := by
    rw [Nat.mul_comm, Nat.testBit_two_pow_mul, Nat.testBit_mod_two_pow]
    by_cases h : lo ≤ i
    · have : (i - lo < wd) = (i < lo + wd) := by simp only [eq_iff_iff]; omega
      simp [h, this]
    · simp [h]
  simp only [putBits, word, BitVec.getLsbD_or, BitVec.getLsbD_and, BitVec.getLsbD_not, BitVec.getLsbD_ofNat, hi, hm, hv, decide_true, Bool.true_and]
  by_cases h : lo ≤ i ∧ i < lo + wd <;> simp [h]

/-- Bit `i` of a field of a number. -/
theorem bitsOf_bit (n lo wd i : Nat) : (bitsOf n lo wd).testBit i = (decide (i < wd) && n.testBit (lo + i)) := by
  rw [bitsOf, Nat.testBit_mod_two_pow, Nat.testBit_div_two_pow, Nat.add_comm]

/-- A field reads as it was put. -/
theorem bitsOf_putBits_same (w : Word) (lo wd v : Nat) (h : lo + wd ≤ 32) : bitsOf (putBits w lo wd v).toNat lo wd = v % 2 ^ wd := by
  apply Nat.eq_of_testBit_eq
  intro i
  rw [bitsOf_bit, Nat.testBit_mod_two_pow]
  by_cases hi : i < wd
  · have h1 := putBits_bit w lo wd v (lo + i) (by omega)
    rw [BitVec.getLsbD] at h1
    rw [h1]
    simp [hi]
  · simp [hi]

/-- A field beside the one that is put reads as before. -/
theorem bitsOf_putBits_other (w : Word) (lo wd v lo' wd' : Nat) (h : lo' + wd' ≤ 32) (hd : lo' + wd' ≤ lo ∨ lo + wd ≤ lo') :
    bitsOf (putBits w lo wd v).toNat lo' wd' = bitsOf w.toNat lo' wd' := by
  apply Nat.eq_of_testBit_eq
  intro i
  rw [bitsOf_bit, bitsOf_bit]
  by_cases hi : i < wd'
  · have h1 := putBits_bit w lo wd v (lo' + i) (by omega)
    have hn : ¬ (lo ≤ lo' + i ∧ lo' + i < lo + wd) := by omega
    rw [BitVec.getLsbD, BitVec.getLsbD] at h1
    rw [h1]
    simp [hn]
  · simp [hi]

/-- A field reads as it was set. -/
theorem State.getF_setF_same (s : State) (f : Fld) (n v : Nat) (h : f.lo + f.wd ≤ 32) : (s.setF f n v).getF f n = v % 2 ^ f.wd := by
  simp [State.getF, State.setF, bitsOf_putBits_same _ _ _ _ h]

/-- A field of another register, or of another index, reads as before. -/
theorem State.getF_setF_reg (s : State) (f g : Fld) (n m v : Nat) (h : g.reg ≠ f.reg ∨ m ≠ n) : (s.setF f n v).getF g m = s.getF g m := by
  simp [State.getF, State.setF, s.rd_wr_other _ h]

/-- A field beside the one that is set, in the same register, reads as before. -/
theorem State.getF_setF_beside (s : State) (f g : Fld) (n v : Nat) (hr : g.reg = f.reg) (h : g.lo + g.wd ≤ 32)
    (hd : g.lo + g.wd ≤ f.lo ∨ f.lo + f.wd ≤ g.lo) : (s.setF f n v).getF g n = s.getF g n := by
  simp [State.getF, State.setF, hr, bitsOf_putBits_other _ _ _ _ _ _ h hd]

/-- A flag reads as it was set. -/
theorem State.flag_setB_same (s : State) (f : Fld) (n : Nat) (b : Bool) (h : f.lo + f.wd ≤ 32) (hw : f.wd = 1) : (s.setB f n b).flag f n = b := by
  unfold State.flag State.setB
  rw [s.getF_setF_same f n _ h, hw]
  cases b <;> rfl

/-- A flag of another register, or of another index, reads as before. -/
theorem State.flag_setB_reg (s : State) (f g : Fld) (n m : Nat) (b : Bool) (h : g.reg ≠ f.reg ∨ m ≠ n) :
    (s.setB f n b).flag g m = s.flag g m := by
  unfold State.flag State.setB
  rw [s.getF_setF_reg f g n m _ h]

theorem State.rd_setF_other (s : State) (f : Fld) (n v : Nat) {r : Reg} {m : Nat} (h : r ≠ f.reg ∨ m ≠ n) : (s.setF f n v).rd r m = s.rd r m := by
  simp [State.setF, s.rd_wr_other _ h]

/-! ## Updates that leave the register file alone -/

theorem State.rd_of_regs {s t : State} (h : t.regs = s.regs) (r : Reg) (n : Nat) : t.rd r n = s.rd r n := by simp [State.rd, h]
theorem State.getF_of_regs {s t : State} (h : t.regs = s.regs) (f : Fld) (n : Nat) : t.getF f n = s.getF f n := by simp [State.getF, State.rd, h]
theorem State.flag_of_regs {s t : State} (h : t.regs = s.regs) (f : Fld) (n : Nat) : t.flag f n = s.flag f n := by
  simp [State.flag, State.getF, State.rd, h]

/-! ## Waiting values (R34 to R36) -/

@[simp] theorem State.heldOf_hold_same (s : State) (r : Reg) (n : Nat) (w : Word) : (s.hold r n w).heldOf r n = some w := by
  simp [State.heldOf, State.hold]

@[simp] theorem State.heldOf_unhold_same (s : State) (r : Reg) (n : Nat) : (s.unhold r n).heldOf r n = none := by simp [State.heldOf, State.unhold]

/-- An apply point brings the waiting value into force, and it waits no more. -/
theorem State.applyHeld_some (s : State) {r : Reg} {n : Nat} {w : Word} (h : s.heldOf r n = some w) :
    (s.applyHeld r n).rd r n = w ∧ (s.applyHeld r n).heldOf r n = none := by
  simp only [State.applyHeld, h]
  constructor
  · simp
  · simp [State.heldOf, State.unhold, State.wr]

/-- Without a waiting value an apply point changes nothing. -/
theorem State.applyHeld_none (s : State) {r : Reg} {n : Nat} (h : s.heldOf r n = none) : s.applyHeld r n = s := by simp [State.applyHeld, h]

/-! ## Cores -/

@[simp] theorem State.co_setCo_same (s : State) (c : Nat) (x : Core) : (s.setCo c x).co c = x := by simp [State.co, State.setCo]
theorem State.co_setCo_other (s : State) {c d : Nat} (x : Core) (h : d ≠ c) : (s.setCo c x).co d = s.co d := by
  simp [State.co, State.setCo, tabGet_set_other _ _ _ _ h]

/-! ## Memory (R431) -/

@[simp] theorem State.memByte_set_same (s : State) (a : Nat) (b : Byte) : (s.memByteSet a b).memByte a = b := by simp [State.memByte, State.memByteSet]
theorem State.memByte_set_other (s : State) {a c : Nat} (b : Byte) (h : c ≠ a) : (s.memByteSet a b).memByte c = s.memByte c := by
  simp [State.memByte, State.memByteSet, tabGet_set_other _ _ _ _ h]

/-- A store of one byte keeps the canonical form. -/
theorem State.memByteSet_wf (s : State) (a : Nat) (b : Byte) (h : Memory.wf s.mem = true) : Memory.wf (s.memByteSet a b).mem = true := by
  unfold Memory.wf State.memByteSet at *
  exact tabSet_wf memBlank s.mem a b h

/-- So does a store of any number of bytes. -/
theorem State.memBytesSet_wf (l : List Byte) : ∀ (s : State) (a : Nat), Memory.wf s.mem = true → Memory.wf (s.memBytesSet a l).mem = true := by
  induction l with
  | nil => intro s a h; exact h
  | cons b t ih => intro s a h; exact ih _ _ (s.memByteSet_wf a b h)

/-- A byte outside the stored bytes reads as before. -/
theorem State.memByte_memBytesSet_outside (l : List Byte) :
    ∀ (s : State) (a c : Nat), (c < a ∨ a + l.length ≤ c) → (s.memBytesSet a l).memByte c = s.memByte c := by
  induction l with
  | nil => intro s a c _; rfl
  | cons b t ih =>
    intro s a c h
    simp only [State.memBytesSet]
    rw [ih]
    · refine s.memByte_set_other b ?_
      simp only [List.length_cons] at h
      omega
    · rcases h with h | h
      · left; omega
      · right; simp at h; omega

/-- A stored byte reads as it was stored. -/
theorem State.memByte_memBytesSet_inside (l : List Byte) :
    ∀ (s : State) (a i : Nat), i < l.length → (s.memBytesSet a l).memByte (a + i) = l.getD i 0 := by
  induction l with
  | nil => intro s a i h; simp at h
  | cons b t ih =>
    intro s a i h
    simp only [State.memBytesSet]
    cases i with
    | zero =>
      rw [State.memByte_memBytesSet_outside]
      · simp
      · left; omega
    | succ i =>
      have := ih (s.memByteSet a b) (a + 1) i (by simpa using h)
      rw [show a + (i + 1) = a + 1 + i by omega, this]
      simp

end Sys2Proof.Machine
end

