-- ==== Sys2Proof/Laws/Step.lean ====
section
/-!
SUPPORT. Laws/Step.lean: what the end of every command does, and the shape that every meaning has.
-/
namespace Sys2Proof.Machine

/-! ## The error register settles (R56, R535) -/

/-- What an EMCY that leaves changes: the error field, the inhibit time, and what is sent. -/
theorem State.emcyOut_frame (s : State) (e : Emcy) : ∃ es inh l, s.emcyOut e = { s with errors := es, emcyInhibit := inh, sent := l } := by
  unfold State.emcyOut
  by_cases h : s.emcyOn = true
  · simp only [h, if_true]
    exact ⟨_, _, _, rfl⟩
  · simp only [h]
    exact ⟨_, _, s.sent, rfl⟩

/-- What an EMCY changes: the error field, the waiting EMCYs, the inhibit time, and what is sent. -/
theorem emcy_frame (s : State) (e : Emcy) : ∃ es w inh l, s.emcy e = { s with errors := es, emcyWait := w, emcyInhibit := inh, sent := l } := by
  unfold State.emcy
  split
  · exact ⟨s.errors, s.emcyWait, s.emcyInhibit, s.sent, rfl⟩
  · split
    · exact ⟨s.errors, _, s.emcyInhibit, s.sent, rfl⟩
    · obtain ⟨es, inh, l, h⟩ := State.emcyOut_frame s e
      exact ⟨es, s.emcyWait, inh, l, h⟩

/-- What settling changes. -/
theorem settle_frame (s : State) :
    ∃ up es w inh l, settle s = { s with errUp := up, errors := es, emcyWait := w, emcyInhibit := inh, sent := l } := by
  unfold settle
  dsimp only
  split
  · exact ⟨s.errUp, s.errors, s.emcyWait, s.emcyInhibit, s.sent, rfl⟩
  · split
    · exact ⟨_, s.errors, s.emcyWait, s.emcyInhibit, s.sent, rfl⟩
    · obtain ⟨es, w, inh, l, h⟩ := emcy_frame { s with errUp := false } { code := 0 }
      exact ⟨false, es, w, inh, l, by rw [h]⟩

@[simp] theorem settle_regs (s : State) : (settle s).regs = s.regs := by obtain ⟨_, _, _, _, _, h⟩ := settle_frame s; rw [h]

/-- The error register reads the same before and after settling: an EMCY is no error. -/
theorem errorReg_settle (s : State) : (settle s).errorReg = s.errorReg := by
  obtain ⟨_, _, _, _, _, h⟩ := settle_frame s
  rw [h]
  rfl

/-- After settling, what was reported agrees with the error register. -/
theorem settle_settled (s : State) : errSettled (settle s) := by
  unfold errSettled
  rw [errorReg_settle]
  unfold settle
  dsimp only
  split
  · next h => exact h.symm
  · split
    · next h => exact h.symm
    · next h =>
      obtain ⟨_, _, _, _, h2⟩ := emcy_frame { s with errUp := false } { code := 0 }
      rw [h2]
      simp_all

/-! ## The end of a command -/

@[simp] theorem finish_pending (s t : State) : (finish s t).pending = s.pending := rfl
@[simp] theorem finish_ident (s t : State) : (finish s t).ident = s.ident := rfl

/-- The end of a command leaves the error register settled, when what is set at manufacture is as it was. -/
theorem finish_settled (s t : State) : errSettled (finish s t) := settle_settled t

/-- What the end of a command changes of the state that it is given. -/
theorem finish_frame (s t : State) : ∃ up es w inh l, finish s t =
    { t with ident := s.ident, pending := s.pending, errUp := up, errors := es, emcyWait := w, emcyInhibit := inh, sent := l } := by
  obtain ⟨up, es, w, inh, l, h⟩ := settle_frame t
  exact ⟨up, es, w, inh, l, by unfold finish; rw [h]⟩

@[simp] theorem finish_regs (s t : State) : (finish s t).regs = t.regs := by obtain ⟨_, _, _, _, _, h⟩ := finish_frame s t; rw [h]
@[simp] theorem finish_held (s t : State) : (finish s t).held = t.held := by obtain ⟨_, _, _, _, _, h⟩ := finish_frame s t; rw [h]
@[simp] theorem finish_queues (s t : State) : (finish s t).queues = t.queues := by obtain ⟨_, _, _, _, _, h⟩ := finish_frame s t; rw [h]
@[simp] theorem finish_dom (s t : State) : (finish s t).dom = t.dom := by obtain ⟨_, _, _, _, _, h⟩ := finish_frame s t; rw [h]
@[simp] theorem finish_transit (s t : State) : (finish s t).transit = t.transit := by obtain ⟨_, _, _, _, _, h⟩ := finish_frame s t; rw [h]
@[simp] theorem finish_supply (s t : State) : (finish s t).supply = t.supply := by obtain ⟨_, _, _, _, _, h⟩ := finish_frame s t; rw [h]
@[simp] theorem finish_irq (s t : State) : (finish s t).irq = t.irq := by obtain ⟨_, _, _, _, _, h⟩ := finish_frame s t; rw [h]
@[simp] theorem finish_raised (s t : State) : (finish s t).raised = t.raised := by obtain ⟨_, _, _, _, _, h⟩ := finish_frame s t; rw [h]
@[simp] theorem finish_fcru (s t : State) : (finish s t).fcru = t.fcru := by obtain ⟨_, _, _, _, _, h⟩ := finish_frame s t; rw [h]
@[simp] theorem finish_alm (s t : State) : (finish s t).alm = t.alm := by obtain ⟨_, _, _, _, _, h⟩ := finish_frame s t; rw [h]
@[simp] theorem finish_mst (s t : State) : (finish s t).mst = t.mst := by obtain ⟨_, _, _, _, _, h⟩ := finish_frame s t; rw [h]
@[simp] theorem finish_wcuChan (s t : State) : (finish s t).wcuChan = t.wcuChan := by obtain ⟨_, _, _, _, _, h⟩ := finish_frame s t; rw [h]
@[simp] theorem finish_wcuBlocked (s t : State) : (finish s t).wcuBlocked = t.wcuBlocked := by obtain ⟨_, _, _, _, _, h⟩ := finish_frame s t; rw [h]
@[simp] theorem finish_chan (s t : State) : (finish s t).chan = t.chan := by obtain ⟨_, _, _, _, _, h⟩ := finish_frame s t; rw [h]
@[simp] theorem finish_tollFeed (s t : State) : (finish s t).tollFeed = t.tollFeed := by obtain ⟨_, _, _, _, _, h⟩ := finish_frame s t; rw [h]
@[simp] theorem finish_tollWait (s t : State) : (finish s t).tollWait = t.tollWait := by obtain ⟨_, _, _, _, _, h⟩ := finish_frame s t; rw [h]
@[simp] theorem finish_sns (s t : State) : (finish s t).sns = t.sns := by obtain ⟨_, _, _, _, _, h⟩ := finish_frame s t; rw [h]
@[simp] theorem finish_snsSlot (s t : State) : (finish s t).snsSlot = t.snsSlot := by obtain ⟨_, _, _, _, _, h⟩ := finish_frame s t; rw [h]
@[simp] theorem finish_cyc (s t : State) : (finish s t).cyc = t.cyc := by obtain ⟨_, _, _, _, _, h⟩ := finish_frame s t; rw [h]
@[simp] theorem finish_odoAcc (s t : State) : (finish s t).odoAcc = t.odoAcc := by obtain ⟨_, _, _, _, _, h⟩ := finish_frame s t; rw [h]
@[simp] theorem finish_odoEnergy (s t : State) : (finish s t).odoEnergy = t.odoEnergy := by obtain ⟨_, _, _, _, _, h⟩ := finish_frame s t; rw [h]
@[simp] theorem finish_valve (s t : State) : (finish s t).valve = t.valve := by obtain ⟨_, _, _, _, _, h⟩ := finish_frame s t; rw [h]
@[simp] theorem finish_rechgEnd (s t : State) : (finish s t).rechgEnd = t.rechgEnd := by obtain ⟨_, _, _, _, _, h⟩ := finish_frame s t; rw [h]
@[simp] theorem finish_boostCut (s t : State) : (finish s t).boostCut = t.boostCut := by obtain ⟨_, _, _, _, _, h⟩ := finish_frame s t; rw [h]
@[simp] theorem finish_sin (s t : State) : (finish s t).sin = t.sin := by obtain ⟨_, _, _, _, _, h⟩ := finish_frame s t; rw [h]
@[simp] theorem finish_fio (s t : State) : (finish s t).fio = t.fio := by obtain ⟨_, _, _, _, _, h⟩ := finish_frame s t; rw [h]
@[simp] theorem finish_fioPause (s t : State) : (finish s t).fioPause = t.fioPause := by obtain ⟨_, _, _, _, _, h⟩ := finish_frame s t; rw [h]
@[simp] theorem finish_fioHot (s t : State) : (finish s t).fioHot = t.fioHot := by obtain ⟨_, _, _, _, _, h⟩ := finish_frame s t; rw [h]
@[simp] theorem finish_fioForced (s t : State) : (finish s t).fioForced = t.fioForced := by obtain ⟨_, _, _, _, _, h⟩ := finish_frame s t; rw [h]
@[simp] theorem finish_refused (s t : State) : (finish s t).refused = t.refused := by obtain ⟨_, _, _, _, _, h⟩ := finish_frame s t; rw [h]
@[simp] theorem finish_od (s t : State) : (finish s t).od = t.od := by obtain ⟨_, _, _, _, _, h⟩ := finish_frame s t; rw [h]
@[simp] theorem finish_odNext (s t : State) : (finish s t).odNext = t.odNext := by obtain ⟨_, _, _, _, _, h⟩ := finish_frame s t; rw [h]
@[simp] theorem finish_dict (s t : State) : (finish s t).dict = t.dict := by obtain ⟨_, _, _, _, _, h⟩ := finish_frame s t; rw [h]
@[simp] theorem finish_eth (s t : State) : (finish s t).eth = t.eth := by obtain ⟨_, _, _, _, _, h⟩ := finish_frame s t; rw [h]
@[simp] theorem finish_mem (s t : State) : (finish s t).mem = t.mem := by obtain ⟨_, _, _, _, _, h⟩ := finish_frame s t; rw [h]
@[simp] theorem finish_mbuf (s t : State) : (finish s t).mbuf = t.mbuf := by obtain ⟨_, _, _, _, _, h⟩ := finish_frame s t; rw [h]
@[simp] theorem finish_mbFail (s t : State) : (finish s t).mbFail = t.mbFail := by obtain ⟨_, _, _, _, _, h⟩ := finish_frame s t; rw [h]
@[simp] theorem finish_mbAbort (s t : State) : (finish s t).mbAbort = t.mbAbort := by obtain ⟨_, _, _, _, _, h⟩ := finish_frame s t; rw [h]
@[simp] theorem finish_canLostf (s t : State) : (finish s t).canLostf = t.canLostf := by obtain ⟨_, _, _, _, _, h⟩ := finish_frame s t; rw [h]
@[simp] theorem finish_canRecover (s t : State) : (finish s t).canRecover = t.canRecover := by obtain ⟨_, _, _, _, _, h⟩ := finish_frame s t; rw [h]
@[simp] theorem finish_lin (s t : State) : (finish s t).lin = t.lin := by obtain ⟨_, _, _, _, _, h⟩ := finish_frame s t; rw [h]
@[simp] theorem finish_linSlots (s t : State) : (finish s t).linSlots = t.linSlots := by obtain ⟨_, _, _, _, _, h⟩ := finish_frame s t; rw [h]
@[simp] theorem finish_nmt (s t : State) : (finish s t).nmt = t.nmt := by obtain ⟨_, _, _, _, _, h⟩ := finish_frame s t; rw [h]
@[simp] theorem finish_hbLost (s t : State) : (finish s t).hbLost = t.hbLost := by obtain ⟨_, _, _, _, _, h⟩ := finish_frame s t; rw [h]
@[simp] theorem finish_core (s t : State) : (finish s t).core = t.core := by obtain ⟨_, _, _, _, _, h⟩ := finish_frame s t; rw [h]
@[simp] theorem finish_bteNext (s t : State) : (finish s t).bteNext = t.bteNext := by obtain ⟨_, _, _, _, _, h⟩ := finish_frame s t; rw [h]
@[simp] theorem finish_flash (s t : State) : (finish s t).flash = t.flash := by obtain ⟨_, _, _, _, _, h⟩ := finish_frame s t; rw [h]
@[simp] theorem finish_flashBank (s t : State) : (finish s t).flashBank = t.flashBank := by obtain ⟨_, _, _, _, _, h⟩ := finish_frame s t; rw [h]
@[simp] theorem finish_ecc (s t : State) : (finish s t).ecc = t.ecc := by obtain ⟨_, _, _, _, _, h⟩ := finish_frame s t; rw [h]
@[simp] theorem finish_pwr (s t : State) : (finish s t).pwr = t.pwr := by obtain ⟨_, _, _, _, _, h⟩ := finish_frame s t; rw [h]
@[simp] theorem finish_acc (s t : State) : (finish s t).acc = t.acc := by obtain ⟨_, _, _, _, _, h⟩ := finish_frame s t; rw [h]
@[simp] theorem finish_svc (s t : State) : (finish s t).svc = t.svc := by obtain ⟨_, _, _, _, _, h⟩ := finish_frame s t; rw [h]
@[simp] theorem finish_net (s t : State) : (finish s t).net = t.net := by obtain ⟨_, _, _, _, _, h⟩ := finish_frame s t; rw [h]
@[simp] theorem finish_fresh (s t : State) : (finish s t).fresh = t.fresh := by obtain ⟨_, _, _, _, _, h⟩ := finish_frame s t; rw [h]
@[simp] theorem finish_up (s t : State) : (finish s t).up = t.up := by obtain ⟨_, _, _, _, _, h⟩ := finish_frame s t; rw [h]

@[simp] theorem rd_finish (s t : State) (r : Reg) (n : Nat) : (finish s t).rd r n = t.rd r n := State.rd_of_regs (finish_regs s t) r n
@[simp] theorem getF_finish (s t : State) (f : Fld) (n : Nat) : (finish s t).getF f n = t.getF f n := State.getF_of_regs (finish_regs s t) f n
@[simp] theorem flag_finish (s t : State) (f : Fld) (n : Nat) : (finish s t).flag f n = t.flag f n := State.flag_of_regs (finish_regs s t) f n
@[simp] theorem heldOf_finish (s t : State) (r : Reg) (n : Nat) : (finish s t).heldOf r n = t.heldOf r n := by simp [State.heldOf]
@[simp] theorem co_finish (s t : State) (c : Nat) : (finish s t).co c = t.co c := by simp [State.co]
@[simp] theorem greg_finish (s t : State) (c g : Nat) : (finish s t).greg c g = t.greg c g := by simp [State.greg]
@[simp] theorem memByte_finish (s t : State) (a : Nat) : (finish s t).memByte a = t.memByte a := by simp [State.memByte]
@[simp] theorem q_finish (s t : State) (i : QId) : (finish s t).q i = t.q i := by simp [State.q]

/-! ## Steps -/

/-- A step runs the command at the front on the rest of the queue. -/
theorem step_front (s : State) (c : Instr) (rest : List Instr) (h : s.pending = c :: rest) : step s = exec c { s with pending := rest } := by
  simp [step, h]

/-- Every meaning ends in a next state: the end of the command on some state. -/
theorem exec_finish (i : Instr) (s : State) : ∃ t, exec i s = .next (finish s t) := by
  cases i <;> exact ⟨_, rfl⟩

end Sys2Proof.Machine
end

