-- ==== Sys2Proof/Laws/Units.lean ====
section
/-!
SUPPORT. Laws/Units.lean: the unit updates leave the register file alone and read back; registers and fields read as before after an update of
another register.
-/
namespace Sys2Proof.Machine

variable (s : State)

/-! ## Registers and fields beside the one written -/

theorem State.rd_wr_ne {r q : Reg} {n m : Nat} {w : Word} (h : q ≠ r) : (s.wr r n w).rd q m = s.rd q m := s.rd_wr_other w (.inl h)
theorem State.rd_setF_ne {f : Fld} {q : Reg} {n m v : Nat} (h : q ≠ f.reg) : (s.setF f n v).rd q m = s.rd q m := s.rd_setF_other f n v (.inl h)
theorem State.rd_setB_ne {f : Fld} {q : Reg} {n m : Nat} {b : Bool} (h : q ≠ f.reg) : (s.setB f n b).rd q m = s.rd q m := s.rd_setF_ne h
theorem State.getF_wr_ne {r : Reg} {g : Fld} {n m : Nat} {w : Word} (h : g.reg ≠ r) : (s.wr r n w).getF g m = s.getF g m := by
  unfold State.getF
  rw [s.rd_wr_ne h]
theorem State.flag_wr_ne {r : Reg} {g : Fld} {n m : Nat} {w : Word} (h : g.reg ≠ r) : (s.wr r n w).flag g m = s.flag g m := by
  unfold State.flag
  rw [s.getF_wr_ne h]
theorem State.getF_setF_ne {f g : Fld} {n m v : Nat} (h : g.reg ≠ f.reg) : (s.setF f n v).getF g m = s.getF g m := s.getF_setF_reg f g n m v (.inl h)
theorem State.getF_setB_ne {f g : Fld} {n m : Nat} {b : Bool} (h : g.reg ≠ f.reg) : (s.setB f n b).getF g m = s.getF g m := s.getF_setF_ne h
theorem State.flag_setF_ne {f g : Fld} {n m v : Nat} (h : g.reg ≠ f.reg) : (s.setF f n v).flag g m = s.flag g m := by
  unfold State.flag
  rw [s.getF_setF_ne h]
theorem State.flag_setB_ne {f g : Fld} {n m : Nat} {b : Bool} (h : g.reg ≠ f.reg) : (s.setB f n b).flag g m = s.flag g m := s.flag_setF_ne h

/-! ## Fields of one register -/

theorem State.getF_setF_apart {f g : Fld} {n v : Nat} (h : g.reg = f.reg ∧ g.lo + g.wd ≤ 32 ∧ (g.lo + g.wd ≤ f.lo ∨ f.lo + f.wd ≤ g.lo)) :
    (s.setF f n v).getF g n = s.getF g n := s.getF_setF_beside f g n v h.1 h.2.1 h.2.2
theorem State.getF_setB_apart {f g : Fld} {n : Nat} {b : Bool} (h : g.reg = f.reg ∧ g.lo + g.wd ≤ 32 ∧ (g.lo + g.wd ≤ f.lo ∨ f.lo + f.wd ≤ g.lo)) :
    (s.setB f n b).getF g n = s.getF g n := s.getF_setF_apart h
theorem State.flag_setF_apart {f g : Fld} {n v : Nat} (h : g.reg = f.reg ∧ g.lo + g.wd ≤ 32 ∧ (g.lo + g.wd ≤ f.lo ∨ f.lo + f.wd ≤ g.lo)) :
    (s.setF f n v).flag g n = s.flag g n := by
  unfold State.flag
  rw [s.getF_setF_apart h]
theorem State.flag_setB_apart {f g : Fld} {n : Nat} {b : Bool} (h : g.reg = f.reg ∧ g.lo + g.wd ≤ 32 ∧ (g.lo + g.wd ≤ f.lo ∨ f.lo + f.wd ≤ g.lo)) :
    (s.setB f n b).flag g n = s.flag g n := s.flag_setF_apart h
theorem State.getF_setF_eq {f : Fld} {n v : Nat} (h : f.lo + f.wd ≤ 32) : (s.setF f n v).getF f n = v % 2 ^ f.wd := s.getF_setF_same f n v h
theorem State.flag_setB_eq {f : Fld} {n : Nat} {b : Bool} (h : f.lo + f.wd ≤ 32 ∧ f.wd = 1) : (s.setB f n b).flag f n = b :=
  s.flag_setB_same f n b h.1 h.2

/-! ## Unit updates -/

@[simp] theorem State.setCh_regs (n : Nat) (x : Chan) : (s.setCh n x).regs = s.regs := rfl
@[simp] theorem State.ch_setCh_same (n : Nat) (x : Chan) : (s.setCh n x).ch n = x := by simp [State.ch, State.setCh]
@[simp] theorem State.setTf_regs (n : Nat) (x : TollFeed) : (s.setTf n x).regs = s.regs := rfl
@[simp] theorem State.tf_setTf_same (n : Nat) (x : TollFeed) : (s.setTf n x).tf n = x := by simp [State.tf, State.setTf]
@[simp] theorem State.setVlv_regs (n : Nat) (x : Valve) : (s.setVlv n x).regs = s.regs := rfl
@[simp] theorem State.vlv_setVlv_same (n : Nat) (x : Valve) : (s.setVlv n x).vlv n = x := by simp [State.vlv, State.setVlv]
@[simp] theorem State.setSi_regs (n : Nat) (x : Input) : (s.setSi n x).regs = s.regs := rfl
@[simp] theorem State.si_setSi_same (n : Nat) (x : Input) : (s.setSi n x).si n = x := by simp [State.si, State.setSi]
@[simp] theorem State.setFp_regs (n : Nat) (x : Input) : (s.setFp n x).regs = s.regs := rfl
@[simp] theorem State.fp_setFp_same (n : Nat) (x : Input) : (s.setFp n x).fp n = x := by simp [State.fp, State.setFp]
@[simp] theorem State.setLn_regs (n : Nat) (x : Lin) : (s.setLn n x).regs = s.regs := rfl
@[simp] theorem State.ln_setLn_same (n : Nat) (x : Lin) : (s.setLn n x).ln n = x := by simp [State.ln, State.setLn]
@[simp] theorem State.setSns_regs (n : Nat) (x : SnsChan) : (s.setSns n x).regs = s.regs := rfl
@[simp] theorem State.snsCh_setSns_same (n : Nat) (x : SnsChan) : (s.setSns n x).snsCh n = x := by simp [State.snsCh, State.setSns]
@[simp] theorem State.setTw_regs (n : Nat) (x : WcuChan) : (s.setTw n x).regs = s.regs := rfl
@[simp] theorem State.tw_setTw_same (n : Nat) (x : WcuChan) : (s.setTw n x).tw n = x := by simp [State.tw, State.setTw]
@[simp] theorem State.setFsrc_regs (n : Nat) (x : FcruSrc) : (s.setFsrc n x).regs = s.regs := rfl
@[simp] theorem State.fsrc_setFsrc_same (n : Nat) (x : FcruSrc) : (s.setFsrc n x).fsrc n = x := by simp [State.fsrc, State.setFsrc]
@[simp] theorem State.setEntry_regs (n : Nat) (x : Option MstEntry) : (s.setEntry n x).regs = s.regs := rfl
@[simp] theorem State.setPtpPort_regs (n : Nat) (x : PtpPort) : (s.setPtpPort n x).regs = s.regs := rfl
@[simp] theorem State.ptpPort_setPtpPort_same (n : Nat) (x : PtpPort) : (s.setPtpPort n x).ptpPort n = x := by simp [State.ptpPort, State.setPtpPort]
@[simp] theorem State.setTp_regs (n : Nat) (x : Tpdo) : (setTp n x s).regs = s.regs := rfl
@[simp] theorem State.tp_setTp_same (n : Nat) (x : Tpdo) : (setTp n x s).tp n = x := by simp [State.tp, setTp]
@[simp] theorem State.setSess_regs (n : Nat) (x : Option Sess) : (setSess n x s).regs = s.regs := rfl
@[simp] theorem State.sess_setSess_same (n : Nat) (x : Option Sess) : (setSess n x s).sess n = x := by simp [State.sess, setSess]
@[simp] theorem State.setSdo_regs (n : Nat) (x : Option Sdo) : (setSdo n x s).regs = s.regs := rfl
@[simp] theorem State.sdo_setSdo_same (n : Nat) (x : Option Sdo) : (setSdo n x s).sdo n = x := by simp [State.sdo, setSdo]
@[simp] theorem State.setEth_regs (e : Eth) : (setEth e s).regs = s.regs := rfl
@[simp] theorem State.odoCount_regs (a b c d : Nat) : (s.odoCount a b c d).regs = s.regs := rfl

/-! ## Reads after updates that leave the register file alone -/

@[simp] theorem State.rd_emit (e : Sent) (q : Reg) (m : Nat) : (s.emit e).rd q m = s.rd q m := State.rd_of_regs (by simp) q m
@[simp] theorem State.getF_emit (e : Sent) (f : Fld) (m : Nat) : (s.emit e).getF f m = s.getF f m := State.getF_of_regs (by simp) f m
@[simp] theorem State.flag_emit (e : Sent) (f : Fld) (m : Nat) : (s.emit e).flag f m = s.flag f m := State.flag_of_regs (by simp) f m
@[simp] theorem State.rd_hold (r : Reg) (n : Nat) (w : Word) (q : Reg) (m : Nat) : (s.hold r n w).rd q m = s.rd q m := State.rd_of_regs (by simp) q m
@[simp] theorem State.getF_hold (r : Reg) (n : Nat) (w : Word) (f : Fld) (m : Nat) : (s.hold r n w).getF f m = s.getF f m := State.getF_of_regs (by simp) f m
@[simp] theorem State.flag_hold (r : Reg) (n : Nat) (w : Word) (f : Fld) (m : Nat) : (s.hold r n w).flag f m = s.flag f m := State.flag_of_regs (by simp) f m
@[simp] theorem State.rd_unhold (r : Reg) (n : Nat) (q : Reg) (m : Nat) : (s.unhold r n).rd q m = s.rd q m := State.rd_of_regs (by simp) q m
@[simp] theorem State.getF_unhold (r : Reg) (n : Nat) (f : Fld) (m : Nat) : (s.unhold r n).getF f m = s.getF f m := State.getF_of_regs (by simp) f m
@[simp] theorem State.flag_unhold (r : Reg) (n : Nat) (f : Fld) (m : Nat) : (s.unhold r n).flag f m = s.flag f m := State.flag_of_regs (by simp) f m
@[simp] theorem State.rd_used  (q : Reg) (m : Nat) : (s.used).rd q m = s.rd q m := State.rd_of_regs (by simp) q m
@[simp] theorem State.getF_used  (f : Fld) (m : Nat) : (s.used).getF f m = s.getF f m := State.getF_of_regs (by simp) f m
@[simp] theorem State.flag_used  (f : Fld) (m : Nat) : (s.used).flag f m = s.flag f m := State.flag_of_regs (by simp) f m
@[simp] theorem State.rd_setCo (c : Nat) (x : Core) (q : Reg) (m : Nat) : (s.setCo c x).rd q m = s.rd q m := State.rd_of_regs (by simp) q m
@[simp] theorem State.getF_setCo (c : Nat) (x : Core) (f : Fld) (m : Nat) : (s.setCo c x).getF f m = s.getF f m := State.getF_of_regs (by simp) f m
@[simp] theorem State.flag_setCo (c : Nat) (x : Core) (f : Fld) (m : Nat) : (s.setCo c x).flag f m = s.flag f m := State.flag_of_regs (by simp) f m
@[simp] theorem State.rd_setQ (i : QId) (v : RecQ) (q : Reg) (m : Nat) : (s.setQ i v).rd q m = s.rd q m := State.rd_of_regs (by simp) q m
@[simp] theorem State.getF_setQ (i : QId) (v : RecQ) (f : Fld) (m : Nat) : (s.setQ i v).getF f m = s.getF f m := State.getF_of_regs (by simp) f m
@[simp] theorem State.flag_setQ (i : QId) (v : RecQ) (f : Fld) (m : Nat) : (s.setQ i v).flag f m = s.flag f m := State.flag_of_regs (by simp) f m
@[simp] theorem State.rd_request (l : Nat) (q : Reg) (m : Nat) : (s.request l).rd q m = s.rd q m := State.rd_of_regs (by simp) q m
@[simp] theorem State.getF_request (l : Nat) (f : Fld) (m : Nat) : (s.request l).getF f m = s.getF f m := State.getF_of_regs (by simp) f m
@[simp] theorem State.flag_request (l : Nat) (f : Fld) (m : Nat) : (s.request l).flag f m = s.flag f m := State.flag_of_regs (by simp) f m
@[simp] theorem State.rd_withdraw (l : Nat) (q : Reg) (m : Nat) : (s.withdraw l).rd q m = s.rd q m := State.rd_of_regs (by simp) q m
@[simp] theorem State.getF_withdraw (l : Nat) (f : Fld) (m : Nat) : (s.withdraw l).getF f m = s.getF f m := State.getF_of_regs (by simp) f m
@[simp] theorem State.flag_withdraw (l : Nat) (f : Fld) (m : Nat) : (s.withdraw l).flag f m = s.flag f m := State.flag_of_regs (by simp) f m
@[simp] theorem State.rd_raise (a b : Nat) (q : Reg) (m : Nat) : (s.raise a b).rd q m = s.rd q m := State.rd_of_regs (by simp) q m
@[simp] theorem State.getF_raise (a b : Nat) (f : Fld) (m : Nat) : (s.raise a b).getF f m = s.getF f m := State.getF_of_regs (by simp) f m
@[simp] theorem State.flag_raise (a b : Nat) (f : Fld) (m : Nat) : (s.raise a b).flag f m = s.flag f m := State.flag_of_regs (by simp) f m
@[simp] theorem State.rd_memByteSet (a : Nat) (b : Byte) (q : Reg) (m : Nat) : (s.memByteSet a b).rd q m = s.rd q m := State.rd_of_regs (by simp) q m
@[simp] theorem State.getF_memByteSet (a : Nat) (b : Byte) (f : Fld) (m : Nat) : (s.memByteSet a b).getF f m = s.getF f m := State.getF_of_regs (by simp) f m
@[simp] theorem State.flag_memByteSet (a : Nat) (b : Byte) (f : Fld) (m : Nat) : (s.memByteSet a b).flag f m = s.flag f m := State.flag_of_regs (by simp) f m
@[simp] theorem State.rd_odSet (i sub v : Nat) (q : Reg) (m : Nat) : (s.odSet i sub v).rd q m = s.rd q m := State.rd_of_regs (by simp) q m
@[simp] theorem State.getF_odSet (i sub v : Nat) (f : Fld) (m : Nat) : (s.odSet i sub v).getF f m = s.getF f m := State.getF_of_regs (by simp) f m
@[simp] theorem State.flag_odSet (i sub v : Nat) (f : Fld) (m : Nat) : (s.odSet i sub v).flag f m = s.flag f m := State.flag_of_regs (by simp) f m
@[simp] theorem State.rd_refusal (p : DPath) (code i sub : Nat) (q : Reg) (m : Nat) : (s.refusal p code i sub).rd q m = s.rd q m := State.rd_of_regs (by simp) q m
@[simp] theorem State.getF_refusal (p : DPath) (code i sub : Nat) (f : Fld) (m : Nat) : (s.refusal p code i sub).getF f m = s.getF f m := State.getF_of_regs (by simp) f m
@[simp] theorem State.flag_refusal (p : DPath) (code i sub : Nat) (f : Fld) (m : Nat) : (s.refusal p code i sub).flag f m = s.flag f m := State.flag_of_regs (by simp) f m
@[simp] theorem State.rd_setCh (n : Nat) (x : Chan) (q : Reg) (m : Nat) : (s.setCh n x).rd q m = s.rd q m := State.rd_of_regs (by simp) q m
@[simp] theorem State.getF_setCh (n : Nat) (x : Chan) (f : Fld) (m : Nat) : (s.setCh n x).getF f m = s.getF f m := State.getF_of_regs (by simp) f m
@[simp] theorem State.flag_setCh (n : Nat) (x : Chan) (f : Fld) (m : Nat) : (s.setCh n x).flag f m = s.flag f m := State.flag_of_regs (by simp) f m
@[simp] theorem State.rd_setTf (n : Nat) (x : TollFeed) (q : Reg) (m : Nat) : (s.setTf n x).rd q m = s.rd q m := State.rd_of_regs (by simp) q m
@[simp] theorem State.getF_setTf (n : Nat) (x : TollFeed) (f : Fld) (m : Nat) : (s.setTf n x).getF f m = s.getF f m := State.getF_of_regs (by simp) f m
@[simp] theorem State.flag_setTf (n : Nat) (x : TollFeed) (f : Fld) (m : Nat) : (s.setTf n x).flag f m = s.flag f m := State.flag_of_regs (by simp) f m
@[simp] theorem State.rd_setVlv (n : Nat) (x : Valve) (q : Reg) (m : Nat) : (s.setVlv n x).rd q m = s.rd q m := State.rd_of_regs (by simp) q m
@[simp] theorem State.getF_setVlv (n : Nat) (x : Valve) (f : Fld) (m : Nat) : (s.setVlv n x).getF f m = s.getF f m := State.getF_of_regs (by simp) f m
@[simp] theorem State.flag_setVlv (n : Nat) (x : Valve) (f : Fld) (m : Nat) : (s.setVlv n x).flag f m = s.flag f m := State.flag_of_regs (by simp) f m
@[simp] theorem State.rd_setSi (n : Nat) (x : Input) (q : Reg) (m : Nat) : (s.setSi n x).rd q m = s.rd q m := State.rd_of_regs (by simp) q m
@[simp] theorem State.getF_setSi (n : Nat) (x : Input) (f : Fld) (m : Nat) : (s.setSi n x).getF f m = s.getF f m := State.getF_of_regs (by simp) f m
@[simp] theorem State.flag_setSi (n : Nat) (x : Input) (f : Fld) (m : Nat) : (s.setSi n x).flag f m = s.flag f m := State.flag_of_regs (by simp) f m
@[simp] theorem State.rd_setFp (n : Nat) (x : Input) (q : Reg) (m : Nat) : (s.setFp n x).rd q m = s.rd q m := State.rd_of_regs (by simp) q m
@[simp] theorem State.getF_setFp (n : Nat) (x : Input) (f : Fld) (m : Nat) : (s.setFp n x).getF f m = s.getF f m := State.getF_of_regs (by simp) f m
@[simp] theorem State.flag_setFp (n : Nat) (x : Input) (f : Fld) (m : Nat) : (s.setFp n x).flag f m = s.flag f m := State.flag_of_regs (by simp) f m
@[simp] theorem State.rd_setLn (n : Nat) (x : Lin) (q : Reg) (m : Nat) : (s.setLn n x).rd q m = s.rd q m := State.rd_of_regs (by simp) q m
@[simp] theorem State.getF_setLn (n : Nat) (x : Lin) (f : Fld) (m : Nat) : (s.setLn n x).getF f m = s.getF f m := State.getF_of_regs (by simp) f m
@[simp] theorem State.flag_setLn (n : Nat) (x : Lin) (f : Fld) (m : Nat) : (s.setLn n x).flag f m = s.flag f m := State.flag_of_regs (by simp) f m
@[simp] theorem State.rd_setSns (n : Nat) (x : SnsChan) (q : Reg) (m : Nat) : (s.setSns n x).rd q m = s.rd q m := State.rd_of_regs (by simp) q m
@[simp] theorem State.getF_setSns (n : Nat) (x : SnsChan) (f : Fld) (m : Nat) : (s.setSns n x).getF f m = s.getF f m := State.getF_of_regs (by simp) f m
@[simp] theorem State.flag_setSns (n : Nat) (x : SnsChan) (f : Fld) (m : Nat) : (s.setSns n x).flag f m = s.flag f m := State.flag_of_regs (by simp) f m
@[simp] theorem State.rd_setTw (n : Nat) (x : WcuChan) (q : Reg) (m : Nat) : (s.setTw n x).rd q m = s.rd q m := State.rd_of_regs (by simp) q m
@[simp] theorem State.getF_setTw (n : Nat) (x : WcuChan) (f : Fld) (m : Nat) : (s.setTw n x).getF f m = s.getF f m := State.getF_of_regs (by simp) f m
@[simp] theorem State.flag_setTw (n : Nat) (x : WcuChan) (f : Fld) (m : Nat) : (s.setTw n x).flag f m = s.flag f m := State.flag_of_regs (by simp) f m
@[simp] theorem State.rd_setFsrc (n : Nat) (x : FcruSrc) (q : Reg) (m : Nat) : (s.setFsrc n x).rd q m = s.rd q m := State.rd_of_regs (by simp) q m
@[simp] theorem State.getF_setFsrc (n : Nat) (x : FcruSrc) (f : Fld) (m : Nat) : (s.setFsrc n x).getF f m = s.getF f m := State.getF_of_regs (by simp) f m
@[simp] theorem State.flag_setFsrc (n : Nat) (x : FcruSrc) (f : Fld) (m : Nat) : (s.setFsrc n x).flag f m = s.flag f m := State.flag_of_regs (by simp) f m
@[simp] theorem State.rd_setEntry (n : Nat) (x : Option MstEntry) (q : Reg) (m : Nat) : (s.setEntry n x).rd q m = s.rd q m := State.rd_of_regs (by simp) q m
@[simp] theorem State.getF_setEntry (n : Nat) (x : Option MstEntry) (f : Fld) (m : Nat) : (s.setEntry n x).getF f m = s.getF f m := State.getF_of_regs (by simp) f m
@[simp] theorem State.flag_setEntry (n : Nat) (x : Option MstEntry) (f : Fld) (m : Nat) : (s.setEntry n x).flag f m = s.flag f m := State.flag_of_regs (by simp) f m
@[simp] theorem State.rd_setPtpPort (n : Nat) (x : PtpPort) (q : Reg) (m : Nat) : (s.setPtpPort n x).rd q m = s.rd q m := State.rd_of_regs (by simp) q m
@[simp] theorem State.getF_setPtpPort (n : Nat) (x : PtpPort) (f : Fld) (m : Nat) : (s.setPtpPort n x).getF f m = s.getF f m := State.getF_of_regs (by simp) f m
@[simp] theorem State.flag_setPtpPort (n : Nat) (x : PtpPort) (f : Fld) (m : Nat) : (s.setPtpPort n x).flag f m = s.flag f m := State.flag_of_regs (by simp) f m
@[simp] theorem State.rd_setTp (n : Nat) (x : Tpdo) (q : Reg) (m : Nat) : (setTp n x s).rd q m = s.rd q m := State.rd_of_regs (by simp) q m
@[simp] theorem State.getF_setTp (n : Nat) (x : Tpdo) (f : Fld) (m : Nat) : (setTp n x s).getF f m = s.getF f m := State.getF_of_regs (by simp) f m
@[simp] theorem State.flag_setTp (n : Nat) (x : Tpdo) (f : Fld) (m : Nat) : (setTp n x s).flag f m = s.flag f m := State.flag_of_regs (by simp) f m
@[simp] theorem State.rd_setSess (n : Nat) (x : Option Sess) (q : Reg) (m : Nat) : (setSess n x s).rd q m = s.rd q m := State.rd_of_regs (by simp) q m
@[simp] theorem State.getF_setSess (n : Nat) (x : Option Sess) (f : Fld) (m : Nat) : (setSess n x s).getF f m = s.getF f m := State.getF_of_regs (by simp) f m
@[simp] theorem State.flag_setSess (n : Nat) (x : Option Sess) (f : Fld) (m : Nat) : (setSess n x s).flag f m = s.flag f m := State.flag_of_regs (by simp) f m
@[simp] theorem State.rd_setSdo (n : Nat) (x : Option Sdo) (q : Reg) (m : Nat) : (setSdo n x s).rd q m = s.rd q m := State.rd_of_regs (by simp) q m
@[simp] theorem State.getF_setSdo (n : Nat) (x : Option Sdo) (f : Fld) (m : Nat) : (setSdo n x s).getF f m = s.getF f m := State.getF_of_regs (by simp) f m
@[simp] theorem State.flag_setSdo (n : Nat) (x : Option Sdo) (f : Fld) (m : Nat) : (setSdo n x s).flag f m = s.flag f m := State.flag_of_regs (by simp) f m
@[simp] theorem State.rd_setEth (e : Eth) (q : Reg) (m : Nat) : (setEth e s).rd q m = s.rd q m := State.rd_of_regs (by simp) q m
@[simp] theorem State.getF_setEth (e : Eth) (f : Fld) (m : Nat) : (setEth e s).getF f m = s.getF f m := State.getF_of_regs (by simp) f m
@[simp] theorem State.flag_setEth (e : Eth) (f : Fld) (m : Nat) : (setEth e s).flag f m = s.flag f m := State.flag_of_regs (by simp) f m
@[simp] theorem State.rd_odoCount (a b c d : Nat) (q : Reg) (m : Nat) : (s.odoCount a b c d).rd q m = s.rd q m := State.rd_of_regs (by simp) q m
@[simp] theorem State.getF_odoCount (a b c d : Nat) (f : Fld) (m : Nat) : (s.odoCount a b c d).getF f m = s.getF f m := State.getF_of_regs (by simp) f m
@[simp] theorem State.flag_odoCount (a b c d : Nat) (f : Fld) (m : Nat) : (s.odoCount a b c d).flag f m = s.flag f m := State.flag_of_regs (by simp) f m

/-! ## Reading what an update leaves -/

/-- A byte of data space reads from the memory alone. -/
theorem State.memByte_of_mem {s t : State} (h : t.mem = s.mem) (a : Nat) : t.memByte a = s.memByte a := by
  unfold State.memByte
  rw [h]

/-- A write of a register leaves every other register. -/
theorem State.rd_wr_but {s : State} {r q : Reg} {n m : Nat} {w : Word} (h : (q, m) ≠ (r, n)) : (s.wr r n w).rd q m = s.rd q m := by
  refine s.rd_wr_other w ?_
  by_cases e : q = r
  · exact .inr fun e2 => h (by rw [e, e2])
  · exact .inl e

/-- A write of a field leaves every other register. -/
theorem State.rd_setF_but {s : State} {f : Fld} {q : Reg} {n m v : Nat} (h : (q, m) ≠ (f.reg, n)) : (s.setF f n v).rd q m = s.rd q m :=
  State.rd_wr_but h
theorem State.rd_setB_but {s : State} {f : Fld} {q : Reg} {n m : Nat} {b : Bool} (h : (q, m) ≠ (f.reg, n)) : (s.setB f n b).rd q m = s.rd q m :=
  State.rd_wr_but h

/-! ## The inputs that cab access watches (R491, R499) -/

/-- Where no level of a switch input changes, cab access sees nothing. -/
theorem accInputs_same {s t : State} (h : ∀ n, t.sinLevel n = s.sinLevel n) : accInputs s t = t := by
  unfold accInputs
  simp only [h, Bool.and_not_self, Bool.false_eq_true, if_false, Bool.false_and, ite_self]

/-! ## What is sent (R56) -/

@[simp] theorem odVal_finish (s t : State) (i sub : Nat) : (finish s t).odVal i sub = t.odVal i sub := by
  simp [State.odVal, State.nodeId, State.odRaw]

/-- The end of a command sends nothing but EMCY 0x0000. -/
theorem sends_finish {s u : State} {l : List Sent} (h : u.sent = l ++ s.sent) : sends s (finish s u) l := by
  have hs : (finish s u).sent = (settle u).sent := rfl
  have hc : (finish s u).canOpenCh = u.canOpenCh := odVal_finish s u 0x2002 1
  have he : (finish s u).emcyId = u.emcyId := by
    unfold State.emcyId
    rw [odVal_finish]
  unfold sends
  rw [hs, hc, he, ← h]
  unfold settle
  dsimp only
  split
  · exact .inl rfl
  · split
    · exact .inl rfl
    · unfold State.emcy
      split
      · exact .inl rfl
      · split
        · exact .inl rfl
        · unfold State.emcyOut
          dsimp only
          split
          · exact .inr rfl
          · exact .inl rfl

/-! ## Accesses to absent resources (R9, R13) -/

/-- What an access to an absent resource changes: the flag and the address in IDN_STATUS. -/
theorem absentMark_spec (s : State) (a : Nat) (ha : a < 65536) :
    (absentMark a s).flag F.IDN_STATUS_ABSENT_ACCESS 0 = true ∧
    (s.flag F.IDN_STATUS_ABSENT_ACCESS 0 = false → (absentMark a s).getF F.IDN_STATUS_ABSENT_ADDR 0 = a) ∧
    (s.flag F.IDN_STATUS_ABSENT_ACCESS 0 = true → (absentMark a s).regs = s.regs) ∧
    (∀ r n, r ≠ .IDN_STATUS ∨ n ≠ 0 → (absentMark a s).rd r n = s.rd r n) ∧
    (absentMark a s).sent = s.sent ∧ (absentMark a s).mem = s.mem := by
  unfold absentMark
  by_cases h : s.flag F.IDN_STATUS_ABSENT_ACCESS 0 = true
  · rw [if_pos h]
    refine ⟨?_, ?_, ?_, ?_, rfl, rfl⟩ <;> simp [h]
  · rw [if_neg h]
    refine ⟨?_, fun _ => ?_, fun hh => absurd hh h, fun r n hr => ?_, rfl, rfl⟩
    · rw [State.flag_setF_apart _ (by decide), State.flag_setB_eq _ (by decide)]
    · rw [State.getF_setF_eq _ (by decide)]
      exact Nat.mod_eq_of_lt ha
    · rw [State.rd_setF_other _ _ _ _ hr]
      unfold State.setB
      rw [State.rd_setF_other _ _ _ _ hr]

/-! ## Repetition -/

/-- What every round of a repetition keeps, the repetition keeps. -/
theorem foldl_keeps {α β γ : Type} (p : β → γ) (g : β → α → β) (h : ∀ t a, p (g t a) = p t) (l : List α) : ∀ s, p (l.foldl g s) = p s := by
  induction l with
  | nil => intro s; rfl
  | cons a l ih => intro s; rw [List.foldl_cons, ih, h]

/-! ## EMCYs that have waited (R48, R49) -/

theorem emcysFlush_frame : ∀ (k : Nat) (s : State),
    ∃ es w inh l, emcysFlush k s = { s with errors := es, emcyWait := w, emcyInhibit := inh, sent := l }
  | 0, s => ⟨s.errors, s.emcyWait, s.emcyInhibit, s.sent, rfl⟩
  | k + 1, s => by
    unfold emcysFlush
    split
    · exact ⟨s.errors, s.emcyWait, s.emcyInhibit, s.sent, rfl⟩
    · split
      · exact ⟨s.errors, s.emcyWait, s.emcyInhibit, s.sent, rfl⟩
      · next e t h1 h2 =>
        obtain ⟨es, inh, l, h3⟩ := State.emcyOut_frame { s with emcyWait := t } e
        rw [h3]
        obtain ⟨es', w', inh', l', h4⟩ := emcysFlush_frame k { { s with emcyWait := t } with errors := es, emcyInhibit := inh, sent := l }
        rw [h4]
        exact ⟨es', w', inh', l', rfl⟩

/-- A change of the NMT state changes it, and lets waiting EMCYs out. -/
theorem nmtTo_spec (n : Nmt) (s : State) : ∃ es w inh l, nmtTo n s = { s with nmt := n, errors := es, emcyWait := w, emcyInhibit := inh, sent := l } := by
  obtain ⟨es, w, inh, l, h⟩ := emcysFlush_frame s.emcyWait.length { s with nmt := n }
  exact ⟨es, w, inh, l, h⟩

@[simp] theorem nmtTo_nmt (n : Nmt) (s : State) : (nmtTo n s).nmt = n := by obtain ⟨_, _, _, _, h⟩ := nmtTo_spec n s; rw [h]
@[simp] theorem nmtTo_dict (n : Nmt) (s : State) : (nmtTo n s).dict = s.dict := by obtain ⟨_, _, _, _, h⟩ := nmtTo_spec n s; rw [h]
@[simp] theorem nmtTo_regs (n : Nmt) (s : State) : (nmtTo n s).regs = s.regs := by obtain ⟨_, _, _, _, h⟩ := nmtTo_spec n s; rw [h]
@[simp] theorem nmtTo_mem (n : Nmt) (s : State) : (nmtTo n s).mem = s.mem := by obtain ⟨_, _, _, _, h⟩ := nmtTo_spec n s; rw [h]

/-- An EMCY leaves the register file and the memory alone. -/
@[simp] theorem emcyObj_regs (s : State) (a b c d : Nat) : (s.emcyObj a b c d).regs = s.regs := by
  obtain ⟨_, _, _, _, h⟩ := emcy_frame s { code := a, b3 := b, index := c, sub := d }
  unfold State.emcyObj
  rw [h]
@[simp] theorem emcyObj_mem (s : State) (a b c d : Nat) : (s.emcyObj a b c d).mem = s.mem := by
  obtain ⟨_, _, _, _, h⟩ := emcy_frame s { code := a, b3 := b, index := c, sub := d }
  unfold State.emcyObj
  rw [h]
@[simp] theorem rd_emcyObj (s : State) (a b c d : Nat) (r : Reg) (n : Nat) : (s.emcyObj a b c d).rd r n = s.rd r n := State.rd_of_regs (by simp) r n
@[simp] theorem getF_emcyObj (s : State) (a b c d : Nat) (f : Fld) (n : Nat) : (s.emcyObj a b c d).getF f n = s.getF f n :=
  State.getF_of_regs (by simp) f n
@[simp] theorem flag_emcyObj (s : State) (a b c d : Nat) (f : Fld) (n : Nat) : (s.emcyObj a b c d).flag f n = s.flag f n :=
  State.flag_of_regs (by simp) f n

end Sys2Proof.Machine
end

