-- ==== Sys2Proof/WellFormed.lean ====
section
/-!
DEFINITION. WellFormed.lean: the well-formed commands: every operand lies in the range that its bus, its field or its register admits. The meanings
are total and do not ask for it.
-/
namespace Sys2Proof

/-! ## Ranges -/

/-- A number fits `k` bits. -/
def fits (k n : Nat) : Bool := decide (n < 2 ^ k)

/-- A number that may be missing fits `k` bits. -/
def fitsOpt (k : Nat) (n : Option Nat) : Bool := n.all (fits k)

/-- At most `k` bytes. -/
def atMost (k : Nat) (d : List Byte) : Bool := decide (d.length ≤ k)

/-- The data bytes that a CAN length code stands for (R338): above 8 in an FD frame alone. -/
def dlcLength (fdf : Bool) (dlc : Nat) : Nat := if dlc ≤ 8 then dlc else if fdf then [12, 16, 20, 24, 32, 48, 64].getD (dlc - 9) 64 else 8

/-- A CAN frame: its identifier, its length code and its data agree; a remote frame has no data and is classic. -/
def canWf (f : CanFrame) : Bool :=
  fits (if f.ide then 29 else 11) f.id && fits 4 f.dlc && fits 32 f.sof && ! (f.rtr && f.fdf) && ! (f.brs && ! f.fdf) &&
    f.data.length == (if f.rtr then 0 else dlcLength f.fdf f.dlc)

/-- An Ethernet frame: addresses, tag and type fit their fields. -/
def ethWf (f : EthFrame) : Bool :=
  fits 48 f.dst && fits 48 f.src && fits 16 f.etype && fits 32 f.sfd && (f.tag.all fun t => fits 3 t.1 && fits 12 t.2)

/-- An SDO frame: a node's client and eight bytes at most. -/
def sdoWf (client : Nat) (d : List Byte) : Bool := fits 7 client && atMost 8 d

/-- A message of the object access protocol: its fields fit (R59). -/
def msgWf (m : ObjMsg) : Bool :=
  fits 32 m.who && fits 12 m.vid && fits 8 m.version && fits 8 m.typ && fits 16 m.flags && fits 32 m.session && fits 32 m.seq && fits 16 m.index &&
    fits 8 m.sub && fits 8 m.rsv1 && fits 32 m.offset && fits 16 m.length && fits 16 m.rsv2 && m.tag.length == 8

/-- A declared sub-entry: index, sub-index, and a default of its size. -/
def declWf (d : AppDecl) : Bool :=
  fits 16 d.index && fits 8 d.sub && (match d.size with | some k => d.dflt.length == k | none => true)

/-- A sample of each feed. -/
def l4 (feeds : List (Nat × Nat)) : Bool := decide (feeds.length ≤ 4)

/-- A command is well formed. -/
def Instr.wf (i : Instr) : Bool :=
  match i with
  | .registerWrite _ addr _ => fits 16 addr
  | .pendingValueApply addr => fits 16 addr
  | .absentAccess _ addr => fits 16 addr
  | .absentAccessClear _ _ again => fitsOpt 16 again
  | .sdoDownloadInitiate _ client d => sdoWf client d
  | .sdoDownloadSegment _ client d => sdoWf client d
  | .sdoUploadInitiate _ client d => sdoWf client d
  | .sdoUploadSegment _ client d => sdoWf client d
  | .sdoBlockDownloadInitiate _ client d => sdoWf client d
  | .sdoBlockDownloadSegment _ client d => sdoWf client d
  | .sdoBlockDownloadEnd _ client d => sdoWf client d
  | .sdoBlockUploadInitiate _ client d => sdoWf client d
  | .sdoBlockUploadAck _ client d => sdoWf client d
  | .sdoBlockUploadEnd _ client d => sdoWf client d
  | .sdoAbortReceived _ client => fits 7 client
  | .sdoProtocolTimeout _ => true
  | .rpdoReceived _ d => atMost 8 d
  | .tpdoEventTimerExpiry _ => true
  | .tpdoInhibitTimeExpiry _ => true
  | .syncReceived counter => fitsOpt 8 counter
  | .syncProduce => true
  | .timeReceived d => atMost 8 d
  | .timeProduce => true
  | .emcyInhibitExpiry => true
  | .heartbeatProduce => true
  | .heartbeatReceived node => fits 7 node
  | .heartbeatConsumerTimeout _ => true
  | .nmtStart node => fits 8 node
  | .nmtStop node => fits 8 node
  | .nmtEnterPreOperational node => fits 8 node
  | .nmtResetNode node => fits 8 node
  | .nmtResetCommunication node => fits 8 node
  | .sessionOpen m => msgWf m
  | .sessionClose m => msgWf m
  | .sessionRead m => msgWf m
  | .sessionWrite m => msgWf m
  | .sessionIdleTimeout _ => true
  | .appObjectDeclare l => l.all declWf
  | .appObjectAnswer _ _ abort => fits 32 abort
  | .appObjectTimeout _ => true
  | .switchDomainStart => true
  | .keepDomainStart => true
  | .commsDomainStart => true
  | .fieldDomainStart pins => fits 32 pins
  | .feedBandChange _ _ => true
  | .moduleSupplyBandChange _ _ => true
  | .groundStudLoss _ => true
  | .nsRollover => true
  | .shortTimeWrap => true
  | .almRole _ _ => true
  | .almStepWrite _ _ => true
  | .almanacStep => true
  | .almSecLoRead _ => true
  | .almShortRead _ => true
  | .almAddendWrite _ _ => true
  | .ppsEdge => true
  | .servoHoldoverTimeout => true
  | .ppsOkTimeout => true
  | .timeMessageCommit _ sec => fits 48 sec
  | .timeMessageDiscard => true
  | .tsync d sof => atMost 8 d && fits 32 sof
  | .fup d => atMost 8 d
  | .tsyncTimeout => true
  | .canSyncProduce => true
  | .canSyncFupSend sof => fits 32 sof
  | .ptpSync _ => true
  | .syncTransmit => true
  | .announce _ => true
  | .announceTransmit => true
  | .pdelayRequestTransmit _ => true
  | .peerDelayExchange _ _ => true
  | .rtcAlign => true
  | .aged _ _ => true
  | .milestoneSubmit _ req => match req with | some l => l.length == 18 | none => true
  | .milestoneCancel _ tag => fits 16 tag
  | .milestoneCancelAll _ => true
  | .mstResultRead _ => true
  | .milestoneRun _ => true
  | .mstCq0Read _ => true
  | .mstCq10Read _ => true
  | .mstLostClr _ _ => true
  | .mstEvtRead _ _ => true
  | .completionRecordRead _ => true
  | .wcuEn _ _ _ => true
  | .wcuGstart _ _ => true
  | .wcuGstop _ _ => true
  | .wcuPeriodBoundary _ => true
  | .wcuTopTurnaround _ => true
  | .wcuCompareMatch _ => true
  | .wcuCmpWrite _ _ _ => true
  | .wcuCaphRead _ _ => true
  | .wcuCapLostClr _ _ _ => true
  | .wcuArm _ _ _ => true
  | .captureRecordRead _ _ => true
  | .outLvlWrite _ _ _ => true
  | .outLatbWrite _ _ _ => true
  | .outLatsWrite _ _ _ => true
  | .outLatcWrite _ _ _ => true
  | .outApply _ _ _ => true
  | .ddinEdge _ _ => true
  | .inrushWindowEnd _ => true
  | .offDetected _ => true
  | .ignFilteredFall => true
  | .ignFilteredRise => true
  | .runonExpiry _ => true
  | .alignDelayEnd _ => true
  | .outputCrossing _ _ => true
  | .noCross _ => true
  | .outTrq0Read _ => true
  | .outTrq3Read _ => true
  | .outTrqLostClr _ _ => true
  | .outLtsecRead _ _ => true
  | .lastTransitionRead _ _ _ => true
  | .shortCircuitCutoff _ => true
  | .samplePublish _ _ _ => true
  | .lightConversion _ _ => true
  | .wireModelStep => true
  | .junctionOvertemp _ _ => true
  | .junctionCooled _ _ => true
  | .dipSet _ => true
  | .dipClear _ => true
  | .dipPauseTimeout _ => true
  | .backoffEnd _ => true
  | .retryReset _ => true
  | .planningStep feeds => l4 feeds
  | .shedding _ => true
  | .restoreOffer _ => true
  | .tollClr _ _ _ => true
  | .tollBudget _ _ _ => true
  | .ofsOld _ => true
  | .gainDue _ => true
  | .testerSessionStart _ => true
  | .testerSessionEnd => true
  | .signatureCaptureEnd _ x => x.length == 32
  | .relearn _ _ _ => true
  | .snsSigsel _ _ => true
  | .snsValRead _ _ => true
  | .vlvStart _ _ _ => true
  | .vlvOff _ _ _ => true
  | .vlvStartm _ _ => true
  | .vlvOffm _ _ => true
  | .boostFree _ => true
  | .peakReached _ => true
  | .strokeDip _ _ => true
  | .tmaxElapsed _ _ => true
  | .dwellElapsed _ => true
  | .holdmaxElapsed _ => true
  | .valveCurrentDecayed _ => true
  | .rechargeWindowEnd _ => true
  | .valveShort _ => true
  | .valveJunctionOvertemp _ => true
  | .highSideCutoff _ => true
  | .vlvClr _ _ _ => true
  | .vlvCntclr _ _ _ => true
  | .vlvEvq0Read _ => true
  | .vlvEvq3Read _ => true
  | .vlvEvqLostClr _ _ => true
  | .boostRailAvailable _ _ => true
  | .sinPinCrossing _ _ => true
  | .sinLevelChange _ => true
  | .sinResConversion _ _ => true
  | .sinPeriodTimeout _ => true
  | .sinEq0Read _ => true
  | .sinEq1Read _ => true
  | .sinEqLostClr _ _ => true
  | .edgeRecordRead _ => true
  | .pollSample levels => fits 4 levels
  | .fioInputChange _ => true
  | .fioOut _ _ => true
  | .fioOuts _ _ => true
  | .fioOutc _ _ => true
  | .fioKick _ _ => true
  | .fieldTimeout => true
  | .fioCq0Read _ => true
  | .fioCq1Read _ => true
  | .fioCqLostClr _ _ => true
  | .fioCosfClear _ _ => true
  | .fioFault _ _ => true
  | .suplow _ _ => true
  | .fioOvld _ => true
  | .fioOverloadRetry _ => true
  | .fioOvt _ _ => true
  | .fieldChangeRecordRead _ => true
  | .canModeWrite _ _ _ => true
  | .canConfigEnter _ => true
  | .canIntegrateComplete _ => true
  | .canFrameReceived _ f => canWf f
  | .canError _ _ _ _ tec rec_ => fits 9 tec && fits 8 rec_
  | .canBusOffRecovery _ => true
  | .canRecover _ _ _ => true
  | .canQueueWord0Read _ _ _ => true
  | .canQueueWord18Read _ _ _ => true
  | .canQueueLostClr _ _ _ _ => true
  | .canQueueRecordRead _ _ _ => true
  | .mailboxBufferWrite _ _ _ _ _ => true
  | .mbLoad _ _ _ _ => true
  | .mbReq _ _ _ _ => true
  | .mbAbort _ _ _ _ => true
  | .mbClear _ _ _ _ => true
  | .canTxSelect _ => true
  | .canTxSent _ sof => fits 32 sof
  | .canTxArbitrationLost _ => true
  | .canQuietEnd _ => true
  | .linEn _ _ _ => true
  | .linRun _ _ _ => true
  | .linSleep _ _ _ => true
  | .linWake _ _ _ => true
  | .linBusWake _ => true
  | .linWakeResume _ => true
  | .linSlotStart _ => true
  | .linFrameEnd _ _ data => atMost 8 data
  | .linBrktsWrite _ _ _ => true
  | .linRq0Read _ _ => true
  | .linRq3Read _ _ => true
  | .linRqLostClr _ _ _ => true
  | .linRecordRead _ _ => true
  | .ethFrameReceived _ f => ethWf f
  | .ethFrameTransmitted _ sfd => fits 32 sfd
  | .ethAddressAgeOut mac vid => fits 48 mac && fits 12 vid
  | .ethLinkUp _ _ => true
  | .ethLinkDown _ => true
  | .ethKick _ _ _ => true
  | .ethRxfRead _ _ => true
  | .ethCclr _ _ _ => true
  | .ethBufRead _ => true
  | .staticEntryValid _ _ _ => true
  | .svcEnRise => true
  | .svcEnFall => true
  | .svcFrameReceived f => ethWf f
  | .nmen _ _ => true
  | .wakereq _ _ => true
  | .nmVoteReceived _ id data => fits 11 id && atMost 8 data
  | .nmRoundEnd => true
  | .pointOfNoReturn => true
  | .nmEntryRetry => true
  | .entryT => true
  | .awakeTimerExpiry => true
  | .wakeRecognised _ => true
  | .confirmationWindowExpiry _ => true
  | .selectiveWakeMatch _ f => match f with | some x => canWf x | none => true
  | .rtcAlarm => true
  | .netRtcalm _ _ => true
  | .wakeLinkAddress addr _ => fits 7 addr
  | .wakeLinkWrite ptr _ => fits 8 ptr
  | .wakeLinkRead _ _ => true
  | .wakeLinkStop => true
  | .pwrRequestPolite _ target => fits 2 target
  | .pwrRequestForced _ target => fits 2 target
  | .noticeEnd => true
  | .pwrSaved _ _ => true
  | .saveTimeout => true
  | .align => true
  | .parkToDormantTest => true
  | .switchSupplyLoss => true
  | .pllLock pins => fits 32 pins
  | .domainsOn fieldPins => fits 32 fieldPins
  | .add _ _ => true
  | .sub _ _ => true
  | .and _ _ => true
  | .or _ _ => true
  | .xor _ _ => true
  | .shl _ _ => true
  | .shr _ _ => true
  | .sar _ _ => true
  | .cmp _ _ => true
  | .tst _ _ => true
  | .addi _ _ => true
  | .andi _ _ => true
  | .ori _ _ => true
  | .xori _ _ => true
  | .shli _ _ => true
  | .shri _ _ => true
  | .sari _ _ => true
  | .cmpi _ _ => true
  | .lui _ _ => true
  | .mulu _ _ => true
  | .muls _ _ => true
  | .multiplyComplete _ => true
  | .divu _ _ => true
  | .divs _ _ => true
  | .divideComplete _ => true
  | .ldw _ _ => true
  | .ldh _ _ => true
  | .ldhu _ _ => true
  | .ldb _ _ => true
  | .ldbu _ _ => true
  | .stw _ _ => true
  | .sth _ _ => true
  | .stb _ _ => true
  | .tbl _ _ => true
  | .inp _ _ => true
  | .inx _ _ => true
  | .out _ _ => true
  | .outx _ _ => true
  | .ios _ _ => true
  | .bcpy _ _ _ => true
  | .bfil _ _ _ => true
  | .bget _ _ _ => true
  | .bcmp _ _ _ => true
  | .bfnd _ _ _ => true
  | .bset _ _ => true
  | .br _ _ => true
  | .call _ _ => true
  | .jmpx _ _ => true
  | .callx _ _ => true
  | .ret _ _ => true
  | .reti _ _ => true
  | .bcc _ _ => true
  | .mfs _ _ => true
  | .mts _ _ => true
  | .waitev _ _ => true
  | .waitevWake _ => true
  | .sigev _ _ => true
  | .wtu _ _ => true
  | .wtuEnd _ => true
  | .sysc _ _ => true
  | .brk _ _ => true
  | .nop _ _ => true
  | .rspop _ _ => true
  | .rspush _ _ => true
  | .interruptEntry _ => true
  | .coreSwset _ _ => true
  | .coreStart _ => true
  | .bteStart _ _ _ => true
  | .bteAbort _ _ _ => true
  | .bteWord => true
  | .pairMiscompare _ _ => true
  | .fcruRsyncGo _ _ => true
  | .resyncComplete _ => true
  | .comparatorTestComplete _ _ => true
  | .comparatorTestRetry => true
  | .debugHalt _ => true
  | .debugAccess _ _ => true
  | .fcruSourceEvent _ => true
  | .fcruWindowEnd _ => true
  | .fcruSafeclr _ _ => true
  | .fcruPendClear _ _ _ => true
  | .fcruRaise _ _ => true
  | .fcruScfg _ _ => true
  | .fcruLog0Read _ => true
  | .fcruLog4Read _ => true
  | .fcruLogLostClr _ _ => true
  | .faultLogRecordRead _ => true
  | .muteEnd iface who => fits 4 iface && fits 32 who
  | .accScheduleTrigger => true
  | .accPoll _ _ => true
  | .accEnd _ _ => true
  | .accCalreq _ _ => true
  | .wakeTrainEnd => true
  | .accResp _ _ _ _ => true
  | .accReport _ _ _ _ counter tag => fits 32 counter && tag.length == 8
  | .roundEnd => true
  | .nextRound => true
  | .accSessionTimeout => true
  | .driveEnableFrame => true
  | .dewait => true
  | .withdrawnFrame => true
  | .tokenEnrolment _ _ _ => true
  | .updBegin _ => true
  | .updAbandon _ => true
  | .updRestart _ => true
  | .updConfirm _ => true
  | .eraseComplete => true
  | .imageSegment offset _ _ => fits 32 offset
  | .verifyComplete => true
  | .migrationEnd _ => true
  | .autoconf => true
  | .trialTimeout => true
  | .trialTimeSave => true
  | .pairingRecordWrite _ _ => true
  | .pairingStartCheck => true
  | .moduleUnpaired => true
  | .pairingChallenge nonce => nonce.length == 8
  | .integratorImageKey _ _ => true
  | .odometerSave => true
  | .odoSave _ _ => true
  | .odometerSecondSample _ _ => true
  | .odoSel _ _ => true
  | .almanacTick => true
  | .wcuCountStep _ => true
  | .fioPinCrossing _ _ => true
  | .debugResume _ => true
  | .accFinal => true
  | .fcruReactionComplete _ => true
  | .iselChange _ => true

end Sys2Proof
end

