-- ==== Sys2Proof/Tests/Slice0.lean ====
section
/-!
SUPPORT. Tests/Slice0.lean: witnesses of what the statements assume, one for each clause; ill-formed commands, which the checks refuse; and single steps
whose results the rules of the spec give.
-/
namespace Sys2Proof.Tests
-- A witness has many clauses: its decidability is long to find, and one theorem at a time keeps the memory small.
set_option Elab.async false
set_option synthInstance.maxSize 4000
set_option synthInstance.maxHeartbeats 400000
open Sys2Proof Sys2Proof.Machine

/-- A state of a PX-64 or a PX-48. -/
def on64 : State := { State.reset with ident := { variant := .px64 } }
def on48 : State := { State.reset with ident := { variant := .px48 } }

/-- CANopen runs on CAN0, and the node is in an NMT state. -/
def canOpen (n : Nmt) : State := { State.reset.setF F.CAN_STAT_STATE 0 2 with nmt := n }

/-- An eight-byte frame from numbers. -/
def fr (l : List Nat) : List Byte := l.map byte

theorem witness_stepRunsFront : ({ State.reset with pending := [.syncProduce] } : State).pending = .syncProduce :: [] := rfl

theorem witness_stepsGoOn : State.reset.pending = [] ∧ State.reset.nextTransit = none ∧ State.reset.almRuns = true ∧
    (let s := { State.reset with pwr := { State.reset.pwr with pll := false } }
     s.pending = [] ∧ s.nextTransit = none ∧ s.almRuns = false ∧ s.dom.keep = true) ∧
    (let s := { State.reset with transit := [{ cross := .toSwitch, highway := false, master := .core 0, addr := 0x1000, value := 1 }] }
     s.pending = [] ∧ s.nextTransit = some { cross := .toSwitch, highway := false, master := .core 0, addr := 0x1000, value := 1 }) := by decide

theorem witness_errorRegisterSettled : errSettled State.reset ∧ ∃ t, steps { State.reset with pending := [.ppsOkTimeout] } t := ⟨rfl, _, rfl⟩

theorem witness_errorResetReported :
    (let u := { canOpen .operational with errUp := true }
     exec .noticeEnd u = .next (finish u u) ∧ u.dom.core = true ∧ u.errUp = true ∧ u.errorReg = 0 ∧ u.emcyInhibit = false ∧ u.nmt ≠ .stopped ∧
      u.emcyOn = true) ∧
    (let u := { State.reset with errUp := true, emcyInhibit := true }
     exec .noticeEnd u = .next (finish u u) ∧ u.dom.core = true ∧ u.errUp = true ∧ u.errorReg = 0) ∧
    (let u := { State.reset with errUp := true, nmt := .stopped }
     exec .noticeEnd u = .next (finish u u) ∧ u.dom.core = true ∧ u.errUp = true ∧ u.errorReg = 0) :=
  ⟨⟨rfl, by decide⟩, ⟨rfl, by decide⟩, ⟨rfl, by decide⟩⟩

theorem witness_registerAccesses :
    (regAt (Reg.addr .OUT_THR 95) = some (.OUT_THR, 95) ∧ chanFitted State.reset.variant 95 = true ∧ reservedSet .OUT_THR 0x012C = false ∧
      outCfgOk .OUT_THR 95 0x012C = true ∧ bitOf (0x012C : Word).toNat 31 = false) ∧
    outCfgOk .OUT_THR 0 0 = false ∧ regAt 0xFFFF = none ∧
    (regAt (Reg.addr .ETH_QMAP 0) = some (.ETH_QMAP, 0) ∧ (State.reset.hold .ETH_QMAP 0 7).heldOf .ETH_QMAP 0 = some 7) ∧
    (regAt (Reg.addr .OUT_CFG 95) = some (.OUT_CFG, 95) ∧ regFitted on48.variant .OUT_CFG 95 = false ∧ Reg.addr .OUT_CFG 95 < 65536 ∧
      on48.flag F.IDN_STATUS_ABSENT_ACCESS 0 = false ∧ (on48.setB F.IDN_STATUS_ABSENT_ACCESS 0 true).flag F.IDN_STATUS_ABSENT_ACCESS 0 = true) ∧
    F.IDN_STATUS_ABSENT_ACCESS.on 1 = true ∧ F.IDN_STATUS_ABSENT_ACCESS.on 0xFFFFFFFE = false := by decide

theorem witness_lostAndAged :
    (∀ c : Fin 4, linFitted State.reset.variant c = true) ∧ (∀ c : Fin 8, canFitted State.reset.variant c = true) ∧
    (let q : RecQ := { recs := [{ words := [1, 2], at_ := 0 }, { words := [3, 4], at_ := 8 }], locked := true }
     qAgedAt .edge ≠ none ∧ q.recs[0]? = some { words := [1, 2], at_ := 0 } ∧ q.recs[1]? = some { words := [3, 4], at_ := 8 }) ∧
    (let w : Word := 0x40
     let s := { State.reset with eth := { State.reset.eth with desc := tabSet 0 [] (4 * (128 * 5 + 127) + 1) w } }
     tabGet 0 s.eth.desc (4 * (128 * 5 + 127) + 1) = w ∧ bitOf w.toNat 31 = false ∧ bitsOf w.toNat 0 11 ≠ 0) := by decide

/-- A segmented download of 0x2301 by client 5 on SDO server 0. -/
def sdoAt (x : Sdo) : State := setSdo 0 (some x) State.reset

theorem witness_sdoDownloads :
    State.reset.sdoServes 0 = true ∧ State.reset.mutedPartner 1 (State.reset.sdoPartner 0) = false ∧ State.reset.sdo 0 = none ∧
    (let d := fr [0x21, 0x17, 0x10, 0, 2, 0, 0, 0]
     d.length = 8 ∧ ccs d = 1 ∧ bitOf (byteAt d 0) 1 = false ∧ bitOf (byteAt d 0) 0 = true ∧
      downloadCode (.sdo 0) (frameIndex d) (frameSub d) (some (leNat (d.drop 4))) State.reset = 0) ∧
    (let x : Sdo := { client := 5, phase := .down, index := 0x1017, sub := 0, toggle := true }
     let d := fr [0x1A, 1, 2, 0, 0, 0, 0, 0]
     let e := fr [0x1B, 1, 2, 0, 0, 0, 0, 0]
     (sdoAt x).sdo 0 = some x ∧ (sdoAt x).sdoServes 0 = true ∧ (sdoAt x).mutedPartner 1 ((sdoAt x).sdoPartner 0) = false ∧ x.size = none ∧ ccs d = 0 ∧
      bitOf (byteAt d 0) 4 = x.toggle ∧ bitOf (byteAt d 0) 0 = false ∧ ccs e = 0 ∧ bitOf (byteAt e 0) 4 = x.toggle ∧ bitOf (byteAt e 0) 0 = true) ∧
    (let d := fr [0xC4, 0x17, 0x10, 0, 0, 0, 0, 0]
     ccs d = 6 ∧ bitOf (byteAt d 0) 0 = false ∧ bitOf (byteAt d 0) 1 = false ∧ downloadCode (.sdo 0) (frameIndex d) (frameSub d) none State.reset = 0) ∧
    (let x : Sdo := { client := 5, phase := .blockDown, index := 0x1017, sub := 0, blk := 127, seq := 125 }
     byteAt (fr [126, 0, 0, 0, 0, 0, 0, 0]) 0 = x.seq + 1 ∧ x.seq + 1 < x.blk ∧ x.blk < 128 ∧ (sdoAt x).sdo 0 = some x) ∧
    (let x : Sdo := { client := 5, phase := .blockDown, index := 0x1017, sub := 0, blk := 127, seq := 126 }
     byteAt (fr [127, 0, 0, 0, 0, 0, 0, 0]) 0 = x.seq + 1 ∧ x.seq + 1 = x.blk ∧ (sdoAt x).sdo 0 = some x) ∧
    (let x : Sdo := { client := 5, phase := .blockDownEnd, index := 0x1017, sub := 0 }
     let d := fr [0xD5, 0, 0, 0, 0, 0, 0, 0]
     ccs d = 6 ∧ bitOf (byteAt d 0) 0 = true ∧ x.crc = false ∧ x.size = none ∧ (sdoAt x).sdo 0 = some x) := by decide

/-- What a read through SDO server 0 answers after reset. -/
def readAt (i sub : Nat) : Option ObjAnswer := objAnswer (.sdo 0) i sub State.reset (objRead (.sdo 0) i sub State.reset)

theorem witness_sdoUploadsAndEnds :
    (∃ v, readAt 0x1017 0 = some (.value v) ∧ 0 < v.length ∧ v.length ≤ 4) ∧
    (∃ v, readAt 0x2300 0x10 = some (.value v) ∧ 4 < v.length) ∧
    (let d := fr [0x40, 0x17, 0x10, 0, 0, 0, 0, 0]
     let e := fr [0xA4, 0x00, 0x23, 0x10, 127, 0, 0, 0]
     ccs d = 2 ∧ frameIndex d = 0x1017 ∧ frameSub d = 0 ∧ ccs e = 5 ∧ byteAt e 0 % 4 = 0 ∧ byteAt e 4 = 127 ∧ frameIndex e = 0x2300 ∧ frameSub e = 0x10) ∧
    (let x : Sdo := { client := 5, phase := .up, index := 0x2300, sub := 0x10, data := List.replicate 20 0, toggle := true, pos := 7 }
     let d := fr [0x70, 0, 0, 0, 0, 0, 0, 0]
     (sdoAt x).sdo 0 = some x ∧ ccs d = 3 ∧ bitOf (byteAt d 0) 4 = x.toggle ∧ x.pos + 7 < x.data.length ∧
      (sdoAt { x with pos := 14 }).sdo 0 = some { x with pos := 14 } ∧ x.data.length ≤ 14 + 7) ∧
    (let d := fr [0xA3, 0, 0, 0, 0, 0, 0, 0]
     ccs d = 5 ∧ byteAt d 0 % 4 = 3) ∧
    (let x : Sdo := { client := 5, phase := .blockUp, index := 0x2300, sub := 0x10, seq := 3, last := true }
     let d := fr [0xA2, 3, 127, 0, 0, 0, 0, 0]
     let e := fr [0xA2, 2, 127, 0, 0, 0, 0, 0]
     (sdoAt x).sdo 0 = some x ∧ x.last = true ∧ ccs d = 5 ∧ byteAt d 0 % 4 = 2 ∧ byteAt d 1 = x.seq ∧ byteAt d 2 = 127 ∧
      ccs e = 5 ∧ byteAt e 0 % 4 = 2 ∧ byteAt e 1 < x.seq ∧ (sdoAt { x with last := false }).sdo 0 = some { x with last := false }) ∧
    byteAt (fr [0xA1, 0, 0, 0, 0, 0, 0, 0]) 0 = 0xA1 ∧ (∀ a b, SdoPhase.down ≠ .answer a b) ∧ (5 : Nat) ≠ 6 := by
  refine ⟨⟨_, by rfl, by decide⟩, ⟨_, by rfl, by decide⟩, by decide, by decide, by decide, by decide, by decide, fun _ _ => by simp, by decide⟩

/-- RPDO and TPDO 63 are enabled with one mapped byte, with a transmission type. -/
def pdo63 (typ : Nat) : State :=
  ((((((((canOpen .operational).odSet 0x143F 1 0x250).odSet 0x143F 2 typ).odSet 0x163F 0 1).odSet 0x163F 1 0x43000108).odSet 0x183F 1 0x1D0).odSet 0x183F 2
    typ).odSet 0x183F 5 10).odSet 0x1A3F 0 1

theorem witness_pdosAreExchanged :
    ((pdo63 255).coOn = true ∧ (pdo63 255).nmt = .operational ∧ cobOn ((pdo63 255).odVal 0x143F 1) = true ∧ (pdo63 255).odVal 0x163F 0 ≠ 0 ∧
      (pdo63 255).mutedPartner 1 ((pdo63 255).rpdoPartner 63) = false ∧ (fr [5]).length = (pdo63 255).mappedBytes 0x163F ((pdo63 255).odVal 0x163F 0) ∧
      240 < (pdo63 255).odVal 0x143F 2 ∧ (pdo63 240).odVal 0x143F 2 ≤ 240 ∧
      (fr []).length ≠ (pdo63 255).mappedBytes 0x163F ((pdo63 255).odVal 0x163F 0)) ∧
    ((pdo63 254).tpdoPar 63 5 ≠ 0 ∧ (pdo63 254).tpdoOn 63 = true ∧ 254 ≤ (pdo63 254).tpdoPar 63 2 ∧ ((pdo63 254).tp 63).inhibit = false ∧
      ((setTp 63 { inhibit := true } (pdo63 254)).tp 63).inhibit = true ∧ (setTp 63 { inhibit := true } (pdo63 254)).tpdoOn 63 = true) ∧
    ((pdo63 254).tp 63).due = false ∧
    (let s := setTp 63 { inhibit := true, due := true } (pdo63 254)
     (s.tp 63).due = true ∧ s.tpdoOn 63 = true ∧ 254 ≤ s.tpdoPar 63 2) ∧
    (∀ n ∈ [Nmt.preOperational, .operational], let s := ((canOpen n).odSet 0x1005 0 0x40000080).odSet 0x1006 0 10000
     s.coOn = true ∧ s.nmt = n ∧ s.nmt ≠ .stopped ∧ bitOf (s.odVal 0x1005 0) 30 = true ∧ s.odVal 0x1006 0 ≠ 0 ∧ s.odVal 0x1019 0 = 0) := by decide

theorem witness_communicationServices :
    (let s := (canOpen .operational).odSet 0x1012 0 0x80000100
     s.coOn = true ∧ s.nmt ≠ .stopped ∧ bitOf (s.odVal 0x1012 0) 31 = true ∧ (fr [0, 0, 0, 0, 1, 0]).length = 6) ∧
    (let s := ((canOpen .operational).odSet 0x1012 0 0x40000100).setF F.ALM_CTRL_ROLE 0 1
     s.coOn = true ∧ s.nmt ≠ .stopped ∧ bitOf (s.odVal 0x1012 0) 30 = true ∧ s.isGrandmaster = true) ∧
    ({ canOpen .operational with emcyWait := [{ code := 0x8130 }] } : State).emcyWait = [{ code := 0x8130 }] ∧
    ((canOpen .operational).odSet 0x1017 0 1000).odVal 0x1017 0 ≠ 0 ∧
    (let s := (canOpen .operational).odSet 0x1016 8 0x00050064
     s.coOn = true ∧ (s.consumed 7).2 ≠ 0 ∧ (s.consumed 7).1 = 5 ∧ tabGet false s.hbLost 8 = false) ∧
    ((canOpen .stopped).nmtTakes 0 = true ∧ (canOpen .stopped).nmtTakes (canOpen .stopped).nodeId = true ∧
      (127 : Nat) ≠ 0 ∧ 127 ≠ (canOpen .stopped).nodeId) := by decide

/-- A message of type `t` on VLAN 10, with a tag of its own bytes under a key. -/
def msg (t session seq : Nat) (key : List Byte) : ObjMsg :=
  let m : ObjMsg :=
    { service := false, who := 7, vid := 10, version := 1, typ := t, flags := 0, session := session, seq := seq, index := 0x1008, sub := 0, rsv1 := 0,
      offset := 0, length := if t = 1 then 16 else 0, rsv2 := 0, data := if t = 1 then List.replicate 16 0 else [], tag := [] }
  { m with tag := tagOf key (msgBytes m) }

/-- The protocol is enabled on VLAN 10 with an access key; session 0 is open with client 7 after request 5. -/
def eth10 : State := ((State.reset.setB F.ETH_CTRL_EN 0 true).odSet 0x2003 1 1 |>.odSet 0x2003 2 10).odSet 0x2003 3 1
def sess0 (x : Option ObjReply) : State := setSess 0 (some { id := 9, who := 7, key := [1], last := 5, stored := x }) eth10

theorem witness_sessions :
    (let m := msg 1 0 1 (eth10.accessKey false)
     (eth10.listens m = true ∧ eth10.mutedPartner (msgIface m) (msgWho m) = false ∧ formatCode 1 m = 0 ∧ m.service = false ∧
       (eth10.accessKey false).all (· == 0) = false ∧ (sessNums false).find? (fun k => (eth10.sess k).isNone) = some 0) ∧
      m.tag = tagOf (eth10.accessKey false) (msgBytes m)) ∧
    (let x : Sess := { id := 9, who := 7, key := [1], last := 5 }
     let s := sess0 none
     (∀ t ∈ [3, 0x10, 0x20], s.listens (msg t 9 6 [1]) = true ∧ s.sessOf (msg t 9 6 [1]) = some (0, x) ∧ (msg t 9 6 [1]).seq = (x.last + 1) % 2 ^ 32 ∧
       (msg t 9 6 [1]).seq ≠ x.last ∧ formatCode t (msg t 9 6 [1]) = 0 ∧ s.mutedPartner (msgIface (msg t 9 6 [1])) (msgWho (msg t 9 6 [1])) = false) ∧
     (∀ t, (msg t 9 6 [1]).tag = tagOf x.key (msgBytes (msg t 9 6 [1]))) ∧ s.sess 0 = some x ∧ x.wait = [] ∧
     (msg 0x20 9 8 [1]).seq ≠ x.last ∧ (msg 0x20 9 8 [1]).seq ≠ (x.last + 1) % 2 ^ 32 ∧
     (objAnswer (sessPath 0) 0x1017 0 s (objRead (sessPath 0) 0x1017 0 s)).isSome = true ∧
     (let m := { msg 0x20 9 6 [1] with flags := 1, index := 0x1017, data := [0, 5], length := 2 }
      formatCode 0x20 m = 0 ∧ m.flags = 1 ∧ m.offset = 0 ∧ x.part = none ∧ downloadCode (sessPath 0) m.index m.sub none s = 0 ∧
        s.entrySize m.index m.sub = some 2 ∧ (m.data.take m.length).length = 2)) ∧
    (let r : ObjReply := { typ := 0x11, session := 9, seq := 5, index := 0x1008, sub := 0, offset := 0, data := [] }
     let x : Sess := { id := 9, who := 7, key := [1], last := 5, stored := some r }
     (sess0 (some r)).sessOf (msg 0x10 9 5 [1]) = some (0, x) ∧ (msg 0x10 9 5 [1]).seq = x.last) ∧
    (let m := { msg 0x20 9 6 [1] with tag := tagOf [1] (msgBytes (msg 0x20 9 6 [1])) ++ [0] }
     (sess0 none).sessOf m = some (0, { id := 9, who := 7, key := [1], last := 5 })) :=
  ⟨⟨by decide, rfl⟩, ⟨by decide, fun _ => rfl, by decide⟩, by decide, by decide⟩

/-- A tag that is one byte too long is not the tag under the key. -/
theorem witness_sessions_tag : (tagOf [1] (msgBytes (msg 0x20 9 6 [1])) ++ [0]) ≠ tagOf [1] (msgBytes (msg 0x20 9 6 [1])) := by simp

theorem witness_applicationRange :
    (let a : AppDecl := { index := 0x5000, sub := 255, numeric := true, size := some 2, acc := .rw, dflt := [0, 0] }
     State.reset.dom.core = true ∧ isApp a.index = true ∧ a.sub < 256 ∧ State.reset.appEntry a.index a.sub = none) ∧
    declareOk [{ index := 0x1000, sub := 0, numeric := true, size := some 2, acc := .rw, dflt := [0, 0] }] State.reset = false ∧
    (let a : AppAccess := { index := 0x5000, sub := 1, data := none }
     let x : Sdo := { client := 5, phase := .answer true false, index := 0x5000, sub := 1 }
     let s := setAppDue (.sdo 0) [a] (sdoAt x)
     s.appDue (.sdo 0) = [a] ∧ a.data = none ∧ s.sdo 0 = some x) ∧
    (let a : AppAccess := { index := 0x5000, sub := 1, data := some [1] }
     let x : Sdo := { client := 5, phase := .answer false true, index := 0x5000, sub := 1 }
     let s := setAppDue (.sdo 0) [a] (sdoAt x)
     s.appDue (.sdo 0) = [a] ∧ a.data = some [1] ∧ s.sdo 0 = some x) := by decide

theorem witness_supplyAndDomains :
    State.reset.dom.switch = true ∧ feedFitted State.reset.variant 3 = true ∧ feedFitted on48.variant 2 = false ∧
    (let s := { State.reset with dom := { State.reset.dom with switch := false } }
     s.dom.switch = false ∧ s.dom.keep = true ∧ s.pwrPhase ≠ 5 ∧ s.pwrState ≠ 3 ∧ (s.setF F.PWR_STAT_PHASE 0 5).pwrPhase = 5 ∧
      (s.setF F.PWR_STAT_PHASE 0 5).dom.switch = false) ∧
    ({ State.reset with dom := { State.reset.dom with keep := false } } : State).dom.keep = false ∧
    (let s := { State.reset with dom := { State.reset.dom with comms := false, field := false } }
     s.dom.comms = false ∧ s.dom.field = false ∧ s.regulated = true) ∧
    (State.reset.dom.keep = true ∧ State.reset.dom.comms = true ∧ State.reset.dom.field = true) := by decide

/-- The Almanac at a second and a nanosecond. -/
def atTime (sec ns : Nat) : State := { State.reset with alm := { State.reset.alm with sec := sec, ns := ns } }

theorem witness_almanacTime :
    (State.reset.almRuns = true ∧ (0 * 2 ^ 32 + 0 + State.reset.alm.addend) / 2 ^ 32 < 1000000000) ∧
    (State.reset.alm.servoDue = none ∧ State.reset.alm.stepDue = none ∧ State.reset.cyc = {} ∧ (∀ p ∈ State.reset.liveEntries, p.2.ended = false)) ∧
    (let s := (atTime 86436 999999992).setB F.ALM_UTC_LEAP61 0 true |>.setF F.ALM_UTC_UTC_OFFSET 0 36
     s.almRuns = true ∧ 1000000000 ≤ (s.alm.ns * 2 ^ 32 + s.alm.frac + s.alm.addend) / 2 ^ 32 ∧ s.flag F.ALM_UTC_LEAP61 0 = true ∧
      (((s.alm.sec + 1 : Nat) : Int) - (s.utcOffset + 1)) % 86400 = 0 ∧ s.alm.servoDue = none ∧ s.alm.stepDue = none ∧ s.cyc = {}) ∧
    (let s := (atTime 86434 999999992).setB F.ALM_UTC_LEAP59 0 true |>.setF F.ALM_UTC_UTC_OFFSET 0 36
     s.almRuns = true ∧ 1000000000 ≤ (s.alm.ns * 2 ^ 32 + s.alm.frac + s.alm.addend) / 2 ^ 32 ∧ s.flag F.ALM_UTC_LEAP61 0 = false ∧
      s.flag F.ALM_UTC_LEAP59 0 = true ∧ (((s.alm.sec + 1 : Nat) : Int) - (s.utcOffset - 1)) % 86400 = 0) ∧
    (State.reset.flag F.ALM_UTC_LEAP61 0 = false ∧ State.reset.flag F.ALM_UTC_LEAP59 0 = false) ∧
    ((atTime 4 294967288).almRuns = true ∧ (atTime 4 294967288).alm.stepDue = none ∧ (tick (atTime 4 294967288)).wrap ≠ (atTime 4 294967288).wrap) ∧
    (let s := { State.reset with alm := { State.reset.alm with stepDue := some (7, 8) } }
     s.alm.stepDue = some (7, 8) ∧ s.almRuns = true) ∧
    (let s := State.reset.wr .ALM_ADDEND_LO 0 1
     let a := F.ALM_ADDEND_HI_INT.of 8 * 2 ^ 32 + (s.rd .ALM_ADDEND_LO 0).toNat
     0x07FEF9DB23 ≤ a ∧ a ≤ 0x08010624DD ∧ s.role = 0 ∧ (s.setF F.ALM_CTRL_ROLE 0 2).role ≠ 0 ∧
      0x08010624DD < F.ALM_ADDEND_HI_INT.of 9 * 2 ^ 32 + (s.rd .ALM_ADDEND_LO 0).toNat) ∧
    ctrlCheck 1 on48 ≠ .accepted ∧ (ctrlCheck 1 State.reset = .accepted ∧ F.ALM_CTRL_STEP.on 1 = false) ∧
    (F.ALM_CTRL_STEP.on 0x40 = true ∧ ctrlCheck 0x40 State.reset = .accepted) := by decide

/-- After PPS edge `p`, with a time message; an edge is stamped 2 s, whatever the front end's delay. -/
def ppsState (p : Nat) (m : Option TimeMessage) : State :=
  let s := atTime 0 (2000000000 + (16 + Config.ppsFrontEnd))
  { s with alm := { s.alm with lastPps := some p, ppsSecond := some 4, message := m } }

theorem witness_almanacSources_stamp (p : Nat) (m : Option TimeMessage) : ppsStamp (ppsState p m) = 2000000000 := by
  show 0 * 1000000000 + (2000000000 + (16 + Config.ppsFrontEnd)) - (16 + Config.ppsFrontEnd) = 2000000000
  rw [Nat.zero_mul, Nat.zero_add, Nat.add_sub_cancel]

theorem witness_almanacSources :
    (let s := ppsState 1000000000 none
     ppsStamp s = 2000000000 ∧ s.almRuns = true ∧ s.alm.lastPps = some 1000000000 ∧ s.alm.message = none ∧ s.servoRole ≠ 1 ∧ s.alm.ppsSecond = some 4 ∧
      (s.setF F.ALM_CTRL_ROLE 0 1).servoRole = 1 ∧ ppsStamp (s.setF F.ALM_CTRL_ROLE 0 1) = 2000000000) ∧
    (1000000000 + 999000000 ≤ 2000000000 ∧ 2000000000 ≤ 1000000000 + 1001000000) ∧
    (let m : TimeMessage := { second := 3, utc := 37, commit := 1500000000 }
     let s := (ppsState 1000000000 (some m)).setF F.ALM_CTRL_ROLE 0 1
     s.alm.message = some m ∧ m.commit + 10000000 ≤ 2000000000 ∧ 2000000000 ≤ m.commit + 990000000 ∧ s.servoRole = 1 ∧ ppsStamp s = 2000000000 ∧
      2000000000 ≤ s.total) ∧
    (ppsStamp (ppsState 998999999 none) = 2000000000 ∧ 998999999 + 1001000000 < 2000000000 ∧ (ppsState 998999999 none).servo ≠ 1) ∧
    (State.reset.setF F.ALM_STATUS_SERVO 0 1).servo = 1 ∧ (State.reset.setF F.ALM_STATUS_SERVO 0 2).servo = 2 ∧
    State.reset.role ≠ 1 ∧ (State.reset.setF F.ALM_CTRL_ROLE 0 1).role = 1 ∧
    (State.reset.setB F.ALM_STATUS_TIME_VALID 0 true).flag F.ALM_STATUS_TIME_VALID 0 = true ∧
    ((State.reset.setB F.ALM_STATUS_TIME_VALID 0 true).setF F.ALM_STATUS_SERVO 0 2).servo = 2 ∧ (State.reset.setB F.ALM_STATUS_TIME_VALID 0 true).servo ≠ 2 :=
  have h := witness_almanacSources_stamp
  ⟨⟨h _ _, by decide, rfl, rfl, by decide, rfl, by decide, h _ _⟩, by decide,
    ⟨rfl, by decide, by decide, by decide, h _ _, Nat.le_trans (Nat.le_add_right 2000000000 (16 + Config.ppsFrontEnd)) (Nat.le_add_left _ _)⟩,
    ⟨h _ _, by decide, by decide⟩, by decide⟩

theorem witness_canSync :
    (let s := State.reset.setF F.ALM_CTRL_ROLE 0 3
     s.role = 3 ∧ (fr [0x10, 0x70, 0, 0, 0, 0, 0, 0]).length = 8 ∧ byteAt (fr [0x10, 0x70]) 0 = 0x10 ∧ syncMuted s = false) ∧
    (let w : TsyncWait := { seq := 7, flags := 1, utc := 37, sof := 1000 }
     let s := (({ State.reset with alm := { State.reset.alm with tsync := some w, timeObject := some 1000 } } : State).setF F.ALM_CTRL_ROLE 0 3)
     let d := fr [0x18, 0x70, 0, 0, 0, 0, 0, 5]
     s.alm.tsync = some w ∧ byteAt d 0 = 0x18 ∧ byteAt d 1 / 16 = w.seq ∧ byteAt (fr [0x18, 0x60]) 1 / 16 ≠ w.seq ∧ s.total ≤ w.sof + 100000000 ∧
      syncReference w s = some 1037 ∧ syncMuted s = false ∧ syncReference { w with flags := 0 } s = none) ∧
    (let s := ((State.reset.setF F.ALM_CTRL_ROLE 0 1).setB F.ALM_CTRL_CANSYNC_TX 0 true).setF F.CAN_STAT_STATE 0 2
     s.heldOf .ALM_CANSYNC 0 = none ∧ s.role = 1 ∧ s.flag F.ALM_CTRL_CANSYNC_TX 0 = true ∧ s.canOn (s.getF F.ALM_CTRL_CANCH 0) = true ∧
      s.canSends (s.getF F.ALM_CTRL_CANCH 0) = true) ∧
    ((State.reset.hold .ALM_CANSYNC 0 5).heldOf .ALM_CANSYNC 0 = some 5 ∧ (State.reset.hold .ALM_CANSYNC 0 5).role ≠ 1) ∧
    ({ State.reset with alm := { State.reset.alm with txFup := some 3 } } : State).alm.txFup = some 3 := by decide

/-- A Sync and an Announce of domain 0 on port 2, and a port that is capable. -/
def syncMsg (bad : Bool) : PtpSync := { port := 2, domain := 0, bad := bad, twoStep := false, followUp := false, seq := 1, origin := 100, corr := 0, ingress := 90 }
def announceMsg (bad : Bool) : Announce :=
  { port := 2, domain := 0, bad := bad, priority1 := 1, clockClass := 6, accuracy := 0, variance := 0, priority2 := 0, identity := 1, stepsRemoved := 0, utcOffset := 37,
    leap61 := false, leap59 := false, utcValid := true }
def gptp (x : Nat) : State := State.reset.setPtpPort 2 { linkUp := true, asCapable := true, exchanges := x }

theorem witness_gptp :
    State.reset.mutedPartner 6 2 = false ∧ ptpBad State.reset true 0 2 = true ∧
    (let s := ({ gptp 3 with alm := { (gptp 3).alm with gm := some (announceMsg false) } } : State).setF F.ALM_CTRL_ROLE 0 2
     ptpBad s (syncMsg false).bad (syncMsg false).domain 2 = false ∧ s.slavePort 2 = true ∧ s.servoRole = 2 ∧ s.mutedPartner 6 2 = false ∧
      (syncMsg false).followUp = false ∧ (syncMsg false).twoStep = false) ∧
    (State.reset.setF F.ALM_CTRL_ROLE 0 1).isGrandmaster = true ∧ State.reset.isGrandmaster = false ∧
    (ptpBad (gptp 3) (announceMsg false).bad (announceMsg false).domain 2 = false ∧ (gptp 3).alm.gm = none ∧ (gptp 3).role = 0 ∧ (gptp 3).mutedPartner 6 2 = false) ∧
    (let s := (gptp 3).setF F.ALM_CTRL_ROLE 0 1
     s.alm.gm = none ∧ s.role = 1 ∧ s.flag F.ALM_STATUS_GM_DEFERRED 0 = false ∧ rankBetter (rankOf (announceMsg false)) s.ownRank = true) ∧
    (let s := { gptp 3 with alm := { (gptp 3).alm with gm := some (announceMsg false) }, up := 3000000000 }
     s.alm.gm = some (announceMsg false) ∧ s.alm.gmAt + 3000000000 ≤ s.up) ∧
    (ethFitted (gptp 3).variant 2 = true ∧ ((gptp 3).ptpPort 2).linkUp = true ∧ (gptp 3).heldOf .ALM_PHYCAL 2 = none) ∧
    ((gptp 15).ptpPort 2).exchanges = 15 ∧ ((gptp 14).ptpPort 2).exchanges < 15 ∧ (gptp 14).flag F.ALM_PHYCAL_BASE_VALID 2 = false ∧
    ethFitted on48.variant 7 = false := by decide

/-- Core 0 has staged a request: tag 1, at 1 s, one item of a type. -/
def staged (typ mask val : Nat) : State :=
  ((((State.reset.wr .MST_REQ_CTRL 0 0x00040001).wr .MST_REQ_SEC_LO 0 1).wr .MST_REQ_HDR 0 (word typ)).wr .MST_REQ_MASK 0 (word mask)).wr .MST_REQ_VAL 0 (word val)

/-- Entry 63 holds a request that raises event 9 in core 0 at 1 s. -/
def entry63 (ctrl count : Nat) : MstEntry :=
  { words := [word ctrl, 1, 0, 0, 1250, word count, 7, 1, 9], first := 1000000000, owner := .core 0 }
def withEntry (x : MstEntry) (t : Nat) : State := (atTime t 0).setEntry 63 (some x)

theorem witness_milestones :
    (∀ p : DPath, Master.core 0 ≠ .dict p) ∧
    ((stepIfDue (staged 1 1 1)).admission ((staged 1 1 1).staged (.core 0))).1 ≠ .accepted ∧
    (((stepIfDue (staged 7 1 9)).admission ((staged 7 1 9).staged (.core 0))).1 = .accepted ∧ (stepIfDue (staged 7 1 9)).freeEntry = some 0) ∧
    State.reset.tagged 65535 = none ∧
    (let x := entry63 0x00040001 0
     let s := withEntry x 0
     s.tagged 1 = some 63 ∧ s.entry 63 = some x ∧ x.ended = false ∧ s.earliest ≤ x.next) ∧
    (let x := { entry63 0x00040001 0 with ended := true }
     let s := withEntry x 1
     s.tagged 1 = some 63 ∧ s.entry 63 = some x ∧ x.ended = true) ∧
    (let x := entry63 0x00040001 0
     let s := withEntry x 1
     x.next < s.earliest ∧ s.entry 63 = some x ∧ s.almRuns = true ∧ x.next ≤ s.total ∧ x.ended = false ∧ (x.cancelled != 0 || x.lastRun) = true) ∧
    (let x := entry63 0x00040001 1
     let s := withEntry x 1
     let r := runItems x.plans x.items s
     s.entry 63 = some x ∧ x.next ≤ s.total ∧ (x.cancelled != 0 || x.lastRun) = false ∧ x.recEach = false ∧
      ((List.range x.items.length).map fun k => (x.items.map (·.mask)).getD k 0 - r.1.getD k 0).any (· != 0) = false) := by
  exact ⟨fun _ h => (nomatch h), by decide, by decide, by decide, by decide, by decide, by decide, by decide⟩

/-- A queue holds two records, its head locked or not. -/
def twoRecs (i : QId) (lock : Bool) : State :=
  State.reset.setQ i { recs := [{ words := [1, 2, 3, 4], at_ := 0 }, { words := [5, 6, 7, 8], at_ := 8 }], locked := lock }

theorem witness_queueWindows :
    (∀ i ∈ [QId.milestone, .transition, .valve, .edge, .field, .lin 3, .faultLog, .can 7 1],
      (State.reset.q i).recs = [] ∧ (State.reset.q i).locked = false ∧ ((twoRecs i true).q i).locked = true ∧
      ((twoRecs i true).q i).recs = { words := [1, 2, 3, 4], at_ := 0 } :: [{ words := [5, 6, 7, 8], at_ := 8 }]) ∧
    linFitted State.reset.variant 3 = true ∧ canFitted State.reset.variant 7 = true := by decide

theorem witness_recordReads :
    (∀ i ∈ [QId.milestone, .edge, .field, .faultLog, .capture 31, .lin 3, .can 7 1],
      ((twoRecs i false).q i).recs = { words := [1, 2, 3, 4], at_ := 0 } :: [{ words := [5, 6, 7, 8], at_ := 8 }] ∧ ((twoRecs i false).q i).locked = false ∧
      (State.reset.q i).recs = [] ∧ ((twoRecs i true).q i).locked = true) ∧
    linFitted State.reset.variant 3 = true ∧ canFitted State.reset.variant 7 = true ∧
    chanFitted State.reset.variant 95 = true ∧ chanFitted on48.variant 95 = false := by decide

/-- Counter 7 runs in a mode at a count, with TOP 3. -/
def wcu7 (updown : Bool) (count : Nat) : State :=
  ((((State.reset.setB F.WCU_CTRL_EN 7 true).setB F.WCU_STAT_RUN 7 true).setB F.WCU_CTRL_MODE 7 updown).wr .WCU_TOP 7 3).wr .WCU_CNT 7 (word count)

theorem witness_waveformSteps :
    ((wcu7 false 2).wcuRuns 7 = true ∧ (∀ n ∈ wcuChans 7, (wcu7 false 2).twCompare n = false) ∧ (wcu7 false 2).wcuUpDown 7 = false ∧
      (wcu7 false 2).wcuNextCount 7 ≠ 0) ∧
    (∀ s ∈ [wcu7 false 3, (wcu7 true 1).setB F.WCU_STAT_DIR 7 true], (∀ n ∈ wcuChans 7, s.twCompare n = false ∧ s.heldOf .WCU_CCTRL n = none) ∧
      s.heldOf .WCU_CTRL 7 = none ∧ s.heldOf .WCU_TOP 7 = none ∧ s.wcuNextCount 7 = 0 ∧ s.wcuRuns 7 = true) ∧
    ((wcu7 true 1).wcuUpDown 7 = true ∧ (wcu7 true 1).wcuNextCount 7 ≠ 0 ∧ (wcu7 true 1).wcuNextCount 7 ≠ (wcu7 true 1).wcuTop 7) ∧
    ((wcu7 true 2).wcuUpDown 7 = true ∧ (wcu7 true 2).wcuDown 7 = false ∧ (wcu7 true 2).wcuNextCount 7 = (wcu7 true 2).wcuTop 7 ∧
      (wcu7 true 2).wcuRuns 7 = true ∧ ∀ n ∈ wcuChans 7, (wcu7 true 2).twCompare n = false) ∧
    (let s := ((wcu7 false 1).setF F.WCU_CCTRL_FUNC 31 1).wr .WCU_CMP 31 2
     s.wcuRuns (31 / 4) = true ∧ s.twCompare 31 = true ∧ (s.tw 31).catchUp = false ∧ s.wcuNextCount (31 / 4) = (s.rd .WCU_CMP 31).toNat ∧
      ((s.setTw 31 { s.tw 31 with catchUp := true }).tw 31).catchUp = true) ∧
    State.reset.wcuRuns 0 = false := by decide

theorem witness_waveformRegisters :
    (let s := { State.reset with wcuBlocked := tabSet false [] 7 true }
     reservedSet .WCU_CTRL 1 = false ∧ reservedSet .WCU_CTRL 0 = false ∧ F.WCU_CTRL_EN.on 1 = true ∧ tabGet false s.wcuBlocked 7 = true ∧
      ¬ (F.WCU_CTRL_MODE.on 1 = true ∧ s.next .WCU_TOP 7 = 1) ∧
      reservedSet .WCU_GSTART 0x80 = false ∧ (onesUpTo 8 (0x80 : Word).toNat).any (fun c => tabGet false s.wcuBlocked c) = true) ∧
    (tabGet false State.reset.wcuBlocked 7 = false ∧ F.WCU_CTRL_EN.on 0 = false ∧
      (onesUpTo 8 (0x80 : Word).toNat).any (fun c => tabGet false State.reset.wcuBlocked c) = false ∧ reservedSet .WCU_GSTOP 0x81 = false) ∧
    (State.reset.wcuRuns 0 = false ∧ State.reset.twCompare 0 = false) ∧
    (let v : Word := word (2 + 2 ^ F.WCU_CCTRL_ARM.lo + 2 ^ F.WCU_CCTRL_EDGE.lo)
     reservedSet .WCU_CCTRL v = false ∧ F.WCU_CCTRL_FUNC.of v ≠ 3 ∧ F.WCU_CCTRL_SRC.of v ≤ 0x77 ∧ F.WCU_CCTRL_EDGE.of v ≠ 0 ∧ F.WCU_CCTRL_VEVT.of v ≠ 3 ∧
      capSrcFitted State.reset.variant (F.WCU_CCTRL_SRC.of v) = true) ∧
    (let v : Word := word (2 + 2 ^ F.WCU_CCTRL_EDGE.lo + 63 * 2 ^ F.WCU_CCTRL_SRC.lo)
     reservedSet .WCU_CCTRL v = false ∧ F.WCU_CCTRL_FUNC.of v ≠ 3 ∧ F.WCU_CCTRL_SRC.of v ≤ 0x77 ∧ F.WCU_CCTRL_EDGE.of v ≠ 0 ∧ F.WCU_CCTRL_VEVT.of v ≠ 3 ∧
      capSrcFitted on48.variant (F.WCU_CCTRL_SRC.of v) = false) ∧
    ((twoRecs (.capture 31) false).q (.capture 31)).recs ≠ [] ∧ (State.reset.q (.capture 31)).recs = [] := by decide

/-- Channel 95 is in SAFE. -/
def safe95 : State := State.reset.setF F.OUT_STAT_STATE 95 8

/-- Channel 95 is in SAFE with its latch on. -/
def safe95on : State := safe95.setB F.OUT_STAT_LAT 95 true

/-- The Switch domain is off. -/
def noSwitch : State := { State.reset with dom := { State.reset.dom with switch := false } }

theorem witness_outputLatches :
    (chanFitted State.reset.variant 95 = true ∧ reservedSet Reg.OUT_LVL 1 = false ∧ latchRefused State.reset 95 (F.OUT_LVL_LEVEL.on 1) = false) ∧
    (chanFitted (State.reset.setF F.OUT_STAT_STATE 95 8).variant 95 = true ∧ reservedSet Reg.OUT_LVL 1 = false ∧
      latchRefused (State.reset.setF F.OUT_STAT_STATE 95 8) 95 (F.OUT_LVL_LEVEL.on 1) = true) ∧
    (((List.map (fun x => x + 32 * 2) (onesUpTo 32 ((BitVec.toNat (0x80000001 : Word))))).all fun n => chanFitted State.reset.variant n) = true ∧
      ((List.filter (fun n => chanFitted State.reset.variant n) (List.map (fun x => x + 32 * 2) (List.range 32))).any fun n => latchRefused State.reset n (bitOf ((BitVec.toNat (0x80000001 : Word))) (n - 32 * 2))) = false) ∧
    (((List.map (fun x => x + 32 * 2) (onesUpTo 32 ((BitVec.toNat (0x80000001 : Word))))).all fun n => chanFitted State.reset.variant n) = true ∧
      ((List.map (fun x => x + 32 * 2) (onesUpTo 32 ((BitVec.toNat (0x80000001 : Word))))).any fun n => latchRefused State.reset n true) = false) ∧
    (((List.map (fun x => x + 32 * 2) (onesUpTo 32 ((BitVec.toNat (0x80000001 : Word))))).all fun n => chanFitted State.reset.variant n) = true ∧
      ((List.map (fun x => x + 32 * 2) (onesUpTo 32 ((BitVec.toNat (0x80000001 : Word))))).any fun n => latchRefused State.reset n false) = false) ∧
    (List.find? (fun n => !chanFitted on64.variant n) (List.map (fun x => x + 32 * 1) (onesUpTo 32 ((BitVec.toNat (0x70000002 : Word))))) = some 60) ∧
    (((List.map (fun x => x + 32 * 2) (onesUpTo 32 ((BitVec.toNat (0x80000001 : Word))))).all fun n => chanFitted safe95.variant n) = true ∧
      List.find? (fun n => latchRefused safe95 n (bitOf ((BitVec.toNat (0x80000001 : Word))) (n - 32 * 2))) (List.filter (fun n => chanFitted safe95.variant n) (List.map (fun x => x + 32 * 2) (List.range 32))) = some 95) ∧
    (((List.map (fun x => x + 32 * 2) (onesUpTo 32 ((BitVec.toNat (0x80000001 : Word))))).all fun n => chanFitted safe95.variant n) = true ∧
      List.find? (fun n => latchRefused safe95 n true) (List.map (fun x => x + 32 * 2) (onesUpTo 32 ((BitVec.toNat (0x80000001 : Word))))) = some 95) ∧
    (((List.map (fun x => x + 32 * 2) (onesUpTo 32 ((BitVec.toNat (0x80000001 : Word))))).all fun n => chanFitted safe95on.variant n) = true ∧
      List.find? (fun n => latchRefused safe95on n false) (List.map (fun x => x + 32 * 2) (onesUpTo 32 ((BitVec.toNat (0x80000001 : Word))))) = some 95) ∧
    (chanFitted State.reset.variant 95 = true ∧ reservedSet Reg.OUT_APPLY 1 = false ∧ F.OUT_APPLY_APPLY.on 1 = true) ∧
    (chanFitted State.reset.variant 95 = true ∧ reservedSet Reg.OUT_APPLY 0 = false ∧ F.OUT_APPLY_APPLY.on 0 = false) ∧
    (chanFitted on48.variant 95 = false) ∧
    (State.reset.dom.switch = true) ∧
    (noSwitch.dom.switch = false) := by decide +kernel

/-- A channel is in a state, with values beside its registers. -/
def chanAt (n st : Nat) (x : Chan) : State :=
  ((State.reset.setF F.OUT_STAT_STATE n st).setB F.OUT_STAT_STAGE n (st != 0)).setCh n x

/-- INR of channel 95 runs. -/
def inr (x : State) : State := x.setB F.OUT_STAT_INR 95 true

/-- Channel 95 follows a DDIN pin. -/
def dd95 (x : Chan) (lev : Nat) : State := ((chanAt 95 1 x).setF F.OUT_CFG_SRC 95 3).setF F.OUT_INP_DDIN 0 lev

theorem witness_outputTimes :
    ((inr (chanAt 95 3 { act := false, runonEnd := none, awaited := [], aligned := [], fallAt := none, lastFall := none, fallDly := none, last := { sec := 0, ns := 0, on := false, nocross := false, rtct := false }, count := 0, rise := [], fall := [], heat := 0, sqSum := 0, sqNum := 0, span := none, backoffEnd := 0, backoffKept := none, cutUntil := 0, dipSpent := false, iShed := 0, res := [] })).flag F.OUT_STAT_INR 95 = true ∧
      (inr (chanAt 95 3 { act := false, runonEnd := none, awaited := [], aligned := [], fallAt := none, lastFall := none, fallDly := none, last := { sec := 0, ns := 0, on := false, nocross := false, rtct := false }, count := 0, rise := [], fall := [], heat := 0, sqSum := 0, sqNum := 0, span := none, backoffEnd := 0, backoffKept := none, cutUntil := 0, dipSpent := false, iShed := 0, res := [] })).chState 95 = 3) ∧
    ((inr (chanAt 95 8 { act := false, runonEnd := none, awaited := [], aligned := [], fallAt := none, lastFall := none, fallDly := none, last := { sec := 0, ns := 0, on := false, nocross := false, rtct := false }, count := 0, rise := [], fall := [], heat := 0, sqSum := 0, sqNum := 0, span := none, backoffEnd := 0, backoffKept := none, cutUntil := 0, dipSpent := false, iShed := 0, res := [] })).flag F.OUT_STAT_INR 95 = true ∧
      (inr (chanAt 95 8 { act := false, runonEnd := none, awaited := [], aligned := [], fallAt := none, lastFall := none, fallDly := none, last := { sec := 0, ns := 0, on := false, nocross := false, rtct := false }, count := 0, rise := [], fall := [], heat := 0, sqSum := 0, sqNum := 0, span := none, backoffEnd := 0, backoffKept := none, cutUntil := 0, dipSpent := false, iShed := 0, res := [] })).chState 95 ≠ 3) ∧
    (State.reset.flag F.OUT_STAT_INR 95 = false) ∧
    (let s : State := dd95 { act := true, runonEnd := none, awaited := [], aligned := [], fallAt := none, lastFall := none, fallDly := none, last := { sec := 0, ns := 0, on := false, nocross := false, rtct := false }, count := 0, rise := [], fall := [], heat := 0, sqSum := 0, sqNum := 0, span := none, backoffEnd := 0, backoffKept := none, cutUntil := 0, dipSpent := false, iShed := 0, res := [] } 0
     (s.ch 95).act = true ∧ s.command 95 = false ∧ s.steadySrc 95 = false) ∧
    (((dd95 { act := true, runonEnd := none, awaited := [], aligned := [], fallAt := none, lastFall := none, fallDly := none, last := { sec := 0, ns := 0, on := false, nocross := false, rtct := false }, count := 0, rise := [], fall := [], heat := 0, sqSum := 0, sqNum := 0, span := none, backoffEnd := 0, backoffKept := none, cutUntil := 0, dipSpent := false, iShed := 0, res := [] } 255).ch 95).act = true ∧
      (dd95 { act := true, runonEnd := none, awaited := [], aligned := [], fallAt := none, lastFall := none, fallDly := none, last := { sec := 0, ns := 0, on := false, nocross := false, rtct := false }, count := 0, rise := [], fall := [], heat := 0, sqSum := 0, sqNum := 0, span := none, backoffEnd := 0, backoffKept := none, cutUntil := 0, dipSpent := false, iShed := 0, res := [] } 255).command 95 = true) ∧
    (((dd95 { act := true, runonEnd := none, awaited := [], aligned := [], fallAt := none, lastFall := none, fallDly := none, last := { sec := 0, ns := 0, on := false, nocross := false, rtct := false }, count := 0, rise := [], fall := [], heat := 0, sqSum := 0, sqNum := 0, span := none, backoffEnd := 0, backoffKept := none, cutUntil := 0, dipSpent := false, iShed := 0, res := [] } 255).setB F.NET_STAT_IGN 0 true).ignHigh = true) ∧
    ((dd95 { act := true, runonEnd := some 5, awaited := [], aligned := [], fallAt := none, lastFall := none, fallDly := none, last := { sec := 0, ns := 0, on := false, nocross := false, rtct := false }, count := 0, rise := [], fall := [], heat := 0, sqSum := 0, sqNum := 0, span := none, backoffEnd := 0, backoffKept := none, cutUntil := 0, dipSpent := false, iShed := 0, res := [] } 255).ignHigh = false) ∧
    (State.reset.runon 95 = false) ∧
    (let s : State := dd95 { act := true, runonEnd := some 5, awaited := [], aligned := [], fallAt := none, lastFall := none, fallDly := none, last := { sec := 0, ns := 0, on := false, nocross := false, rtct := false }, count := 0, rise := [], fall := [], heat := 0, sqSum := 0, sqNum := 0, span := none, backoffEnd := 0, backoffKept := none, cutUntil := 0, dipSpent := false, iShed := 0, res := [] } 255
     s.runon 95 = true ∧ (chanUpdate 95 false (s.setCh 95 ({ s.ch 95 with runonEnd := none }))).command 95 = true) ∧
    (let s : State := (dd95 { act := true, runonEnd := some 5, awaited := [], aligned := [], fallAt := none, lastFall := none, fallDly := none, last := { sec := 0, ns := 0, on := false, nocross := false, rtct := false }, count := 0, rise := [], fall := [], heat := 0, sqSum := 0, sqNum := 0, span := none, backoffEnd := 0, backoffKept := none, cutUntil := 0, dipSpent := false, iShed := 0, res := [] } 0).setF F.OUT_CFG_SRC 95 0
     s.runon 95 = true ∧ ((chanUpdate 95 false (s.setCh 95 ({ s.ch 95 with runonEnd := none }))).ch 95).act = false) ∧
    (let s : State := dd95 { act := true, runonEnd := some 5, awaited := [], aligned := [], fallAt := none, lastFall := none, fallDly := none, last := { sec := 0, ns := 0, on := false, nocross := false, rtct := false }, count := 0, rise := [], fall := [], heat := 0, sqSum := 0, sqNum := 0, span := none, backoffEnd := 0, backoffKept := none, cutUntil := 0, dipSpent := false, iShed := 0, res := [] } 0
     s.runon 95 = true ∧ ((chanUpdate 95 false (s.setCh 95 ({ s.ch 95 with runonEnd := none }))).ch 95).act = true ∧
      (chanUpdate 95 false (s.setCh 95 ({ s.ch 95 with runonEnd := none }))).command 95 = false) ∧
    (let s : State := chanAt 95 1 { act := false, runonEnd := none, awaited := [], aligned := [(5, true)], fallAt := none, lastFall := none, fallDly := none, last := { sec := 0, ns := 0, on := false, nocross := false, rtct := false }, count := 0, rise := [], fall := [], heat := 0, sqSum := 0, sqNum := 0, span := none, backoffEnd := 0, backoffKept := none, cutUntil := 0, dipSpent := false, iShed := 0, res := [] }
     (s.ch 95).aligned = [(5, true)] ∧ (s.setCh 95 ({ s.ch 95 with aligned := [] })).stage 95 = true) ∧
    (let s : State := chanAt 95 0 { act := false, runonEnd := none, awaited := [], aligned := [(5, true)], fallAt := none, lastFall := none, fallDly := none, last := { sec := 0, ns := 0, on := false, nocross := false, rtct := false }, count := 0, rise := [], fall := [], heat := 0, sqSum := 0, sqNum := 0, span := none, backoffEnd := 0, backoffKept := none, cutUntil := 0, dipSpent := false, iShed := 0, res := [] }
     (s.ch 95).aligned = [(5, true)] ∧ (s.setCh 95 ({ s.ch 95 with aligned := [] })).stage 95 ≠ true ∧
      (s.setCh 95 ({ s.ch 95 with aligned := [] })).thermal 95 = false ∧ (s.setCh 95 ({ s.ch 95 with aligned := [] })).chState 95 ≠ 3) ∧
    (let s : State := (chanAt 95 3 { act := false, runonEnd := none, awaited := [], aligned := [(5, true), (9, false)], fallAt := none, lastFall := none, fallDly := none, last := { sec := 0, ns := 0, on := false, nocross := false, rtct := false }, count := 0, rise := [], fall := [], heat := 0, sqSum := 0, sqNum := 0, span := none, backoffEnd := 0, backoffKept := none, cutUntil := 0, dipSpent := false, iShed := 0, res := [] }).setB F.OUT_STAT_STAGE 95 false
     (s.ch 95).aligned = [(5, true), (9, false)] ∧ (s.setCh 95 ({ s.ch 95 with aligned := [(9, false)] })).stage 95 ≠ true ∧
      (s.setCh 95 ({ s.ch 95 with aligned := [(9, false)] })).thermal 95 = false ∧ (s.setCh 95 ({ s.ch 95 with aligned := [(9, false)] })).chState 95 = 3) ∧
    (let s : State := ((chanAt 95 3 { act := false, runonEnd := none, awaited := [], aligned := [(5, true)], fallAt := none, lastFall := none, fallDly := none, last := { sec := 0, ns := 0, on := false, nocross := false, rtct := false }, count := 0, rise := [], fall := [], heat := 0, sqSum := 0, sqNum := 0, span := none, backoffEnd := 0, backoffKept := none, cutUntil := 0, dipSpent := false, iShed := 0, res := [] }).setB F.OUT_STAT_STAGE 95 false).setB F.PROT_STAT_LATCH_J 95 true
     (s.ch 95).aligned = [(5, true)] ∧ (s.setCh 95 ({ s.ch 95 with aligned := [] })).stage 95 ≠ true ∧
      (s.setCh 95 ({ s.ch 95 with aligned := [] })).thermal 95 = true) ∧
    (let s : State := chanAt 95 1 { act := false, runonEnd := none, awaited := [], aligned := [(5, false)], fallAt := none, lastFall := none, fallDly := none, last := { sec := 0, ns := 0, on := false, nocross := false, rtct := false }, count := 0, rise := [], fall := [], heat := 0, sqSum := 0, sqNum := 0, span := none, backoffEnd := 0, backoffKept := none, cutUntil := 0, dipSpent := false, iShed := 0, res := [] }
     (s.ch 95).aligned = [(5, false)] ∧ (s.setCh 95 ({ s.ch 95 with aligned := [] })).stage 95 ≠ false) ∧
    ((State.reset.ch 95).aligned = []) := by decide +kernel

/-- An edge that waits at channel 95. -/
def edg (on m : Bool) : Edge := { on := on, src := 0, aligned := false, reason := 0, at_ := 0, measures := m }

theorem witness_outputTransitions :
    (let s : State := chanAt 95 1 { act := false, runonEnd := none, awaited := [edg true true], aligned := [], fallAt := none, lastFall := none, fallDly := none, last := { sec := 0, ns := 0, on := false, nocross := false, rtct := false }, count := 0, rise := [], fall := [], heat := 0, sqSum := 0, sqNum := 0, span := none, backoffEnd := 0, backoffKept := none, cutUntil := 0, dipSpent := false, iShed := 0, res := [] }
     (s.ch 95).awaited = [edg true true] ∧ (edg true true).on = true ∧
      ((edg true true).measures && s.measurable 95 && decide (decide (s.up ≤ (edg true true).at_ + 0x30D40) = true)) = true) ∧
    ((((chanAt 95 1 { act := false, runonEnd := none, awaited := [edg true false, edg false true], aligned := [], fallAt := none, lastFall := none, fallDly := none, last := { sec := 0, ns := 0, on := false, nocross := false, rtct := false }, count := 0, rise := [], fall := [], heat := 0, sqSum := 0, sqNum := 0, span := none, backoffEnd := 0, backoffKept := none, cutUntil := 0, dipSpent := false, iShed := 0, res := [] }).setB F.OUT_CFG_TREC 95 true).ch 95).awaited = [edg true false, edg false true]) ∧
    (((chanAt 95 1 { act := false, runonEnd := none, awaited := [edg false false, edg false true], aligned := [], fallAt := none, lastFall := none, fallDly := none, last := { sec := 0, ns := 0, on := false, nocross := false, rtct := false }, count := 0, rise := [], fall := [], heat := 0, sqSum := 0, sqNum := 0, span := none, backoffEnd := 0, backoffKept := none, cutUntil := 0, dipSpent := false, iShed := 0, res := [] }).ch 95).awaited = [edg false false, edg false true] ∧
      (edg false false).on ≠ true) ∧
    (let s : State := chanAt 95 0 { act := false, runonEnd := none, awaited := [], aligned := [], fallAt := some 0, lastFall := none, fallDly := none, last := { sec := 0, ns := 0, on := false, nocross := false, rtct := false }, count := 0, rise := [], fall := [], heat := 0, sqSum := 0, sqNum := 0, span := none, backoffEnd := 0, backoffKept := none, cutUntil := 0, dipSpent := false, iShed := 0, res := [] }
     (s.ch 95).awaited = [] ∧ (s.ch 95).fallAt = some 0 ∧ s.stage 95 = false ∧ (s.ch 95).lastFall = none) ∧
    (chanFitted (chanAt 95 0 { act := false, runonEnd := none, awaited := [], aligned := [], fallAt := none, lastFall := none, fallDly := none, last := { sec := 2 ^ 40, ns := 77, on := true, nocross := true, rtct := false }, count := 70000, rise := [], fall := [], heat := 0, sqSum := 0, sqNum := 0, span := none, backoffEnd := 0, backoffKept := none, cutUntil := 0, dipSpent := false, iShed := 0, res := [] }).variant 95 = true) := by decide +kernel

theorem witness_channelProtection :
    (chanFitted (chanAt 95 1 { act := false, runonEnd := none, awaited := [], aligned := [], fallAt := none, lastFall := none, fallDly := none, last := { sec := 0, ns := 0, on := false, nocross := false, rtct := false }, count := 0, rise := [], fall := [], heat := 0, sqSum := 0, sqNum := 0, span := none, backoffEnd := 0, backoffKept := none, cutUntil := 0, dipSpent := false, iShed := 0, res := [] }).variant 95 = true ∧
      (chanAt 95 1 { act := false, runonEnd := none, awaited := [], aligned := [], fallAt := none, lastFall := none, fallDly := none, last := { sec := 0, ns := 0, on := false, nocross := false, rtct := false }, count := 0, rise := [], fall := [], heat := 0, sqSum := 0, sqNum := 0, span := none, backoffEnd := 0, backoffKept := none, cutUntil := 0, dipSpent := false, iShed := 0, res := [] }).stage 95 = true) ∧
    (chanFitted (chanAt 95 0 { act := false, runonEnd := none, awaited := [], aligned := [], fallAt := none, lastFall := none, fallDly := none, last := { sec := 0, ns := 0, on := false, nocross := false, rtct := false }, count := 0, rise := [], fall := [], heat := 0, sqSum := 0, sqNum := 0, span := none, backoffEnd := 0, backoffKept := none, cutUntil := 0, dipSpent := false, iShed := 0, res := [] }).variant 95 = true ∧
      (chanAt 95 0 { act := false, runonEnd := none, awaited := [], aligned := [], fallAt := none, lastFall := none, fallDly := none, last := { sec := 0, ns := 0, on := false, nocross := false, rtct := false }, count := 0, rise := [], fall := [], heat := 0, sqSum := 0, sqNum := 0, span := none, backoffEnd := 0, backoffKept := none, cutUntil := 0, dipSpent := false, iShed := 0, res := [] }).stage 95 = false) ∧
    (let s : State := (chanAt 95 6 { act := false, runonEnd := none, awaited := [], aligned := [], fallAt := none, lastFall := none, fallDly := none, last := { sec := 0, ns := 0, on := false, nocross := false, rtct := false }, count := 0, rise := [], fall := [], heat := 0, sqSum := 0, sqNum := 0, span := none, backoffEnd := 0, backoffKept := none, cutUntil := 0, dipSpent := false, iShed := 0, res := [] }).setB F.PROT_STAT_LATCH_J 95 true
     chanFitted s.variant 95 = true ∧ s.thermal 95 = true ∧ ((s.setF F.PROT_JT_TJ 95 (codeOf 16 1400)).setB F.PROT_STAT_LATCH_J 95 false).thermal 95 = false) ∧
    (chanFitted (((chanAt 95 6 { act := false, runonEnd := none, awaited := [], aligned := [], fallAt := none, lastFall := none, fallDly := none, last := { sec := 0, ns := 0, on := false, nocross := false, rtct := false }, count := 0, rise := [], fall := [], heat := 0, sqSum := 0, sqNum := 0, span := none, backoffEnd := 0, backoffKept := none, cutUntil := 0, dipSpent := false, iShed := 0, res := [] }).setB F.PROT_STAT_LATCH_J 95 true).setB F.PROT_STAT_LATCH_W 95 true).variant 95 = true ∧
      (((((chanAt 95 6 { act := false, runonEnd := none, awaited := [], aligned := [], fallAt := none, lastFall := none, fallDly := none, last := { sec := 0, ns := 0, on := false, nocross := false, rtct := false }, count := 0, rise := [], fall := [], heat := 0, sqSum := 0, sqNum := 0, span := none, backoffEnd := 0, backoffKept := none, cutUntil := 0, dipSpent := false, iShed := 0, res := [] }).setB F.PROT_STAT_LATCH_J 95 true).setB F.PROT_STAT_LATCH_W 95 true).setF F.PROT_JT_TJ 95 (codeOf 16 1400)).setB F.PROT_STAT_LATCH_J 95 false).thermal 95 = true) ∧
    (chanFitted State.reset.variant 95 = true ∧ State.reset.thermal 95 = false) ∧
    (feedFitted ((chanAt 95 3 { act := false, runonEnd := none, awaited := [], aligned := [], fallAt := none, lastFall := none, fallDly := none, last := { sec := 0, ns := 0, on := false, nocross := false, rtct := false }, count := 0, rise := [], fall := [], heat := 0, sqSum := 0, sqNum := 0, span := none, backoffEnd := 0, backoffKept := none, cutUntil := 0, dipSpent := false, iShed := 0, res := [] }).setB F.OUT_STAT_INR 95 true).variant 3 = true ∧
      ((chanAt 95 3 { act := false, runonEnd := none, awaited := [], aligned := [], fallAt := none, lastFall := none, fallDly := none, last := { sec := 0, ns := 0, on := false, nocross := false, rtct := false }, count := 0, rise := [], fall := [], heat := 0, sqSum := 0, sqNum := 0, span := none, backoffEnd := 0, backoffKept := none, cutUntil := 0, dipSpent := false, iShed := 0, res := [] }).setB F.OUT_STAT_INR 95 true).flag F.TOLL_STAT_DIP 3 = false) ∧
    (feedFitted (State.reset.setB F.TOLL_STAT_DIP 3 true).variant 3 = true ∧ (State.reset.setB F.TOLL_STAT_DIP 3 true).flag F.TOLL_STAT_DIP 3 = true) ∧
    ((((chanAt 95 3 { act := false, runonEnd := none, awaited := [], aligned := [], fallAt := none, lastFall := none, fallDly := none, last := { sec := 0, ns := 0, on := false, nocross := false, rtct := false }, count := 0, rise := [], fall := [], heat := 0, sqSum := 0, sqNum := 0, span := none, backoffEnd := 0, backoffKept := none, cutUntil := 0, dipSpent := false, iShed := 0, res := [] }).setB F.OUT_STAT_INR 95 true).setB F.PROT_STAT_PAUSED 95 true).flag F.PROT_STAT_PAUSED 95 = true) ∧
    (State.reset.flag F.PROT_STAT_PAUSED 95 = false) ∧
    ((chanAt 95 1 { act := false, runonEnd := none, awaited := [], aligned := [], fallAt := none, lastFall := none, fallDly := none, last := { sec := 0, ns := 0, on := false, nocross := false, rtct := false }, count := 0, rise := [], fall := [], heat := 0, sqSum := 10 ^ 9, sqNum := 2, span := none, backoffEnd := 0, backoffKept := none, cutUntil := 0, dipSpent := false, iShed := 0, res := [] }).dom.switch = true) ∧
    (let s : State := chanAt 95 5 { act := true, runonEnd := none, awaited := [], aligned := [], fallAt := none, lastFall := none, fallDly := none, last := { sec := 0, ns := 0, on := false, nocross := false, rtct := false }, count := 0, rise := [], fall := [], heat := 0, sqSum := 0, sqNum := 0, span := none, backoffEnd := 0, backoffKept := none, cutUntil := 0, dipSpent := false, iShed := 0, res := [] }
     s.chState 95 = 5 ∧ s.retryCommand 95 = true ∧ s.flag F.PROT_STAT_WAIT 95 = false ∧ s.flag F.PROT_STAT_SCHOLD 95 = false ∧ s.getF F.PROT_STAT_CAUSE 95 ≠ 1) ∧
    (let s : State := ((chanAt 95 5 { act := true, runonEnd := none, awaited := [], aligned := [], fallAt := none, lastFall := none, fallDly := none, last := { sec := 0, ns := 0, on := false, nocross := false, rtct := false }, count := 0, rise := [], fall := [], heat := 0, sqSum := 0, sqNum := 0, span := none, backoffEnd := 0, backoffKept := none, cutUntil := 0, dipSpent := false, iShed := 0, res := [] }).setF F.PROT_STAT_CAUSE 95 1).setF F.OUT_STAT_STATE 94 3
     s.chState 95 = 5 ∧ s.retryCommand 95 = true ∧ s.flag F.PROT_STAT_WAIT 95 = false ∧ s.flag F.PROT_STAT_SCHOLD 95 = false ∧
      s.getF F.PROT_STAT_CAUSE 95 = 1 ∧ ((feedChans (chFeed 95)).any fun j => j != 95 && s.chState j == 3) = true) ∧
    ((chanAt 95 1 { act := true, runonEnd := none, awaited := [], aligned := [], fallAt := none, lastFall := none, fallDly := none, last := { sec := 0, ns := 0, on := false, nocross := false, rtct := false }, count := 0, rise := [], fall := [], heat := 0, sqSum := 0, sqNum := 0, span := none, backoffEnd := 0, backoffKept := none, cutUntil := 0, dipSpent := false, iShed := 0, res := [] }).chState 95 = 1) := by decide +kernel

/-- A TOLL_CFG word with a budget. -/
def tcfg (b : Nat) : Word := word (b * 2 ^ F.TOLL_CFG_BUDGET.lo + 20 * 2 ^ F.TOLL_CFG_STAGGER.lo + 100 * 2 ^ F.TOLL_CFG_RESTORE.lo)

/-- Channel 95 is commanded and shed. -/
def shed95 (i : Int) : State := (chanAt 95 0 { act := true, iShed := i }).setB F.PROT_STAT_SHED 95 true

theorem witness_tollgate :
    (feedFitted (State.reset.wr Reg.TOLL_CNT 3 65537).variant 3 = true ∧ reservedSet Reg.TOLL_CLR 1 = false ∧ F.TOLL_CLR_CLR.on 1 = true) ∧
    (feedFitted State.reset.variant 3 = true ∧ reservedSet Reg.TOLL_CFG (tcfg 10) = false ∧ 10 ≤ F.TOLL_CFG_BUDGET.of (tcfg 10) ∧
      F.TOLL_CFG_BUDGET.of (tcfg 10) ≤ 150 ∧ F.TOLL_CFG_STAGGER.of (tcfg 10) ≤ 20 ∧ 1 ≤ F.TOLL_CFG_RESTORE.of (tcfg 10) ∧
      F.TOLL_CFG_RESTORE.of (tcfg 10) ≤ 100 ∧ State.reset.planBase 3 + State.reset.planMax 3 ≤ F.TOLL_CFG_BUDGET.of (tcfg 10) * 100) ∧
    (let s := State.reset.setF F.TOLL_CUR_BASE 3 15001
     feedFitted s.variant 3 = true ∧ reservedSet Reg.TOLL_CFG (tcfg 10) = false ∧ 10 ≤ F.TOLL_CFG_BUDGET.of (tcfg 10) ∧ F.TOLL_CFG_BUDGET.of (tcfg 10) ≤ 150 ∧
      F.TOLL_CFG_STAGGER.of (tcfg 10) ≤ 20 ∧ 1 ≤ F.TOLL_CFG_RESTORE.of (tcfg 10) ∧ F.TOLL_CFG_RESTORE.of (tcfg 10) ≤ 100 ∧
      F.TOLL_CFG_BUDGET.of (tcfg 10) * 100 < s.planBase 3 + s.planMax 3 ∧ F.TOLL_CFG_BUDGET.of (s.next Reg.TOLL_CFG 3) ≠ F.TOLL_CFG_BUDGET.of (tcfg 10)) ∧
    (on48.dom.switch = true) ∧
    (State.reset.dom.switch = true) ∧
    ((State.reset.setB F.TOLL_STAT_OVER 3 true).flag F.TOLL_STAT_OVER 3 = true ∧ ((State.reset.setB F.TOLL_STAT_OVER 3 true).feedBand 3).dark = false) ∧
    (State.reset.flag F.TOLL_STAT_OVER 3 = false) ∧
    ((State.reset.tf 3).cur ≤ ↑(State.reset.budget 3 * 10) ∧ State.reset.offered 3 = none) ∧
    (let s := shed95 5
     (s.tf 3).cur ≤ ↑(s.budget 3 * 10) ∧ s.offered 3 = some 95 ∧ (s.tf 3).cur + (s.ch 95).iShed ≤ ↑(s.budget 3 * 10)) ∧
    (let s := shed95 0x4C4B40
     (s.tf 3).cur ≤ ↑(s.budget 3 * 10) ∧ s.offered 3 = some 95 ∧ ↑(s.budget 3 * 10) < (s.tf 3).cur + (s.ch 95).iShed) := by decide +kernel

theorem witness_tollgate_unshed : ∀ n, State.reset.flag F.PROT_STAT_SHED n = false := by
  intro n
  have h : State.reset.flag F.PROT_STAT_SHED n = (bitsOf (word (Reg.desc .PROT_STAT).rst).toNat F.PROT_STAT_SHED.lo F.PROT_STAT_SHED.wd != 0) := rfl
  rw [h]
  decide

/-- Channel 63 is ON, its gain is due, and it has a window or a capture. -/
def sense63 (x : SnsChan) : State := ((chanAt 63 1 {}).setB F.SNS_CSTAT_GAIN_DUE 63 true).setSns 63 x

/-- A gain window with held samples. -/
def gw (k : Nat) (ab : Bool) : GainWin := { first := 5, gain := 0x8000, held := List.replicate k { ua := 1, at_ := 0, stamp := 0, edge := false, on := true }, aborted := ab }

/-- An inrush capture. -/
def capd (skip : Bool) : Capture := { skip := skip, volt := 2400, tol := 5, deg := 20, chg := 50 }

/-- A legal SNS_SIGCFG word at the ends of its ranges. -/
def sigc : Word := word (5 * 2 ^ F.SNS_SIGCFG_TOL.lo + 99 * 2 ^ F.SNS_SIGCFG_DEG_LIM.lo + 200 * 2 ^ F.SNS_SIGCFG_CHG_LIM.lo)

/-- A legal SNS_SIGSEL word. -/
def sigs : Word := word (63 * 2 ^ F.SNS_SIGSEL_CHAN.lo + 2 * 2 ^ F.SNS_SIGSEL_CURVE.lo)

/-- A tester session runs. -/
def testing : State := State.reset.setB F.SNS_STATUS_TESTER 0 true

theorem witness_sensing :
    (State.reset.dom.switch = true ∧ chanFitted State.reset.variant 63 = true ∧ (State.reset.snsCh 63).win = none ∧ State.reset.heldOf Reg.SNS_CAL 63 = none ∧
      (offsetSample 63 100 (snsPublish 63 (State.reset.sample 63 (State.reset.snsScaled 63 100)) (State.reset.snsScaled 63 100) false State.reset)).gainOpens 63 = false) ∧
    (let s := sense63 {}
     s.dom.switch = true ∧ chanFitted s.variant 63 = true ∧ (s.snsCh 63).win = none ∧ s.heldOf Reg.SNS_CAL 63 = none ∧
      (offsetSample 63 100 (snsPublish 63 (s.sample 63 (s.snsScaled 63 100)) (s.snsScaled 63 100) false s)).gainOpens 63 = true) ∧
    (let s := gw 2 false
     (sense63 { win := some s }).dom.switch = true ∧ chanFitted (sense63 { win := some s }).variant 63 = true ∧
      ((sense63 { win := some s }).snsCh 63).win = some s ∧ s.aborted = false ∧ s.held.length < 3) ∧
    (let s := gw 3 false
     (sense63 { win := some s }).dom.switch = true ∧ chanFitted (sense63 { win := some s }).variant 63 = true ∧
      ((sense63 { win := some s }).snsCh 63).win = some s ∧ s.aborted = false ∧ 3 ≤ s.held.length) ∧
    (let s := sense63 { win := some (gw 2 true) }
     s.dom.switch = true ∧ chanFitted s.variant 63 = true ∧ (s.snsCh 63).win = some (gw 2 true) ∧ (gw 2 true).aborted = true) ∧
    (State.reset.dom.switch = true ∧ State.reset.flag F.SNS_STATUS_TESTER 0 = false ∧ chanFitted State.reset.variant (64 + State.reset.snsSlot) = true) ∧
    (let s := ({ on48 with snsSlot := 31 })
     s.dom.switch = true ∧ s.flag F.SNS_STATUS_TESTER 0 = false ∧ chanFitted s.variant (64 + s.snsSlot) = false) ∧
    (testing.dom.switch = true ∧ testing.flag F.SNS_STATUS_TESTER 0 = true) ∧
    (State.reset.dom.switch = true ∧ chanFitted State.reset.variant 95 = true) ∧
    (((sense63 { cap := some (capd true) }).snsCh 63).cap = some (capd true) ∧ (capd true).skip = true) ∧
    (((sense63 { cap := some (capd false) }).snsCh 63).cap = some (capd false) ∧ (capd false).skip = false ∧ (capd false).volt ≠ 0 ∧
      State.reset.flag F.SNS_SIGSTAT_LEARNT 63 = false ∧ (State.reset.setB F.SNS_SIGSTAT_LEARNT 63 true).flag F.SNS_SIGSTAT_LEARNT 63 = true) ∧
    (chanFitted State.reset.variant 63 = true ∧ reservedSet Reg.SNS_SIGCFG sigc = false ∧ 1 ≤ F.SNS_SIGCFG_TOL.of sigc ∧ F.SNS_SIGCFG_TOL.of sigc ≤ 50 ∧
      5 ≤ F.SNS_SIGCFG_DEG_LIM.of sigc ∧ F.SNS_SIGCFG_DEG_LIM.of sigc ≤ 100 ∧ F.SNS_SIGCFG_DEG_LIM.of sigc < F.SNS_SIGCFG_CHG_LIM.of sigc ∧
      F.SNS_SIGCFG_CHG_LIM.of sigc ≤ 200) ∧
    (reservedSet Reg.SNS_SIGSEL sigs = false ∧ F.SNS_SIGSEL_CURVE.of sigs ≠ 3 ∧ F.SNS_SIGSEL_CHAN.of sigs < 64 ∧
      chanFitted State.reset.variant (F.SNS_SIGSEL_CHAN.of sigs) = true) := by decide +kernel

/-- Valve 23 is enabled, in a state. -/
def valve23 (st : Nat) : State := (State.reset.setB F.VLV_MODE_EN 23 true).setF F.VLV_STAT_STATE 23 st

/-- Valve 20 boosts, so that a start of valve 23 is deferred. -/
def deferred (md : Nat) : State := (((valve23 0).setB F.VLV_GSTAT_BOOST 5 true).setF F.VLV_STAT_STATE 20 2).setF F.VLV_GCFG_MAXDEF 5 md

theorem witness_valveCommands :
    (valveFitted State.reset.variant 23 = true ∧ reservedSet Reg.VLV_CMD 1 = false ∧ F.VLV_CMD_START.on 1 = true ∧ F.VLV_CMD_OFF.on 1 = false) ∧
    (valveFitted (valve23 2).variant 23 = true ∧ reservedSet Reg.VLV_CMD 1 = false ∧ F.VLV_CMD_START.on 1 = true ∧ F.VLV_CMD_OFF.on 1 = false) ∧
    (valveFitted State.reset.variant 23 = true ∧ reservedSet Reg.VLV_CMD 1 = false ∧ F.VLV_CMD_START.on 1 = true ∧ State.reset.startBarred 23 = true) ∧
    (valveFitted State.reset.variant 23 = true ∧ reservedSet Reg.VLV_CMD 3 = false ∧ F.VLV_CMD_START.on 3 = true ∧ F.VLV_CMD_OFF.on 3 = true) ∧
    (valveFitted (valve23 2).variant 23 = true ∧ reservedSet Reg.VLV_CMD 1 = false ∧ F.VLV_CMD_START.on 1 = true ∧ (valve23 2).startBarred 23 = false ∧
      (valve23 2).vState 23 = 2) ∧
    (let s := valve23 0
     valveFitted s.variant 23 = true ∧ reservedSet Reg.VLV_CMD 1 = false ∧ F.VLV_CMD_START.on 1 = true ∧ s.startBarred 23 = false ∧ s.vState 23 ≠ 1 ∧
      s.vState 23 ≠ 2 ∧ s.vState 23 ≠ 3 ∧ s.flag F.VLV_STAT_RPEND 23 = false ∧ s.deferral 23 = 0) ∧
    (let s := deferred 100
     valveFitted s.variant 23 = true ∧ reservedSet Reg.VLV_CMD 1 = false ∧ F.VLV_CMD_START.on 1 = true ∧ s.startBarred 23 = false ∧ s.vState 23 ≠ 1 ∧
      s.vState 23 ≠ 2 ∧ s.vState 23 ≠ 3 ∧ s.flag F.VLV_STAT_RPEND 23 = false ∧ s.deferral 23 ≠ 0 ∧ s.deferral 23 ≤ s.getF F.VLV_GCFG_MAXDEF (23 / 4) * 0x186A0) ∧
    (let s := deferred 0
     valveFitted s.variant 23 = true ∧ reservedSet Reg.VLV_CMD 1 = false ∧ F.VLV_CMD_START.on 1 = true ∧ s.startBarred 23 = false ∧ s.vState 23 ≠ 1 ∧
      s.vState 23 ≠ 2 ∧ s.vState 23 ≠ 3 ∧ s.flag F.VLV_STAT_RPEND 23 = false ∧ s.getF F.VLV_GCFG_MAXDEF (23 / 4) * 0x186A0 < s.deferral 23) ∧
    (valveFitted (valve23 2).variant 23 = true ∧ reservedSet Reg.VLV_CMD 2 = false ∧ F.VLV_CMD_START.on 2 = false ∧ F.VLV_CMD_OFF.on 2 = true) ∧
    (reservedSet Reg.VLV_STARTM 0xFFFFFF = false ∧ ((onesUpTo 24 ((BitVec.toNat (0xFFFFFF : Word)))).all fun v => valveFitted (valve23 0).variant v) = true) ∧
    (reservedSet Reg.VLV_STARTM 0x800000 = false ∧ List.find? (fun v => !valveFitted on48.variant v) (onesUpTo 24 ((BitVec.toNat (0x800000 : Word)))) = some 23) ∧
    (reservedSet Reg.VLV_OFFM 0xFFFFFF = false ∧ ((onesUpTo 24 ((BitVec.toNat (0xFFFFFF : Word)))).all fun v => valveFitted (valve23 2).variant v) = true) ∧
    (reservedSet Reg.VLV_OFFM 0x800000 = false ∧ List.find? (fun v => !valveFitted on48.variant v) (onesUpTo 24 ((BitVec.toNat (0x800000 : Word)))) = some 23) ∧
    (groupFitted ((valve23 7).setB F.VLV_GSTAT_HSFAULT 5 true).variant 5 = true ∧ reservedSet Reg.VLV_GCLR 1 = false ∧ F.VLV_GCLR_CLR.on 1 = true ∧
      F.VLV_GCLR_CNTCLR.on 1 = false) ∧
    (groupFitted ((valve23 7).wr Reg.VLV_GCNT 5 7).variant 5 = true ∧ reservedSet Reg.VLV_GCLR 2 = false ∧ F.VLV_GCLR_CLR.on 2 = false ∧
      F.VLV_GCLR_CNTCLR.on 2 = true) := by decide +kernel

/-- Sticking detection of valve 23 is on. -/
def stk (x : State) : State := x.setB F.VLV_MODE_STK_EN 23 true

theorem witness_valvePhases :
    ((valve23 1).vState 23 = 1 ∧ (valve23 1).boostNow 23 = true) ∧
    (((valve23 5).setB F.VLV_STAT_RPEND 23 true).flag F.VLV_STAT_RPEND 23 = true ∧ ((valve23 5).setB F.VLV_STAT_RPEND 23 true).boostNow 23 = true) ∧
    (((valve23 1).setB F.VLV_GSTAT_BOOST 5 true).boostNow 23 = false) ∧
    ((valve23 2).vState 23 = 2 ∧ ((valve23 2).vlv 23).restart = false) ∧
    ((valve23 2).vState 23 = 2 ∧ (valve23 2).flag F.VLV_MODE_LATEACT 23 = false) ∧
    ((stk (valve23 2)).vState 23 = 2) ∧
    (((stk (valve23 2)).setB F.VLV_MODE_LATEACT 23 true).vState 23 = 2 ∧ ((stk (valve23 2)).setB F.VLV_MODE_LATEACT 23 true).flag F.VLV_MODE_LATEACT 23 = true) ∧
    ((valve23 3).vState 23 = 3) ∧
    ((valve23 4).vState 23 = 4 ∧ (valve23 4).getF F.VLV_MODE_HOLDMAX 23 = 0) ∧
    (((valve23 4).setF F.VLV_MODE_HOLDMAX 23 1).vState 23 = 4 ∧ ((valve23 4).setF F.VLV_MODE_HOLDMAX 23 1).getF F.VLV_MODE_HOLDMAX 23 ≠ 0) ∧
    ((valve23 5).vState 23 = 5 ∧ (valve23 5).flag F.VLV_STAT_RPEND 23 = false) ∧
    (((valve23 6).setB F.VLV_STAT_RPEND 23 true).vState 23 = 6 ∧ ((valve23 6).setB F.VLV_STAT_RPEND 23 true).flag F.VLV_STAT_RPEND 23 = true) ∧
    ((setEvent 23 { lastPh := 0, ttpv := 0, stroke := 0, fin := 3, start := 0, ttp := 0, restarts := 0, feedpath := false, deferred := false } (valve23 8)).vState 23 = 8 ∧
      ((setEvent 23 { lastPh := 0, ttpv := 0, stroke := 0, fin := 3, start := 0, ttp := 0, restarts := 0, feedpath := false, deferred := false } (valve23 8)).vlv 23).event.fin = 3) ∧
    ((valve23 6).vBusy 23 = true) ∧
    ((valve23 0).vBusy 23 = false) ∧
    (groupFitted (valve23 2).variant 5 = true ∧ (valve23 2).boostRuns = true ∧ 400 + 20 < (valve23 2).getF F.VLV_GCFG_RAIL 5 * 10) ∧
    (groupFitted (valve23 2).variant 5 = true ∧ (valve23 2).boostRuns = true ∧ (valve23 2).getF F.VLV_GCFG_RAIL 5 * 10 ≤ 900 + 20) := by decide +kernel

/-- Switch input 63 in a mode, with values beside its registers. -/
def sin63 (mode : Nat) (x : Input) : State := (State.reset.setF F.SIN_CFG_MODE 63 mode).setSi 63 x

/-- Switch input 63 has a candidate position. -/
def res63 (c : Nat) (up : Nat) (r : Option Nat) : State := { sin63 2 { cand := 15, candN := c, candAt := 0, candStamp := 7, resume := r } with up := up }

/-- The module sleeps with input 63 polled. -/
def sleeping (pol : List Nat) (win : List Nat) : State :=
  let s := (State.reset.setF F.PWR_STAT_STATE 0 2).setB F.NET_ARM_INPUT 0 true
  { s with net := { s.net with pollSet := [63], polled := pol, windows := win } }

theorem witness_switchInputs :
    (let s := sin63 1 { atEntry := (0, 0) }
     s.dom.switch = true ∧ s.almStopped = false ∧ sinFitted s.variant 63 = true ∧ s.sinMode 63 = 1 ∧
      (s.setB F.SIN_STAT_RAW 63 false).sinTarget 63 = (s.setB F.SIN_STAT_RAW 63 false).sinLevel 63) ∧
    (let s := sin63 1 { atEntry := (0, 0) }
     s.dom.switch = true ∧ s.almStopped = false ∧ sinFitted s.variant 63 = true ∧ s.sinMode 63 = 1 ∧
      (s.setB F.SIN_STAT_RAW 63 true).sinTarget 63 ≠ (s.setB F.SIN_STAT_RAW 63 true).sinLevel 63 ∧ ((s.setB F.SIN_STAT_RAW 63 true).si 63).run = none) ∧
    (let s := sin63 1 { run := some 77, atEntry := (0, 0) }
     s.dom.switch = true ∧ s.almStopped = false ∧ sinFitted s.variant 63 = true ∧ s.sinMode 63 = 1 ∧
      (s.setB F.SIN_STAT_RAW 63 true).sinTarget 63 ≠ (s.setB F.SIN_STAT_RAW 63 true).sinLevel 63 ∧ ((s.setB F.SIN_STAT_RAW 63 true).si 63).run ≠ none) ∧
    (let s := sin63 3 { atEntry := (0, 0) }
     s.dom.switch = true ∧ s.almStopped = false ∧ sinFitted s.variant 63 = true ∧ s.sinMode 63 = 3) ∧
    (let s := sin63 1 { run := some 77, atEntry := (0, 0) }
     s.dom.switch = true ∧ s.almStopped = false ∧ sinFitted s.variant 63 = true ∧ (s.si 63).run = some 77) ∧
    (let s := sin63 2 { atEntry := (0, 0) }
     s.dom.switch = true ∧ s.almStopped = false ∧ sinFitted s.variant 63 = true ∧ s.sinMode 63 = 2 ∧
      (s.setF F.SIN_STAT_RES 63 (match none with | some r => sat 65535 r | none => 65535)).posOf 63 none ≠ (s.setF F.SIN_STAT_RES 63 (match none with | some r => sat 65535 r | none => 65535)).sinPos 63 ∧
      ((s.setF F.SIN_STAT_RES 63 (match none with | some r => sat 65535 r | none => 65535)).si 63).candN = 0) ∧
    (let s := (sin63 2 { atEntry := (0, 0) }).setF F.SIN_STAT_POS 63 15
     s.dom.switch = true ∧ s.almStopped = false ∧ sinFitted s.variant 63 = true ∧ s.sinMode 63 = 2 ∧
      (s.setF F.SIN_STAT_RES 63 (match none with | some r => sat 65535 r | none => 65535)).posOf 63 none = (s.setF F.SIN_STAT_RES 63 (match none with | some r => sat 65535 r | none => 65535)).sinPos 63 ∧
      ((s.setF F.SIN_STAT_RES 63 (match none with | some r => sat 65535 r | none => 65535)).si 63).resume = none) ∧
    (let s := (res63 2 0 none).setF F.SIN_STAT_RES 63 (match none with | some r => sat 65535 r | none => 65535)
     (res63 2 0 none).dom.switch = true ∧ (res63 2 0 none).almStopped = false ∧ sinFitted (res63 2 0 none).variant 63 = true ∧
      (res63 2 0 none).sinMode 63 = 2 ∧ s.posOf 63 none ≠ s.sinPos 63 ∧ (s.si 63).candN ≠ 0 ∧ (s.si 63).cand = s.posOf 63 none ∧
      s.up < (s.si 63).candAt + s.getF F.SIN_CFG_DEBOUNCE 63 * 1000) ∧
    (let s := (res63 2 0x3B9ACA00 none).setF F.SIN_STAT_RES 63 (match none with | some r => sat 65535 r | none => 65535)
     (res63 2 0x3B9ACA00 none).dom.switch = true ∧ (res63 2 0x3B9ACA00 none).almStopped = false ∧ sinFitted (res63 2 0x3B9ACA00 none).variant 63 = true ∧
      (res63 2 0x3B9ACA00 none).sinMode 63 = 2 ∧ s.posOf 63 none ≠ s.sinPos 63 ∧ (s.si 63).candN ≠ 0 ∧ (s.si 63).cand = s.posOf 63 none ∧
      (s.si 63).candAt + s.getF F.SIN_CFG_DEBOUNCE 63 * 1000 ≤ s.up) ∧
    ((sin63 1 { atEntry := (0, 0) }).sinMode 63 ≠ 2) ∧
    (let s := sleeping [] []
     s.net.windows.contains 3 = false ∧ s.asleep = true ∧ s.sourceArmed 3 = true ∧ pollChanges (2 ^ 63) (fun n => (s.si n).atEntry.1 != 0) s.net.pollSet s ≠ []) ∧
    (let s := sleeping [] []
     s.net.windows.contains 3 = false ∧ s.asleep = true ∧ s.sourceArmed 3 = true ∧ pollChanges 5 (fun n => (s.si n).atEntry.1 != 0) s.net.pollSet s = []) ∧
    (let s := sleeping [63] [3]
     s.net.windows.contains 3 = true ∧ s.net.polled ≠ [] ∧ pollChanges 5 (fun n => (s.si n).atEntry.1 != 0) s.net.polled s = []) ∧
    (let s := sleeping [63] [3]
     s.net.windows.contains 3 = true ∧ s.net.polled ≠ [] ∧ pollChanges (2 ^ 63) (fun n => (s.si n).atEntry.1 != 0) s.net.polled s ≠ []) ∧
    (State.reset.net.windows.contains 3 = false ∧ State.reset.asleep = false ∧ State.reset.entering = false ∧ State.reset.nmState ≠ 2 ∧ State.reset.nmState ≠ 3) := by decide +kernel

/-- Field point 31 is an output. -/
def outp : State := State.reset.setF F.FIO_CFG_DIR 31 1

/-- Field point 31 holds through PARK, and an entry to PARK saves. -/
def ph : State := ((outp.setB F.FIO_CFG_PARKHOLD 31 true).setF F.PWR_STAT_TGT 0 2).setF F.PWR_STAT_PHASE 0 1

/-- TOSTATE has a value. -/
def tos (n : Nat) (s : State) : State := s.setF F.FIO_STATUS_TOSTATE 0 n

theorem witness_fieldPoints :
    (let s : State := State.reset.setB (portBit Reg.FIO_PIN 31) 0 true
     State.reset.dom.field = true ∧ State.reset.toState ≠ 3 ∧ fioFitted State.reset.variant 31 = true ∧ s.fioIsOut 31 = false ∧ true ≠ s.fioIn 31 ∧
      (s.fp 31).run = none) ∧
    (State.reset.dom.field = true ∧ State.reset.toState ≠ 3 ∧ fioFitted State.reset.variant 31 = true ∧
      (State.reset.setB (portBit Reg.FIO_PIN 31) 0 false).fioIsOut 31 = false ∧ false = (State.reset.setB (portBit Reg.FIO_PIN 31) 0 false).fioIn 31) ∧
    (outp.dom.field = true ∧ outp.toState ≠ 3 ∧ fioFitted outp.variant 31 = true ∧ (outp.setB (portBit Reg.FIO_PIN 31) 0 true).fioIsOut 31 = true) ∧
    (let s : State := State.reset.setFp 31 { run := some 5, cand := 0, candN := 0, candStamp := 0, candAt := 0, rise := none, atEntry := (0, 0), resume := none }
     s.dom.field = true ∧ s.toState ≠ 3 ∧ fioFitted s.variant 31 = true ∧ (s.setB (portBit Reg.FIO_PIN 31) 0 true).fioIsOut 31 = false ∧
      true ≠ (s.setB (portBit Reg.FIO_PIN 31) 0 true).fioIn 31 ∧ ((s.setB (portBit Reg.FIO_PIN 31) 0 true).fp 31).run ≠ none) ∧
    (let s : State := State.reset.setFp 31 { run := some 5, cand := 0, candN := 0, candStamp := 0, candAt := 0, rise := none, atEntry := (0, 0), resume := none }
     s.dom.field = true ∧ s.toState ≠ 3 ∧ (s.fp 31).run = some 5) ∧
    (absentPoint State.reset 0xFFFFFFFF = none ∧ parkHeldRise State.reset 0xFFFFFFFF = false) ∧
    (absentPoint (tos 2 outp) 0xFFFFFFFF = none ∧ parkHeldRise (tos 2 outp) 0xFFFFFFFF = false) ∧
    (absentPoint State.reset 0xFFFFFFFF = none ∧ State.reset.toState ≠ 2 ∧ parkHeldRise State.reset (State.reset.rd Reg.FIO_OUT 0 ||| 0xFFFFFFFF) = false) ∧
    (absentPoint State.reset 0xFFFFFFFF = none ∧ State.reset.toState ≠ 2 ∧ parkHeldRise State.reset (State.reset.rd Reg.FIO_OUT 0 &&& ~~~0xFFFFFFFF) = false) ∧
    (absentPoint ph 0xFFFFFFFF = none ∧ ph.toState ≠ 2 ∧ parkHeldRise ph (ph.rd Reg.FIO_OUT 0 &&& ~~~0xFFFFFFFF) = false) ∧
    (absentPoint ph 0xFFFFFFFF = none ∧ parkHeldRise ph 0xFFFFFFFF = true) ∧
    (absentPoint (tos 2 outp) 0xFFFFFFFF = none ∧ (tos 2 outp).toState = 2) ∧
    (absentPoint on48 0x80000000 = some 31) ∧
    (reservedSet Reg.FIO_KICK 1 = false ∧ (tos 2 outp).toState = 2) ∧
    (reservedSet Reg.FIO_KICK 1 = false ∧ (tos 0 outp).toState ≠ 2 ∧ F.FIO_KICK_KICK.on 1 = true) ∧
    ((State.reset.wr Reg.FIO_COSF 0 3).rd Reg.FIO_COSF 0 &&& ~~~1 ≠ 0) ∧
    ((State.reset.wr Reg.FIO_COSF 0 3).rd Reg.FIO_COSF 0 &&& ~~~3 = 0) ∧
    ((tos 1 outp).toState = 1) ∧
    ((tos 2 outp).toState ≠ 1) ∧
    (reservedSet Reg.FIO_STATUS (word (2 ^ F.FIO_STATUS_FAULT.lo)) = false ∧ F.FIO_STATUS_FAULT.on (word (2 ^ F.FIO_STATUS_FAULT.lo)) = true ∧
      (State.reset.setB F.FIO_STATUS_FAULT 0 true).fioCause = false) ∧
    (reservedSet Reg.FIO_STATUS (word (2 ^ F.FIO_STATUS_FAULT.lo)) = false ∧ F.FIO_STATUS_FAULT.on (word (2 ^ F.FIO_STATUS_FAULT.lo)) = true ∧
      ((State.reset.setB F.FIO_STATUS_FAULT 0 true).setB F.FIO_STATUS_OVT 0 true).fioCause = true) ∧
    (((tos 1 outp).wr Reg.FIO_OUT 0 0x80000000).fioDriven 31 = true) ∧
    (State.reset.flag F.FIO_STATUS_OVT 0 = false) ∧
    ((State.reset.setB F.FIO_STATUS_FAULT 0 true).flag F.FIO_STATUS_OVT 0 = false) := by decide +kernel

/-- CAN channel 7 is in a state. -/
def can7 (st : Nat) : State := State.reset.setF F.CAN_STAT_STATE 7 st
def canFr : CanFrame := { id := 5, ide := false, fdf := false, brs := false, rtr := false, esi := false, dlc := 1, data := [1], sof := 0 }

/-- Filter 9 of CAN7 is in use. -/
def pair7 : State := (can7 2).wr .FLT_CTRL (fltIx 7 9) 1

/-- Mailbox 26 of CAN7 is in a state. -/
def mb7 (st : Nat) : State := (can7 2).setF F.MB_STAT_STATE (mbIx 7 26) st

theorem witness_canStates :
    (canFitted State.reset.variant 7 = true ∧ reservedSet Reg.CAN_MODE 1 = false ∧ F.CAN_MODE_MODE.of 1 ≤ 4 ∧ State.reset.canState 7 = 0) ∧
    (canFitted (can7 2).variant 7 = true ∧ reservedSet Reg.CAN_MODE 4 = false ∧ F.CAN_MODE_MODE.of 4 ≤ 4 ∧ (can7 2).canState 7 ≠ 0 ∧ F.CAN_MODE_MODE.of 4 ≠ 0) ∧
    (((can7 2).hold Reg.CAN_MODE 7 0).activeMb 7 = none ∧ (((can7 2).hold Reg.CAN_MODE 7 0).heldOf Reg.CAN_MODE 7).isSome = true) ∧
    ((can7 2).activeMb 7 = none ∧ ((can7 2).heldOf Reg.CAN_MODE 7).isSome = false) ∧
    (((can7 1).setF F.CAN_MODE_MODE 7 2).canState 7 = 1) ∧
    (let s := can7 2
     canFr.id ≠ 0 ∧ s.canOn 7 = true ∧ (((if s.canState 7 = 2 then filtersApply 7 (recLess 7 (canFilter 7 canFr s)) else if s.canState 7 = 3 ∨ s.canState 7 = 7 then filtersApply 7 (canFilter 7 canFr s) else filtersApply 7 s).q (QId.can 7 0)).recs.length ≤ (s.q (QId.can 7 0)).recs.length) ∧
      (((if s.canState 7 = 2 then filtersApply 7 (recLess 7 (canFilter 7 canFr s)) else if s.canState 7 = 3 ∨ s.canState 7 = 7 then filtersApply 7 (canFilter 7 canFr s) else filtersApply 7 s).q (QId.can 7 1)).recs.length ≤ (s.q (QId.can 7 1)).recs.length)) ∧
    (canFr.id ≠ 0 ∧ pair7.canOn 7 = true ∧
      ((pair7.q (QId.can 7 0)).recs.length < ((if pair7.canState 7 = 2 then filtersApply 7 (recLess 7 (canFilter 7 canFr pair7)) else if pair7.canState 7 = 3 ∨ pair7.canState 7 = 7 then filtersApply 7 (canFilter 7 canFr pair7) else filtersApply 7 pair7).q (QId.can 7 0)).recs.length)) ∧
    (let s := pair7.setF F.CAN_STAT_STATE 7 3
     canFr.id ≠ 0 ∧ s.canOn 7 = true ∧ ((s.q (QId.can 7 0)).recs.length < ((if s.canState 7 = 2 then filtersApply 7 (recLess 7 (canFilter 7 canFr s)) else if s.canState 7 = 3 ∨ s.canState 7 = 7 then filtersApply 7 (canFilter 7 canFr s) else filtersApply 7 s).q (QId.can 7 0)).recs.length)) ∧
    (canFr.id ≠ 0 ∧ ({ pair7 with dom := { pair7.dom with comms := false } }).canOn 7 = false) ∧
    ((can7 3).canOn 7 = true ∧ (can7 3).canState 7 = 3 ∧ ((((can7 3).setF F.CAN_ERR_LEC 7 (if 3 = 7 ∧
      (can7 3).flag F.CAN_MODE_PXHD 7 = false then 2 else 3)).setB F.CAN_ERR_DPH 7 true).activeMb 7 = none)) ∧
    ((can7 2).canOn 7 = true ∧ (can7 2).canState 7 = 2 ∧ (countersTo 7 128 6 (((can7 2).setF F.CAN_ERR_LEC 7 3).setB F.CAN_ERR_DPH 7 true)).activeMb 7 = none) ∧
    ((mb7 3).canOn 7 = true ∧ (mb7 3).canState 7 = 2) ∧
    (let s := ({ can7 8 with canRecover := tabSet false [] 7 true })
     s.canState 7 = 8 ∧ tabGet false s.canRecover 7 = true ∧ 7 ≠ s.canOpenCh) ∧
    (let s := ({ State.reset with canRecover := tabSet false [] 0 true }).setF F.CAN_STAT_STATE 0 8
     s.canState 0 = 8 ∧ tabGet false s.canRecover 0 = true ∧ 0 = s.canOpenCh) ∧
    (let s := (can7 8).setB F.CAN_MODE_ABOR 7 false
     canFitted s.variant 7 = true ∧ s.canState 7 = 8 ∧ s.flag F.CAN_MODE_ABOR 7 = false ∧ reservedSet Reg.CAN_ERR (0 ||| word (2 ^ F.CAN_ERR_RECOVER.lo)) = false) ∧
    ((can7 8).canState 7 ≠ 7) ∧
    ((can7 7).canState 7 = 7) := by decide +kernel

/-- Mailbox 26 of CAN7 is in a state. -/
def mb (ch st : Nat) : State := (can7 ch).setF F.MB_STAT_STATE (mbIx 7 26) st

theorem witness_canMailboxes :
    (canFitted (mb 2 2).variant 7 = true ∧ (mb 2 2).claimedMb 7 26 = false ∧ 2 ≤ (mb 2 2).mbState 7 26) ∧
    (canFitted (mb 2 0).variant 7 = true ∧ (mb 2 0).claimedMb 7 26 = false ∧ (mb 2 0).entering = false ∧ reservedSet Reg.MB_CTRL 0 = false ∧ 0 &&& 15 = 0 ∧
      (mb 2 0).mbState 7 26 < 2 ∧ mbLoadOk ((mb 2 0).mbWord 7 26 0) ((mb 2 0).mbWord 7 26 1) = true) ∧
    (canFitted (mb 2 1).variant 7 = true ∧ (mb 2 1).claimedMb 7 26 = false ∧ (mb 2 1).entering = false ∧
      reservedSet Reg.MB_CTRL (word (2 ^ F.MB_CTRL_ONESHOT.lo)) = false ∧ word (2 ^ F.MB_CTRL_ONESHOT.lo) &&& 15 = 0 ∧ (mb 2 1).mbState 7 26 < 2 ∧
      mbLoadOk ((mb 2 1).mbWord 7 26 0) ((mb 2 1).mbWord 7 26 1) = true) ∧
    (canFitted (mb 2 1).variant 7 = true ∧ (mb 2 1).claimedMb 7 26 = false ∧ (mb 2 1).entering = false ∧ reservedSet Reg.MB_CTRL 0 = false ∧ 0 &&& 15 = 0 ∧
      (mb 2 1).mbState 7 26 = 1 ∧ (mb 2 1).canState 7 ≠ 8 ∧ F.MB_CTRL_MSONLY.on 0 = false) ∧
    (canFitted (mb 2 1).variant 7 = true ∧ (mb 2 1).claimedMb 7 26 = false ∧ (mb 2 1).entering = false ∧
      reservedSet Reg.MB_CTRL (word (2 ^ F.MB_CTRL_ONESHOT.lo)) = false ∧ word (2 ^ F.MB_CTRL_ONESHOT.lo) &&& 15 = 0 ∧ (mb 2 1).mbState 7 26 = 1 ∧
      (mb 2 1).canState 7 ≠ 8 ∧ F.MB_CTRL_MSONLY.on (word (2 ^ F.MB_CTRL_ONESHOT.lo)) = false) ∧
    (canFitted (mb 2 2).variant 7 = true ∧ (mb 2 2).claimedMb 7 26 = false ∧ (mb 2 2).entering = false ∧ reservedSet Reg.MB_CTRL 0 = false ∧ 0 &&& 15 = 0 ∧
      (mb 2 2).mbState 7 26 = 2 ∧ (mb 2 2).getF F.MB_STAT_ATTEMPTS (mbIx 7 26) = 0) ∧
    ((mb 2 2).canOn 7 = true ∧ (mb 2 2).canSends 7 = true ∧ (mb 2 2).activeMb 7 = none ∧ (mb 2 2).heldOf Reg.CAN_MODE 7 = none ∧ (mb 2 2).selectMb 7 = some 26) ∧
    ((mb 2 0).canOn 7 = true ∧ (mb 2 0).canSends 7 = true ∧ (mb 2 0).activeMb 7 = none ∧ (mb 2 0).heldOf Reg.CAN_MODE 7 = none ∧ (mb 2 0).selectMb 7 = none) ∧
    ((mb 2 3).activeMb 7 = some 26 ∧ (mb 2 3).canState 7 = 2 ∧ (mb 2 3).flag F.CAN_MODE_SELFRX 7 = false ∧ (mb 2 3).flag F.MB_STAT_REREQ (mbIx 7 26) = false ∧
      tabGet false (mb 2 3).mbAbort (mbIx 7 26) = false) ∧
    (let s := (mb 2 3).setB F.MB_STAT_REREQ (mbIx 7 26) true
     s.activeMb 7 = some 26 ∧ s.canState 7 = 2 ∧ s.flag F.CAN_MODE_SELFRX 7 = false ∧ s.flag F.MB_STAT_REREQ (mbIx 7 26) = true ∧
      tabGet false s.mbAbort (mbIx 7 26) = false) ∧
    (let s := ({ mb 2 3 with mbAbort := tabSet false [] (mbIx 7 26) true })
     s.activeMb 7 = some 26 ∧ s.canState 7 = 2 ∧ s.flag F.CAN_MODE_SELFRX 7 = false ∧ tabGet false s.mbAbort (mbIx 7 26) = true) ∧
    ((mb 2 3).activeMb 7 = some 26 ∧ (mb 2 3).flag F.MB_CTRL_ONESHOT (mbIx 7 26) = false ∧ tabGet false (mb 2 3).mbAbort (mbIx 7 26) = false) := by decide +kernel

/-- LIN3 is in a state at 19,200 bit/s, its table 0 has slot 5 alone, and it has values beside its registers. -/
def lin3 (en : Bool) (st : Nat) (x : Lin) : State :=
  linWordSet 3 5 0 (word (0x10 + 2 * 2 ^ 7 + 2 ^ 17 + 10 * 2 ^ 18)) ((((((State.reset.setB F.LIN_CFG_EN 3 en).setF F.LIN_CFG_RATE 3 19200).setF F.LIN_STAT_STATE 3 st).setF
    F.LIN_TDEF_FIRST 12 5).setF F.LIN_TDEF_LEN 12 1).setLn 3 x)
def linCfg (en : Bool) (extra : Nat) : Word := word (19200 * 2 ^ F.LIN_CFG_RATE.lo + b01 en * 2 ^ F.LIN_CFG_EN.lo + extra)

/-- A LIN_SCH word with RUN. -/
def wrun : Word := word (2 ^ F.LIN_SCH_RUN.lo)

/-- LIN channel 3 runs its schedule. -/
def running (x : Lin) : State := (lin3 true 2 x).setB F.LIN_SCH_RUN 3 true

theorem witness_linCommanders :
    (let s := lin3 false 0 {}
     linFitted s.variant 3 = true ∧ reservedSet Reg.LIN_CFG (linCfg true 0) = false ∧ 1000 ≤ F.LIN_CFG_RATE.of (linCfg true 0) ∧
      F.LIN_CFG_RATE.of (linCfg true 0) ≤ 20000 ∧ s.flag F.LIN_CFG_EN 3 = false ∧ s.linState 3 = 0 ∧ F.LIN_CFG_SLEEP.on (linCfg true 0) = false ∧
      F.LIN_CFG_WAKE.on (linCfg true 0) = false ∧ F.LIN_CFG_EN.on (linCfg true 0) = true ∧ s.flag F.LIN_SCH_RUN 3 = false) ∧
    (let s := (lin3 false 0 {}).setB F.LIN_SCH_RUN 3 true
     linFitted s.variant 3 = true ∧ reservedSet Reg.LIN_CFG (linCfg true 0) = false ∧ 1000 ≤ F.LIN_CFG_RATE.of (linCfg true 0) ∧
      F.LIN_CFG_RATE.of (linCfg true 0) ≤ 20000 ∧ s.flag F.LIN_CFG_EN 3 = false ∧ s.linState 3 = 0 ∧ F.LIN_CFG_SLEEP.on (linCfg true 0) = false ∧
      F.LIN_CFG_WAKE.on (linCfg true 0) = false ∧ F.LIN_CFG_EN.on (linCfg true 0) = true ∧ s.flag F.LIN_SCH_RUN 3 = true) ∧
    (let s := lin3 true 2 {}
     linFitted s.variant 3 = true ∧ reservedSet Reg.LIN_CFG (linCfg false 0) = false ∧ 1000 ≤ F.LIN_CFG_RATE.of (linCfg false 0) ∧
      F.LIN_CFG_RATE.of (linCfg false 0) ≤ 20000 ∧ s.flag F.LIN_CFG_EN 3 = true ∧ F.LIN_CFG_RATE.of (linCfg false 0) = s.getF F.LIN_CFG_RATE 3 ∧
      s.linState 3 ≠ 0 ∧ F.LIN_CFG_EN.on (linCfg false 0) = false ∧ F.LIN_CFG_SLEEP.on (linCfg false 0) = false ∧ F.LIN_CFG_WAKE.on (linCfg false 0) = false ∧
      (s.ln 3).inFrame = false) ∧
    (let s := lin3 true 2 { inFrame := true }
     linFitted s.variant 3 = true ∧ reservedSet Reg.LIN_CFG (linCfg false 0) = false ∧ 1000 ≤ F.LIN_CFG_RATE.of (linCfg false 0) ∧
      F.LIN_CFG_RATE.of (linCfg false 0) ≤ 20000 ∧ s.flag F.LIN_CFG_EN 3 = true ∧ F.LIN_CFG_RATE.of (linCfg false 0) = s.getF F.LIN_CFG_RATE 3 ∧
      s.linState 3 ≠ 0 ∧ F.LIN_CFG_EN.on (linCfg false 0) = false ∧ F.LIN_CFG_SLEEP.on (linCfg false 0) = false ∧ F.LIN_CFG_WAKE.on (linCfg false 0) = false ∧
      (s.ln 3).inFrame = true) ∧
    (let s := (lin3 true 2 {}).setF F.LIN_CFG_RATE 3 1000
     linFitted s.variant 3 = true ∧ reservedSet Reg.LIN_CFG (linCfg false 0) = false ∧ 1000 ≤ F.LIN_CFG_RATE.of (linCfg false 0) ∧
      F.LIN_CFG_RATE.of (linCfg false 0) ≤ 20000 ∧ s.flag F.LIN_CFG_EN 3 = true ∧ F.LIN_CFG_RATE.of (linCfg false 0) ≠ s.getF F.LIN_CFG_RATE 3) ∧
    (linFitted ((lin3 true 1 {}).setF F.PWR_STAT_PHASE 0 1).variant 3 = true ∧ reservedSet Reg.LIN_SCH wrun = false ∧
      ((lin3 true 1 {}).setF F.PWR_STAT_PHASE 0 1).entering = true ∧ F.LIN_SCH_RUN.on wrun = true) ∧
    (linFitted (lin3 true 1 { inSlot := true }).variant 3 = true ∧ reservedSet Reg.LIN_SCH wrun = false ∧ (lin3 true 1 { inSlot := true }).entering = false ∧
      ((lin3 true 1 { inSlot := true }).ln 3).inSlot = true) ∧
    (let s := lin3 true 1 { idx := 4 }
     linFitted s.variant 3 = true ∧ reservedSet Reg.LIN_SCH (wrun ||| word (2 * 2 ^ F.LIN_SCH_TABLE.lo)) = false ∧ s.entering = false ∧
      (s.ln 3).inSlot = false ∧ (s.ln 3).sleeping = false ∧ F.LIN_SCH_RUN.on (wrun ||| word (2 * 2 ^ F.LIN_SCH_TABLE.lo)) = true ∧
      (schApply 3 (s.hold Reg.LIN_SCH 3 (wrun ||| word (2 * 2 ^ F.LIN_SCH_TABLE.lo)))).linState 3 = 1) ∧
    (let s := running { idx := 4 }
     linFitted s.variant 3 = true ∧ reservedSet Reg.LIN_SCH 0 = false ∧ s.entering = false ∧ (s.ln 3).inSlot = false ∧ (s.ln 3).sleeping = false ∧
      F.LIN_SCH_RUN.on 0 = false ∧ (schApply 3 (s.hold Reg.LIN_SCH 3 0)).linState 3 = 2) ∧
    (let s := lin3 true 1 { waking := true }
     linFitted s.variant 3 = true ∧ reservedSet Reg.LIN_CFG (linCfg true 0 ||| word (2 ^ F.LIN_CFG_SLEEP.lo)) = false ∧
      1000 ≤ F.LIN_CFG_RATE.of (linCfg true 0 ||| word (2 ^ F.LIN_CFG_SLEEP.lo)) ∧
      F.LIN_CFG_RATE.of (linCfg true 0 ||| word (2 ^ F.LIN_CFG_SLEEP.lo)) ≤ 20000 ∧
      F.LIN_CFG_RATE.of (linCfg true 0 ||| word (2 ^ F.LIN_CFG_SLEEP.lo)) = s.getF F.LIN_CFG_RATE 3 ∧
      F.LIN_CFG_EN.on (linCfg true 0 ||| word (2 ^ F.LIN_CFG_SLEEP.lo)) = true ∧ F.LIN_CFG_WAKE.on (linCfg true 0 ||| word (2 ^ F.LIN_CFG_SLEEP.lo)) = false ∧
      s.linState 3 = 1 ∧ (s.ln 3).inSlot = false ∧ (s.ln 3).sleeping = false) ∧
    (let s := lin3 true 2 { inSlot := true, inFrame := true }
     linFitted s.variant 3 = true ∧ reservedSet Reg.LIN_CFG (linCfg true 0 ||| word (2 ^ F.LIN_CFG_SLEEP.lo)) = false ∧
      1000 ≤ F.LIN_CFG_RATE.of (linCfg true 0 ||| word (2 ^ F.LIN_CFG_SLEEP.lo)) ∧
      F.LIN_CFG_RATE.of (linCfg true 0 ||| word (2 ^ F.LIN_CFG_SLEEP.lo)) ≤ 20000 ∧
      F.LIN_CFG_RATE.of (linCfg true 0 ||| word (2 ^ F.LIN_CFG_SLEEP.lo)) = s.getF F.LIN_CFG_RATE 3 ∧
      F.LIN_CFG_EN.on (linCfg true 0 ||| word (2 ^ F.LIN_CFG_SLEEP.lo)) = true ∧ F.LIN_CFG_WAKE.on (linCfg true 0 ||| word (2 ^ F.LIN_CFG_SLEEP.lo)) = false ∧
      s.linState 3 = 2 ∧ (s.ln 3).inSlot = true) ∧
    (linFitted (lin3 true 3 { idx := 6 }).variant 3 = true ∧ reservedSet Reg.LIN_CFG (linCfg true 0 ||| word (2 ^ F.LIN_CFG_WAKE.lo)) = false ∧
      1000 ≤ F.LIN_CFG_RATE.of (linCfg true 0 ||| word (2 ^ F.LIN_CFG_WAKE.lo)) ∧ F.LIN_CFG_RATE.of (linCfg true 0 ||| word (2 ^ F.LIN_CFG_WAKE.lo)) ≤ 20000 ∧
      F.LIN_CFG_RATE.of (linCfg true 0 ||| word (2 ^ F.LIN_CFG_WAKE.lo)) = (lin3 true 3 { idx := 6 }).getF F.LIN_CFG_RATE 3 ∧
      F.LIN_CFG_EN.on (linCfg true 0 ||| word (2 ^ F.LIN_CFG_WAKE.lo)) = true ∧ F.LIN_CFG_SLEEP.on (linCfg true 0 ||| word (2 ^ F.LIN_CFG_WAKE.lo)) = false ∧
      (lin3 true 3 { idx := 6 }).linState 3 = 3) ∧
    ((lin3 true 3 { idx := 6 }).linOn 3 = true ∧ (lin3 true 3 { idx := 6 }).linState 3 = 3) ∧
    (let s := running { waking := true }
     s.linOn 3 = true ∧ (s.ln 3).inSlot = false ∧ (s.ln 3).sleepAsked = false ∧ (s.ln 3).back = [] ∧ s.heldOf Reg.LIN_SCH 3 = none ∧
      (∀ j < 4, s.heldOf Reg.LIN_TDEF (4 * 3 + j) = none) ∧ s.flag F.LIN_SCH_RUN 3 = true ∧ (s.ln 3).idx < F.LIN_TDEF_LEN.of (s.linDef 3 (s.linTable 3)) ∧
      5 = (F.LIN_TDEF_FIRST.of (s.linDef 3 (s.linTable 3)) + (s.ln 3).idx) % 64 ∧ slotEn (BitVec.toNat (s.linWord 3 5 0)) = true ∧
      slotOk (BitVec.toNat (s.linWord 3 5 0)) = true ∧ (s.ln 3).waking = true) ∧
    (let s := running {}
     s.linOn 3 = true ∧ (s.ln 3).inSlot = false ∧ (s.ln 3).sleepAsked = false ∧ (s.ln 3).back = [] ∧ s.heldOf Reg.LIN_SCH 3 = none ∧
      (∀ j < 4, s.heldOf Reg.LIN_TDEF (4 * 3 + j) = none) ∧ s.flag F.LIN_SCH_RUN 3 = true ∧ (s.ln 3).idx < F.LIN_TDEF_LEN.of (s.linDef 3 (s.linTable 3)) ∧
      5 = (F.LIN_TDEF_FIRST.of (s.linDef 3 (s.linTable 3)) + (s.ln 3).idx) % 64 ∧ slotEn (BitVec.toNat (s.linWord 3 5 0)) = true ∧
      slotOk (BitVec.toNat (s.linWord 3 5 0)) = true ∧ s.linState 3 = 2 ∧ (s.ln 3).inFrame = false ∧ (s.ln 3).waking = false) ∧
    (let s := lin3 true 2 { inFrame := true, sleeping := true }
     s.linOn 3 = true ∧ (s.ln 3).inFrame = true ∧ (s.ln 3).offAsked = false) ∧
    (let s := lin3 true 2 { inFrame := true, sleeping := true }
     s.linOn 3 = true ∧ (s.ln 3).inFrame = true ∧ (s.ln 3).sleeping = true) ∧
    (let s := lin3 true 2 { inFrame := true, sleeping := true, offAsked := true }
     s.linOn 3 = true ∧ (s.ln 3).inFrame = true ∧ (s.ln 3).offAsked = true) ∧
    (let s := lin3 true 2 { inFrame := true, slot := 63, w0 := word (2 * 2 ^ 7) }
     s.linOn 3 = true ∧ (s.ln 3).inFrame = true ∧ (s.ln 3).offAsked = false ∧ (s.ln 3).sleeping = false ∧ (s.ln 3).failed = [] ∧
      slotRec (BitVec.toNat (s.ln 3).w0) = false ∧ slotDir (BitVec.toNat (s.ln 3).w0) = false) ∧
    (let s := lin3 true 2 { inFrame := true }
     linFitted s.variant 3 = true ∧ reservedSet Reg.LIN_BRKTS 77 = false ∧ (s.ln 3).inFrame = true ∧ (s.ln 3).sleeping = false) ∧
    (linFitted (lin3 true 2 {}).variant 3 = true ∧ reservedSet Reg.LIN_BRKTS 77 = false ∧ ((lin3 true 2 {}).ln 3).inFrame = false) := by decide +kernel

/-- A broadcast frame with a payload of some length. -/
def ethFr (bad : Bool) (len : Nat) : EthFrame :=
  { dst := 0xFFFFFFFFFFFF, src := 0x020000000001, tag := none, etype := 0x0800, payload := List.replicate len 0, bad := bad, sfd := 0 }
/-- The switch is enabled, and port 7 is enabled with its link up. -/
def ethUp : State := ((State.reset.setB F.ETH_CTRL_EN 0 true).setB F.ETH_PCFG_EN 7 true).setB F.ETH_PSTAT_LINK 7 true

/-- Port 7 takes tagged frames only. -/
def ethAcc : State := ethUp.setF F.ETH_PCFG_ACCEPT 7 1

/-- A frame waits at port 7. -/
def eq7 (f : EthFrame) : State := setEq 7 1 [{ frame := f, vid := 1, pcp := 0, inPort := 0 }] ethUp

/-- The service port is on with its link up. -/
def svcOn : State := (State.reset.setB F.ETH_SVCSTAT_EN 0 true).setB F.ETH_SVCSTAT_LINK 0 true

/-- An ARP request for the service address. -/
def arpF : EthFrame := { ethFr false 0 with etype := 0x0806, payload := List.replicate 6 0 ++ [0, 1] ++ List.replicate 16 0 ++ beBytes 4 svcOn.svcIp ++ List.replicate 18 0 }

/-- The frame as port 7 stamps it. -/
def st7 (f : EthFrame) : EthFrame := { f with sfd := ethUp.stampIn 7 f.sfd }

/-- The frame is counted at port 7. -/
def cnt7 (f : EthFrame) (s : State) : State := ethCount 7 cRxb (frameLenIn f) (ethCount 7 cRxf 1 s)

/-- The switch is not enabled. -/
def ethNo : State := ethUp.setB F.ETH_CTRL_EN 0 false

/-- A datagram for the service address. -/
def udpF : EthFrame := { ethFr false 0 with etype := 0x0800, payload := [0x45] ++ List.replicate 8 0 ++ [17] ++ List.replicate 6 0 ++ beBytes 4 svcOn.svcIp ++ [0, 0] ++ beBytes 2 41731 ++ List.replicate 22 0 }

theorem witness_switchFrames :
    (ethUp.dom.comms = true ∧ ethUp.portUp 7 = true ∧ (st7 (ethFr true 46)).bad = true ∧ ethNo.dom.comms = true ∧ ethNo.portUp 7 = true ∧
      ethAcc.dom.comms = true ∧ ethAcc.portUp 7 = true) ∧
    (let g := st7 (ethFr false 45)
     g.bad = false ∧ frameLenIn g < 64) ∧
    (let g := st7 (ethFr false 1505)
     g.bad = false ∧ 1522 < frameLenIn g) ∧
    (let g := st7 (ethFr false 1504)
     g.bad = false ∧ 64 ≤ frameLenIn g ∧ frameLenIn g ≤ 1522 ∧ (cnt7 g ethNo).ethEn = false) ∧
    (let g := st7 (ethFr false 46)
     g.bad = false ∧ 64 ≤ frameLenIn g ∧ frameLenIn g ≤ 1522 ∧ (cnt7 g ethAcc).ethEn = true ∧
      (cnt7 g ethAcc).admits 7 g ((cnt7 g ethAcc).ingressTag 7 g).1 = false ∧ (cnt7 g ethUp).ethEn = true ∧
      (cnt7 g ethUp).admits 7 g ((cnt7 g ethUp).ingressTag 7 g).1 = true) ∧
    (State.reset.portUp 7 = false) ∧
    ((eq7 (ethFr false 46)).portUp 7 = true ∧ (eq7 (ethFr false 46)).mayServe 7 1 = true ∧ (∀ j < 8, 1 < j → (eq7 (ethFr false 46)).mayServe 7 j = false)) ∧
    (let s := eq7 (ethFr false 46)
     let e : EthQ := { frame := ethFr false 46, vid := 1, pcp := 0, inPort := 0 }
     s.eq 7 1 = e :: [] ∧ e.asIs = false ∧ e.job = none ∧ s.slope 7 true = 0 ∧ s.slope 7 false = 0 ∧ s.mirrors 7 1 = false) ∧
    (ethUp.dom.comms = true ∧ ethFitted ethUp.variant 7 = true ∧ ethUp.flag F.ETH_PCFG_EN 7 = true) ∧
    (svcOn.dom.comms = true ∧ svcOn.flag F.ETH_SVCSTAT_EN 0 = true) ∧
    (ethUp.flag F.ETH_PSTAT_LINK 7 = true) ∧
    (State.reset.flag F.ETH_PSTAT_LINK 7 = false) ∧
    (svcOn.svcUp = true ∧ (ethFr true 46).bad = true) ∧
    (svcOn.svcUp = true ∧ (ethFr false 1505).bad = false ∧ 1522 < frameLenIn (ethFr false 1505)) ∧
    (svcOn.svcUp = true ∧ arpF.bad = false ∧ frameLenIn arpF ≤ 1522 ∧ svcArp arpF svcOn = true) ∧
    (svcOn.svcUp = true ∧ udpF.bad = false ∧ frameLenIn udpF ≤ 1522 ∧ svcArp udpF svcOn = false ∧ (svcFor udpF && decide (udpFor udpF svcOn.svcIp = true)) = true) ∧
    (let s := ({ ethFr false 46 with tag := some (0, 1) })
     svcOn.svcUp = true ∧ s.bad = false ∧ frameLenIn s ≤ 1522 ∧ svcFor s = false) := by decide +kernel

/-- A VALID static address word. -/
def savv : Word := word (2 ^ F.ETH_SA_CTL_VALID.lo + 511 * 2 ^ F.ETH_SA_CTL_PORTS.lo)

theorem witness_switchRegisters :
    (regFitted State.reset.variant Reg.ETH_RING 5 = true ∧ reservedSet Reg.ETH_RING (0 ||| word (2 ^ F.ETH_RING_KICK.lo)) = false ∧
      F.ETH_RING_SIZE.of (0 ||| word (2 ^ F.ETH_RING_KICK.lo)) = State.reset.getF F.ETH_RING_SIZE 5 ∧ State.reset.getF F.ETH_RING_SIZE 5 ≤ 128) ∧
    (regFitted (ethCount 9 cRxb 77 State.reset).variant Reg.ETH_RXF 9 = true) ∧
    (regFitted (ethCount 9 cRxb 77 State.reset).variant Reg.ETH_CCLR 9 = true ∧ reservedSet Reg.ETH_CCLR 1 = false ∧ F.ETH_CCLR_CLR.on 1 = true) ∧
    (regFitted State.reset.variant Reg.ETH_BUF 0 = true) ∧
    (let s : State := State.reset.setF F.ETH_SA_HI_VID 63 4094
     regFitted s.variant Reg.ETH_SA_CTL 63 = true ∧ reservedSet Reg.ETH_SA_CTL (savv ||| word (2 ^ F.ETH_SA_CTL_VALID.lo)) = false ∧
      absentPorts s.variant (F.ETH_SA_CTL_PORTS.of (savv ||| word (2 ^ F.ETH_SA_CTL_VALID.lo))) = false ∧ F.ETH_SA_HI_VID.of (s.next Reg.ETH_SA_HI 63) ≠ 0 ∧
      F.ETH_SA_HI_VID.of (s.next Reg.ETH_SA_HI 63) ≠ 4095) ∧
    (regFitted State.reset.variant Reg.ETH_SA_CTL 63 = true ∧ reservedSet Reg.ETH_SA_CTL (savv ||| word (2 ^ F.ETH_SA_CTL_VALID.lo)) = false ∧
      absentPorts State.reset.variant (F.ETH_SA_CTL_PORTS.of (savv ||| word (2 ^ F.ETH_SA_CTL_VALID.lo))) = false ∧
      F.ETH_SA_HI_VID.of (State.reset.next Reg.ETH_SA_HI 63) = 0) ∧
    (regFitted on64.variant Reg.ETH_SA_CTL 63 = true ∧ reservedSet Reg.ETH_SA_CTL (savv ||| word (2 ^ F.ETH_SA_CTL_VALID.lo)) = false ∧
      absentPorts on64.variant (F.ETH_SA_CTL_PORTS.of (savv ||| word (2 ^ F.ETH_SA_CTL_VALID.lo))) = true) := by decide +kernel

/-- The network manager is in a state on CAN7, whose node 63 is mandatory. -/
def nm (st : Nat) : State :=
  (((State.reset.setF F.NET_STAT_NMST 0 st).setF F.NET_CFG_NMCH 0 128).wr .NET_MAND_HI 7 0x80000000).setF F.CAN_STAT_STATE 7 2
/-- A round has ended, with a vote of node 63. -/
def voted (agree : Bool) (v : Nat) : State :=
  let s := (nm 1).setB F.NET_STAT_AGREE 0 agree
  { s with net := { s.net with inRound := true, votes := tabSet 0 [] (nodeIx 7 63) v } }

/-- The network manager is in a state, its channel CAN7 passive. -/
def nmS (st : Nat) : State := ((State.reset.setF F.NET_STAT_NMST 0 st).setF F.NET_CFG_NMCH 0 255).setF F.CAN_STAT_STATE 7 1

/-- The network manager is in a state, its channel CAN7 active. -/
def nmC (st : Nat) : State := (nmS st).setF F.CAN_STAT_STATE 7 2

/-- A round of votes. -/
def rnd (ag : Bool) (v : Nat) (hi : Nat) : State :=
  let s := ((nmC 1).setB F.NET_STAT_AGREE 0 ag).wr .NET_MAND_HI 7 (word hi)
  { s with net := { s.net with inRound := true, votes := tabSet 0 [] (nodeIx 7 63) v } }

/-- The awake time runs. -/
def awk (st : Nat) : State := { rnd true 3 0x80000000 with net := { (rnd true 3 0x80000000).net with awakeEnd := some 5 } }.setF F.NET_STAT_NMST 0 st

/-- A network management payload. -/
def fz (a b c : Nat) : List Byte := [byte a, byte b, byte c, 0,0,0,0,0]

/-- An entry is in its phase of votes. -/
def ent (st : Nat) : State := (nmC st).setF F.PWR_STAT_PHASE 0 1

theorem witness_networkManager :
    (reservedSet Reg.NET_CTRL 1 = false ∧ F.NET_CTRL_HOLD.on 1 = false ∧ F.NET_CTRL_WAKEREQ.on 1 = false ∧ (nmS 0).nmOn = false ∧
      ((nmS 0).wrMasked Reg.NET_CTRL 0 1).nmOn = true ∧ ((nmS 0).wrMasked Reg.NET_CTRL 0 1).pwrState = 0) ∧
    (reservedSet Reg.NET_CTRL 0 = false ∧ F.NET_CTRL_HOLD.on 0 = false ∧ F.NET_CTRL_WAKEREQ.on 0 = false ∧ ((nmC 2).setB F.NET_CTRL_NMEN 0 true).nmOn = true ∧
      (((nmC 2).setB F.NET_CTRL_NMEN 0 true).wrMasked Reg.NET_CTRL 0 0).nmOn = false) ∧
    (reservedSet Reg.NET_CTRL 0 = false ∧ F.NET_CTRL_HOLD.on 0 = false ∧ F.NET_CTRL_WAKEREQ.on 0 = false ∧ (nmC 2).nmOn = ((nmC 2).wrMasked Reg.NET_CTRL 0 0).nmOn) ∧
    (reservedSet Reg.NET_CTRL 1 = false ∧ F.NET_CTRL_HOLD.on 1 = false ∧ F.NET_CTRL_WAKEREQ.on 1 = false ∧
      (((nmC 0).setF F.PWR_STAT_STATE 0 1).wrMasked Reg.NET_CTRL 0 1).nmOn = true ∧ (((nmC 0).setF F.PWR_STAT_STATE 0 1).wrMasked Reg.NET_CTRL 0 1).pwrState ≠ 0) ∧
    (reservedSet Reg.NET_CTRL 0x80000000 = true) ∧
    ((ent 3).nmState = 3 ∧ (ent 3).entering = true) ∧
    ((ent 1).nmState ≠ 2 ∧ (ent 1).nmState ≠ 3) ∧
    (reservedSet Reg.NET_CTRL (word (2 ^ F.NET_CTRL_WAKEREQ.lo)) = false ∧ F.NET_CTRL_HOLD.on (word (2 ^ F.NET_CTRL_WAKEREQ.lo)) = false ∧
      F.NET_CTRL_WAKEREQ.on (word (2 ^ F.NET_CTRL_WAKEREQ.lo)) = true ∧ (nmC 2).nmOn = F.NET_CTRL_NMEN.on (word (2 ^ F.NET_CTRL_WAKEREQ.lo)) ∧ (nmC 2).nmState = 2) ∧
    (reservedSet Reg.NET_CTRL (word (2 ^ F.NET_CTRL_WAKEREQ.lo)) = false ∧ F.NET_CTRL_HOLD.on (word (2 ^ F.NET_CTRL_WAKEREQ.lo)) = false ∧
      F.NET_CTRL_WAKEREQ.on (word (2 ^ F.NET_CTRL_WAKEREQ.lo)) = true ∧ (nmC 1).nmOn = F.NET_CTRL_NMEN.on (word (2 ^ F.NET_CTRL_WAKEREQ.lo)) ∧ (nmC 1).nmState < 2) ∧
    (let s : State := rnd true 1 0x80000000
     s.nmCh 7 = true ∧ s.canOn 7 = true ∧ s.nmState = 1 ∧ (rnd true 1 0).getF F.NET_NMID_BASE 0 + 63 = s.getF F.NET_NMID_BASE 0 + 63 ∧
      s.mutedPartner 2 (7 * 65536 + 63) = false ∧ (fz 63 1 0).length = 8 ∧ BitVec.toNat ((fz 63 1 0).getD 0 0) = 63 ∧
      BitVec.toNat ((fz 63 1 0).getD 2 0) = s.getF F.NET_STAT_ROUND 0 ∧ BitVec.toNat ((fz 63 1 0).getD 1 0) < 2 ∧ BitVec.toNat ((fz 63 1 0).getD 1 0) = 1) ∧
    (let s : State := rnd true 1 0
     s.nmCh 7 = true ∧ s.canOn 7 = true ∧ s.nmState = 1 ∧ s.mutedPartner 2 (7 * 65536 + 63) = false ∧ (fz 63 0 0).length = 8 ∧
      BitVec.toNat ((fz 63 0 0).getD 0 0) = 63 ∧ BitVec.toNat ((fz 63 0 0).getD 2 0) = s.getF F.NET_STAT_ROUND 0 ∧ BitVec.toNat ((fz 63 0 0).getD 1 0) < 2 ∧
      s.mandatory 7 63 = false) ∧
    (let s : State := rnd true 1 0x80000000
     s.nmCh 7 = true ∧ s.canOn 7 = true ∧ s.nmState = 1 ∧ (rnd true 1 0).getF F.NET_NMID_BASE 0 + 63 = s.getF F.NET_NMID_BASE 0 + 63 ∧
      s.mutedPartner 2 (7 * 65536 + 63) = false ∧ (fz 63 0 0).length = 8 ∧ BitVec.toNat ((fz 63 0 0).getD 0 0) = 63 ∧
      BitVec.toNat ((fz 63 0 0).getD 2 0) = s.getF F.NET_STAT_ROUND 0 ∧ BitVec.toNat ((fz 63 0 0).getD 1 0) = 0 ∧ s.mandatory 7 63 = true) ∧
    (let s : State := rnd true 1 0
     s.nmCh 7 = true ∧ s.canOn 7 = true ∧ s.nmState = 1 ∧ s.mutedPartner 2 (7 * 65536 + 63) = false ∧ (fz 63 2 0).length = 8 ∧
      BitVec.toNat ((fz 63 2 0).getD 0 0) = 63 ∧ BitVec.toNat ((fz 63 2 0).getD 2 0) = s.getF F.NET_STAT_ROUND 0 ∧ BitVec.toNat ((fz 63 2 0).getD 1 0) = 2) ∧
    (let s : State := rnd true 1 0x80000000
     s.nmCh 7 = true ∧ s.canOn 7 = true ∧ s.nmState = 1 ∧ (rnd true 1 0).getF F.NET_NMID_BASE 0 + 63 = s.getF F.NET_NMID_BASE 0 + 63 ∧
      s.mutedPartner 2 (7 * 65536 + 63) = false ∧ (fz 63 3 0).length = 8 ∧ BitVec.toNat ((fz 63 3 0).getD 0 0) = 63 ∧
      BitVec.toNat ((fz 63 3 0).getD 2 0) = s.getF F.NET_STAT_ROUND 0 ∧ BitVec.toNat ((fz 63 3 0).getD 1 0) = 3) ∧
    (let s : State := rnd true 1 0x80000000
     s.nmCh 7 = true ∧ s.canOn 7 = true ∧ s.nmState = 1 ∧ (rnd true 1 0).getF F.NET_NMID_BASE 0 + 63 = s.getF F.NET_NMID_BASE 0 + 63 ∧
      s.mutedPartner 2 (7 * 65536 + 63) = false ∧ 4 ≤ BitVec.toNat ((fz 63 4 0).getD 1 0)) ∧
    (let s : State := rnd true 1 0x80000000
     s.nmCh 7 = true ∧ s.canOn 7 = true ∧ s.nmState = 1 ∧ (rnd true 1 0).getF F.NET_NMID_BASE 0 + 63 = s.getF F.NET_NMID_BASE 0 + 63 ∧
      s.mutedPartner 2 (7 * 65536 + 63) = false ∧ BitVec.toNat ((fz 62 1 0).getD 0 0) ≠ 63) ∧
    (let s : State := rnd true 1 0x80000000
     s.nmCh 7 = true ∧ s.canOn 7 = true ∧ s.nmState = 1 ∧ (rnd true 1 0).getF F.NET_NMID_BASE 0 + 63 = s.getF F.NET_NMID_BASE 0 + 63 ∧
      s.mutedPartner 2 (7 * 65536 + 63) = false ∧ BitVec.toNat ((fz 63 1 1).getD 2 0) ≠ s.getF F.NET_STAT_ROUND 0) ∧
    (let s : State := rnd true 1 0x80000000
     s.nmCh 7 = true ∧ s.canOn 7 = true ∧ s.nmState = 1 ∧ (rnd true 1 0).getF F.NET_NMID_BASE 0 + 63 = s.getF F.NET_NMID_BASE 0 + 63 ∧
      s.mutedPartner 2 (7 * 65536 + 63) = false ∧ ([] : List Byte).length ≠ 8) ∧
    ((rnd true 1 0x80000000).nmState = 1 ∧ (rnd true 1 0x80000000).net.inRound = true ∧ (rnd true 1 0x80000000).agreed = false) ∧
    (let s : State := rnd true 2 0x80000000
     s.nmState = 1 ∧ s.net.inRound = true ∧ s.agreed = true ∧ s.flag F.NET_STAT_AGREE 0 = true) ∧
    (let s : State := rnd false 2 0x80000000
     s.nmState = 1 ∧ s.net.inRound = true ∧ s.agreed = true ∧ s.flag F.NET_STAT_AGREE 0 = false) ∧
    ((nmC 1).nmState = 1 ∧ (nmC 1).net.inRound = false) ∧
    ((nmC 3).nmState ≠ 1) ∧
    ((nmC 3).nmState ≠ 2) ∧
    ((nmC 3).nmState = 3 ∧ (nmC 3).entering = false ∧ (nmC 3).pwrState < 2) ∧
    (((nmC 2).setB F.NET_CTRL_TARGET 0 true).nmState = 2) ∧
    (((nmC 2).setB F.NET_CTRL_TARGET 0 true).nmState ≠ 3) ∧
    ((awk 1).net.awakeEnd = some 5 ∧ (awk 1).pwrState < 2 ∧ (awk 1).nmState = 1) ∧
    ((awk 2).net.awakeEnd = some 5 ∧ (awk 2).pwrState < 2 ∧ (awk 2).nmState ≠ 1) ∧
    ((nmC 1).net.awakeEnd = none) := by decide +kernel

/-- The module is in a power state and a phase. -/
def inPower (st ph : Nat) : State := (State.reset.setF F.PWR_STAT_STATE 0 st).setF F.PWR_STAT_PHASE 0 ph

/-- A power state, a phase, a state of the network manager and the armed sources. -/
def slp (st ph nm arm : Nat) : State := ((inPower st ph).setF F.NET_STAT_NMST 0 nm).wr .NET_ARM 0 (word arm)

/-- The module sleeps with wake windows open. -/
def winS (w : List Nat) (c : Bool) (run : Nat) (rt : Nat) : State :=
  let s := inPower 0 5
  { s with net := { s.net with windows := w, confirmed := c, returnTo := rt, run := w.foldl (fun t k => tabSet 0 t k run) [] } }

/-- An RTC alarm is enabled. -/
def almS (st ph arm : Nat) : State := (slp st ph 0 arm).setB F.NET_RTCALM_HI_EN 0 true

/-- A wake link transfer is in progress. -/
def lnk (r : Bool) (p b : Nat) (w : List Nat) : State :=
  { State.reset with net := { State.reset.net with windows := w, link := { active := true, read := r, ptr := p, bytes := b } } }

/-- The wake link address at reset. -/
def a0 : Nat := State.reset.getF F.NET_WLCFG_ADDR 0

theorem witness_wakesAndWakeLink :
    (let s : State := slp 2 0 0 0
     s.asleep = true ∧ s.nmState = 0 ∧ s.pwrPhase ≠ 5 ∧ s.net.windows = [] ∧ s.sourceArmed 0 = true) ∧
    (let s : State := slp 3 0 4 64
     s.asleep = true ∧ s.nmState = 4 ∧ s.pwrPhase ≠ 5 ∧ s.net.windows = [] ∧ s.sourceArmed 2 = false) ∧
    (let s : State := slp 3 0 4 32
     s.asleep = true ∧ s.nmState = 4 ∧ s.pwrPhase ≠ 5 ∧ s.net.windows = [] ∧ s.sourceArmed 1 = true) ∧
    ((slp 0 0 2 64).sourceArmed 3 = true ∧ (slp 0 0 2 64).entering = false ∧ (slp 0 0 2 64).nmState = 2) ∧
    ((slp 0 0 2 8).sourceArmed 7 = true ∧ (slp 0 0 2 8).entering = false ∧ (slp 0 0 2 8).nmState = 2 ∧ (slp 0 0 2 8).flag F.NET_STAT_FORCED 0 = false) ∧
    ((slp 0 1 0 8).sourceArmed 7 = true ∧ (slp 0 1 0 8).entering = true ∧ (slp 0 1 0 8).nmState = 0) ∧
    ((winS [0] false 5 2).net.windows = [0] ∧ (winS [0] false 5 2).net.confirmed = false) ∧
    (let s : State := winS [3] false 0 3
     s.net.windows = [3] ∧ tabGet 0 s.net.run 3 + 1 < ((falseCount 3 (({ s with net := { s.net with windows := [], run := tabSet 0 s.net.run 3 (tabGet 0 s.net.run 3 + 1) } } : State).setB F.NET_WSRC_OPEN 0 false)).setB F.NET_WSRC_FALSE 0 true).getF F.NET_CFG_FWLIM 0 ∧
      s.net.confirmed = false) ∧
    (let s : State := winS [3] true 0 3
     s.net.windows = [3] ∧ tabGet 0 s.net.run 3 + 1 < ((falseCount 3 (({ s with net := { s.net with windows := [], run := tabSet 0 s.net.run 3 (tabGet 0 s.net.run 3 + 1) } } : State).setB F.NET_WSRC_OPEN 0 false)).setB F.NET_WSRC_FALSE 0 true).getF F.NET_CFG_FWLIM 0 ∧
      s.net.confirmed = true) ∧
    (let s : State := winS [3] false 7 3
     s.net.windows = [3] ∧ ((falseCount 3 (({ s with net := { s.net with windows := [], run := tabSet 0 s.net.run 3 (tabGet 0 s.net.run 3 + 1) } } : State).setB F.NET_WSRC_OPEN 0 false)).setB F.NET_WSRC_FALSE 0 true).getF F.NET_CFG_FWLIM 0 ≤ tabGet 0 s.net.run 3 + 1 ∧
      s.net.confirmed = false) ∧
    ((winS [] false 9 2).net.windows = []) ∧
    (let s : State := almS 0 0 32
     s.flag F.NET_RTCALM_HI_EN 0 = true ∧ s.dom.keep = true ∧ s.pwrState < 2 ∧ s.pwrPhase = 0 ∧ s.net.windows = [] ∧ s.nmState = 0) ∧
    (let s : State := almS 2 0 32
     s.flag F.NET_RTCALM_HI_EN 0 = true ∧ s.dom.keep = true ∧ s.asleep = true ∧ s.nmState = 0 ∧ s.pwrPhase ≠ 5 ∧ s.net.windows = [] ∧ s.sourceArmed 1 = true) ∧
    (let s : State := almS 3 0 0
     s.flag F.NET_RTCALM_HI_EN 0 = true ∧ s.dom.keep = true ∧ s.asleep = true ∧ s.nmState = 0 ∧ s.pwrPhase ≠ 5 ∧ s.net.windows = [] ∧ s.sourceArmed 1 = false) ∧
    ((slp 2 0 0 32).flag F.NET_RTCALM_HI_EN 0 = false) ∧
    (reservedSet Reg.NET_RTCALM_HI 0x80000000 = false ∧ F.NET_RTCALM_HI_EN.on 0x80000000 = true ∧
      BitVec.toNat (State.reset.next Reg.NET_RTCALM_LO 0) + 2 ^ 32 * F.NET_RTCALM_HI_SEC_HI.of 0x80000000 ≤ State.reset.rtcNow.1) ∧
    (reservedSet Reg.NET_RTCALM_HI 0x80000001 = false ∧ F.NET_RTCALM_HI_EN.on 0x80000001 = true ∧
      State.reset.rtcNow.1 < BitVec.toNat (State.reset.next Reg.NET_RTCALM_LO 0) + 2 ^ 32 * F.NET_RTCALM_HI_SEC_HI.of 0x80000001) ∧
    (reservedSet Reg.NET_RTCALM_HI 0x80000000 = false ∧ F.NET_RTCALM_HI_EN.on 0x80000000 = true ∧
      (State.reset.hold Reg.NET_RTCALM_LO 0 9).rtcNow.1 < BitVec.toNat ((State.reset.hold Reg.NET_RTCALM_LO 0 9).next Reg.NET_RTCALM_LO 0) + 2 ^ 32 * F.NET_RTCALM_HI_SEC_HI.of 0x80000000) ∧
    (reservedSet Reg.NET_RTCALM_HI 1 = false ∧ F.NET_RTCALM_HI_EN.on 1 = false) ∧
    (State.reset.dom.keep = true ∧ State.reset.pwrState < 2 ∧ State.reset.pwrPhase = 0 ∧ State.reset.net.windows = [] ∧ State.reset.nmState = 0 ∧
      State.reset.net.link.active = false ∧ a0 = State.reset.getF F.NET_WLCFG_ADDR 0 ∧ State.reset.mutedPartner 7 0 = false) ∧
    (State.reset.dom.keep = true ∧ State.reset.pwrState < 2 ∧ State.reset.pwrPhase = 0 ∧ State.reset.net.windows = [] ∧ State.reset.nmState = 0 ∧
      State.reset.net.link.active = false ∧ a0 + 1 ≠ State.reset.getF F.NET_WLCFG_ADDR 0) ∧
    ((lnk false 0 0 []).net.link.active = true ∧ (lnk false 0 0 []).net.link.read = false ∧ (lnk false 0 0 []).net.link.viol = false) ∧
    ((lnk true 5 9 []).net.link.active = true ∧ (lnk true 5 9 []).net.link.read = true ∧ (lnk true 5 9 []).net.link.viol = false) ∧
    (let s : State := lnk true 5 9 []
     s.net.link.active = true ∧ s.heldOf Reg.NET_WLCFG 0 = none ∧ s.net.windows = [] ∧ s.dom.core = true) ∧
    (let s : State := lnk true 5 9 [2]
     s.net.link.active = true ∧ s.heldOf Reg.NET_WLCFG 0 = none ∧ s.net.windows = [2] ∧ 1 ≤ s.net.link.bytes) ∧
    (wakeFrame 3 canFr (State.reset.wr .NET_SWK_MSK 3 0) = true ∧ wakeFrame 3 canFr ((State.reset.wr .NET_SWK_MSK 3 0x7FF).wr .NET_SWK_ID 3 4) = false) := by decide +kernel

/-- A power state with a veto. -/
def pwB (st ph : Nat) : State := (inPower st ph).setB F.PWR_VETO_VETO 0 true

/-- The module is parked. -/
def prk (auto : Bool) : State := (inPower 2 0).setB F.PWR_CFG_AUTODORM 0 auto

/-- An exit is in progress. -/
def ext (st : Nat) (pll sw : Bool) : State := let s := inPower st 5
  { s with pwr := { s.pwr with pll := pll, saved := some {}, savedOk := true }, dom := { s.dom with switch := sw }, alm := { s.alm with rtcValid := true, rtcSec := 77 } }

/-- An exit by input 0. -/
def exd (st : Nat) (h : Bool) : State := let s := (((ext st true true).wr .NET_WSRC 0 3).setB F.SIN_STAT_LEVEL 0 h)
  { s with dom := { s.dom with core := false, comms := false } }

theorem witness_entriesAndExits :
    ((inPower 0 0).pwrState < 2 ∧ (inPower 0 0).pwrPhase = 0 ∧ (inPower 0 0).busyMask (1 == 2) = 0) ∧
    ((pwB 1 0).pwrState < 2 ∧ (pwB 1 0).pwrPhase = 0 ∧ (pwB 1 0).busyMask (2 == 2) ≠ 0) ∧
    (Instr.pwrRequestPolite (Master.core 3) 1 = Instr.pwrRequestPolite (Master.core 3) 1 ∨ Instr.pwrRequestPolite (Master.core 3) 1 = Instr.pwrRequestForced (Master.core 3) 1 ∧
      (inPower 0 1).pwrPhase ≠ 0) ∧
    (Instr.pwrRequestForced (Master.core 3) 1 = Instr.pwrRequestPolite (Master.core 3) 1 ∨ Instr.pwrRequestForced (Master.core 3) 1 = Instr.pwrRequestForced (Master.core 3) 1 ∧
      2 ≤ (inPower 2 0).pwrState) ∧
    (Instr.pwrRequestForced (Master.core 3) 0 = Instr.pwrRequestPolite (Master.core 3) 0 ∨ Instr.pwrRequestForced (Master.core 3) 0 = Instr.pwrRequestForced (Master.core 3) 0) ∧
    (Instr.pwrRequestPolite (Master.core 3) 3 = Instr.pwrRequestPolite (Master.core 3) 3 ∨ Instr.pwrRequestPolite (Master.core 3) 3 = Instr.pwrRequestForced (Master.core 3) 3) ∧
    ((inPower 0 0).pwrPhase ≠ 1) ∧
    ((inPower 0 1).pwrPhase = 1) ∧
    (reservedSet Reg.PWR_SAVED 1 = false ∧ F.PWR_SAVED_SAVED.on 1 = true ∧ (inPower 0 1).pwrPhase ≠ 2) ∧
    (reservedSet Reg.PWR_SAVED 1 = false ∧ F.PWR_SAVED_SAVED.on 1 = true ∧ (inPower 0 2).pwrPhase = 2) ∧
    ((inPower 0 0).pwrPhase ≠ 2) ∧
    ((inPower 0 4).pwrPhase = 4 ∧ (inPower 0 4).almStopped = false) ∧
    (((ext 2 false true).setF F.PWR_STAT_PHASE 0 4).pwrPhase = 4 ∧ ((ext 2 false true).setF F.PWR_STAT_PHASE 0 4).almStopped = true) ∧
    ((inPower 0 3).pwrPhase ≠ 4) ∧
    ((prk true).pwrState = 2 ∧ (prk true).pwrPhase = 0 ∧ (prk true).flag F.PWR_CFG_AUTODORM 0 = true ∧ (prk true).busyMask true &&& 130 = 0) ∧
    ((prk true).pwrState = 2 ∧ (prk true).pwrPhase = 0 ∧ (prk true).dom.keep = true) ∧
    ((prk false).pwrState = 2 ∧ (prk false).pwrPhase = 0 ∧ (prk false).flag F.PWR_CFG_AUTODORM 0 = false) ∧
    (let s : State := (prk true).setB F.OUT_STAT_STAGE 95 true
     s.pwrState = 2 ∧ s.pwrPhase = 0 ∧ s.flag F.PWR_CFG_AUTODORM 0 = true ∧ s.busyMask true &&& 130 ≠ 0) ∧
    ((inPower 0 3).pwrState ≠ 2) ∧
    ((ext 2 false true).pwrPhase = 5 ∧ (ext 2 false true).pwr.pll = false ∧ (ext 2 false true).dom.switch = true) ∧
    ((ext 3 false false).pwrPhase = 5 ∧ (ext 3 false false).pwr.pll = false ∧ (ext 3 false false).dom.switch = false) ∧
    (let s : State := firmwareConfigure (!(exd 2 true).dom.comms) (!(exd 2 true).dom.field) (((fieldOn 5 (coreOn (commsOn (exd 2 true)))).setF F.PWR_STAT_PHASE 0 0).setF F.PWR_STAT_STATE 0 0)
     (exd 2 true).pwrPhase = 5 ∧ (exd 2 true).pwr.pll = true ∧ (exd 2 true).supply.module.dark = false ∧ s.getF F.NET_WSRC_SOURCE 0 = 3 ∧
      s.sinLevel (s.getF F.ACC_CFG_HANDSI 0) = true) ∧
    (let s : State := exd 2 false
     s.pwrPhase = 5 ∧ s.pwr.pll = true ∧ s.supply.module.dark = false ∧
      (firmwareConfigure (!s.dom.comms) (!s.dom.field) (((fieldOn 5 (coreOn (commsOn s))).setF F.PWR_STAT_PHASE 0 0).setF F.PWR_STAT_STATE 0 0)).sinLevel ((firmwareConfigure (!s.dom.comms) (!s.dom.field) (((fieldOn 5 (coreOn (commsOn s))).setF F.PWR_STAT_PHASE 0 0).setF F.PWR_STAT_STATE 0 0)).getF F.ACC_CFG_HANDSI 0) = false) ∧
    (let s : State := ext 2 true true
     s.pwrPhase = 5 ∧ s.pwr.pll = true ∧ s.supply.module.dark = false ∧
      (firmwareConfigure (!s.dom.comms) (!s.dom.field) (((fieldOn 5 (coreOn (commsOn s))).setF F.PWR_STAT_PHASE 0 0).setF F.PWR_STAT_STATE 0 0)).getF F.NET_WSRC_SOURCE 0 ≠ 3) ∧
    ((inPower 0 0).pwrPhase ≠ 5) := by decide +kernel

/-- Core 0 executes, with something in its registers. -/
def co (x : Core) : State := State.reset.setCo 0 x
/-- The low 24 bits of an instruction: GD, GA, GB and the low twelve bits. -/
def fA (d a b low : Nat) : BitVec 24 := BitVec.ofNat 24 (d * 2 ^ 20 + a * 2 ^ 16 + b * 2 ^ 12 + low)

theorem witness_fetches : fetches State.reset 0 := ⟨by decide, by decide⟩

/-- Registers of two cores at their boundary values. -/
def cg : State := (co { g := [(13, 0x80000001), (14, 0x21), (15, 0x7FFFFFFF)], pc := 0xFFFFF }).setCo 3 { g := [(13, 0x80000001), (14, 0x21), (15, 0x7FFFFFFF)] }

theorem witness_coreArithmetic :
    (cg.coreRuns 0 = true ∧ cg.fetchTrap 0 = none ∧ cg.greg 0 13 + cg.greg 0 14 = cg.greg 0 (opA (fA 15 13 14 0)) + cg.greg 0 (opB (fA 15 13 14 0)) ∧
      bitsOf (fA 15 13 14 0).toNat 0 12 = 0) ∧
    (cg.coreRuns 0 = true ∧ cg.fetchTrap 0 = none ∧ cg.greg 0 13 - cg.greg 0 14 = cg.greg 0 (opA (fA 15 13 14 0)) - cg.greg 0 (opB (fA 15 13 14 0)) ∧
      bitsOf (fA 15 13 14 0).toNat 0 12 = 0) ∧
    (cg.coreRuns 0 = true ∧ cg.fetchTrap 0 = none ∧ cg.greg 0 13 &&& cg.greg 0 14 = cg.greg 0 (opA (fA 15 13 14 0)) &&& cg.greg 0 (opB (fA 15 13 14 0)) ∧
      bitsOf (fA 15 13 14 0).toNat 0 12 = 0) ∧
    (cg.coreRuns 0 = true ∧ cg.fetchTrap 0 = none ∧ cg.greg 0 13 ||| cg.greg 0 14 = cg.greg 0 (opA (fA 15 13 14 0)) ||| cg.greg 0 (opB (fA 15 13 14 0)) ∧
      bitsOf (fA 15 13 14 0).toNat 0 12 = 0) ∧
    (cg.coreRuns 0 = true ∧ cg.fetchTrap 0 = none ∧ cg.greg 0 13 ^^^ cg.greg 0 14 = cg.greg 0 (opA (fA 15 13 14 0)) ^^^ cg.greg 0 (opB (fA 15 13 14 0)) ∧
      bitsOf (fA 15 13 14 0).toNat 0 12 = 0) ∧
    (cg.coreRuns 0 = true ∧ cg.fetchTrap 0 = none ∧
      cg.greg 0 13 <<< 1 = cg.greg 0 (opA (fA 15 13 14 0)) <<< (BitVec.toNat (cg.greg 0 (opB (fA 15 13 14 0))) % 32) ∧ bitsOf (fA 15 13 14 0).toNat 0 12 = 0) ∧
    (cg.coreRuns 0 = true ∧ cg.fetchTrap 0 = none ∧
      cg.greg 0 13 >>> 1 = cg.greg 0 (opA (fA 15 13 14 0)) >>> (BitVec.toNat (cg.greg 0 (opB (fA 15 13 14 0))) % 32) ∧ bitsOf (fA 15 13 14 0).toNat 0 12 = 0) ∧
    (cg.coreRuns 0 = true ∧ cg.fetchTrap 0 = none ∧
      BitVec.sshiftRight (cg.greg 0 13) 1 = BitVec.sshiftRight (cg.greg 0 (opA (fA 15 13 14 0))) (BitVec.toNat (cg.greg 0 (opB (fA 15 13 14 0))) % 32) ∧
      bitsOf (fA 15 13 14 0).toNat 0 12 = 0) ∧
    (cg.coreRuns 0 = true ∧ cg.fetchTrap 0 = none ∧ cg.greg 0 13 + cg.greg 0 14 = cg.greg 0 (opA (fA 15 13 14 2048)) + cg.greg 0 (opB (fA 15 13 14 2048)) ∧
      bitsOf (fA 15 13 14 2048).toNat 0 12 ≠ 0) ∧
    (cg.coreRuns 0 = true ∧ cg.fetchTrap 0 = none ∧ cg.greg 0 13 - cg.greg 0 14 = cg.greg 0 (opA (fA 15 13 14 2048)) - cg.greg 0 (opB (fA 15 13 14 2048)) ∧
      bitsOf (fA 15 13 14 2048).toNat 0 12 ≠ 0) ∧
    (cg.coreRuns 0 = true ∧ cg.fetchTrap 0 = none ∧ cg.greg 0 13 &&& cg.greg 0 14 = cg.greg 0 (opA (fA 15 13 14 2048)) &&& cg.greg 0 (opB (fA 15 13 14 2048)) ∧
      bitsOf (fA 15 13 14 2048).toNat 0 12 ≠ 0) ∧
    (cg.coreRuns 0 = true ∧ cg.fetchTrap 0 = none ∧ cg.greg 0 13 ||| cg.greg 0 14 = cg.greg 0 (opA (fA 15 13 14 2048)) ||| cg.greg 0 (opB (fA 15 13 14 2048)) ∧
      bitsOf (fA 15 13 14 2048).toNat 0 12 ≠ 0) ∧
    (cg.coreRuns 0 = true ∧ cg.fetchTrap 0 = none ∧ cg.greg 0 13 ^^^ cg.greg 0 14 = cg.greg 0 (opA (fA 15 13 14 2048)) ^^^ cg.greg 0 (opB (fA 15 13 14 2048)) ∧
      bitsOf (fA 15 13 14 2048).toNat 0 12 ≠ 0) ∧
    (cg.coreRuns 0 = true ∧ cg.fetchTrap 0 = none ∧
      cg.greg 0 13 <<< 1 = cg.greg 0 (opA (fA 15 13 14 2048)) <<< (BitVec.toNat (cg.greg 0 (opB (fA 15 13 14 2048))) % 32) ∧
      bitsOf (fA 15 13 14 2048).toNat 0 12 ≠ 0) ∧
    (cg.coreRuns 0 = true ∧ cg.fetchTrap 0 = none ∧
      cg.greg 0 13 >>> 1 = cg.greg 0 (opA (fA 15 13 14 2048)) >>> (BitVec.toNat (cg.greg 0 (opB (fA 15 13 14 2048))) % 32) ∧
      bitsOf (fA 15 13 14 2048).toNat 0 12 ≠ 0) ∧
    (cg.coreRuns 0 = true ∧ cg.fetchTrap 0 = none ∧
      BitVec.sshiftRight (cg.greg 0 13) 1 = BitVec.sshiftRight (cg.greg 0 (opA (fA 15 13 14 2048))) (BitVec.toNat (cg.greg 0 (opB (fA 15 13 14 2048))) % 32) ∧
      bitsOf (fA 15 13 14 2048).toNat 0 12 ≠ 0) ∧
    (cg.coreRuns 0 = true ∧ cg.fetchTrap 0 = none ∧
      cg.greg 0 13 + 0xFFFFF800 = cg.greg 0 (opA (fA 15 13 15 2048)) + BitVec.signExtend 32 (BitVec.ofNat 16 (fA 15 13 15 2048).toNat)) ∧
    (cg.coreRuns 0 = true ∧ cg.fetchTrap 0 = none ∧ cg.greg 0 13 &&& 63488 = cg.greg 0 (opA (fA 15 13 15 2048)) &&& word ((fA 15 13 15 2048).toNat % 2 ^ 16)) ∧
    (cg.coreRuns 0 = true ∧ cg.fetchTrap 0 = none ∧ cg.greg 0 13 ||| 63488 = cg.greg 0 (opA (fA 15 13 15 2048)) ||| word ((fA 15 13 15 2048).toNat % 2 ^ 16)) ∧
    (cg.coreRuns 0 = true ∧ cg.fetchTrap 0 = none ∧ cg.greg 0 13 ^^^ 63488 = cg.greg 0 (opA (fA 15 13 15 2048)) ^^^ word ((fA 15 13 15 2048).toNat % 2 ^ 16)) ∧
    (cg.coreRuns 0 = true ∧ cg.fetchTrap 0 = none ∧ opA (fA 15 0 15 2048) = 0 ∧ 0xF8000000 = word ((fA 15 0 15 2048).toNat % 2 ^ 16) <<< 16) ∧
    (cg.coreRuns 0 = true ∧ cg.fetchTrap 0 = none ∧ cg.greg 0 13 <<< 31 = cg.greg 0 (opA (fA 15 13 0 31)) <<< ((fA 15 13 0 31).toNat % 32) ∧
      bitsOf (fA 15 13 0 31).toNat 5 11 = 0) ∧
    (cg.coreRuns 0 = true ∧ cg.fetchTrap 0 = none ∧ cg.greg 0 13 >>> 31 = cg.greg 0 (opA (fA 15 13 0 31)) >>> ((fA 15 13 0 31).toNat % 32) ∧
      bitsOf (fA 15 13 0 31).toNat 5 11 = 0) ∧
    (cg.coreRuns 0 = true ∧ cg.fetchTrap 0 = none ∧
      BitVec.sshiftRight (cg.greg 0 13) 31 = BitVec.sshiftRight (cg.greg 0 (opA (fA 15 13 0 31))) ((fA 15 13 0 31).toNat % 32) ∧
      bitsOf (fA 15 13 0 31).toNat 5 11 = 0) ∧
    (cg.coreRuns 0 = true ∧ cg.fetchTrap 0 = none ∧ cg.greg 0 13 <<< 31 = cg.greg 0 (opA (fA 15 13 8 31)) <<< ((fA 15 13 8 31).toNat % 32) ∧
      bitsOf (fA 15 13 8 31).toNat 5 11 ≠ 0) ∧
    (cg.coreRuns 0 = true ∧ cg.fetchTrap 0 = none ∧ cg.greg 0 13 >>> 31 = cg.greg 0 (opA (fA 15 13 8 31)) >>> ((fA 15 13 8 31).toNat % 32) ∧
      bitsOf (fA 15 13 8 31).toNat 5 11 ≠ 0) ∧
    (cg.coreRuns 0 = true ∧ cg.fetchTrap 0 = none ∧
      BitVec.sshiftRight (cg.greg 0 13) 31 = BitVec.sshiftRight (cg.greg 0 (opA (fA 15 13 8 31))) ((fA 15 13 8 31).toNat % 32) ∧
      bitsOf (fA 15 13 8 31).toNat 5 11 ≠ 0) ∧
    (cg.coreRuns 0 = true ∧ cg.fetchTrap 0 = none ∧ opA (fA 15 1 15 2048) ≠ 0) := by decide +kernel

theorem witness_coreCompareMultiplyDivide :
    (cg.coreRuns 0 = true ∧ cg.fetchTrap 0 = none ∧ opD (fA 0 13 14 0) = 0 ∧ bitsOf (fA 0 13 14 0).toNat 0 12 = 0 ∧ cg.greg 0 14 = cg.greg 0 (opB (fA 0 13 14 0))) ∧
    (cg.coreRuns 0 = true ∧ cg.fetchTrap 0 = none ∧ opD (fA 0 13 15 4095) = 0 ∧ 0xFFFFFFFF = BitVec.signExtend 32 (BitVec.ofNat 16 (fA 0 13 15 4095).toNat)) ∧
    (cg.coreRuns 0 = true ∧ cg.fetchTrap 0 = none ∧ opD (fA 0 13 14 0) = 0 ∧ bitsOf (fA 0 13 14 0).toNat 0 12 = 0 ∧ (cg.co 0).muls.length < 3 ∧
      BitVec.toNat (cg.greg 0 13) * BitVec.toNat (cg.greg 0 14) = BitVec.toNat (cg.greg 0 (opA (fA 0 13 14 0))) * BitVec.toNat (cg.greg 0 (opB (fA 0 13 14 0)))) ∧
    (cg.coreRuns 0 = true ∧ cg.fetchTrap 0 = none ∧ opD (fA 0 13 14 0) = 0 ∧ bitsOf (fA 0 13 14 0).toNat 0 12 = 0 ∧ (cg.co 0).muls.length < 3 ∧
      ↑(BitVec.toInt (cg.greg 0 13) * BitVec.toInt (cg.greg 0 14) % 2 ^ 64).toNat = BitVec.toInt (cg.greg 0 (opA (fA 0 13 14 0))) * BitVec.toInt (cg.greg 0 (opB (fA 0 13 14 0))) % 2 ^ 64) ∧
    (cg.coreRuns 0 = true ∧ cg.fetchTrap 0 = none ∧ opD (fA 0 13 14 0) = 0 ∧ bitsOf (fA 0 13 14 0).toNat 0 12 = 0 ∧
      cg.greg 0 13 / cg.greg 0 14 = cg.greg 0 (opA (fA 0 13 14 0)) / cg.greg 0 (opB (fA 0 13 14 0)) ∧
      cg.greg 0 13 % cg.greg 0 14 = cg.greg 0 (opA (fA 0 13 14 0)) % cg.greg 0 (opB (fA 0 13 14 0)) ∧ cg.greg 0 (opB (fA 0 13 14 0)) ≠ 0 ∧ (cg.co 0).div = none) ∧
    (cg.coreRuns 0 = true ∧ cg.fetchTrap 0 = none ∧ opD (fA 0 13 14 0) = 0 ∧ bitsOf (fA 0 13 14 0).toNat 0 12 = 0 ∧
      BitVec.sdiv (cg.greg 0 13) (cg.greg 0 14) = BitVec.sdiv (cg.greg 0 (opA (fA 0 13 14 0))) (cg.greg 0 (opB (fA 0 13 14 0))) ∧
      BitVec.srem (cg.greg 0 13) (cg.greg 0 14) = BitVec.srem (cg.greg 0 (opA (fA 0 13 14 0))) (cg.greg 0 (opB (fA 0 13 14 0))) ∧
      cg.greg 0 (opB (fA 0 13 14 0)) ≠ 0 ∧ (cg.co 0).div = none) ∧
    (cg.coreRuns 0 = true ∧ cg.fetchTrap 0 = none ∧ opD (fA 0 13 0 0) = 0 ∧ bitsOf (fA 0 13 0 0).toNat 0 12 = 0 ∧
      cg.greg 0 13 / 0 = cg.greg 0 (opA (fA 0 13 0 0)) / cg.greg 0 (opB (fA 0 13 0 0)) ∧
      cg.greg 0 13 % 0 = cg.greg 0 (opA (fA 0 13 0 0)) % cg.greg 0 (opB (fA 0 13 0 0)) ∧ cg.greg 0 (opB (fA 0 13 0 0)) = 0) ∧
    (((co { run := CoreRun.running, g := [], pc := 0, stat := 0, cnt := 0, sptr := 0, dptr := 0, mhi := 0, mlo := 0, quo := 0, rem := 0, muls := [(1, 2), (0, 3)], div := none, epc := [], estat := [], ecause := 0, eaddr := 0, startAt := 0, stack := [], sp := 0, depth := 0, serving := [], wait := CoreWait.none }).co 0).muls = [(1, 2), (0, 3)]) ∧
    (((co { run := CoreRun.running, g := [], pc := 0, stat := 0, cnt := 0, sptr := 0, dptr := 0, mhi := 0, mlo := 0, quo := 0, rem := 0, muls := [], div := some (1, 2), epc := [], estat := [], ecause := 0, eaddr := 0, startAt := 0, stack := [], sp := 0, depth := 0, serving := [], wait := CoreWait.none }).co 0).div = some (1, 2)) := by decide +kernel

/-- Core 0 addresses a block of SRAM. -/
def sL (a : Nat) : State := (co { g := [(14, word a), (15, 0x8899AABB)] }).memBytesSet 0x20000100 [0x81,0x92,0xA3,0xF4,5,6,7,8]

theorem witness_loadsAndStores :
    (let s := sL 0x20000100
     s.coreRuns 0 = true ∧ s.fetchTrap 0 = none ∧ (s.co 0).app = false ∧
      inSram (BitVec.toNat (s.greg 0 (opA (fA 15 14 0 0)) + BitVec.signExtend 32 (BitVec.ofNat 16 (fA 15 14 0 0).toNat))) = true ∧
      BitVec.toNat (s.greg 0 (opA (fA 15 14 0 0)) + BitVec.signExtend 32 (BitVec.ofNat 16 (fA 15 14 0 0).toNat)) % 4 = 0 ∧
      s.eccBad (BitVec.toNat (s.greg 0 (opA (fA 15 14 0 0)) + BitVec.signExtend 32 (BitVec.ofNat 16 (fA 15 14 0 0).toNat))) = false ∧
      word (leNat (s.memBytes 0x20000100 4)) = word (leNat (s.memBytes (BitVec.toNat (s.greg 0 (opA (fA 15 14 0 0)) + BitVec.signExtend 32 (BitVec.ofNat 16 (fA 15 14 0 0).toNat))) 4))) ∧
    (let s := sL 0x20000100
     s.coreRuns 0 = true ∧ s.fetchTrap 0 = none ∧ (s.co 0).app = false ∧
      inSram (BitVec.toNat (s.greg 0 (opA (fA 15 14 0 0)) + BitVec.signExtend 32 (BitVec.ofNat 16 (fA 15 14 0 0).toNat))) = true ∧
      BitVec.toNat (s.greg 0 (opA (fA 15 14 0 0)) + BitVec.signExtend 32 (BitVec.ofNat 16 (fA 15 14 0 0).toNat)) % 2 = 0 ∧
      s.eccBad (BitVec.toNat (s.greg 0 (opA (fA 15 14 0 0)) + BitVec.signExtend 32 (BitVec.ofNat 16 (fA 15 14 0 0).toNat))) = false ∧
      BitVec.signExtend 32 (BitVec.ofNat 16 (leNat (s.memBytes 0x20000100 2))) = BitVec.signExtend 32 (BitVec.ofNat 16 (leNat (s.memBytes (BitVec.toNat (s.greg 0 (opA (fA 15 14 0 0)) + BitVec.signExtend 32 (BitVec.ofNat 16 (fA 15 14 0 0).toNat))) 2)))) ∧
    (let s := sL 0x30000004
     s.coreRuns 0 = true ∧ s.fetchTrap 0 = none ∧ (s.co 0).app = false ∧
      inRetention (BitVec.toNat (s.greg 0 (opA (fA 15 14 0 0)) + BitVec.signExtend 32 (BitVec.ofNat 16 (fA 15 14 0 0).toNat))) = true ∧
      BitVec.toNat (s.greg 0 (opA (fA 15 14 0 0)) + BitVec.signExtend 32 (BitVec.ofNat 16 (fA 15 14 0 0).toNat)) % 4 = 0 ∧
      s.eccBad (BitVec.toNat (s.greg 0 (opA (fA 15 14 0 0)) + BitVec.signExtend 32 (BitVec.ofNat 16 (fA 15 14 0 0).toNat))) = false ∧
      word (leNat (s.memBytes 0x30000004 4)) = word (leNat (s.memBytes (BitVec.toNat (s.greg 0 (opA (fA 15 14 0 0)) + BitVec.signExtend 32 (BitVec.ofNat 16 (fA 15 14 0 0).toNat))) 4))) ∧
    (let s := sL 0x30000004
     s.coreRuns 0 = true ∧ s.fetchTrap 0 = none ∧ (s.co 0).app = false ∧
      inRetention (BitVec.toNat (s.greg 0 (opA (fA 15 14 0 0)) + BitVec.signExtend 32 (BitVec.ofNat 16 (fA 15 14 0 0).toNat))) = true ∧
      BitVec.toNat (s.greg 0 (opA (fA 15 14 0 0)) + BitVec.signExtend 32 (BitVec.ofNat 16 (fA 15 14 0 0).toNat)) % 2 = 0 ∧
      s.eccBad (BitVec.toNat (s.greg 0 (opA (fA 15 14 0 0)) + BitVec.signExtend 32 (BitVec.ofNat 16 (fA 15 14 0 0).toNat))) = false ∧
      BitVec.signExtend 32 (BitVec.ofNat 16 (leNat (s.memBytes 0x30000004 2))) = BitVec.signExtend 32 (BitVec.ofNat 16 (leNat (s.memBytes (BitVec.toNat (s.greg 0 (opA (fA 15 14 0 0)) + BitVec.signExtend 32 (BitVec.ofNat 16 (fA 15 14 0 0).toNat))) 2)))) ∧
    ((sL 0x20000103).coreRuns 0 = true ∧ (sL 0x20000103).fetchTrap 0 = none ∧
      BitVec.toNat ((sL 0x20000103).greg 0 (opA (fA 15 14 0 0)) + BitVec.signExtend 32 (BitVec.ofNat 16 (fA 15 14 0 0).toNat)) % 4 ≠ 0) ∧
    ((sL 0x60000100).coreRuns 0 = true ∧ (sL 0x60000100).fetchTrap 0 = none ∧
      0x60000000 ≤ BitVec.toNat ((sL 0x60000100).greg 0 (opA (fA 15 14 0 0)) + BitVec.signExtend 32 (BitVec.ofNat 16 (fA 15 14 0 0).toNat)) ∧
      BitVec.toNat ((sL 0x60000100).greg 0 (opA (fA 15 14 0 0)) + BitVec.signExtend 32 (BitVec.ofNat 16 (fA 15 14 0 0).toNat)) < 0x60013000) ∧
    (let s := sL 0x20200000
     s.coreRuns 0 = true ∧ s.fetchTrap 0 = none ∧
      BitVec.toNat (s.greg 0 (opA (fA 15 14 0 0)) + BitVec.signExtend 32 (BitVec.ofNat 16 (fA 15 14 0 0).toNat)) % 4 = 0 ∧
      areaOf (BitVec.toNat (s.greg 0 (opA (fA 15 14 0 0)) + BitVec.signExtend 32 (BitVec.ofNat 16 (fA 15 14 0 0).toNat))) = none ∧
      (false = true → 4 = 4 ∨ wordOnly (BitVec.toNat (s.greg 0 (opA (fA 15 14 0 0)) + BitVec.signExtend 32 (BitVec.ofNat 16 (fA 15 14 0 0).toNat))) = false)) ∧
    ((sL 0).coreRuns 0 = true ∧ (sL 0).fetchTrap 0 = none ∧ ((sL 0).co 0).app = false ∧
      BitVec.toNat ((sL 0).greg 0 (opA (fA 15 14 0 0)) + BitVec.signExtend 32 (BitVec.ofNat 16 (fA 15 14 0 0).toNat)) % 2 ^ 24 < 2 ^ 21 ∧
      (sL 0).flashBad (BitVec.toNat ((sL 0).greg 0 (opA (fA 15 14 0 0)) + BitVec.signExtend 32 (BitVec.ofNat 16 (fA 15 14 0 0).toNat)) % 2 ^ 24) = false) ∧
    ((sL 0x200000).coreRuns 0 = true ∧ (sL 0x200000).fetchTrap 0 = none ∧ ((sL 0x200000).co 0).app = false ∧
      2 ^ 21 ≤ BitVec.toNat ((sL 0x200000).greg 0 (opA (fA 15 14 0 0)) + BitVec.signExtend 32 (BitVec.ofNat 16 (fA 15 14 0 0).toNat)) % 2 ^ 24) ∧
    (let s := ({ sL 77 with ecc := tabSet false [] (2 ^ 32 + (sL 77).flashKey 77) true })
     s.coreRuns 0 = true ∧ s.fetchTrap 0 = none ∧ (s.co 0).app = false ∧
      BitVec.toNat (s.greg 0 (opA (fA 15 14 0 0)) + BitVec.signExtend 32 (BitVec.ofNat 16 (fA 15 14 0 0).toNat)) % 2 ^ 24 < 2 ^ 21 ∧
      s.flashBad (BitVec.toNat (s.greg 0 (opA (fA 15 14 0 0)) + BitVec.signExtend 32 (BitVec.ofNat 16 (fA 15 14 0 0).toNat)) % 2 ^ 24) = true) := by decide +kernel

/-- Core 0 runs a string operation over a block of SRAM. -/
def sS (n : Nat) : State := (co { sptr := 0x20000100, dptr := 0x20000200, cnt := word n, g := [(3, 0x12345678)], stat := 0xA0 }).memBytesSet 0x20000100 [0x81,0x92,0xA3,0xF4,5,6,7,8]

theorem witness_stringInstructions :
    ((sS 4).coreRuns 0 = true ∧ (sS 4).fetchTrap 0 = none ∧ bitsOf (fA 3 14 15 0).toNat 0 12 = 0) ∧
    (let s := (sS 4).co 0
     (sS 4).coreRuns 0 = true ∧ (sS 4).fetchTrap 0 = none ∧ s.app = false ∧ bitsOf (fA 0 0 0 0).toNat 8 12 = 0 ∧ opSel (fA 0 0 0 0) = 0 ∧
      inSram (BitVec.toNat s.sptr) = true ∧ inSram (BitVec.toNat s.dptr) = true ∧ BitVec.toNat s.sptr % 4 = 0 ∧ BitVec.toNat s.dptr % 4 = 0 ∧
      (sS 4).eccBad (BitVec.toNat s.sptr) = false ∧ (sS 4).eccBad (BitVec.toNat s.dptr) = false ∧ opD (fA 0 0 0 0) = 0) ∧
    ((sS 4).coreRuns 0 = true ∧ (sS 4).fetchTrap 0 = none ∧ ((sS 4).co 0).app = false ∧ bitsOf (fA 0 0 0 0).toNat 8 12 = 0 ∧ opSel (fA 0 0 0 0) = 0 ∧
      0x20000100 = BitVec.toNat ((sS 4).co 0).sptr ∧ 0x20000200 = BitVec.toNat ((sS 4).co 0).dptr ∧ inSram 0x20000100 = true ∧ inSram 0x20000200 = true ∧
      0x20000100 % 4 = 0 ∧ 0x20000200 % 4 = 0 ∧ (sS 4).eccBad 0x20000100 = false ∧ (sS 4).eccBad 0x20000200 = false ∧ opD (fA 0 0 0 0) = 0) ∧
    ((sS 0).coreRuns 0 = true ∧ (sS 0).fetchTrap 0 = none ∧ ((sS 0).co 0).cnt = 0 ∧ opSel (fA 0 0 0 1) % 4 = 1 ∧ rsvString (fA 0 0 0 1) false = false ∧
      opD (fA 0 0 0 1) = 0) ∧
    ((sS 0).coreRuns 0 = true ∧ (sS 0).fetchTrap 0 = none ∧ ((sS 0).co 0).cnt = 0 ∧ opSel (fA 0 0 0 5) % 4 = 1 ∧ rsvString (fA 0 0 0 5) false = false) ∧
    ((sS 4).coreRuns 0 = true ∧ (sS 4).fetchTrap 0 = none ∧ ((sS 4).co 0).app = false ∧ bitsOf (fA 3 0 0 1).toNat 8 12 = 0 ∧ opSel (fA 3 0 0 1) = 1 ∧
      0x20000200 = BitVec.toNat ((sS 4).co 0).dptr ∧ 4 = BitVec.toNat ((sS 4).co 0).cnt ∧ 0x20000200 % 4 = 0 ∧ inSram 0x20000200 = true) := by decide +kernel

/-- Core 0 with all of its special registers set. -/
def sI (st : Nat) : State := co { g := [(14, 0xFFFFF001), (15, 0x12345678)], stat := word st, div := some (1,2), cnt := 77, mhi := 5, epc := [(4,44)], estat := [(4,45)], ecause := 6, eaddr := 8, sptr := 9, dptr := 11, mlo := 12, quo := 13, rem := 14 }

/-- Core 0 with its return stack in use. -/
def sT (d : Nat) (o : Bool) : State := (co { depth := d, sp := 15, stack := [(14, 0x123456), (15, 3)], g := [(15, 0xFFABCDEF)] }).setB F.CORE_CFG_RSOVF (coreIx 0 0) o

theorem witness_ioAndSpecialRegisters :
    ((sI 0).coreRuns 0 = true ∧ (sI 0).fetchTrap 0 = none ∧ opA (fA 15 0 1 0) = 0 ∧ 4096 = (fA 15 0 1 0).toNat % 2 ^ 16 ∧ ((sI 0).co 0).app = false ∧
      (regAt 4096).isSome = true ∧ regAt 4096 = some (((regAt 4096).getD (Reg.OUT_CFG, 0)).1, ((regAt 4096).getD (Reg.OUT_CFG, 0)).2) ∧
      (unitOf 4096).bind crossingOf = some Crossing.toSwitch ∧
      ((sI 0).crossingQ Crossing.toSwitch ((regAt 4096).getD (Reg.OUT_CFG, 0)).1.highway).length < crossingSize Crossing.toSwitch) ∧
    ((sI 0).coreRuns 0 = true ∧ (sI 0).fetchTrap 0 = none ∧
      4097 = (BitVec.toNat ((sI 0).greg 0 (opA (fA 15 14 2 0))) + (fA 15 14 2 0).toNat % 2 ^ 16) % 2 ^ 16 ∧ ((sI 0).co 0).app = false ∧
      (regAt 4097).isSome = true ∧ regAt 4097 = some (((regAt 4097).getD (Reg.OUT_CFG, 0)).1, ((regAt 4097).getD (Reg.OUT_CFG, 0)).2) ∧
      (unitOf 4097).bind crossingOf = some Crossing.toSwitch ∧
      ((sI 0).crossingQ Crossing.toSwitch ((regAt 4097).getD (Reg.OUT_CFG, 0)).1.highway).length < crossingSize Crossing.toSwitch) ∧
    ((sI 0).coreRuns 0 = true ∧ (sI 0).fetchTrap 0 = none ∧ opA (fA 15 0 (Reg.OUT_CFG.addr 5 / 4096) (Reg.OUT_CFG.addr 5 % 4096)) = 0 ∧
      Reg.OUT_CFG.addr 5 = (fA 15 0 (Reg.OUT_CFG.addr 5 / 4096) (Reg.OUT_CFG.addr 5 % 4096)).toNat % 2 ^ 16 ∧ ((sI 0).co 0).app = false ∧
      (regAt (Reg.OUT_CFG.addr 5)).isSome = true ∧
      regAt (Reg.OUT_CFG.addr 5) = some (((regAt (Reg.OUT_CFG.addr 5)).getD (Reg.OUT_CFG, 0)).1, ((regAt (Reg.OUT_CFG.addr 5)).getD (Reg.OUT_CFG, 0)).2) ∧
      (unitOf (Reg.OUT_CFG.addr 5)).bind crossingOf = some Crossing.toSwitch ∧
      ((sI 0).crossingQ Crossing.toSwitch ((regAt (Reg.OUT_CFG.addr 5)).getD (Reg.OUT_CFG, 0)).1.highway).length < crossingSize Crossing.toSwitch) ∧
    ((sI 0).coreRuns 0 = true ∧ (sI 0).fetchTrap 0 = none ∧ opA (fA 15 0 15 4095) = 0 ∧ 65535 = (fA 15 0 15 4095).toNat % 2 ^ 16 ∧ ((sI 0).co 0).app = false ∧
      regAt 65535 = none) ∧
    ((sI 0).coreRuns 0 = true ∧ (sI 0).fetchTrap 0 = none ∧ opA (fA 15 0 0 (Reg.CORE_SWSET.addr 0)) = 0 ∧
      Reg.CORE_SWSET.addr 0 = (fA 15 0 0 (Reg.CORE_SWSET.addr 0)).toNat % 2 ^ 16 ∧ ((sI 0).co 0).app = false ∧ (regAt (Reg.CORE_SWSET.addr 0)).isSome = true ∧
      (unitOf (Reg.CORE_SWSET.addr 0)).bind crossingOf = none) ∧
    ((sI 0).coreRuns 0 = true ∧ (sI 0).fetchTrap 0 = none ∧ opA (fA 15 0 (Reg.CORE_EVT.addr 0 / 4096) (Reg.CORE_EVT.addr 0 % 4096)) = 0 ∧
      Reg.CORE_EVT.addr 0 = (fA 15 0 (Reg.CORE_EVT.addr 0 / 4096) (Reg.CORE_EVT.addr 0 % 4096)).toNat % 2 ^ 16 ∧ ((sI 0).co 0).app = false ∧
      (regAt (Reg.CORE_EVT.addr 0)).isSome = true ∧ (unitOf (Reg.CORE_EVT.addr 0)).bind crossingOf = none) ∧
    ((sI 256).coreRuns 0 = true ∧ (sI 256).fetchTrap 0 = none ∧ bitsOf (fA 15 0 0 0).toNat 8 12 = 0 ∧ opSel (fA 15 0 0 0) = 0 ∧
      putBits ((sI 256).co 0).stat 11 1 1 = putBits ((sI 256).co 0).stat 11 1 (b01 ((sI 256).co 0).div.isSome)) ∧
    ((sI 256).coreRuns 0 = true ∧ (sI 256).fetchTrap 0 = none ∧ bitsOf (fA 15 0 0 1).toNat 8 12 = 0 ∧ opSel (fA 15 0 0 1) = 1 ∧ 77 = ((sI 256).co 0).cnt) ∧
    ((sI 256).coreRuns 0 = true ∧ (sI 256).fetchTrap 0 = none ∧ bitsOf (fA 15 0 0 2).toNat 8 12 = 0 ∧ opSel (fA 15 0 0 2) = 2 ∧ 9 = ((sI 256).co 0).sptr) ∧
    ((sI 256).coreRuns 0 = true ∧ (sI 256).fetchTrap 0 = none ∧ bitsOf (fA 15 0 0 3).toNat 8 12 = 0 ∧ opSel (fA 15 0 0 3) = 3 ∧ 11 = ((sI 256).co 0).dptr) ∧
    ((sI 256).coreRuns 0 = true ∧ (sI 256).fetchTrap 0 = none ∧ bitsOf (fA 15 0 0 4).toNat 8 12 = 0 ∧ opSel (fA 15 0 0 4) = 4 ∧ 5 = ((sI 256).co 0).mhi) ∧
    ((sI 256).coreRuns 0 = true ∧ (sI 256).fetchTrap 0 = none ∧ bitsOf (fA 15 0 0 5).toNat 8 12 = 0 ∧ opSel (fA 15 0 0 5) = 5 ∧ 12 = ((sI 256).co 0).mlo) ∧
    ((sI 256).coreRuns 0 = true ∧ (sI 256).fetchTrap 0 = none ∧ bitsOf (fA 15 0 0 6).toNat 8 12 = 0 ∧ opSel (fA 15 0 0 6) = 6 ∧ 13 = ((sI 256).co 0).quo) ∧
    ((sI 256).coreRuns 0 = true ∧ (sI 256).fetchTrap 0 = none ∧ bitsOf (fA 15 0 0 7).toNat 8 12 = 0 ∧ opSel (fA 15 0 0 7) = 7 ∧ 14 = ((sI 256).co 0).rem) ∧
    ((sI 256).coreRuns 0 = true ∧ (sI 256).fetchTrap 0 = none ∧ bitsOf (fA 15 0 0 0).toNat 8 12 = 0 ∧ ((sI 256).co 0).app = false ∧ opSel (fA 15 0 0 0) = 0 ∧
      ({ (sI 256).co 0 with stat := 0x12345678 &&& 2031 }) = { (sI 256).co 0 with stat := (sI 256).greg 0 (opD (fA 15 0 0 0)) &&& 2031 }) ∧
    ((sI 0).coreRuns 0 = true ∧ (sI 0).fetchTrap 0 = none ∧ (sI 0).transit = []) ∧
    ((sT 0 true).coreRuns 0 = true ∧ (sT 0 true).fetchTrap 0 = none ∧ bitsOf (fA 15 0 0 0).toNat 0 20 = 0 ∧ ((sT 0 true).co 0).depth < 16) ∧
    ((sT 0 true).coreRuns 0 = true ∧ (sT 0 true).fetchTrap 0 = none ∧ bitsOf (fA 15 0 0 0).toNat 0 20 = 0 ∧ ((sT 0 true).co 0).depth = 0 ∧
      (sT 0 true).stackTraps 0 = true) ∧
    ((sT 1 true).coreRuns 0 = true ∧ (sT 1 true).fetchTrap 0 = none ∧ bitsOf (fA 15 0 0 0).toNat 0 20 = 0 ∧ 0 < ((sT 1 true).co 0).depth) ∧
    ((sT 16 true).coreRuns 0 = true ∧ (sT 16 true).fetchTrap 0 = none ∧ bitsOf (fA 15 0 0 0).toNat 0 20 = 0 ∧ 16 ≤ ((sT 16 true).co 0).depth ∧
      (sT 16 true).stackTraps 0 = true) ∧
    ((sT 16 false).coreRuns 0 = true ∧ (sT 16 false).fetchTrap 0 = none ∧ bitsOf (fA 15 0 0 0).toNat 0 20 = 0 ∧ 16 ≤ ((sT 16 false).co 0).depth ∧
      (sT 16 false).stackTraps 0 = false) := by decide +kernel

theorem witness_controlFlow :
    ((sT 0 true).coreRuns 0 = true ∧ (sT 0 true).fetchTrap 0 = none ∧ 0xABCDEF = (BitVec.toNat (0xABCDEF : BitVec 24)) ∧ ((sT 0 true).co 0).depth < 16) ∧
    ((sT 0 true).coreRuns 0 = true ∧ (sT 0 true).fetchTrap 0 = none ∧ opD (fA 0 15 0 0) = 0 ∧ bitsOf (fA 0 15 0 0).toNat 0 16 = 0 ∧
      0xABCDEF = BitVec.toNat ((sT 0 true).greg 0 (opA (fA 0 15 0 0))) % 2 ^ 24 ∧ ((sT 0 true).co 0).depth < 16) ∧
    ((sT 0 true).coreRuns 0 = true ∧ (sT 0 true).fetchTrap 0 = none ∧ ((sT 0 true).co 0).depth = 0 ∧ (sT 0 true).stackTraps 0 = true) ∧
    ((sT 1 true).coreRuns 0 = true ∧ (sT 1 true).fetchTrap 0 = none ∧ 0 < ((sT 1 true).co 0).depth) ∧
    ((sT 16 true).coreRuns 0 = true ∧ (sT 16 true).fetchTrap 0 = none ∧ 0xABCDEF = (BitVec.toNat (0xABCDEF : BitVec 24)) ∧ 16 ≤ ((sT 16 true).co 0).depth ∧
      (sT 16 true).stackTraps 0 = true) ∧
    (let s := sT 16 true
     s.coreRuns 0 = true ∧ s.fetchTrap 0 = none ∧ opD (fA 0 15 0 0) = 0 ∧ bitsOf (fA 0 15 0 0).toNat 0 16 = 0 ∧
      0xABCDEF = BitVec.toNat (s.greg 0 (opA (fA 0 15 0 0))) % 2 ^ 24 ∧ 16 ≤ (s.co 0).depth ∧ s.stackTraps 0 = true) ∧
    (let s := co { run := CoreRun.running, wait := CoreWait.none }
     s.coreRuns 0 = true ∧ s.fetchTrap 0 = none ∧ opCond (fA 0 15 15 4094) = 0 ∧ false = bitOf (BitVec.toNat (s.co 0).stat) 0) ∧
    (let s := co { run := CoreRun.running, stat := 1, wait := CoreWait.none }
     s.coreRuns 0 = true ∧ s.fetchTrap 0 = none ∧ opCond (fA 0 15 15 4094) = 0 ∧ true = bitOf (BitVec.toNat (s.co 0).stat) 0) ∧
    (let s := co { run := CoreRun.running, wait := CoreWait.none }
     s.coreRuns 0 = true ∧ s.fetchTrap 0 = none ∧ opCond (fA 1 15 15 4094) = 1 ∧ true = !bitOf (BitVec.toNat (s.co 0).stat) 0) ∧
    (let s := co { run := CoreRun.running, stat := 1, wait := CoreWait.none }
     s.coreRuns 0 = true ∧ s.fetchTrap 0 = none ∧ opCond (fA 1 15 15 4094) = 1 ∧ false = !bitOf (BitVec.toNat (s.co 0).stat) 0) ∧
    (let s := co { run := CoreRun.running, wait := CoreWait.none }
     s.coreRuns 0 = true ∧ s.fetchTrap 0 = none ∧ opCond (fA 4 15 15 4094) = 4 ∧
      false = (bitOf (BitVec.toNat (s.co 0).stat) 1 != bitOf (BitVec.toNat (s.co 0).stat) 3)) ∧
    (let s := co { run := CoreRun.running, stat := 2, wait := CoreWait.none }
     s.coreRuns 0 = true ∧ s.fetchTrap 0 = none ∧ opCond (fA 4 15 15 4094) = 4 ∧
      true = (bitOf (BitVec.toNat (s.co 0).stat) 1 != bitOf (BitVec.toNat (s.co 0).stat) 3)) ∧
    ((co { run := CoreRun.running, wait := CoreWait.none }).coreRuns 0 = true ∧ (co { run := CoreRun.running, wait := CoreWait.none }).fetchTrap 0 = none ∧
      opCond (fA 8 15 15 4094) = 8) ∧
    ((co { run := CoreRun.running, wait := CoreWait.none }).coreRuns 0 = true ∧ (co { run := CoreRun.running, wait := CoreWait.none }).fetchTrap 0 = none ∧
      9 ≤ opCond (fA 9 1 1 1)) := by decide +kernel

theorem witness_trapsAndReturns :
    ((sI 35).coreRuns 0 = true ∧ (sI 35).fetchTrap 0 = none ∧ bitsOf (fA 0 0 0 255).toNat 8 16 = 0 ∧ 255 = bitsOf (fA 0 0 0 255).toNat 0 8 ∧
      ((sI 35).co 0).lvl ≠ 9) ∧
    ((sI 291).coreRuns 0 = true ∧ (sI 291).fetchTrap 0 = none ∧ (sI 291).debugHolds = false ∧ ((sI 291).co 0).lvl ≠ 9) ∧
    ((sI 576).coreRuns 0 = true ∧ (sI 576).fetchTrap 0 = none ∧ (sI 576).debugHolds = false ∧ ((sI 576).co 0).lvl = 9) ∧
    (let s := ((State.reset.setF F.FCRU_PSTAT_MODE 0 2).setCo 0 { run := CoreRun.halted, wait := CoreWait.none }).setCo 3 { run := CoreRun.running, wait := CoreWait.none }
     s.coreRuns 3 = true ∧ s.fetchTrap 3 = none ∧ s.debugHolds = true) ∧
    ((sI 256).coreRuns 0 = true ∧ (sI 256).fetchTrap 0 = none ∧ 1 ≤ ((sI 256).co 0).lvl ∧ ((sI 256).co 0).lvl ≤ 9 ∧ ((sI 256).co 0).app = false) ∧
    ((sI 0).coreRuns 0 = true ∧ (sI 0).fetchTrap 0 = none ∧ ((sI 0).co 0).lvl = 0) ∧
    (let s := ({ co { run := CoreRun.running, g := [], pc := 0, stat := 32, cnt := 0, sptr := 0, dptr := 0, mhi := 0, mlo := 0, quo := 0, rem := 0, muls := [], div := none, epc := [], estat := [], ecause := 0, eaddr := 0, startAt := 0, stack := [], sp := 0, depth := 0, serving := [], wait := CoreWait.none } with irq := tabSet false [] 127 true }).setF F.CORE_IRQ_LVL 127 8
     s.coreRuns 0 = true ∧ (s.co 0).ie = true ∧ s.bestLine 0 = some 127 ∧ lineOfUnit 127 = false) ∧
    (((sI 0).co 0).ie = false) := by decide +kernel

theorem witness_eventsAndWaits :
    ((sI 0).coreRuns 0 = true ∧ (sI 0).fetchTrap 0 = none ∧ bitsOf (fA 15 0 0 0).toNat 0 20 = 0 ∧
      (((sI 0).conditions 0 &&& if BitVec.toNat ((sI 0).greg 0 (opD (fA 15 0 0 0))) % 16 = 0 then 15 else BitVec.toNat ((sI 0).greg 0 (opD (fA 15 0 0 0))) % 16) = 0)) ∧
    (let s := co { run := CoreRun.running, wait := CoreWait.event 15 7 }
     s.coreWaits 0 = true ∧ (s.co 0).wait = CoreWait.event 15 7 ∧ s.conditions 0 &&& 7 = 0) ∧
    (let s := (co { run := CoreRun.running, wait := CoreWait.event 15 7 }).setF F.CORE_EVT_EV (coreIx 0 0) 12
     s.coreWaits 0 = true ∧ (s.co 0).wait = CoreWait.event 15 7 ∧ s.conditions 0 &&& 7 ≠ 0) ∧
    (((co { run := CoreRun.running, g := [(15, 15)], wait := CoreWait.none }).setF F.FCRU_PSTAT_MODE 0 2).coreRuns 0 = true ∧
      ((co { run := CoreRun.running, g := [(15, 15)], wait := CoreWait.none }).setF F.FCRU_PSTAT_MODE 0 2).fetchTrap 0 = none ∧
      bitsOf (fA 15 0 0 0).toNat 0 20 = 0) ∧
    (let s := ({ sI 0 with up := 9000 })
     s.coreRuns 0 = true ∧ s.fetchTrap 0 = none ∧ bitsOf (fA 15 14 13 0).toNat 0 12 = 0 ∧ 0 ≤ BitVec.toInt (word s.short - s.greg 0 (opA (fA 15 14 13 0)))) ∧
    (let s := co { run := CoreRun.running, g := [(14, 5)], wait := CoreWait.none }
     s.coreRuns 0 = true ∧ s.fetchTrap 0 = none ∧ bitsOf (fA 15 14 13 0).toNat 0 12 = 0 ∧ BitVec.toInt (word s.short - s.greg 0 (opA (fA 15 14 13 0))) < 0 ∧
      s.coreInterrupted 0 = false) ∧
    (let s := ({ co { run := CoreRun.running, g := [(14, 5)], pc := 0, stat := 0, cnt := 0, sptr := 0, dptr := 0, mhi := 0, mlo := 0, quo := 0, rem := 0, muls := [], div := none, epc := [], estat := [], ecause := 0, eaddr := 0, startAt := 0, stack := [], sp := 0, depth := 0, serving := [], wait := CoreWait.none } with irq := tabSet false [] 127 true }).setF F.CORE_IRQ_LVL 127 8
     s.coreRuns 0 = true ∧ s.fetchTrap 0 = none ∧ bitsOf (fA 15 14 13 0).toNat 0 12 = 0 ∧ BitVec.toInt (word s.short - s.greg 0 (opA (fA 15 14 13 0))) < 0 ∧
      s.coreInterrupted 0 = true) ∧
    (let s := ({ co { run := CoreRun.running, g := [], pc := 0, stat := 0, cnt := 0, sptr := 0, dptr := 0, mhi := 0, mlo := 0, quo := 0, rem := 0, muls := [], div := none, epc := [], estat := [], ecause := 0, eaddr := 0, startAt := 0, stack := [], sp := 0, depth := 0, serving := [], wait := CoreWait.time 15 1 (some 0) } with up := 8 })
     s.coreWaits 0 = true ∧ (s.co 0).wait = CoreWait.time 15 1 (some 0) ∧ BitVec.toInt (word s.short - 1) < 0 ∧ (∃ e, some 0 = some e ∧ e ≤ s.up)) ∧
    (let s := ({ co { run := CoreRun.running, g := [], pc := 0, stat := 0, cnt := 0, sptr := 0, dptr := 0, mhi := 0, mlo := 0, quo := 0, rem := 0, muls := [], div := none, epc := [], estat := [], ecause := 0, eaddr := 0, startAt := 0, stack := [], sp := 0, depth := 0, serving := [], wait := CoreWait.time 15 5 none } with up := 3 })
     s.coreWaits 0 = true ∧ (s.co 0).wait = CoreWait.time 15 5 none ∧ BitVec.toInt (word s.short - 5) < 0 ∧ (∀ (e : ℕ), none = some e → s.up < e) ∧
      s.coreInterrupted 0 = false) ∧
    (let s := ({ co { run := CoreRun.running, g := [], pc := 0, stat := 0, cnt := 0, sptr := 0, dptr := 0, mhi := 0, mlo := 0, quo := 0, rem := 0, muls := [], div := none, epc := [], estat := [], ecause := 0, eaddr := 0, startAt := 0, stack := [], sp := 0, depth := 0, serving := [], wait := CoreWait.time 15 5 (some 7) } with up := 3 })
     s.coreWaits 0 = true ∧ (s.co 0).wait = CoreWait.time 15 5 (some 7) ∧ BitVec.toInt (word s.short - 5) < 0 ∧ (∀ (e : ℕ), some 7 = some e → s.up < e) ∧
      s.coreInterrupted 0 = false) ∧
    ((BitVec.toNat (63 : Word)) < 64) := by decide +kernel

/-- BTE channel 7 moves the last of four words within SRAM. -/
def bte7 : State :=
  ((((State.reset.setF F.BTE_STAT_STATE 7 1).wr .BTE_CNT 7 4).wr .BTE_RES 7 1).wr .BTE_SRC 7 0x20000000).wr .BTE_DST 7 0x201FFFF0

theorem witness_blockTransfers :
    (reservedSet Reg.BTE_CTRL (0 ||| word (2 ^ F.BTE_CTRL_START.lo)) = false ∧ F.BTE_CTRL_ABORT.on (0 ||| word (2 ^ F.BTE_CTRL_START.lo)) = false ∧
      bte7.bteBusy 7 = true) ∧
    (reservedSet Reg.BTE_CTRL (0 ||| word (2 ^ F.BTE_CTRL_START.lo)) = false ∧ F.BTE_CTRL_ABORT.on (0 ||| word (2 ^ F.BTE_CTRL_START.lo)) = false ∧
      State.reset.bteBusy 7 = false ∧ State.reset.entering = false ∧ F.BTE_CTRL_DIR.of (0 ||| word (2 ^ F.BTE_CTRL_START.lo)) ≠ 3 ∧
      State.reset.getF F.BTE_CNT_COUNT 7 = 0) ∧
    (let s := bte7.setF F.BTE_STAT_STATE 7 0
     reservedSet Reg.BTE_CTRL (0 ||| word (2 ^ F.BTE_CTRL_START.lo)) = false ∧ F.BTE_CTRL_ABORT.on (0 ||| word (2 ^ F.BTE_CTRL_START.lo)) = false ∧
      s.bteBusy 7 = false ∧ s.entering = false ∧ F.BTE_CTRL_DIR.of (0 ||| word (2 ^ F.BTE_CTRL_START.lo)) ≠ 3 ∧ 0 < s.getF F.BTE_CNT_COUNT 7 ∧
      s.getF F.BTE_CNT_COUNT 7 < 2 ^ 24 ∧ bteRangeOk (Master.core 0) (0 ||| word (2 ^ F.BTE_CTRL_START.lo)) 7 (s.getF F.BTE_CNT_COUNT 7) s = true) ∧
    (let s := (bte7.setF F.BTE_STAT_STATE 7 0).wr Reg.BTE_DST 7 0x201FFFF4
     reservedSet Reg.BTE_CTRL (0 ||| word (2 ^ F.BTE_CTRL_START.lo)) = false ∧ F.BTE_CTRL_ABORT.on (0 ||| word (2 ^ F.BTE_CTRL_START.lo)) = false ∧
      s.bteBusy 7 = false ∧ s.entering = false ∧ F.BTE_CTRL_DIR.of (0 ||| word (2 ^ F.BTE_CTRL_START.lo)) ≠ 3 ∧ 0 < s.getF F.BTE_CNT_COUNT 7 ∧
      bteRangeOk (Master.core 0) (0 ||| word (2 ^ F.BTE_CTRL_START.lo)) 7 (s.getF F.BTE_CNT_COUNT 7) s = false) ∧
    (reservedSet Reg.BTE_CTRL (0 ||| word (2 ^ F.BTE_CTRL_ABORT.lo)) = false ∧ F.BTE_CTRL_START.on (0 ||| word (2 ^ F.BTE_CTRL_ABORT.lo)) = false ∧
      bte7.bteBusy 7 = true ∧ bte7.flag F.BTE_CTRL_IRQ 7 = false) ∧
    (reservedSet Reg.BTE_CTRL (0 ||| word (2 ^ F.BTE_CTRL_ABORT.lo)) = false ∧ F.BTE_CTRL_START.on (0 ||| word (2 ^ F.BTE_CTRL_ABORT.lo)) = false ∧
      (bte7.setB F.BTE_CTRL_IRQ 7 true).bteBusy 7 = true ∧ (bte7.setB F.BTE_CTRL_IRQ 7 true).flag F.BTE_CTRL_IRQ 7 = true) ∧
    (reservedSet Reg.BTE_CTRL (0 ||| word (2 ^ F.BTE_CTRL_ABORT.lo)) = false ∧ F.BTE_CTRL_START.on (0 ||| word (2 ^ F.BTE_CTRL_ABORT.lo)) = false ∧
      State.reset.bteBusy 7 = false) ∧
    (bte7.dom.core = true ∧ bte7.bteTurn = some 7 ∧ bte7.getF F.BTE_CTRL_DIR 7 = 0 ∧ bte7.flag F.BTE_CTRL_SFIX 7 = false ∧
      bte7.flag F.BTE_CTRL_DFIX 7 = false ∧
      inSram (BitVec.toNat (bte7.rd Reg.BTE_SRC 7) + 4 * (bte7.getF F.BTE_CNT_COUNT 7 - bte7.getF F.BTE_RES_RESID 7)) = true ∧
      inSram (BitVec.toNat (bte7.rd Reg.BTE_DST 7) + 4 * (bte7.getF F.BTE_CNT_COUNT 7 - bte7.getF F.BTE_RES_RESID 7)) = true ∧
      (BitVec.toNat (bte7.rd Reg.BTE_SRC 7) + 4 * (bte7.getF F.BTE_CNT_COUNT 7 - bte7.getF F.BTE_RES_RESID 7)) % 4 = 0 ∧
      (BitVec.toNat (bte7.rd Reg.BTE_DST 7) + 4 * (bte7.getF F.BTE_CNT_COUNT 7 - bte7.getF F.BTE_RES_RESID 7)) % 4 = 0 ∧
      bte7.eccBad (BitVec.toNat (bte7.rd Reg.BTE_SRC 7) + 4 * (bte7.getF F.BTE_CNT_COUNT 7 - bte7.getF F.BTE_RES_RESID 7)) = false) ∧
    (let s := bte7.wr Reg.BTE_RES 7 3
     s.dom.core = true ∧ s.bteTurn = some 7 ∧ s.getF F.BTE_CTRL_DIR 7 = 0 ∧ s.flag F.BTE_CTRL_SFIX 7 = false ∧ s.flag F.BTE_CTRL_DFIX 7 = false ∧
      inSram (BitVec.toNat (s.rd Reg.BTE_SRC 7) + 4 * (s.getF F.BTE_CNT_COUNT 7 - s.getF F.BTE_RES_RESID 7)) = true ∧
      inSram (BitVec.toNat (s.rd Reg.BTE_DST 7) + 4 * (s.getF F.BTE_CNT_COUNT 7 - s.getF F.BTE_RES_RESID 7)) = true ∧
      (BitVec.toNat (s.rd Reg.BTE_SRC 7) + 4 * (s.getF F.BTE_CNT_COUNT 7 - s.getF F.BTE_RES_RESID 7)) % 4 = 0 ∧
      (BitVec.toNat (s.rd Reg.BTE_DST 7) + 4 * (s.getF F.BTE_CNT_COUNT 7 - s.getF F.BTE_RES_RESID 7)) % 4 = 0 ∧
      s.eccBad (BitVec.toNat (s.rd Reg.BTE_SRC 7) + 4 * (s.getF F.BTE_CNT_COUNT 7 - s.getF F.BTE_RES_RESID 7)) = false) ∧
    (let s := ({ bte7 with ecc := tabSet false [] 0x2000000C true })
     s.dom.core = true ∧ s.bteTurn = some 7 ∧ s.getF F.BTE_CTRL_DIR 7 = 0 ∧ s.flag F.BTE_CTRL_SFIX 7 = false ∧ s.flag F.BTE_CTRL_DFIX 7 = false ∧
      inSram (BitVec.toNat (s.rd Reg.BTE_SRC 7) + 4 * (s.getF F.BTE_CNT_COUNT 7 - s.getF F.BTE_RES_RESID 7)) = true ∧
      inSram (BitVec.toNat (s.rd Reg.BTE_DST 7) + 4 * (s.getF F.BTE_CNT_COUNT 7 - s.getF F.BTE_RES_RESID 7)) = true ∧
      (BitVec.toNat (s.rd Reg.BTE_SRC 7) + 4 * (s.getF F.BTE_CNT_COUNT 7 - s.getF F.BTE_RES_RESID 7)) % 4 = 0 ∧
      (BitVec.toNat (s.rd Reg.BTE_DST 7) + 4 * (s.getF F.BTE_CNT_COUNT 7 - s.getF F.BTE_RES_RESID 7)) % 4 = 0 ∧
      s.eccBad (BitVec.toNat (s.rd Reg.BTE_SRC 7) + 4 * (s.getF F.BTE_CNT_COUNT 7 - s.getF F.BTE_RES_RESID 7)) = true) ∧
    (State.reset.bteTurn = none) := by decide +kernel

/-- A boot mode, with a field of FCRU_PSTAT. -/
def fmode (m : Nat) (f : Fld) (v : Nat) : State := (State.reset.setF F.FCRU_PSTAT_MODE 0 m).setF f 0 v

theorem witness_startsAndPairs :
    (((fmode 2 F.FCRU_PSTAT_RSYNC 0).setCo 3 { run := CoreRun.ready, wait := CoreWait.none }).dom.core = true ∧
      (((fmode 2 F.FCRU_PSTAT_RSYNC 0).setCo 3 { run := CoreRun.ready, wait := CoreWait.none }).co 3).run = CoreRun.ready) ∧
    ((State.reset.co 0).run ≠ CoreRun.ready) ∧
    ((State.reset.setB F.SVC_STAT_MODE 0 true).debugOn 0 = true ∧ ((State.reset.setB F.SVC_STAT_MODE 0 true).co 0).run = CoreRun.running) ∧
    (((State.reset.setCo 0 { run := CoreRun.halted, wait := CoreWait.none }).co 0).run = CoreRun.halted) ∧
    (((State.reset.setCo 0 { run := CoreRun.stalled, wait := CoreWait.none }).co 0).run ≠ CoreRun.halted) ∧
    (State.reset.debugOn 0 = false) ∧
    ((((State.reset.setB F.SVC_STAT_MODE 0 true).setCo 0 { run := CoreRun.stalled, wait := CoreWait.none }).co 0).run ≠ CoreRun.running) ∧
    (((State.reset.setB F.SVC_STAT_MODE 0 true).setCo 0 { run := CoreRun.halted, g := [(15, 3)], wait := CoreWait.none }).debugOn 0 = true ∧
      (((State.reset.setB F.SVC_STAT_MODE 0 true).setCo 0 { run := CoreRun.halted, g := [(15, 3)], wait := CoreWait.none }).co 0).run = CoreRun.halted ∧
      (BitVec.toNat (0x20000104 : Word)) % 4 = 0 ∧ inSram ((BitVec.toNat (0x20000104 : Word))) = true) ∧
    (let s := fmode 0 F.FCRU_PSTAT_ACTIVE 0
     s.dom.core = true ∧ s.pairIn 0 = true ∧ s.bootMode = 0 ∧ s.activePair = 0 ∧
      ((((s.setF F.FCRU_MISC_LANE 0 303).setB F.FCRU_MISC_PAIR 0 (0 == 1)).setB F.FCRU_MISC_SPARE 0 (s.bootMode == 0 && s.activePair != 0)).countF F.FCRU_MISC_COUNT 0).pairIn (1 - 0) = true) ∧
    (let s := fmode 0 F.FCRU_PSTAT_ACTIVE 0
     s.dom.core = true ∧ s.pairIn 1 = true ∧ s.bootMode = 0 ∧ s.activePair ≠ 1) ∧
    (let s := fmode 0 F.FCRU_PSTAT_BIN 0
     s.dom.core = true ∧ s.pairIn 0 = true ∧ s.bootMode = 0 ∧ s.activePair = 0 ∧
      ((((s.setF F.FCRU_MISC_LANE 0 303).setB F.FCRU_MISC_PAIR 0 (0 == 1)).setB F.FCRU_MISC_SPARE 0 (s.bootMode == 0 && s.activePair != 0)).countF F.FCRU_MISC_COUNT 0).pairIn (1 - 0) = false) ∧
    ((fmode 1 F.FCRU_PSTAT_ACTIVE 0).dom.core = true ∧ (fmode 1 F.FCRU_PSTAT_ACTIVE 0).pairIn 1 = true ∧ (fmode 1 F.FCRU_PSTAT_ACTIVE 0).bootMode = 1) ∧
    (let s := fmode 0 F.FCRU_PSTAT_BIN 0
     pairBFitted s.variant = true ∧ reservedSet Reg.FCRU_RSYNC 1 = false ∧ s.bootMode = 0 ∧ s.pairIn 0 = true ∧ s.pairIn 1 = false ∧
      s.getF F.FCRU_PSTAT_RSYNC 0 ≠ 1 ∧ s.entering = false ∧ (s.co 0).run = CoreRun.running) ∧
    (pairBFitted (fmode 1 F.FCRU_PSTAT_BIN 0).variant = true ∧ reservedSet Reg.FCRU_RSYNC 1 = false ∧ (fmode 1 F.FCRU_PSTAT_BIN 0).bootMode ≠ 0) ∧
    (let s := ((fmode 0 F.FCRU_PSTAT_BIN 0).setF F.FCRU_PSTAT_RSYNC 0 1).setCo 0 { run := CoreRun.stalled, wait := CoreWait.none }
     s.getF F.FCRU_PSTAT_RSYNC 0 = 1 ∧ s.pairIn 0 = true ∧ (s.co 0).div = none ∧ (s.co 0).run = CoreRun.stalled) ∧
    (let s := ({ State.reset with fcru := { State.reset.fcru with testing := true } })
     s.fcru.testing = true ∧ s.bootMode = 0 ∧ pairBFitted s.variant = true) ∧
    (((State.reset.setCo 0 { run := CoreRun.starting, wait := CoreWait.none }).co 0).run = CoreRun.starting ∧
      (State.reset.setCo 0 { run := CoreRun.starting, wait := CoreWait.none }).bootMode ≠ 2) := by decide +kernel

/-- A source of the fault unit has values. -/
def fS (i : Nat) (x : FcruSrc) : State := { State.reset.setFsrc i x with raised := [(i, 5), (3, 1)] }

/-- The occurrences that a raise counts. -/
def fN (i : Nat) (s : State) : Nat := (if (s.fsrc i).winEnd.isSome then sat 255 ((s.fsrc i).count + 1) else 1)

/-- A source drives SAFE. -/
def sfb (p : Bool) (sf : Bool) : State := ({ State.reset with fcru := { State.reset.fcru with safeBy := [5] } }.setB ⟨.FCRU_PEND, 5, 1⟩ 0 p).setB F.FCRU_STAT_SAFE 0 sf

theorem witness_faultUnit :
    (let s := fS 168 {}
     s.raised = [(168, 5), (3, 1)] ∧ srcFitted s.variant 168 = true ∧ (s.fsrc 168).busy = false ∧
      (decide (s.srcN 168 ≤ if (s.fsrc 168).winEnd.isSome = true then sat 255 ((s.fsrc 168).count + 1) else 1) = true)) ∧
    (let s := fS 168 {}
     s.raised = [(168, 5), (3, 1)] ∧ srcFitted s.variant 168 = true ∧ (s.fsrc 168).busy = false ∧
      (fN 168 s = if (s.fsrc 168).winEnd.isSome = true then sat 255 ((s.fsrc 168).count + 1) else 1) ∧ decide (s.srcN 168 ≤ fN 168 s) = true) ∧
    (let s := fS 0 {}
     s.raised = [(0, 5), (3, 1)] ∧ srcFitted s.variant 0 = true ∧ (s.fsrc 0).busy = false ∧
      (decide (s.srcN 0 ≤ if (s.fsrc 0).winEnd.isSome = true then sat 255 ((s.fsrc 0).count + 1) else 1) = false)) ∧
    (let s := fS 0 {}
     s.raised = [(0, 5), (3, 1)] ∧ srcFitted s.variant 0 = true ∧ (s.fsrc 0).busy = false ∧
      (fN 0 s = if (s.fsrc 0).winEnd.isSome = true then sat 255 ((s.fsrc 0).count + 1) else 1) ∧ decide (s.srcN 0 ≤ fN 0 s) = false) ∧
    ((fS 0 { busy := true }).raised = [(0, 5), (3, 1)] ∧ ((fS 0 { busy := true }).fsrc 0).busy = true) ∧
    ((fS 143 {}).raised = [(143, 5), (3, 1)] ∧ srcFitted (fS 143 {}).variant 143 = false) ∧
    (State.reset.raised = []) ∧
    (srcOutside 172 = true) ∧
    (srcOutside 5 = false) ∧
    (((State.reset.setFsrc 191 { winEnd := some 9 }).fsrc 191).winEnd = some 9) ∧
    ((State.reset.fsrc 191).winEnd = none) ∧
    (reservedSet Reg.FCRU_RAISE 15 = false) ∧
    (reservedSet Reg.FCRU_CTRL 1 = false ∧ (sfb true true).fcru.safeBy.any (sfb true true).srcPending = true) ∧
    (reservedSet Reg.FCRU_CTRL 1 = false ∧ (sfb false true).fcru.safeBy.any (sfb false true).srcPending = false) ∧
    (let s := State.reset.wr Reg.FCRU_SEL (bk (Master.core 0) 0) 191
     srcFitted s.variant (s.fcruSel (Master.core 0)) = true ∧ reservedSet Reg.FCRU_SCFG (word (State.reset.srcCfg 191)) = false ∧
      srcCfgOk s.variant s.bootMode (s.fcruSel (Master.core 0)) (BitVec.toNat (word (State.reset.srcCfg 191))) = true) ∧
    (let s := State.reset.wr Reg.FCRU_SEL (bk (Master.core 0) 0) 191
     srcFitted s.variant (s.fcruSel (Master.core 0)) = true ∧ reservedSet Reg.FCRU_SCFG (word (State.reset.srcCfg 191) - 1) = false ∧
      srcCfgOk s.variant s.bootMode (s.fcruSel (Master.core 0)) (BitVec.toNat (word (State.reset.srcCfg 191) - 1)) = false) := by decide +kernel

/-- Cab access is enabled with its schedule, and an attempt may start; or it is in a state. -/
def accAt (st : Nat) (x : Acc) : State := { ((State.reset.setF F.ACC_STAT_STATE 0 st).setB F.ACC_CFG_EN 0 true).setB F.SVC_STAT_PAIRED 0 true with acc := x }
def enrolled : Tab (Option Token) := tabSet none [] 15 (some { id := List.replicate 8 1, key := List.replicate 16 2 })

/-- A polling schedule, ignition and drive enable. -/
def sch (sc : Nat) (ig de : Bool) : State := (((accAt 0 { tokens := enrolled }).setF F.ACC_CFG_SCHED 0 sc).setB F.NET_STAT_IGN 0 ig).setB F.ACC_STAT_DE 0 de

/-- An ACC_CTRL word with a calibration distance. -/
def cald : Word := word (30 * 2 ^ F.ACC_CTRL_CALDIST.lo)

theorem witness_cabAccessRounds :
    (let s : State := sch 1 true true
     s.attemptOk = true ∧ s.getF F.ACC_CFG_SCHED 0 ≠ 0 ∧ s.ignHigh = true ∧ s.driveEnabled = true) ∧
    (let s : State := sch 1 true false
     s.attemptOk = true ∧ s.getF F.ACC_CFG_SCHED 0 ≠ 0 ∧ s.ignHigh = true ∧ s.driveEnabled = false) ∧
    ((sch 0 true false).getF F.ACC_CFG_SCHED 0 = 0) ∧
    (accFitted (sch 1 true true).variant = true ∧ reservedSet Reg.ACC_CTRL (0 ||| word (2 ^ F.ACC_CTRL_POLL.lo)) = false ∧
      F.ACC_CTRL_END.on (0 ||| word (2 ^ F.ACC_CTRL_POLL.lo)) = false ∧ F.ACC_CTRL_CALREQ.on (0 ||| word (2 ^ F.ACC_CTRL_POLL.lo)) = false ∧
      (sch 1 true true).attemptOk = true) ∧
    (accFitted (accAt 2 { tokens := [], ant := 0, train := false, rounds := 0, collisions := 0, due := false, inRound := false, nonce := [], slots := [], cand := [], near := none, calDist := 0, calTof := [], calBad := false, sessEnd := 0, lockna := false, lock := none, deToken := 0, deWait := false, withdraw := 0, deCount := 0, deSaved := 0, recs := [], recSeq := 0 }).variant = true ∧
      reservedSet Reg.ACC_CTRL (0 ||| word (2 ^ F.ACC_CTRL_POLL.lo)) = false ∧ F.ACC_CTRL_END.on (0 ||| word (2 ^ F.ACC_CTRL_POLL.lo)) = false ∧
      F.ACC_CTRL_CALREQ.on (0 ||| word (2 ^ F.ACC_CTRL_POLL.lo)) = false ∧
      (accAt 2 { tokens := [], ant := 0, train := false, rounds := 0, collisions := 0, due := false, inRound := false, nonce := [], slots := [], cand := [], near := none, calDist := 0, calTof := [], calBad := false, sessEnd := 0, lockna := false, lock := none, deToken := 0, deWait := false, withdraw := 0, deCount := 0, deSaved := 0, recs := [], recSeq := 0 }).attemptOk = false) ∧
    (let s : State := (accAt 0 { tokens := [], ant := 0, train := false, rounds := 0, collisions := 0, due := false, inRound := false, nonce := [], slots := [], cand := [], near := none, calDist := 0, calTof := [], calBad := false, sessEnd := 0, lockna := false, lock := none, deToken := 0, deWait := false, withdraw := 0, deCount := 0, deSaved := 0, recs := [], recSeq := 0 }).setB F.SVC_STAT_MODE 0 true
     s.accOn = true ∧ reservedSet Reg.ACC_CTRL (cald ||| word (2 ^ F.ACC_CTRL_CALREQ.lo)) = false ∧
      F.ACC_CTRL_END.on (cald ||| word (2 ^ F.ACC_CTRL_CALREQ.lo)) = false ∧ F.ACC_CTRL_POLL.on (cald ||| word (2 ^ F.ACC_CTRL_CALREQ.lo)) = false ∧
      s.entering = false ∧ s.accState = 0 ∧ s.flag F.SVC_STAT_MODE 0 = true ∧ 30 ≤ F.ACC_CTRL_CALDIST.of (cald ||| word (2 ^ F.ACC_CTRL_CALREQ.lo)) ∧
      F.ACC_CTRL_CALDIST.of (cald ||| word (2 ^ F.ACC_CTRL_CALREQ.lo)) ≤ 300) ∧
    (let s : State := accAt 0 { tokens := [], ant := 0, train := false, rounds := 0, collisions := 0, due := false, inRound := false, nonce := [], slots := [], cand := [], near := none, calDist := 0, calTof := [], calBad := false, sessEnd := 0, lockna := false, lock := none, deToken := 0, deWait := false, withdraw := 0, deCount := 0, deSaved := 0, recs := [], recSeq := 0 }
     s.accOn = true ∧ reservedSet Reg.ACC_CTRL (cald ||| word (2 ^ F.ACC_CTRL_CALREQ.lo)) = false ∧
      F.ACC_CTRL_END.on (cald ||| word (2 ^ F.ACC_CTRL_CALREQ.lo)) = false ∧ F.ACC_CTRL_POLL.on (cald ||| word (2 ^ F.ACC_CTRL_CALREQ.lo)) = false ∧
      s.entering = false ∧ s.flag F.SVC_STAT_MODE 0 = false) ∧
    ((accAt 2 { tokens := [], ant := 0, train := false, rounds := 0, collisions := 0, due := true, inRound := false, nonce := [], slots := [], cand := [], near := none, calDist := 0, calTof := [], calBad := false, sessEnd := 0, lockna := false, lock := none, deToken := 0, deWait := false, withdraw := 0, deCount := 0, deSaved := 0, recs := [], recSeq := 0 }).acc.due = true) ∧
    ((accAt 1 { tokens := [], ant := 0, train := true, rounds := 0, collisions := 0, due := false, inRound := false, nonce := [], slots := [], cand := [], near := none, calDist := 0, calTof := [], calBad := false, sessEnd := 0, lockna := false, lock := none, deToken := 0, deWait := false, withdraw := 0, deCount := 0, deSaved := 0, recs := [], recSeq := 0 }).acc.train = true ∧
      (accAt 1 { tokens := [], ant := 0, train := true, rounds := 0, collisions := 0, due := false, inRound := false, nonce := [], slots := [], cand := [], near := none, calDist := 0, calTof := [], calBad := false, sessEnd := 0, lockna := false, lock := none, deToken := 0, deWait := false, withdraw := 0, deCount := 0, deSaved := 0, recs := [], recSeq := 0 }).accState = 1) ∧
    (let s : State := accAt 2 { tokens := [], ant := 0, train := false, rounds := 0, collisions := 0, due := false, inRound := true, nonce := [], slots := [], cand := [], near := none, calDist := 0, calTof := [], calBad := false, sessEnd := 0, lockna := false, lock := none, deToken := 0, deWait := false, withdraw := 0, deCount := 0, deSaved := 0, recs := [], recSeq := 0 }
     s.acc.inRound = true ∧ s.accState = 2 ∧ s.acc.slots = [] ∧ ∀ t < 16, s.flag F.ACC_TOK_RESYNC t = false) ∧
    ((accAt 2 { tokens := [], ant := 0, train := false, rounds := 0, collisions := 0, due := false, inRound := false, nonce := [], slots := [], cand := [], near := none, calDist := 0, calTof := [], calBad := false, sessEnd := 0, lockna := false, lock := none, deToken := 0, deWait := false, withdraw := 0, deCount := 0, deSaved := 0, recs := [], recSeq := 0 }).acc.inRound = false) := by decide +kernel

/-- In slot `k` of a round, token 15 has answered from where the antenna is. -/
def answered (k : Fin 8) : State :=
  let x : AccSlot := { resp := some (1000000000, some 15), report := some (4000000000, 1000000000, 1, Config.tokenTag (List.replicate 16 2) 1 State.reset.serial []) }
  accAt 2 { tokens := enrolled, inRound := true, slots := [((k : Nat), x)] }

theorem witness_slot (k : Fin 8) : (answered k).accSlot k =
    { resp := some (1000000000, some 15), report := some (4000000000, 1000000000, 1, Config.tokenTag (List.replicate 16 2) 1 State.reset.serial []) } := by
  simp [answered, accAt, State.accSlot, tabGet]

theorem witness_otherSlot (k j : Fin 8) (hn : j ≠ k) : judge j (answered k) = (.absent, none, answered k) := by
  have h : (answered k).accSlot j = {} := by
    have : ¬ (k : Nat) = (j : Nat) := fun h => hn (Fin.ext h.symm)
    simp [answered, accAt, State.accSlot, tabGet, this]
  simp [judge, h]

theorem witness_judged : ∀ k : Fin 8, (judgeRange 15 1 (rawTof 1000000000 4000000000 1000000000) (answered k)).1 = .valid 15 (0, 20000000000) := by decide +kernel

theorem witness_valid (k : Fin 8) (hk : Config.tokenSlot [1, 1, 1, 1, 1, 1, 1, 1] [] % 8 = k) : (judge k (answered k)).1 = .valid 15 (0, 20000000000) := by
  have ht : (answered k).token 15 = some { id := [1, 1, 1, 1, 1, 1, 1, 1], key := List.replicate 16 2 } := rfl
  have hm : (answered k).mutedPartner 8 15 = false := rfl
  have hs : (answered k).serial = State.reset.serial := rfl
  have hn : (answered k).acc.nonce = [] := rfl
  simp only [judge, witness_slot k, ht, hm, hs, hn, hk, ne_eq, not_true_eq_false, if_false, witness_judged k, Bool.false_eq_true]

theorem nearestOf_cons (a : Nat × (Int × Nat)) (l : List (Nat × (Int × Nat))) : (nearestOf (a :: l)).isSome = true := by
  unfold nearestOf
  split
  · rfl
  · split <;> rfl

theorem winner_of_valid (vs : List Verdict) (t : Nat) (f : Int × Nat) (h : .valid t f ∈ vs) : (winner vs).isSome = true := by
  have hl : (t, f) ∈ vs.filterMap (fun v => match v with | .valid t f => some (t, f) | _ => none) := List.mem_filterMap.2 ⟨_, h, rfl⟩
  unfold winner
  revert hl
  generalize vs.filterMap (fun v => match v with | .valid t f => some (t, f) | _ => none) = l
  intro hl
  cases l with
  | nil => cases hl
  | cons a l =>
    obtain ⟨n, hn⟩ := Option.isSome_iff_exists.1 (nearestOf_cons a l)
    simp [hn]

theorem judgeAll_mem (l1 l2 : List Nat) (k : Nat) (s : State) (h : ∀ j ∈ l1, judge j s = (.absent, none, s)) : (judge k s).1 ∈ (judgeAll (l1 ++ k :: l2) s).1 := by
  induction l1 with
  | nil => simp [judgeAll]
  | cons j l ih =>
    simp only [List.cons_append, judgeAll, h j (by simp)]
    exact List.mem_cons_of_mem _ (ih fun i hi => h i (List.mem_cons_of_mem _ hi))

theorem range_split : ∀ k : Fin 8, List.range 8 = List.range k ++ (k : Nat) :: (List.range (7 - k)).map (· + ((k : Nat) + 1)) := by decide

theorem witness_state : ∀ k : Fin 8, (answered k).accState = 2 := by decide +kernel

/-- A round has a winner: token 15 answers in the slot that its ID and the nonce give it. -/
theorem witness_cabAccessRounds_winner :
    ∃ k : Fin 8, (answered k).acc.inRound = true ∧ (answered k).accState ≠ 4 ∧ (winner (judgeAll (List.range 8) (answered k)).1).isSome = true := by
  obtain ⟨k, hk⟩ : ∃ k : Fin 8, Config.tokenSlot [1, 1, 1, 1, 1, 1, 1, 1] [] % 8 = k := ⟨⟨_, Nat.mod_lt _ (by decide)⟩, rfl⟩
  refine ⟨k, rfl, by rw [witness_state k]; decide, winner_of_valid _ 15 (0, 20000000000) ?_⟩
  rw [range_split k, ← witness_valid k hk]
  refine judgeAll_mem _ _ _ _ fun j hj => ?_
  have hj := List.mem_range.1 hj
  exact witness_otherSlot k ⟨j, by omega⟩ fun e => Nat.lt_irrefl j (by rw [← e] at hj; exact hj)

/-- Drive enable and a withdrawal. -/
def deS (d : Bool) (w : Nat) : State := { (State.reset.setB F.ACC_STAT_DE 0 d).setF F.CAN_STAT_STATE (State.reset.deCh) 2 with acc := { withdraw := w, deCount := 2^32 - 1, deToken := 3 } }

theorem witness_cabAccessSessions :
    (accFitted (accAt 3 { tokens := [], ant := 0, train := false, rounds := 0, collisions := 0, due := false, inRound := false, nonce := [], slots := [], cand := [], near := none, calDist := 0, calTof := [], calBad := false, sessEnd := 0, lockna := false, lock := none, deToken := 0, deWait := false, withdraw := 0, deCount := 0, deSaved := 0, recs := [], recSeq := 0 }).variant = true ∧
      reservedSet Reg.ACC_CTRL (0 ||| word (2 ^ F.ACC_CTRL_END.lo)) = false ∧ F.ACC_CTRL_POLL.on (0 ||| word (2 ^ F.ACC_CTRL_END.lo)) = false ∧
      F.ACC_CTRL_CALREQ.on (0 ||| word (2 ^ F.ACC_CTRL_END.lo)) = false ∧
      (accAt 3 { tokens := [], ant := 0, train := false, rounds := 0, collisions := 0, due := false, inRound := false, nonce := [], slots := [], cand := [], near := none, calDist := 0, calTof := [], calBad := false, sessEnd := 0, lockna := false, lock := none, deToken := 0, deWait := false, withdraw := 0, deCount := 0, deSaved := 0, recs := [], recSeq := 0 }).accState = 3) ∧
    (accFitted (accAt 0 { tokens := [], ant := 0, train := false, rounds := 0, collisions := 0, due := false, inRound := false, nonce := [], slots := [], cand := [], near := none, calDist := 0, calTof := [], calBad := false, sessEnd := 0, lockna := false, lock := none, deToken := 0, deWait := false, withdraw := 0, deCount := 0, deSaved := 0, recs := [], recSeq := 0 }).variant = true ∧
      reservedSet Reg.ACC_CTRL (0 ||| word (2 ^ F.ACC_CTRL_END.lo)) = false ∧ F.ACC_CTRL_POLL.on (0 ||| word (2 ^ F.ACC_CTRL_END.lo)) = false ∧
      F.ACC_CTRL_CALREQ.on (0 ||| word (2 ^ F.ACC_CTRL_END.lo)) = false ∧
      (accAt 0 { tokens := [], ant := 0, train := false, rounds := 0, collisions := 0, due := false, inRound := false, nonce := [], slots := [], cand := [], near := none, calDist := 0, calTof := [], calBad := false, sessEnd := 0, lockna := false, lock := none, deToken := 0, deWait := false, withdraw := 0, deCount := 0, deSaved := 0, recs := [], recSeq := 0 }).accState ≠ 3) ∧
    (let s : State := deS true 0
     s.driveEnabled = true ∧ s.canOn s.deCh = true ∧ s.canSends s.deCh = true) ∧
    ((deS false 0).driveEnabled = false) ∧
    (State.reset.driveEnabled = false) ∧
    (let s : State := (accAt 3 { tokens := [], ant := 0, train := false, rounds := 0, collisions := 0, due := false, inRound := false, nonce := [], slots := [], cand := [], near := none, calDist := 0, calTof := [], calBad := false, sessEnd := 0, lockna := false, lock := none, deToken := 0, deWait := true, withdraw := 0, deCount := 0, deSaved := 0, recs := [], recSeq := 0 }).setB F.ACC_STAT_DE 0 true
     s.acc.deWait = true ∧ s.ignHigh = false ∧ s.driveEnabled = true) ∧
    (((accAt 3 { tokens := [], ant := 0, train := false, rounds := 0, collisions := 0, due := false, inRound := false, nonce := [], slots := [], cand := [], near := none, calDist := 0, calTof := [], calBad := false, sessEnd := 0, lockna := false, lock := none, deToken := 0, deWait := true, withdraw := 0, deCount := 0, deSaved := 0, recs := [], recSeq := 0 }).setB F.NET_STAT_IGN 0 true).acc.deWait = true ∧
      ((accAt 3 { tokens := [], ant := 0, train := false, rounds := 0, collisions := 0, due := false, inRound := false, nonce := [], slots := [], cand := [], near := none, calDist := 0, calTof := [], calBad := false, sessEnd := 0, lockna := false, lock := none, deToken := 0, deWait := true, withdraw := 0, deCount := 0, deSaved := 0, recs := [], recSeq := 0 }).setB F.NET_STAT_IGN 0 true).ignHigh = true) ∧
    (let s : State := deS false 3
     0 < s.acc.withdraw ∧ s.canOn s.deCh = true ∧ s.canSends s.deCh = true) ∧
    ((deS false 0).acc.deWait = false) ∧
    ((deS false 0).acc.withdraw = 0) ∧
    (accFitted (accAt 0 { tokens := [], ant := 0, train := false, rounds := 0, collisions := 0, due := false, inRound := false, nonce := [], slots := [], cand := [], near := none, calDist := 0, calTof := [], calBad := false, sessEnd := 0, lockna := false, lock := none, deToken := 0, deWait := false, withdraw := 0, deCount := 0, deSaved := 0, recs := [], recSeq := 0 }).variant = true ∧
      (List.replicate 28 9).length = 28 ∧ (accAt 0 { tokens := [], ant := 0, train := false, rounds := 0, collisions := 0, due := false, inRound := false, nonce := [], slots := [], cand := [], near := none, calDist := 0, calTof := [], calBad := false, sessEnd := 0, lockna := false, lock := none, deToken := 0, deWait := false, withdraw := 0, deCount := 0, deSaved := 0, recs := [], recSeq := 0 }).accState = 0) ∧
    (accFitted (accAt 2 { tokens := [], ant := 0, train := false, rounds := 0, collisions := 0, due := false, inRound := false, nonce := [], slots := [], cand := [], near := none, calDist := 0, calTof := [], calBad := false, sessEnd := 0, lockna := false, lock := none, deToken := 0, deWait := false, withdraw := 0, deCount := 0, deSaved := 0, recs := [], recSeq := 0 }).variant = true ∧
      (List.replicate 28 9).length = 28 ∧ (accAt 2 { tokens := [], ant := 0, train := false, rounds := 0, collisions := 0, due := false, inRound := false, nonce := [], slots := [], cand := [], near := none, calDist := 0, calTof := [], calBad := false, sessEnd := 0, lockna := false, lock := none, deToken := 0, deWait := false, withdraw := 0, deCount := 0, deSaved := 0, recs := [], recSeq := 0 }).accState ≠ 0) := by decide +kernel

theorem witness_presenceOfVariants : State.reset.variant = .px96 ∧ on64.variant = .px64 ∧ on48.variant = .px48 := by decide

theorem witness_readsShowTheValueInForce : regAt 0x2800 = some (.VLV_CUR, 0) ∧ regFitted State.reset.variant .VLV_CUR 0 = true := by decide

theorem witness_resyncRefusals :
    pairBFitted State.reset.variant = true ∧ (fmode 1 F.FCRU_PSTAT_RSYNC 0).bootMode ≠ 0 ∧ (State.reset.pairIn 0 = true ∧ State.reset.pairIn 1 = true) ∧
    (fmode 0 F.FCRU_PSTAT_RSYNC 1).getF F.FCRU_PSTAT_RSYNC 0 = 1 ∧ (inPower 0 1).entering = true ∧ on48.variant = .px48 := by decide

/-- The update engine is in a state, with values beside its registers. -/
def upd (st : Nat) (x : Svc) : State := { (State.reset.setF F.SVC_USTAT_STATE 0 st).setB F.SVC_STAT_MODE 0 true with svc := x }

theorem witness_updates :
    (let s := upd 5 {}
     s.updState = 5 ∧ s.entering = false ∧ s.appMaster (Master.core 0) = false) ∧
    (let s := upd 6 {}
     0 < s.updState ∧ s.updState ≤ 6 ∧ s.appMaster (Master.core 0) = false) ∧
    ((upd 0 {}).updState = 0) ∧
    (((upd 0 {}).setCo 0 { run := CoreRun.running, stat := 1024, wait := CoreWait.none }).appMaster (Master.core 0) = true) ∧
    (({ upd 1 {} with flash := [(5, 3), (2 ^ 20 + 7, 9)] }).updState = 1) ∧
    (let s := upd 2 { received := 0x3FF1FF }
     s.flag F.SVC_STAT_MODE 0 = true ∧ s.updState = 2 ∧ s.svc.received + [1].length ≤ 0x3FF200) ∧
    (let s := upd 2 {}
     s.flag F.SVC_STAT_MODE 0 = true ∧ s.updState = 2 ∧ s.svc.received + (List.replicate 5000 7).length ≤ 0x3FF200 ∧ 6 ≠ s.svc.received) ∧
    (let s := (upd 3 {}).setF F.SVC_USTAT_PAGES 0 2
     s.flag F.SVC_STAT_MODE 0 = true ∧ s.updState = 3 ∧ 512 + 4096 * s.getF F.SVC_USTAT_PAGES 0 + [3].length ≤ 0x3FF200) ∧
    (let s := (upd 3 {}).setF F.SVC_USTAT_PAGES 0 2
     s.flag F.SVC_STAT_MODE 0 = true ∧ s.updState = 3 ∧ 8704 = 512 + 4096 * s.getF F.SVC_USTAT_PAGES 0 ∧ 8704 + [3].length ≤ 0x3FF200) ∧
    ((upd 7 {}).updState = 7 ∧
      (upd 7 {}).svc.migrated = false) ∧
    (let s := upd 7 { migrated := true }
     s.updState = 7 ∧ s.svc.migrated = true ∧ bitOf (hdrNat s.activeHeader 7 1) 0 = true) ∧
    (let s := ({ upd 7 { migrated := true } with flash := tabSet flashBlank [] (2 ^ 20 - 128 + 1) 0 })
     s.updState = 7 ∧ s.svc.migrated = true ∧ bitOf (hdrNat s.activeHeader 7 1) 0 = false) ∧
    ((upd 7 { trialFrom := some 0, migrated := true }).updState = 7) ∧
    ((upd 6 {}).updState ≠ 7) ∧
    (let s := (upd 4 {}).setB F.SVC_STAT_MODE 0 false
     s.updState = 4 ∧ imageCode s ≠ 0 ∧ s.flag F.SVC_STAT_MODE 0 = false ∧ (upd 4 {}).flag F.SVC_STAT_MODE 0 = true ∧ imageCode (upd 4 {}) ≠ 0) := by decide +kernel

theorem witness_pairing :
    ((List.replicate 184 0).length = 184 ∧ pairCause (List.replicate 184 0) true State.reset ≠ 0) ∧
    (let s := { State.reset with svc := { State.reset.svc with checking := true } }
     s.svc.checking = true ∧ pairCause s.svc.record false s ≠ 0) ∧
    (let s := State.reset.setF F.CAN_STAT_STATE State.reset.pairCh 2
     s.paired = false ∧ s.canOn s.pairCh = true ∧ s.canSends s.pairCh = true) ∧
    (((State.reset.setF F.CAN_STAT_STATE State.reset.pairCh 2).setB F.SVC_STAT_PAIRED 0 true).paired = true) ∧
    (let s := State.reset.setF F.CAN_STAT_STATE State.reset.pairCh 2
     [1, 2, 3, 4, 5, 6, 7, 8].length = 8 ∧ s.canOn s.pairCh = true ∧ s.canSends s.pairCh = true) ∧
    ((List.replicate 64 3).length = 64 ∧ State.reset.otpWritten 104 = false) ∧
    ((List.replicate 64 3).length = 64 ∧ (State.reset.memByteSet 0x480000A7 1).otpWritten 104 = true) := by decide +kernel

/-- A pairing record for a module whose OTP holds the integrator pairing key. -/
def pairKey : List Byte := List.replicate 64 0x11
def pairState : State := State.reset.memBytesSet 0x480000A8 pairKey
def pairRec : List Byte := [0, 1] ++ List.replicate 18 0 ++ pairState.serial ++ List.replicate 28 0 ++ pairKey ++ List.replicate 64 0

/-- The record of R520 is stored where its signature verifies and its drive key unwraps: the two checks that the model leaves uninterpreted. -/
theorem witness_pairing_stored (h : Config.ecdsaOk ((pairRec.drop 56).take 64) (Config.sha256 (pairRec.take 120)) (pairRec.drop 120) = true)
    (hu : (pairState.unwrapDrive pairRec).isSome = true) :
    pairRec.length = 184 ∧ pairState.otpWritten 0xA8 = true ∧ pairCause pairRec true pairState = 0 := by
  refine ⟨by decide +kernel, by decide +kernel, ?_⟩
  unfold pairCause
  dsimp only
  rw [if_neg (by decide +kernel), h, if_neg (by decide), if_neg (by decide +kernel), if_neg (by decide +kernel), if_neg (by simp [Option.isSome_iff_ne_none.1 hu]), if_neg (by decide +kernel)]

/-- An image of one page of base firmware, received whole. -/
def imageState : State :=
  (upd 4 { received := 4608, header := [0x4F, 0x42, 0x54, 0x58, 1, 0, 7, 0] ++ List.replicate 12 0 ++ [0, 0x10, 0, 0] ++ List.replicate 488 0 }).setB F.SVC_STAT_MODE 0 false

/-- An image passes the checks of R513 where its signatures verify, which the model leaves uninterpreted. -/
theorem witness_updates_ready (h : imageSigned imageState = true) :
    imageState.updState = 4 ∧ imageState.flag F.SVC_STAT_MODE 0 = false ∧ imageCode imageState = 0 := by
  refine ⟨by decide +kernel, by decide +kernel, ?_⟩
  unfold imageCode
  dsimp only
  rw [if_neg (by decide +kernel), if_neg (by decide +kernel), h, if_neg (by decide), if_neg (by decide +kernel), if_neg (by decide +kernel), if_neg (by decide +kernel)]

/-- The odometer copies have sequence numbers. -/
def odc (a b : Nat) : State := { State.reset with odoAcc := [(odoKey 3 0 6, 5), (odoKey 2 3 0, 2^32-1)], svc := { State.reset.svc with copyA := { seq := a, valid := true }, copyB := { seq := b, valid := true } } }

theorem witness_odometerCounts :
    ((odc 2 1).dom.core = true) ∧
    (reservedSet Reg.ODO_CTRL (0 ||| word (2 ^ F.ODO_CTRL_SAVE.lo)) = false ∧ (odc 2 1).svc.copyA.valid = true ∧ (odc 2 1).svc.copyB.valid = true ∧
      (odc 2 1).svc.copyB.seq < (odc 2 1).svc.copyA.seq) ∧
    (reservedSet Reg.ODO_CTRL (0 ||| word (2 ^ F.ODO_CTRL_SAVE.lo)) = false ∧ (odc 1 1).svc.copyA.valid = true ∧ (odc 1 1).svc.copyB.valid = true ∧
      (odc 1 1).svc.copyA.seq ≤ (odc 1 1).svc.copyB.seq) ∧
    ((odc 1 1).pwrState ≠ 3 ∧ feedFitted (odc 1 1).variant 3 = true) ∧
    ((inPower 3 0).pwrState = 3) ∧
    (reservedSet Reg.ODO_SEL (word (10 * 2 ^ F.ODO_SEL_GROUP.lo + 191 * 2 ^ F.ODO_SEL_ITEM.lo)) = false ∧
      F.ODO_SEL_ITEM.of (word (10 * 2 ^ F.ODO_SEL_GROUP.lo + 191 * 2 ^ F.ODO_SEL_ITEM.lo)) < (odoShape (F.ODO_SEL_GROUP.of (word (10 * 2 ^ F.ODO_SEL_GROUP.lo + 191 * 2 ^ F.ODO_SEL_ITEM.lo)))).1) ∧
    (reservedSet Reg.ODO_SEL (word (10 * 2 ^ F.ODO_SEL_GROUP.lo + 192 * 2 ^ F.ODO_SEL_ITEM.lo)) = false ∧
      (odoShape (F.ODO_SEL_GROUP.of (word (10 * 2 ^ F.ODO_SEL_GROUP.lo + 192 * 2 ^ F.ODO_SEL_ITEM.lo)))).1 ≤ F.ODO_SEL_ITEM.of (word (10 * 2 ^ F.ODO_SEL_GROUP.lo + 192 * 2 ^ F.ODO_SEL_ITEM.lo))) := by decide +kernel

/-! ## Well-formed commands -/

/-- Every check of a well-formed command refuses a term. -/
theorem test_wf_refuses_addresses :
    [Instr.registerWrite .bte 65536 0, .pendingValueApply 65536, .absentAccess .bte 65536, .absentAccessClear .bte 1 (some 65536),
      .wakeLinkAddress 128 true, .wakeLinkWrite 256 [], .ethAddressAgeOut (2 ^ 48) 1, .ethAddressAgeOut 1 4096, .imageSegment (2 ^ 32) [] true,
      .muteEnd 16 0, .muteEnd 0 (2 ^ 32)].all (fun i => ! i.wf) = true := by decide

theorem test_wf_refuses_canopen :
    [Instr.sdoDownloadInitiate 0 128 [], .sdoDownloadSegment 0 0 (List.replicate 9 0), .sdoUploadInitiate 0 128 [], .sdoUploadSegment 0 128 [],
      .sdoBlockDownloadInitiate 0 128 [], .sdoBlockDownloadSegment 0 128 [], .sdoBlockDownloadEnd 0 128 [], .sdoBlockUploadInitiate 0 128 [],
      .sdoBlockUploadAck 0 128 [], .sdoBlockUploadEnd 0 128 [], .sdoAbortReceived 0 128, .rpdoReceived 0 (List.replicate 9 0), .syncReceived (some 256),
      .timeReceived (List.replicate 9 0), .heartbeatReceived 128, .nmtStart 256, .nmtStop 256, .nmtEnterPreOperational 256, .nmtResetNode 256,
      .nmtResetCommunication 256, .appObjectAnswer .rpdo [] (2 ^ 32), .timeMessageCommit .rpdo (2 ^ 48), .tsync (List.replicate 9 0) 0, .tsync [] (2 ^ 32),
      .fup (List.replicate 9 0), .canSyncFupSend (2 ^ 32)].all (fun i => ! i.wf) = true := by decide

theorem test_wf_refuses_frames :
    [Instr.canFrameReceived 0 { canFr with id := 2048 }, .canFrameReceived 0 { canFr with id := 2 ^ 29, ide := true }, .canFrameReceived 0 { canFr with dlc := 16 },
      .canFrameReceived 0 { canFr with sof := 2 ^ 32 }, .canFrameReceived 0 { canFr with rtr := true, fdf := true }, .canFrameReceived 0 { canFr with brs := true },
      .canFrameReceived 0 { canFr with dlc := 2 }, .selectiveWakeMatch 0 (some { canFr with id := 2048 }), .nmVoteReceived 0 2048 [],
      .nmVoteReceived 0 0 (List.replicate 9 0), .linFrameEnd 0 0 (List.replicate 9 0), .canError 0 1 false false 512 0, .canError 0 1 false false 0 256,
      .canTxSent 0 (2 ^ 32), .ethFrameReceived 0 { ethFr false 46 with dst := 2 ^ 48 }, .ethFrameReceived 0 { ethFr false 46 with src := 2 ^ 48 },
      .ethFrameReceived 0 { ethFr false 46 with etype := 65536 }, .ethFrameReceived 0 { ethFr false 46 with sfd := 2 ^ 32 },
      .svcFrameReceived { ethFr false 46 with tag := some (8, 1) }, .svcFrameReceived { ethFr false 46 with tag := some (0, 4096) },
      .ethFrameTransmitted 0 (2 ^ 32)].all (fun i => ! i.wf) = true := by decide +kernel

/-- A message of which every field fits. -/
def wfMsg : ObjMsg :=
  { service := true, who := 0, vid := 0, version := 1, typ := 3, flags := 0, session := 0, seq := 0, index := 0, sub := 0, rsv1 := 0, offset := 0, length := 0,
    rsv2 := 0, data := [], tag := List.replicate 8 0 }

theorem test_wf_refuses_messages :
    [Instr.sessionOpen { wfMsg with who := 2 ^ 32 }, .sessionClose { wfMsg with vid := 4096 }, .sessionRead { wfMsg with version := 256 },
      .sessionWrite { wfMsg with typ := 256 }, .sessionOpen { wfMsg with flags := 65536 }, .sessionOpen { wfMsg with session := 2 ^ 32 },
      .sessionOpen { wfMsg with seq := 2 ^ 32 }, .sessionOpen { wfMsg with index := 65536 }, .sessionOpen { wfMsg with sub := 256 },
      .sessionOpen { wfMsg with rsv1 := 256 }, .sessionOpen { wfMsg with offset := 2 ^ 32 }, .sessionOpen { wfMsg with length := 65536 },
      .sessionOpen { wfMsg with rsv2 := 65536 }, .sessionOpen { wfMsg with tag := [] },
      .appObjectDeclare [{ index := 65536, sub := 0, numeric := true, size := none, acc := .rw, dflt := [] }],
      .appObjectDeclare [{ index := 0, sub := 256, numeric := true, size := none, acc := .rw, dflt := [] }],
      .appObjectDeclare [{ index := 0, sub := 0, numeric := true, size := some 2, acc := .rw, dflt := [] }]].all (fun i => ! i.wf) = true := by decide +kernel

theorem test_wf_refuses_rest :
    [Instr.milestoneSubmit .bte (some []), .milestoneCancel .bte 65536, .planningStep (List.replicate 5 (0, 0)), .signatureCaptureEnd 0 [], .pollSample 16,
      .fieldDomainStart (2 ^ 32), .pwrRequestPolite .bte 4, .pwrRequestForced .bte 4, .pllLock (2 ^ 32), .domainsOn (2 ^ 32), .accReport 0 false 0 0 (2 ^ 32) (List.replicate 8 0),
      .accReport 0 false 0 0 0 [], .pairingChallenge []].all (fun i => ! i.wf) = true := by decide +kernel

theorem test_wf_accepts :
    [Instr.registerWrite .bte 65535 0, .canFrameReceived 0 canFr, .ethFrameReceived 0 (ethFr false 46), .sessionOpen wfMsg, .milestoneSubmit .bte (some (List.replicate 18 0)),
      .nmtStart 255, .add 0 0, .wakeLinkWrite 255 [], .canFrameReceived 0 { canFr with fdf := true, dlc := 15, data := List.replicate 64 0 }].all Instr.wf = true := by decide +kernel

/-! ## Single steps, with results taken from the rules -/

/-- The state after one command. -/
def after (c : Instr) (s : State) : State :=
  match step { s with pending := [c] } with
  | .next t => t
  | _ => s

/-- R7: IDN_PRESENCE of the PX-64. -/
theorem test_presence : (ioRead (.core 0) 0x4B01 on64).1 = 0x93FCFC77 := by decide +kernel

/-- R38: a write of an unassigned address traps; R13: an absent channel's register ignores a write. -/
theorem test_io_trap : (after (.registerWrite (.core 0) 0xFFFF 1) State.reset).sent = [.ioTrap (.core 0) 0xFFFF] := by decide +kernel
theorem test_absent_write : (after (.registerWrite (.core 0) (Reg.addr .OUT_THR 95) 0x12C) on48).rd .OUT_THR 95 = 0x012C ∧
    (after (.registerWrite (.core 0) (Reg.addr .OUT_THR 95) 0x12D) on48).flag F.IDN_STATUS_ABSENT_ACCESS 0 = true := by decide +kernel

/-- R117: a tick adds 8 ns, and at 1 s NS starts again. -/
theorem test_tick : (after .almanacTick (atTime 5 16)).alm.ns = 24 := by decide +kernel
theorem test_rollover : (after .nsRollover (atTime 5 999999996)).alm.sec = 6 ∧ (after .nsRollover (atTime 5 999999996)).alm.ns = 4 := by decide +kernel

/-- R51: an expedited upload of 0x1017 answers its two bytes, 1000 ms, in the frame 4B 17 10 00 E8 03 00 00. -/
theorem test_sdo_upload : (after (.sdoUploadInitiate 0 5 (fr [0x40, 0x17, 0x10, 0, 0, 0, 0, 0])) (canOpen .preOperational)).sent.head? =
    some (.canFrame 0 (0x580 + State.reset.nodeId) (fr [0x4B, 0x17, 0x10, 0, 0xE8, 0x03, 0, 0])) := by decide +kernel

/-- R49: NMT start. -/
theorem test_nmt_start : (after (.nmtStart 0) (canOpen .preOperational)).nmt = .operational := by decide +kernel

/-- R162: a tag of 0 is INVALID, and PAST is decided after it; R161 lays MST_RESULT out. -/
theorem test_submit_invalid : (after (.milestoneSubmit (.core 0) none) State.reset).rd .MST_RESULT 0 = 0x00008008 := by decide +kernel
theorem test_submit_past : (after (.milestoneSubmit (.core 0) none) { staged 7 1 9 with alm := { State.reset.alm with sec := 2 } }).rd .MST_RESULT 0 = 0x00018001 := by decide +kernel

/-- R202: a latch write sets the channel's latch; R199: and no other. -/
theorem test_latch : (after (.outLvlWrite (.core 0) 3 1) State.reset).flag F.OUT_STAT_LAT 3 = true ∧
    (after (.outLvlWrite (.core 0) 3 1) State.reset).flag F.OUT_STAT_LAT 2 = false := by decide +kernel

/-- R434: ADD wraps; CMP of 0 and 1 sets N and clears C, which is set where no borrow occurs. -/
theorem test_add_wraps : (after (.add 0 (fA 3 1 2 0)) (co { g := [(1, 0xFFFFFFFF), (2, 1), (3, 9)] })).greg 0 3 = 0 := by decide +kernel
theorem test_cmp : ((after (.cmp 0 (fA 0 1 2 0)) (co { g := [(2, 1)] })).co 0).stat = 2 := by decide +kernel

/-- R438 and R448: a divisor of 0 traps to vector 0x09, and PC is saved. -/
theorem test_divide_by_zero : ((after (.divu 0 (fA 0 1 2 0)) (co { pc := 0x40 })).co 0).pc = 0x09 ∧
    tabGet 0 ((after (.divu 0 (fA 0 1 2 0)) (co { pc := 0x40 })).co 0).epc 9 = 0x40 := by decide +kernel

/-- R430: a byte store at the top of SRAM; its neighbour stays. -/
theorem test_stb : (after (.stb 0 (fA 1 2 0 0)) (co { g := [(1, 0x1AB), (2, 0x201FFFFF)] })).memByte 0x201FFFFF = 0xAB ∧
    (after (.stb 0 (fA 1 2 0 0)) (co { g := [(1, 0x1AB), (2, 0x201FFFFF)] })).memByte 0x201FFFFE = 0 := by decide +kernel

/-- R400: the module acknowledges its address 0x3A on the wake link. -/
theorem test_wake_link : (after (.wakeLinkAddress 0x3A true) State.reset).sent = [.linkAck true] ∧ (after (.wakeLinkAddress 0x3B true) State.reset).sent = [] := by decide +kernel

/-- R412: a polite request outside RUN and IDLE, or in a phase, is refused with STATE. -/
theorem test_entry_refused : (after (.pwrRequestPolite (.core 0) 1) (inPower 0 1)).sent = [.written (.core 0) (Reg.addr .PWR_REQ 0) .state] := by decide +kernel

/-- R467: a resync of a PX-48 is refused with ABSENT. -/
theorem test_resync_absent : (after (.fcruRsyncGo (.core 0) 1) on48).sent = [.written (.core 0) (Reg.addr .FCRU_RSYNC 0) .absent] := by decide +kernel

end Sys2Proof.Tests
end

/-! # The scope of the module: IDN_PRESENCE, register writes and absent accesses (00_scope.md; 01_architecture.md, R33 to R38) -/

namespace Sys2Proof.Machine

/-! ## Reads and writes of the I/O space -/

theorem ioRead_of_fitted {m : Master} {addr n : Nat} {r : Reg} {s : State} (ha : regAt addr = some (r, n)) (hf : regFitted s.variant r n = true) :
    ioRead m addr s = regRead m r n s := by
  simp [ioRead, ha, hf]

theorem ioWrite_of_reg {m : Master} {addr n : Nat} {r : Reg} {w : Word} {s : State} (ha : regAt addr = some (r, n)) :
    ioWrite m addr w s = regWrite m r n w s := by
  simp [ioWrite, ha]

theorem ioWrite_of_none {m : Master} {addr : Nat} {w : Word} {s : State} (ha : regAt addr = none) :
    ioWrite m addr w s = s.emit (.ioTrap m addr) := by
  simp [ioWrite, ha]

/-- IDN_PRESENCE is fitted on every variant, and reads the presence bits of the variant (R7). -/
theorem ioRead_presence (m : Master) (s : State) : (ioRead m 0x4B01 s).1 = word (presenceBits s.variant) := by
  have ha : regAt 0x4B01 = some (.IDN_PRESENCE, 0) := by decide
  rw [ioRead_of_fitted ha rfl]
  rfl

/-- Settles O55, variant by variant from the resources that each one has fitted. -/
theorem presenceOfVariants : Obligations.PresenceOfVariants := by
  intro m s
  rw [ioRead_presence]
  refine ⟨fun hv => ?_, fun hv => ?_, fun hv => ?_⟩ <;> (rw [hv]; decide)

/-! ## What cab access sees of an access -/

/-- The level of a switch input reads from SIN_STAT alone. -/
theorem State.sinLevel_of_rd {s t : State} {n : Nat} (h : t.rd .SIN_STAT n = s.rd .SIN_STAT n) : t.sinLevel n = s.sinLevel n := by
  simp only [State.sinLevel, State.flag, State.getF, F.SIN_STAT_LEVEL, h]

/-- Where SIN_STAT reads the same, cab access sees nothing. -/
theorem accInputs_of_sinStat_same {s t : State} (h : ∀ n, t.rd .SIN_STAT n = s.rd .SIN_STAT n) : accInputs s t = t :=
  accInputs_same fun n => State.sinLevel_of_rd (h n)

/-- A write's answer changes no register but the result register. -/
theorem State.rd_answer_ne (s : State) {m : Master} {res q : Reg} {c : Code} {item addr n : Nat} (h : q ≠ res) :
    (s.answer m res c item addr).rd q n = s.rd q n := by
  unfold State.answer
  rw [State.rd_of_regs (State.emit_regs _ _), State.rd_wr_ne _ h]

/-! ## REGISTER_WRITE (R33, R38) -/

/-- A register write that leaves the levels of the switch inputs has the effect of the I/O write alone. -/
theorem exec_registerWrite {m : Master} {addr : Nat} {v : Word} {s u : State} (hu : ioWrite m addr v s = u)
    (h : ∀ n, u.rd .SIN_STAT n = s.rd .SIN_STAT n) : exec (.registerWrite m addr v) s = .next (finish s u) := by
  have he : exec (.registerWrite m addr v) s = .next (finish s (accInputs s (ioWrite m addr v s))) := rfl
  rw [he, hu, accInputs_of_sinStat_same h]

/-- A threshold in range, without a reserved bit and without IMM, is accepted and waits (R34). -/
theorem outCfgWrite_thr_waits {n : Nat} {v : Word} {s : State} (hr : reservedSet .OUT_THR v = false) (hv : outCfgOk .OUT_THR n v = true)
    (hi : bitOf v.toNat 31 = false) : outCfgWrite .OUT_THR n v s = (.accepted, s.hold .OUT_THR n (v &&& word 0x7FFFFFFF)) := by
  simp [outCfgWrite, firstCode, holdImm, hr, hv, hi]

/-- A threshold out of range is refused and leaves the state (R33, R224). -/
theorem outCfgWrite_thr_invalid {n : Nat} {v : Word} {s : State} (hv : outCfgOk .OUT_THR n v = false) :
    outCfgWrite .OUT_THR n v s = (.invalid, s) := by
  simp [outCfgWrite, firstCode, hv]

/-- A write of a fitted channel's threshold is answered in OUT_RESULT with the channel's number. -/
theorem ioWrite_thr {m : Master} {addr n : Nat} {v : Word} {s t : State} {c : Code} (ha : regAt addr = some (.OUT_THR, n))
    (hf : chanFitted s.variant n = true) (hw : outCfgWrite .OUT_THR n v s = (c, t)) :
    ioWrite m addr v s = t.answer m .OUT_RESULT c n (Reg.addr .OUT_THR n) := by
  rw [ioWrite_of_reg ha]
  have hu : regWrite m .OUT_THR n v s = outAccess m .OUT_THR n v s := rfl
  have hfit : regFitted s.variant .OUT_THR n = true := hf
  rw [hu, outAccess, if_pos hfit]
  simp only [outAnswered, outWrite, hw]

/-- A write of a fitted channel's threshold whose check leaves the register file has its answer for effect, and cab access sees nothing. -/
theorem exec_registerWrite_thr {m : Master} {addr n : Nat} {v : Word} {s t : State} {c : Code} (ha : regAt addr = some (.OUT_THR, n))
    (hf : chanFitted s.variant n = true) (hw : outCfgWrite .OUT_THR n v s = (c, t)) (ht : t.regs = s.regs) :
    exec (.registerWrite m addr v) s = .next (finish s (t.answer m .OUT_RESULT c n (Reg.addr .OUT_THR n))) := by
  refine exec_registerWrite (ioWrite_thr ha hf hw) fun k => ?_
  rw [State.rd_answer_ne _ (by decide), State.rd_of_regs ht]

/-- A write of an address with no register raises the I/O address trap, and nothing else (R38). -/
theorem exec_registerWrite_trap {m : Master} {addr : Nat} {v : Word} {s : State} (ha : regAt addr = none) :
    exec (.registerWrite m addr v) s = .next (finish s (s.emit (.ioTrap m addr))) :=
  exec_registerWrite (ioWrite_of_none ha) fun n => State.rd_of_regs (State.emit_regs _ _) _ n

/-! ## PENDING_VALUE_APPLY (R35) -/

/-- A waiting value of the switch's queue map comes into force and waits no more. -/
theorem exec_pendingValueApply_qmap {addr n : Nat} {w : Word} {s : State} (ha : regAt addr = some (.ETH_QMAP, n))
    (hw : s.heldOf .ETH_QMAP n = some w) :
    exec (.pendingValueApply addr) s = .next (finish s ((s.unhold .ETH_QMAP n).wr .ETH_QMAP n w)) := by
  have happ : pendingApply .ETH_QMAP n s = (s.unhold .ETH_QMAP n).wr .ETH_QMAP n w := by simp only [pendingApply, State.applyHeld, hw]
  have hsin : ∀ k, ((s.unhold .ETH_QMAP n).wr .ETH_QMAP n w).rd .SIN_STAT k = s.rd .SIN_STAT k := fun k => by
    rw [State.rd_wr_ne _ (by decide), State.rd_of_regs (State.unhold_regs _ _ _)]
  have he : exec (.pendingValueApply addr) s = execPendingValueApply addr s := rfl
  rw [he]
  simp only [execPendingValueApply, ok, ha, hw, Option.isSome_some, Bool.true_or, if_true, happ, accInputs_of_sinStat_same hsin]

/-! ## ABSENT_ACCESS (R9, R13) -/

/-- A read of a register of an absent resource is recorded and answered with 0. -/
theorem exec_absentAccess {m : Master} {addr n : Nat} {r : Reg} {s : State} (ha : regAt addr = some (r, n)) (hf : regFitted s.variant r n = false) :
    exec (.absentAccess m addr) s = .next (finish s ((absentMark addr s).emit (.value m addr 0))) := by
  have he : exec (.absentAccess m addr) s = execAbsentAccess m addr s := rfl
  rw [he]
  simp [execAbsentAccess, ok, ha, hf]

/-- A register outside a list of one differs from it in its name or in its index. -/
theorem ne_or_ne_of_notMem_singleton {r q : Reg} {n k : Nat} (h : (r, n) ∉ [(q, k)]) : r ≠ q ∨ n ≠ k := by
  simpa [imp_iff_not_or] using h

/-- What a read of a register of an absent resource leaves. -/
theorem absentAccess_spec (m : Master) (addr : Nat) (s : State) (h : addr < 65536) :
    let t := finish s ((absentMark addr s).emit (.value m addr 0))
    t.flag F.IDN_STATUS_ABSENT_ACCESS 0 = true ∧ sends s t [.value m addr 0] ∧
    (s.flag F.IDN_STATUS_ABSENT_ACCESS 0 = false → t.getF F.IDN_STATUS_ABSENT_ADDR 0 = addr) ∧
    (s.flag F.IDN_STATUS_ABSENT_ACCESS 0 = true → t.rd .IDN_STATUS 0 = s.rd .IDN_STATUS 0) ∧
    regsBut s t [(.IDN_STATUS, 0)] ∧ memSame s t := by
  intro t
  obtain ⟨hflag, haddr, hkept, hother, hsent, hmem⟩ := absentMark_spec s addr h
  have hregs : t.regs = (absentMark addr s).regs := by rw [finish_regs, State.emit_regs]
  refine ⟨?_, ?_, fun hc => ?_, fun hc => ?_, fun r n hr => ?_, fun a => ?_⟩
  · rw [State.flag_of_regs hregs, hflag]
  · exact sends_finish (congrArg _ hsent)
  · rw [State.getF_of_regs hregs, haddr hc]
  · exact State.rd_of_regs (hregs.trans (hkept hc)) _ _
  · rw [State.rd_of_regs hregs, hother r n (ne_or_ne_of_notMem_singleton hr)]
  · exact State.memByte_of_mem (by rw [finish_mem, State.emit_mem, hmem]) a

/-! ## ABSENT_ACCESS_CLEAR (R9, R10) -/

theorem exec_absentAccessClear_none (m : Master) (v : Word) (s : State) :
    exec (.absentAccessClear m v none) s = .next (finish s (idnAccess m .IDN_STATUS 0 v s)) := rfl

theorem exec_absentAccessClear_some (m : Master) (v : Word) (a : Nat) (s : State) :
    exec (.absentAccessClear m v (some a)) s = .next (finish s (absentMark a (idnAccess m .IDN_STATUS 0 v s))) := rfl

/-- A write of IDN_STATUS with a 1 in ABSENT_ACCESS writes the register with 0; without it, the register file stays. -/
theorem idnAccess_status_regs (m : Master) (v : Word) (s : State) :
    (idnAccess m .IDN_STATUS 0 v s).regs = if F.IDN_STATUS_ABSENT_ACCESS.on v then (s.wr .IDN_STATUS 0 0).regs else s.regs := by
  have h : (idnAccess m .IDN_STATUS 0 v s).regs = (idnClear v s).regs := State.emit_regs _ _
  rw [h, idnClear, apply_ite State.regs]

theorem idnAccess_status_mem (m : Master) (v : Word) (s : State) : (idnAccess m .IDN_STATUS 0 v s).mem = s.mem := by
  have h : (idnAccess m .IDN_STATUS 0 v s).mem = (idnClear v s).mem := State.emit_mem _ _
  rw [h, idnClear, apply_ite State.mem, State.wr_mem, ite_self]

/-- A 1 clears the flag and the address, and changes no other register and no byte of memory. -/
theorem absentAccessClear_spec {m : Master} {v : Word} {s : State} (hv : F.IDN_STATUS_ABSENT_ACCESS.on v = true) :
    let t := finish s (idnAccess m .IDN_STATUS 0 v s)
    t.rd .IDN_STATUS 0 = 0 ∧ regsBut s t [(.IDN_STATUS, 0)] ∧ memSame s t := by
  intro t
  have hregs : t.regs = (s.wr .IDN_STATUS 0 0).regs := by rw [finish_regs, idnAccess_status_regs, if_pos hv]
  refine ⟨?_, fun r n hr => ?_, fun a => ?_⟩
  · rw [State.rd_of_regs hregs, State.rd_wr_same]
  · rw [State.rd_of_regs hregs, s.rd_wr_other 0 (ne_or_ne_of_notMem_singleton hr)]
  · exact State.memByte_of_mem (by rw [finish_mem, idnAccess_status_mem]) a

/-- An absent access in the same cycle finds the flag clear, and so is the one recorded. -/
theorem absentAccessClear_again_spec {m : Master} {v : Word} {a : Nat} {s : State} (hv : F.IDN_STATUS_ABSENT_ACCESS.on v = true) (ha : a < 65536) :
    let t := finish s (absentMark a (idnAccess m .IDN_STATUS 0 v s))
    t.flag F.IDN_STATUS_ABSENT_ACCESS 0 = true ∧ t.getF F.IDN_STATUS_ABSENT_ADDR 0 = a := by
  intro t
  obtain ⟨hflag, haddr, -⟩ := absentMark_spec (idnAccess m .IDN_STATUS 0 v s) a ha
  have hregs : (idnAccess m .IDN_STATUS 0 v s).regs = (s.wr .IDN_STATUS 0 0).regs := by rw [idnAccess_status_regs, if_pos hv]
  have hclear : (idnAccess m .IDN_STATUS 0 v s).flag F.IDN_STATUS_ABSENT_ACCESS 0 = false := by
    rw [State.flag_of_regs hregs, State.flag, State.getF, F.IDN_STATUS_ABSENT_ACCESS, State.rd_wr_same]
    rfl
  exact ⟨by rw [flag_finish, hflag], by rw [getF_finish, haddr hclear]⟩

/-- A write without the 1 changes no register. -/
theorem absentAccessClear_zero_regsSame {m : Master} {v : Word} {s : State} (hv : F.IDN_STATUS_ABSENT_ACCESS.on v = false) :
    regsSame s (finish s (idnAccess m .IDN_STATUS 0 v s)) := fun r n =>
  State.rd_of_regs (by rw [finish_regs, idnAccess_status_regs, if_neg (by simp [hv])]) r n

/-- Settles O6, clause by clause from what each command's effect is. -/
theorem registerAccesses : Obligations.RegisterAccesses := by
  refine ⟨⟨?threshold, ?outOfRange, ?noRegister, ?apply⟩, ?absent, ?clear, ?clearAgain, ?noClear⟩
  case threshold =>
    intro m addr n v s ha hf hr hv hi
    exact exec_registerWrite_thr ha hf (outCfgWrite_thr_waits hr hv hi) rfl
  case outOfRange =>
    intro m addr n v s ha hf hv
    exact exec_registerWrite_thr ha hf (outCfgWrite_thr_invalid hv) rfl
  case noRegister => exact fun m addr v s ha => exec_registerWrite_trap ha
  case apply => exact fun addr n w s ha hw => exec_pendingValueApply_qmap ha hw
  case absent =>
    intro m addr n r s ha hf h
    exact ⟨_, exec_absentAccess ha hf, absentAccess_spec m addr s h⟩
  case clear => exact fun m v s hv => ⟨_, exec_absentAccessClear_none m v s, absentAccessClear_spec hv⟩
  case clearAgain => exact fun m v a s hv ha => ⟨_, exec_absentAccessClear_some m v a s, absentAccessClear_again_spec hv ha⟩
  case noClear => exact fun m v s hv => ⟨_, exec_absentAccessClear_none m v s, absentAccessClear_zero_regsSame hv⟩

end Sys2Proof.Machine

/-! # What a read returns (01_architecture.md, R34; 12_ethernet_switch.md, R384) -/

namespace Sys2Proof.Machine

/-- Where the switch is fitted, a read of a VLAN entry shows the value in force without the bits of absent ports (R384). -/
theorem ioRead_vlan {m : Master} {addr k : Nat} {s : State} (ha : regAt addr = some (.ETH_VLAN, k)) (hf : regFitted s.variant .ETH_VLAN k = true) :
    (ioRead m addr s).1 = s.rd .ETH_VLAN k &&& ~~~ (word (absentMask s.variant * 0x201000)) := by
  rw [ioRead_of_fitted ha hf]
  rfl

/-- A PX-64 after reset. VLAN entry 0 holds every port as a member and untagged, the absent ports 4, 5 and 7 among them. -/
def resetPx64 : State := { State.reset with ident := { variant := .px64 } }

theorem resetPx64_rd_vlan : resetPx64.rd .ETH_VLAN 0 = 0xBFFFF001 := by decide

theorem resetPx64_ioRead_vlan (m : Master) : (ioRead m 0x42C0 resetPx64).1 = 0xA9F4F001 := by
  have ha : regAt 0x42C0 = some (.ETH_VLAN, 0) := by decide
  rw [ioRead_vlan ha rfl, resetPx64_rd_vlan]
  decide

/-- Refutes O56: its second clause lists ETH_VLAN, whose bits of absent ports read 0 whatever is in force (R384). On the PX-64 the reset value
of VLAN entry 0 names the absent ports 4, 5 and 7, so that the read differs from the value in force. -/
theorem not_readsShowTheValueInForce : ¬ Obligations.ReadsShowTheValueInForce := by
  unfold Obligations.ReadsShowTheValueInForce
  rintro ⟨-, hlisted⟩
  have hread := hlisted (.core 0) 0x42C0 0 .ETH_VLAN resetPx64 (by decide) rfl (by decide)
  rw [resetPx64_ioRead_vlan, resetPx64_rd_vlan] at hread
  exact absurd hread (by decide)

end Sys2Proof.Machine

/-! # The error register and the EMCY that reports its return to 0 (02_object_dictionary.md, R56, R535) -/

namespace Sys2Proof.Machine

/-- What a step can do: nothing at all, where the module idles; or what some meaning does, and then the end of a command. -/
theorem step_next_cases {s t : State} (h : step s = .next t) : t = s ∨ ∃ u v, t = finish u v := by
  cases hp : s.pending with
  | cons c rest =>
    obtain ⟨v, hv⟩ := exec_finish c { s with pending := rest }
    rw [step_front s c rest hp, hv] at h
    exact .inr ⟨_, v, (Host.Outcome.next.inj h).symm⟩
  | nil =>
    have hi : idle s = .next t := by rw [← h, step, hp]
    unfold idle at hi
    split at hi
    · exact .inr ⟨s, _, (Host.Outcome.next.inj hi).symm⟩
    · split at hi
      · exact .inl (Host.Outcome.next.inj hi).symm
      · exact .inr ⟨s, _, (Host.Outcome.next.inj hi).symm⟩

/-- Settles O3: a step that is not idle ends as every command does, and the end of a command settles the error register. -/
theorem errorRegisterSettled : Obligations.ErrorRegisterSettled := by
  intro s t hs hstep
  rcases step_next_cases hstep with rfl | ⟨u, v, rfl⟩
  · exact hs
  · exact finish_settled u v

/-! ## EMCYs, sent or kept (R48, R49, R56) -/

/-- Where no inhibit time runs and the node is not stopped, the server sends an EMCY at once. -/
theorem State.emcy_sent_at_once {s : State} (e : Emcy) (hc : s.dom.core = true) (hi : s.emcyInhibit = false) (hn : s.nmt ≠ .stopped) :
    s.emcy e = s.emcyOut e := by
  simp [State.emcy, hc, hi, hn]

/-- While the inhibit time runs or the node is stopped, it waits behind those that wait already. -/
theorem State.emcy_kept {s : State} (e : Emcy) (hc : s.dom.core = true) (h : s.emcyInhibit = true ∨ s.nmt = .stopped) :
    s.emcy e = { s with emcyWait := s.emcyWait ++ [e] } := by
  rcases h with h | h <;> simp [State.emcy, hc, h]

/-- EMCY 0x0000 carries error register 0, whatever the register shows, and leaves the error field as it is. -/
theorem State.emcyOut_reset {s : State} (ho : s.emcyOn = true) :
    (s.emcyOut { code := 0 }).sent = .emcy s.canOpenCh s.emcyId [0, 0, 0, 0, 0, 0, 0, 0] :: s.sent ∧
    (s.emcyOut { code := 0 }).errors = s.errors := by
  have hb : s.emcyBytes { code := 0 } = [0, 0, 0, 0, 0, 0, 0, 0] := rfl
  simp [State.emcyOut, ho, hb, State.emit]

theorem finish_sent (s t : State) : (finish s t).sent = (settle t).sent := rfl
theorem finish_errors (s t : State) : (finish s t).errors = (settle t).errors := rfl
theorem finish_emcyWait (s t : State) : (finish s t).emcyWait = (settle t).emcyWait := rfl

/-- Where the error register is 0 again after an error that was reported, settling reports it. -/
theorem settle_of_return {s : State} (hu : s.errUp = true) (hr : s.errorReg = 0) :
    settle s = { s with errUp := false }.emcy { code := 0 } := by
  simp [settle, hu, hr]

/-- Settles O4: settling reports EMCY 0x0000, which leaves or is kept as every EMCY. -/
theorem errorResetReported : Obligations.ErrorResetReported := by
  intro c s u _ hc hu hr
  rw [finish_sent, finish_errors, finish_emcyWait, settle_of_return hu hr]
  refine ⟨fun hi hn ho => ?_, fun h => ?_⟩
  · rw [State.emcy_sent_at_once (s := { u with errUp := false }) _ hc hi hn]
    exact State.emcyOut_reset (s := { u with errUp := false }) ho
  · rw [State.emcy_kept (s := { u with errUp := false }) _ hc h]
    exact ⟨rfl, rfl⟩

end Sys2Proof.Machine

/-! # SDO transfers (02_object_dictionary.md, R51, R52, R64, R69) -/

namespace Sys2Proof.Machine

/-- The end of a meaning, where its effect is known. -/
theorem ok_of_eq (s : State) {t u : State} (h : t = u) : ok s t = .next (finish s u) := by rw [h]; rfl

/-! ## What reaches a server (R51) -/

/-- A request reaches the server: it serves, the client is not muted, and the frame is whole. -/
def State.sdoHears (s : State) (k : Fin 4) (d : List Byte) : Prop :=
  s.sdoServes k = true ∧ s.mutedPartner 1 (s.sdoPartner k) = false ∧ d.length = 8

section

variable {k : Fin 4} {client : Nat} {d : List Byte} {act : State → State} {x : Sdo} {s : State}

/-- With no transfer in progress, a request acts. -/
theorem sdoRequest_free (hh : s.sdoHears k d) (hk : s.sdo k = none) : sdoRequest k client d act s = act s := by
  obtain ⟨hs, hm, hd⟩ := hh
  simp [sdoRequest, hs, hm, hd, hk]

/-- A transfer that does not wait for application firmware has no access to forget. -/
theorem appForget_of_no_answer (hx : ∀ u b, x.phase ≠ .answer u b) : appForget k x s = s := by
  unfold appForget
  split
  · next u b hp => exact absurd hp (hx u b)
  · rfl

/-- In the client's own transfer, which waits for a frame, a request acts. -/
theorem sdoRequest_own {p : SdoPhase} (hh : s.sdoHears k d) (hk : s.sdo k = some x) (hp : x.phase = p) (hw : ∀ u b, p ≠ .answer u b) :
    sdoRequest k x.client d act s = act s := by
  obtain ⟨hs, hm, hd⟩ := hh
  simp [sdoRequest, hs, hm, hd, hk, appForget_of_no_answer (hp ▸ hw)]

/-- So the command ends with what the request does. -/
theorem ok_sdoRequest_free {u : State} (hh : s.sdoHears k d) (hk : s.sdo k = none) (ha : act s = u) :
    ok s (sdoRequest k client d act s) = .next (finish s u) :=
  ok_of_eq s ((sdoRequest_free hh hk).trans ha)

theorem ok_sdoRequest_own {p : SdoPhase} {u : State} (hh : s.sdoHears k d) (hk : s.sdo k = some x) (hp : x.phase = p)
    (hw : ∀ u b, p ≠ .answer u b) (ha : act s = u) : ok s (sdoRequest k x.client d act s) = .next (finish s u) :=
  ok_of_eq s ((sdoRequest_own hh hk hp hw).trans ha)

/-- A request of another client is turned away. -/
theorem sdoRequest_other (hh : s.sdoHears k d) (hk : s.sdo k = some x) (hc : x.client ≠ client) :
    sdoRequest k client d act s =
      sdoAbortFrame k (frameIndex d) (frameSub d) 0x060A0023 (s.objAborted (.sdo k) (frameIndex d) (frameSub d) 0x060A0023) := by
  obtain ⟨hs, hm, hd⟩ := hh
  simp [sdoRequest, hs, hm, hd, hk, hc, sdoPath]

/-! ## Downloads -/

/-- A segmented initiate request with an indicated size opens a transfer. -/
theorem downloadInitiate_sized (hc : ccs d = 1) (he : bitOf (byteAt d 0) 1 = false) (hs : bitOf (byteAt d 0) 0 = true)
    (h0 : downloadCode (.sdo k) (frameIndex d) (frameSub d) (some (leNat (d.drop 4))) s = 0) :
    downloadInitiate k client d s = sdoSend k (sdoFrame 0x60 (frameIndex d) (frameSub d) [])
      (setSdo k (some { client := client, phase := .down, index := frameIndex d, sub := frameSub d, size := some (leNat (d.drop 4)) }) s) := by
  simp [downloadInitiate, sdoPath, hc, he, hs, h0]

/-- A segment in turn that is not the last is kept. -/
theorem downloadSegment_more (hk : s.sdo k = some x) (hp : x.phase = .down) (hz : x.size = none) (hc : ccs d = 0)
    (ht : bitOf (byteAt d 0) 4 = x.toggle) (hl : bitOf (byteAt d 0) 0 = false) :
    downloadSegment k d s = sdoSend k (sdoBytes (0x20 + 16 * b01 x.toggle) [])
      (setSdo k (some { x with data := x.data ++ (d.drop 1).take (7 - bitsOf (byteAt d 0) 1 3), toggle := ! x.toggle }) s) := by
  simp [downloadSegment, hk, hp, hz, hc, ht, hl]

/-- The last segment in turn commits the value. -/
theorem downloadSegment_last (hk : s.sdo k = some x) (hp : x.phase = .down) (hz : x.size = none) (hc : ccs d = 0)
    (ht : bitOf (byteAt d 0) 4 = x.toggle) (hl : bitOf (byteAt d 0) 0 = true) :
    downloadSegment k d s =
      sdoCommit k { x with data := x.data ++ (d.drop 1).take (7 - bitsOf (byteAt d 0) 1 3), last := true } false s := by
  simp [downloadSegment, sizeCode, hk, hp, hz, hc, ht, hl]

/-- A block-download initiate request without an indicated size opens a block transfer. -/
theorem blockDownInitiate_unsized (hc : ccs d = 6) (hb : bitOf (byteAt d 0) 0 = false) (hz : bitOf (byteAt d 0) 1 = false)
    (h0 : downloadCode (.sdo k) (frameIndex d) (frameSub d) none s = 0) :
    blockDownInitiate k client d s = sdoSend k (sdoFrame 0xA4 (frameIndex d) (frameSub d) [byte s.askBlock])
      (setSdo k (some { client := client, phase := .blockDown, index := frameIndex d, sub := frameSub d, blk := s.askBlock, crc := bitOf (byteAt d 0) 2 })
        s).used := by
  simp [blockDownInitiate, sdoPath, hc, hb, hz, h0]

/-- The number of a segment of a block lies below 128, so the bit that marks the last segment of the transfer is clear. -/
theorem bitOf_seven_of_lt {n : Nat} (h : n < 128) : bitOf n 7 = false := by
  simp [bitOf, Nat.div_eq_of_lt h]

/-- A segment in order before the block's end is kept without an answer. -/
theorem blockDownSegment_more (hk : s.sdo k = some x) (hp : x.phase = .blockDown) (hb : byteAt d 0 = x.seq + 1) (hx : x.blk < 128)
    (hl : x.seq + 1 < x.blk) :
    blockDownSegment k d s = setSdo k (some { x with data := x.data ++ d.drop 1, seq := x.seq + 1 }) s := by
  have hm : (x.seq + 1) % 128 = x.seq + 1 := Nat.mod_eq_of_lt (by omega)
  have h7 : bitOf (x.seq + 1) 7 = false := bitOf_seven_of_lt (by omega)
  simp [blockDownSegment, hk, hp, hb, hm, h7, hl.ne, hl.le.not_gt]

/-- The segment with the block's last number is kept and answered, and a new block begins. -/
theorem blockDownSegment_full (hk : s.sdo k = some x) (hp : x.phase = .blockDown) (hb : byteAt d 0 = x.seq + 1) (hx : x.blk < 128)
    (hl : x.seq + 1 = x.blk) :
    blockDownSegment k d s = sdoSend k (sdoBytes 0xA2 [byte x.blk, byte s.askBlock])
      (setSdo k (some { x with data := x.data ++ d.drop 1, seq := 0, blk := s.askBlock }) s).used := by
  have hm : (x.seq + 1) % 128 = x.seq + 1 := Nat.mod_eq_of_lt (by omega)
  have h7 : bitOf (x.seq + 1) 7 = false := bitOf_seven_of_lt (by omega)
  simp [blockDownSegment, hk, hp, hb, hm, h7, ← hl]

/-- The end of a block download commits the value received, less the padding of its last segment. -/
theorem blockDownEnd_commits (hk : s.sdo k = some x) (hp : x.phase = .blockDownEnd) (hc : ccs d = 6) (hb : bitOf (byteAt d 0) 0 = true)
    (hr : x.crc = false) (hz : x.size = none) :
    blockDownEnd k d s = sdoCommit k { x with data := x.data.take (x.data.length - bitsOf (byteAt d 0) 2 3) } true s := by
  simp [blockDownEnd, sizeCode, hk, hp, hc, hb, hr, hz]

/-! ## Uploads -/

/-- An initiate request reads the sub-entry that it names. -/
theorem uploadInitiate_fetches (hc : ccs d = 2) :
    uploadInitiate k client d s =
      sdoFetch k { client := client, phase := .up, index := frameIndex d, sub := frameSub d } false (setSdo k none s) := by
  simp [uploadInitiate, hc]

/-- So does a block-upload initiate request with a legal block size. -/
theorem blockUpInitiate_fetches (hc : ccs d = 5) (hb : byteAt d 0 % 4 = 0) (h1 : 1 ≤ byteAt d 4) (h2 : byteAt d 4 ≤ 127) :
    blockUpInitiate k client d s = sdoFetch k
      { client := client, phase := .blockUpStart, index := frameIndex d, sub := frameSub d, blk := byteAt d 4, crc := bitOf (byteAt d 0) 2 } true
      (setSdo k none s) := by
  simp [blockUpInitiate, blockSizeOk, hc, hb, h1, h2]

/-- A value that is read at once goes out. -/
theorem sdoFetch_value {b : Bool} {v : List Byte}
    (ha : objAnswer (.sdo k) x.index x.sub s (objRead (.sdo k) x.index x.sub s) = some (.value v)) :
    sdoFetch k x b s = uploadValue k x b v (objRead (.sdo k) x.index x.sub s) := by
  simp only [sdoFetch, sdoPath, ha, uploadDone]

/-- A value of one to four bytes goes out in the answer itself. -/
theorem uploadValue_expedited {v : List Byte} (h0 : 0 < v.length) (h4 : v.length ≤ 4) :
    uploadValue k x false v s = sdoSend k (sdoFrame (0x43 + 4 * (4 - v.length)) x.index x.sub v) (setSdo k none s) := by
  simp [uploadValue, h0, h4]

/-- A value of another length opens a transfer in segments. -/
theorem uploadValue_segmented {v : List Byte} (h : v.length = 0 ∨ 4 < v.length) :
    uploadValue k x false v s =
      sdoSend k (sdoFrame 0x41 x.index x.sub (leBytes 4 v.length)) (setSdo k (some { x with data := v, phase := .up }) s) := by
  have hn : ¬ (0 < v.length ∧ v.length ≤ 4) := by omega
  simp [uploadValue, hn]

/-- An initiate request for a value that is read at once. -/
theorem uploadInitiate_value {v : List Byte} (hc : ccs d = 2)
    (ha : objAnswer (.sdo k) (frameIndex d) (frameSub d) (setSdo k none s) (objRead (.sdo k) (frameIndex d) (frameSub d) (setSdo k none s)) =
      some (.value v)) :
    uploadInitiate k client d s = uploadValue k { client := client, phase := .up, index := frameIndex d, sub := frameSub d } false v
      (objRead (.sdo k) (frameIndex d) (frameSub d) (setSdo k none s)) :=
  (uploadInitiate_fetches hc).trans (sdoFetch_value ha)

/-- A block-upload initiate request for a value that is read at once. -/
theorem blockUpInitiate_value {v : List Byte} (hc : ccs d = 5) (hb : byteAt d 0 % 4 = 0) (h1 : 1 ≤ byteAt d 4) (h2 : byteAt d 4 ≤ 127)
    (ha : objAnswer (.sdo k) (frameIndex d) (frameSub d) (setSdo k none s) (objRead (.sdo k) (frameIndex d) (frameSub d) (setSdo k none s)) =
      some (.value v)) :
    blockUpInitiate k client d s = sdoSend k (sdoFrame 0xC6 (frameIndex d) (frameSub d) (leBytes 4 v.length))
      (setSdo k
        (some { client, phase := .blockUpStart, index := frameIndex d, sub := frameSub d, blk := byteAt d 4, crc := bitOf (byteAt d 0) 2, data := v })
        (objRead (.sdo k) (frameIndex d) (frameSub d) (setSdo k none s))) :=
  (blockUpInitiate_fetches hc hb h1 h2).trans (sdoFetch_value ha)

/-- A segment request in turn before the end of the value. -/
theorem uploadSegment_more (hk : s.sdo k = some x) (hp : x.phase = .up) (hc : ccs d = 3) (ht : bitOf (byteAt d 0) 4 = x.toggle)
    (hl : x.pos + 7 < x.data.length) :
    uploadSegment k d s = sdoSend k (sdoBytes (16 * b01 x.toggle) ((x.data.drop x.pos).take 7))
      (setSdo k (some { x with pos := x.pos + 7, toggle := ! x.toggle }) s) := by
  have h7 : 7 ≤ x.data.length - x.pos := by omega
  simp [uploadSegment, hk, hp, hc, ht, hl.not_ge, h7, b01]

/-- A segment request in turn that reaches the end of the value. -/
theorem uploadSegment_last (hk : s.sdo k = some x) (hp : x.phase = .up) (hc : ccs d = 3) (ht : bitOf (byteAt d 0) 4 = x.toggle)
    (hl : x.data.length ≤ x.pos + 7) :
    uploadSegment k d s = sdoSend k (sdoBytes (16 * b01 x.toggle + 2 * (7 - (x.data.length - x.pos)) + 1) (x.data.drop x.pos)) (setSdo k none s) := by
  have h7 : x.data.length - x.pos ≤ 7 := by omega
  have htake : (x.data.drop x.pos).take 7 = x.data.drop x.pos := List.take_of_length_le (by rwa [List.length_drop])
  simp [uploadSegment, hk, hp, hc, ht, hl, htake, b01]

/-- The start request of a block upload sends the first block. -/
theorem blockUpInitiate_starts (hk : s.sdo k = some x) (hp : x.phase = .blockUpStart) (hc : ccs d = 5) (hb : byteAt d 0 % 4 = 3) :
    blockUpInitiate k client d s = blockSend k x s := by
  simp [blockUpInitiate, hk, hp, hc, hb]

/-- The acknowledgement of the whole last block is answered with the end of the transfer. -/
theorem blockUpAck_last (hk : s.sdo k = some x) (hp : x.phase = .blockUp) (hc : ccs d = 5) (hb : byteAt d 0 % 4 = 2) (h1 : 1 ≤ byteAt d 2)
    (h2 : byteAt d 2 ≤ 127) (hl : x.last = true) (hs : byteAt d 1 = x.seq) :
    blockUpAck k d s = sdoSend k
      (sdoBytes (0xC1 + 4 * (x.pos + 7 * x.seq - x.data.length)) (leBytes 2 (if x.crc then crc16 x.data else 0)))
      (setSdo k (some { x with pos := x.pos + 7 * x.seq, blk := byteAt d 2, phase := .blockUpEnd }) s) := by
  simp [blockUpAck, blockSizeOk, hk, hp, hc, hb, h1, h2, hl, hs]

/-- The acknowledgement of any other block is followed by the block from where the client has received. -/
theorem blockUpAck_more (hk : s.sdo k = some x) (hp : x.phase = .blockUp) (hc : ccs d = 5) (hb : byteAt d 0 % 4 = 2) (h1 : 1 ≤ byteAt d 2)
    (h2 : byteAt d 2 ≤ 127) (hl : x.last = false ∧ byteAt d 1 ≤ x.seq ∨ byteAt d 1 < x.seq) :
    blockUpAck k d s = blockSend k { x with pos := x.pos + 7 * byteAt d 1, blk := byteAt d 2 } s := by
  have hs : ¬ x.seq < byteAt d 1 := by omega
  have hn : ¬ (x.last = true ∧ byteAt d 1 = x.seq) := by
    rintro ⟨ht, he⟩
    rcases hl with ⟨hf, -⟩ | hlt
    · rw [hf] at ht; cases ht
    · omega
  simp [blockUpAck, blockSizeOk, hk, hp, hc, hb, h1, h2, hs, hn]

/-- The client's response to the end ends the transfer. -/
theorem blockUpEnd_ends (hk : s.sdo k = some x) (hp : x.phase = .blockUpEnd) (hb : byteAt d 0 = 0xA1) : blockUpEnd k d s = setSdo k none s := by
  simp [blockUpEnd, hk, hp, hb]

/-! ## The ends of a transfer (R51, R52) -/

/-- A transfer that waits for a frame is aborted when none comes in time. -/
theorem execSdoProtocolTimeout_waiting (hk : s.sdo k = some x) (hx : ∀ u b, x.phase ≠ .answer u b) :
    execSdoProtocolTimeout k s = .next (finish s (sdoAbort k x.index x.sub 0x05040000 s)) := by
  simp only [execSdoProtocolTimeout, ok, hk]

/-- An abort by the transfer's own client ends it. -/
theorem execSdoAbortReceived_own (hs : s.sdoServes k = true) (hk : s.sdo k = some x) :
    execSdoAbortReceived k x.client s = .next (finish s (sdoEnd k s)) := by
  simp [execSdoAbortReceived, ok, hk, hs]

end

@[simp] theorem sdo_finish (s t : State) (k : Nat) : (finish s t).sdo k = t.sdo k := by simp [State.sdo]

/-- A transfer's end without an answer touches the transfer and the accesses outstanding on its path, and nothing else. -/
theorem sdoEnd_spec (k : Fin 4) (s : State) :
    let t := finish s (sdoEnd k s)
    t.sdo k = none ∧ sends s t [] ∧ t.od = s.od ∧ regsSame s t ∧ memSame s t := by
  intro t
  have hk : (sdoEnd k s).sdo k = none := State.sdo_setSdo_same s k none
  have hregs : t.regs = s.regs := finish_regs s _
  have hmem : t.mem = s.mem := finish_mem s _
  exact ⟨(sdo_finish s _ k).trans hk, sends_finish rfl, finish_od s _, State.rd_of_regs hregs, State.memByte_of_mem hmem⟩

/-- Settles O8: each request reaches the server and has the effect of its equation above. -/
theorem sdoDownloads : Obligations.SdoDownloads := by
  refine ⟨?initiate, ?segment, ?blockInitiate, ?blockSegment, ?blockEnd⟩
  case initiate =>
    intro k client d s hs hm hd hk hc he hi h0
    exact ok_sdoRequest_free ⟨hs, hm, hd⟩ hk (downloadInitiate_sized hc he hi h0)
  case segment =>
    intro k d x s hs hm hd hk hp hz hc ht
    exact ⟨fun hl => ok_sdoRequest_own ⟨hs, hm, hd⟩ hk hp nofun (downloadSegment_more hk hp hz hc ht hl),
      fun hl => ok_sdoRequest_own ⟨hs, hm, hd⟩ hk hp nofun (downloadSegment_last hk hp hz hc ht hl)⟩
  case blockInitiate =>
    intro k client d s hs hm hd hk hc hb hz h0
    exact ok_sdoRequest_free ⟨hs, hm, hd⟩ hk (blockDownInitiate_unsized hc hb hz h0)
  case blockSegment =>
    intro k d x s hs hm hd hk hp hb hx
    exact ⟨fun hl => ok_sdoRequest_own ⟨hs, hm, hd⟩ hk hp nofun (blockDownSegment_more hk hp hb hx hl),
      fun hl => ok_sdoRequest_own ⟨hs, hm, hd⟩ hk hp nofun (blockDownSegment_full hk hp hb hx hl)⟩
  case blockEnd =>
    intro k d x s hs hm hd hk hp hc hb hr hz
    exact ok_sdoRequest_own ⟨hs, hm, hd⟩ hk hp nofun (blockDownEnd_commits hk hp hc hb hr hz)

/-- Settles O9: each request reaches the server and has the effect of its equation above; so have the ends. -/
theorem sdoUploadsAndEnds : Obligations.SdoUploadsAndEnds := by
  refine ⟨⟨?initiate, ?segment, ?blockStart, ?blockAck, ?blockEnd⟩, ?abort, ?timeout, ?otherClient⟩
  case initiate =>
    rintro k client d v s u hs hm hd hk rfl
    refine ⟨fun hc ha => ⟨fun h0 h4 => ?_, fun hv => ?_⟩, fun hc hb h1 h2 ha => ?_⟩
    · exact ok_sdoRequest_free ⟨hs, hm, hd⟩ hk ((uploadInitiate_value hc ha).trans (uploadValue_expedited h0 h4))
    · exact ok_sdoRequest_free ⟨hs, hm, hd⟩ hk ((uploadInitiate_value hc ha).trans (uploadValue_segmented hv))
    · exact ok_sdoRequest_free ⟨hs, hm, hd⟩ hk (blockUpInitiate_value hc hb h1 h2 ha)
  case segment =>
    intro k d x s hs hm hd hk hp hc ht
    exact ⟨fun hl => ok_sdoRequest_own ⟨hs, hm, hd⟩ hk hp nofun (uploadSegment_more hk hp hc ht hl),
      fun hl => ok_sdoRequest_own ⟨hs, hm, hd⟩ hk hp nofun (uploadSegment_last hk hp hc ht hl)⟩
  case blockStart =>
    intro k d x s hs hm hd hk hp hc hb
    exact ok_sdoRequest_own ⟨hs, hm, hd⟩ hk hp nofun (blockUpInitiate_starts hk hp hc hb)
  case blockAck =>
    intro k d x s hs hm hd hk hp hc hb h1 h2
    exact ⟨fun hl hq => ok_sdoRequest_own ⟨hs, hm, hd⟩ hk hp nofun (blockUpAck_last hk hp hc hb h1 h2 hl hq),
      fun hl => ok_sdoRequest_own ⟨hs, hm, hd⟩ hk hp nofun (blockUpAck_more hk hp hc hb h1 h2 hl)⟩
  case blockEnd =>
    intro k d x s hs hm hd hk hp hb
    exact ok_sdoRequest_own ⟨hs, hm, hd⟩ hk hp nofun (blockUpEnd_ends hk hp hb)
  case abort => exact fun k x s hs hk => ⟨_, execSdoAbortReceived_own hs hk, sdoEnd_spec k s⟩
  case timeout => exact fun k x s hk hx => execSdoProtocolTimeout_waiting hk hx
  case otherClient =>
    intro k client d x s c hs hm hd hk hx hc
    simp only [List.mem_cons, List.not_mem_nil, or_false] at hc
    rcases hc with rfl | rfl | rfl | rfl <;> exact ok_of_eq s (sdoRequest_other ⟨hs, hm, hd⟩ hk hx)

end Sys2Proof.Machine

/-! # PDOs and SYNC (02_object_dictionary.md, R49, R53, R55, R57) -/

namespace Sys2Proof.Machine

/-! ## Frames of the server (R46) -/

/-- A CANopen frame changes what is sent, and nothing else. -/
theorem coSend_frame (id : Nat) (d : List Byte) (s : State) : ∃ l, coSend id d s = { s with sent := l } := by
  unfold coSend
  split
  · exact ⟨_, rfl⟩
  · exact ⟨s.sent, rfl⟩

@[simp] theorem coSend_coOn (id : Nat) (d : List Byte) (s : State) : (coSend id d s).coOn = s.coOn := by
  obtain ⟨l, h⟩ := coSend_frame id d s
  rw [h]
  rfl

@[simp] theorem coSend_nmt (id : Nat) (d : List Byte) (s : State) : (coSend id d s).nmt = s.nmt := by
  obtain ⟨l, h⟩ := coSend_frame id d s
  rw [h]

/-! ## RPDOs (R49, R55) -/

section

variable {n : Nat} {d : List Byte} {s : State} (hc : s.coOn = true) (ho : s.nmt = .operational) (hv : cobOn (s.odVal (0x1400 + n) 1) = true)
  (hm : s.odVal (0x1600 + n) 0 ≠ 0) (hp : s.mutedPartner 1 (s.rpdoPartner n) = false)

include hc ho hv hm hp

/-- An RPDO of another length than its mapping's is a violation, and is reported. -/
theorem rpdoReceive_wrong_length (hl : d.length ≠ s.mappedBytes (0x1600 + n) (s.odVal (0x1600 + n) 0)) :
    rpdoReceive n d s = (s.violation 1 2 (s.rpdoPartner n)).emcyObj 0x8210 2 (0x1600 + n) 0 := by
  simp [rpdoReceive, hc, ho, hv, hm, hp, hl]

/-- An event-driven RPDO is applied at once. -/
theorem rpdoReceive_event_driven (hl : d.length = s.mappedBytes (0x1600 + n) (s.odVal (0x1600 + n) 0)) (ht : 240 < s.odVal (0x1400 + n) 2) :
    rpdoReceive n d s = rpdoApply n d s := by
  simp [rpdoReceive, hc, ho, hv, hm, hp, hl, ht.not_ge]

/-- A synchronous RPDO waits for the next SYNC. -/
theorem rpdoReceive_synchronous (hl : d.length = s.mappedBytes (0x1600 + n) (s.odVal (0x1600 + n) 0)) (ht : s.odVal (0x1400 + n) 2 ≤ 240) :
    rpdoReceive n d s = { s with dict := { s.dict with rpdo := tabSet none s.dict.rpdo n (some d) } } := by
  simp [rpdoReceive, hc, ho, hv, hm, hp, hl, ht]

end

/-! ## TPDOs (R53, R57) -/

section

variable {n : Nat} {s : State} (ho : s.tpdoOn n = true) (ht : 254 ≤ s.tpdoPar n 2)

include ho ht

/-- An event of an event-driven TPDO sends it, where no inhibit time runs. -/
theorem tpdoEvent_sends (hi : (s.tp n).inhibit = false) : tpdoEvent n s = tpdoSend n s := by
  simp [tpdoEvent, ho, ht, hi]

/-- Where the inhibit time runs, the TPDO is due when it ends. -/
theorem tpdoEvent_due (hi : (s.tp n).inhibit = true) : tpdoEvent n s = setTp n { s.tp n with due := true } s := by
  simp [tpdoEvent, ho, ht, hi]

/-- The end of the inhibit time is an event that finds no inhibit time running. -/
theorem tpdoEvent_uninhibited :
    tpdoEvent n (setTp n { s.tp n with inhibit := false } s) = tpdoSend n (setTp n { s.tp n with inhibit := false } s) := by
  have ho' : (setTp n { s.tp n with inhibit := false } s).tpdoOn n = true := ho
  have ht' : 254 ≤ (setTp n { s.tp n with inhibit := false } s).tpdoPar n 2 := ht
  exact tpdoEvent_sends ho' ht' (by rw [State.tp_setTp_same])

end

/-! ## SYNC (R48, R57) -/

/-- In an operational node a SYNC applies the RPDOs that wait, and then reaches the TPDOs. -/
theorem syncArrived_operational {counter : Option Nat} {s : State} (hc : s.coOn = true) (ho : s.nmt = .operational) :
    syncArrived counter s = (List.range 64).foldl (tpdoSync counter) (rpdosApply s) := by
  simp [syncArrived, hc, ho]

/-- In any other node nothing follows from a SYNC. -/
theorem syncArrived_not_operational {counter : Option Nat} {s : State} (ho : s.nmt ≠ .operational) : syncArrived counter s = s := by
  simp [syncArrived, ho]

/-- A producer without a counter sends the SYNC object, and takes it as a consumer does. -/
theorem syncSend_uncounted {s : State} (hc : s.coOn = true) (hn : s.nmt ≠ .stopped) (hp : bitOf (s.odVal 0x1005 0) 30 = true)
    (ht : s.odVal 0x1006 0 ≠ 0) (h0 : s.odVal 0x1019 0 = 0) : syncSend s = syncArrived none (coSend (s.odVal 0x1005 0) [] s) := by
  simp [syncSend, State.coRuns, hc, hn, hp, ht, h0]

/-- Settles O10, clause by clause from what each command's effect is. -/
theorem pdosAreExchanged : Obligations.PdosAreExchanged := by
  refine ⟨?rpdo, ?eventTimer, ?inhibitEnd, ?inhibitEndDue, ?sync, ?syncProduce⟩
  case rpdo =>
    intro n d s hc ho hv hm hp
    exact ⟨fun hl => ⟨fun ht => ok_of_eq s (rpdoReceive_event_driven hc ho hv hm hp hl ht),
      fun ht => ok_of_eq s (rpdoReceive_synchronous hc ho hv hm hp hl ht)⟩, fun hl => ok_of_eq s (rpdoReceive_wrong_length hc ho hv hm hp hl)⟩
  case eventTimer =>
    intro n s h5 ho ht
    exact ⟨fun hi => ok_of_eq s ((if_neg h5).trans (tpdoEvent_sends ho ht hi)), fun hi => ok_of_eq s ((if_neg h5).trans (tpdoEvent_due ho ht hi))⟩
  case inhibitEnd =>
    intro n s hd
    exact ok_of_eq s (if_neg (by simp [hd]))
  case inhibitEndDue =>
    intro n s hd ho ht
    exact ok_of_eq s ((if_pos hd).trans (tpdoEvent_uninhibited ho ht))
  case sync => exact fun counter s hc ho => ok_of_eq s (syncArrived_operational hc ho)
  case syncProduce =>
    rintro s u hc hn hp ht h0 rfl
    refine ⟨fun hpre => ?_, fun hop => ?_⟩
    · exact ok_of_eq s ((syncSend_uncounted hc hn hp ht h0).trans (syncArrived_not_operational (by simp [hpre])))
    · exact ok_of_eq s ((syncSend_uncounted hc hn hp ht h0).trans (syncArrived_operational (by simp [hc]) (by simp [hop])))

end Sys2Proof.Machine

/-! # TIME, EMCY, heartbeats and NMT (02_object_dictionary.md, R48, R49, R50, R56, R57, R71, R535) -/

namespace Sys2Proof.Machine

/-! ## TIME (R57) -/

section

variable {s : State} (hc : s.coOn = true) (hn : s.nmt ≠ .stopped)

include hc hn

/-- A consumed TIME object gives the follower's coarse time. -/
theorem timeReceive_consumed {d : List Byte} (hb : bitOf (s.odVal 0x1012 0) 31 = true) (hd : d.length = 6) :
    timeReceive d s = { s with alm := { s.alm with
      timeObject := some (441763200 + leNat (d.drop 4) * 86400 + leNat (d.take 4) % 2 ^ 28 / 1000) } } := by
  simp [timeReceive, State.coRuns, timeOfDayStart, hc, hn, hb, hd]

/-- A producing grandmaster sends UTC. -/
theorem timeSend_produced (hb : bitOf (s.odVal 0x1012 0) 30 = true) (hg : s.isGrandmaster = true) :
    timeSend s = coSend (s.odVal 0x1012 0)
      (leBytes 4 (((s.alm.sec : Int) - s.utcOffset - 441763200).toNat % 86400 * 1000 + s.alm.ns / 1000000) ++
        leBytes 2 (((s.alm.sec : Int) - s.utcOffset - 441763200).toNat / 86400)) s := by
  simp [timeSend, State.coRuns, timeOfDayStart, hc, hn, hb, hg]

end

/-! ## EMCYs that have waited (R48) -/

/-- With one EMCY waiting, the end of the inhibit time sends it. -/
theorem emcyFlush_one {e : Emcy} {s : State} (hw : s.emcyWait = [e]) (hn : s.nmt ≠ .stopped) :
    emcyFlush { s with emcyInhibit := false } = { s with emcyInhibit := false, emcyWait := [] }.emcyOut e := by
  simp [emcyFlush, emcysFlush, hw, hn]

/-! ## Heartbeats (R48, R56, R535) -/

theorem heartbeatSend_produced {s : State} (hc : s.coOn = true) (hp : s.odVal 0x1017 0 ≠ 0) :
    heartbeatSend s = coSend (0x700 + s.nodeId) [byte s.nmt.code] s := by
  simp [heartbeatSend, hc, hp]

/-- A consumed node that is late and not yet recorded. -/
theorem heartbeatLost_first {k : Nat} {s : State} (hc : s.coOn = true) (ht : (s.consumed k).2 ≠ 0) (hl : tabGet false s.hbLost (k + 1) = false) :
    heartbeatLost k s = { s with hbLost := tabSet false s.hbLost (k + 1) true }.emcyObj 0x8130 0 (s.consumed k).1 0 := by
  simp [heartbeatLost, hc, ht, hl]

/-- A heartbeat of a node clears the record of one entry of 0x1016, where the entry names the node. -/
def heartbeatClear (node : Nat) (s : State) (k : Nat) : State :=
  if (s.consumed k).1 = node ∧ (s.consumed k).2 ≠ 0 then { s with hbLost := tabSet false s.hbLost (k + 1) false } else s

theorem heartbeatHeard_eq {node : Nat} {s : State} (hc : s.coOn = true) :
    heartbeatHeard node s = (List.range 8).foldl (heartbeatClear node) s := by
  rw [heartbeatHeard, if_neg (by simp [hc])]
  rfl

/-- It changes the records, and nothing else. -/
theorem heartbeatClear_frame (node : Nat) (s : State) (k : Nat) : ∃ l, heartbeatClear node s k = { s with hbLost := l } := by
  unfold heartbeatClear
  split
  · exact ⟨_, rfl⟩
  · exact ⟨s.hbLost, rfl⟩

theorem heartbeatClear_consumed (node : Nat) (s : State) (k : Nat) : (heartbeatClear node s k).consumed = s.consumed := by
  obtain ⟨l, h⟩ := heartbeatClear_frame node s k
  rw [h]
  rfl

theorem heartbeatClear_regs (node : Nat) (s : State) (k : Nat) : (heartbeatClear node s k).regs = s.regs := by
  obtain ⟨l, h⟩ := heartbeatClear_frame node s k
  rw [h]

theorem heartbeatClear_mem (node : Nat) (s : State) (k : Nat) : (heartbeatClear node s k).mem = s.mem := by
  obtain ⟨l, h⟩ := heartbeatClear_frame node s k
  rw [h]

/-- A record that is clear stays clear. -/
theorem heartbeatClear_keeps_clear {node j : Nat} {s : State} (k : Nat) (h : tabGet false s.hbLost j = false) :
    tabGet false (heartbeatClear node s k).hbLost j = false := by
  unfold heartbeatClear
  split
  · rw [tabGet_set, h, ite_self]
  · exact h

/-- The heartbeat of a consumed node clears its record. -/
theorem heartbeatHeard_clears {node k : Nat} {s : State} (hk : k < 8) (hc : s.coOn = true) (hn : (s.consumed k).1 = node)
    (ht : (s.consumed k).2 ≠ 0) : tabGet false (heartbeatHeard node s).hbLost (k + 1) = false := by
  obtain ⟨before, after, hl⟩ := List.append_of_mem (List.mem_range.2 hk)
  rw [heartbeatHeard_eq hc, hl, List.foldl_append, List.foldl_cons]
  generalize hu : before.foldl (heartbeatClear node) s = u
  have hcons : u.consumed = s.consumed := by rw [← hu, foldl_keeps State.consumed _ (heartbeatClear_consumed node)]
  have hclear : tabGet false (heartbeatClear node u k).hbLost (k + 1) = false := by
    rw [heartbeatClear, hcons, if_pos ⟨hn, ht⟩, tabGet_set_same]
  exact List.foldlRecOn (motive := fun t : State => tabGet false t.hbLost (k + 1) = false) after _ hclear fun t h j _ => heartbeatClear_keeps_clear j h

theorem heartbeatHeard_regs {node : Nat} {s : State} (hc : s.coOn = true) : (heartbeatHeard node s).regs = s.regs := by
  rw [heartbeatHeard_eq hc, foldl_keeps State.regs _ (heartbeatClear_regs node)]

theorem heartbeatHeard_mem {node : Nat} {s : State} (hc : s.coOn = true) : (heartbeatHeard node s).mem = s.mem := by
  rw [heartbeatHeard_eq hc, foldl_keeps State.mem _ (heartbeatClear_mem node)]

/-! ## NMT (R49, R50, R71) -/

/-- A command for another node is not taken. -/
theorem nmtTakes_other {node : Nat} {s : State} (h0 : node ≠ 0) (hn : node ≠ s.nodeId) : s.nmtTakes node = false := by
  simp [State.nmtTakes, h0, hn]

/-- A stopped node has no transfer and exchanges no PDO. -/
theorem nmtStop_spec (s : State) : (nmtStop s).nmt = .stopped ∧ (∀ k, (nmtStop s).sdo k = none) ∧
    (nmtStop s).dict.tpdo = [] ∧ (nmtStop s).dict.rpdo = [] := by
  refine ⟨nmtTo_nmt _ _, fun k => ?_, ?_, ?_⟩
  · simp [State.sdo, nmtStop, tabGet]
  · simp [nmtStop, pdosEnd]
  · simp [nmtStop, pdosEnd]

/-- A pre-operational node exchanges no PDO. -/
theorem nmtPre_spec (s : State) : (nmtPre s).nmt = .preOperational ∧ (nmtPre s).dict.tpdo = [] ∧ (nmtPre s).dict.rpdo = [] := by
  refine ⟨nmtTo_nmt _ _, ?_, ?_⟩
  · simp [nmtPre, pdosEnd]
  · simp [nmtPre, pdosEnd]

/-- Settles O11, clause by clause from what each command's effect is. -/
theorem communicationServices : Obligations.CommunicationServices := by
  refine ⟨⟨?timeReceived, ?timeProduced, ?inhibitEnd, ?heartbeat, ?late, ?heard⟩, ?start, ?stop, ?pre, ?resetCommunication, ?resetNode, ?other⟩
  case timeReceived => exact fun d s hc hn hb hd => ok_of_eq s (timeReceive_consumed hc hn hb hd)
  case timeProduced => exact fun s hc hn hb hg => ok_of_eq s (timeSend_produced hc hn hb hg)
  case inhibitEnd => exact fun e s hw hn => ok_of_eq s (emcyFlush_one hw hn)
  case heartbeat => exact fun s hc hp => ok_of_eq s (heartbeatSend_produced hc hp)
  case late => exact fun k s hc ht hl => ok_of_eq s (heartbeatLost_first hc ht hl)
  case heard =>
    intro node k s hc hn ht
    refine ⟨_, ok_of_eq s rfl, ?_, fun r n => ?_, fun a => ?_⟩
    · rw [finish_hbLost, heartbeatHeard_clears k.isLt hc hn ht]
    · rw [rd_finish, State.rd_of_regs (heartbeatHeard_regs hc)]
    · rw [memByte_finish, State.memByte_of_mem (heartbeatHeard_mem hc)]
  case start => exact fun node s h => ⟨_, ok_of_eq s (if_pos h), (finish_nmt s _).trans (nmtTo_nmt _ _)⟩
  case stop =>
    intro node s h
    obtain ⟨hn, hk, ht, hr⟩ := nmtStop_spec s
    exact ⟨_, ok_of_eq s (if_pos h), by rw [finish_nmt, hn], fun k => by rw [sdo_finish, hk], by rw [finish_dict, ht], by rw [finish_dict, hr]⟩
  case pre =>
    intro node s h
    obtain ⟨hn, ht, hr⟩ := nmtPre_spec s
    exact ⟨_, ok_of_eq s (if_pos h), by rw [finish_nmt, hn], by rw [finish_dict, ht], by rw [finish_dict, hr]⟩
  case resetCommunication =>
    rintro node s u h rfl
    exact ⟨_, ok_of_eq s (if_pos h), rfl, nmtTo_nmt _ _, (finish_nmt s _).trans (nmtTo_nmt _ _)⟩
  case resetNode =>
    rintro node s u h rfl
    exact ⟨_, ok_of_eq s (if_pos h), rfl, nmtTo_nmt _ _, (finish_nmt s _).trans (nmtTo_nmt _ _)⟩
  case other =>
    intro node s c h0 hn hc
    have ht : ¬ s.nmtTakes node = true := by simp [nmtTakes_other h0 hn]
    simp only [List.mem_cons, List.not_mem_nil, or_false] at hc
    rcases hc with rfl | rfl | rfl | rfl | rfl <;> exact ok_of_eq s (if_neg ht)

end Sys2Proof.Machine

/-! # The object access protocol (02_object_dictionary.md, R58 to R64) -/

namespace Sys2Proof.Machine

/-! ## The checks of a message (R59, R61 to R63) -/

/-- The interface listens to a message, its sender is not muted, and its fields are those of a request of type `typ`. -/
def State.takes (s : State) (typ : Nat) (m : ObjMsg) : Prop :=
  s.listens m = true ∧ s.mutedPartner (msgIface m) (msgWho m) = false ∧ formatCode typ m = 0

section

variable {typ k : Nat} {m : ObjMsg} {x : Sess} {s : State}

theorem msgChecked_taken {act : State → State} (h : s.takes typ m) : msgChecked typ m act s = act s := by
  obtain ⟨hl, hp, hf⟩ := h
  simp [msgChecked, hl, hp, hf]

variable {act : Nat → Sess → State → State} (h : s.takes typ m) (hx : s.sessOf m = some (k, x))

include h hx

/-- A request under a wrong TAG is a violation, and gets NAK 1. -/
theorem sessRequest_wrong_tag (ht : m.tag ≠ tagOf x.key (msgBytes m)) : sessRequest typ m act s = nak m 1 (msgViolation m 6 s) := by
  rw [sessRequest, msgChecked_taken h]
  simp [hx, ht]

/-- A repetition of the last request gets its stored answer again. -/
theorem sessRequest_repeated {r : ObjReply} (ht : m.tag = tagOf x.key (msgBytes m)) (hs : m.seq = x.last) (hr : x.stored = some r) :
    sessRequest typ m act s = replySend m.service m.who x.key r s := by
  rw [sessRequest, msgChecked_taken h]
  simp [hx, ← ht, hs, hr]

/-- A request out of turn is a violation, and gets NAK 2. -/
theorem sessRequest_out_of_turn (ht : m.tag = tagOf x.key (msgBytes m)) (hs : m.seq ≠ x.last) (hn : m.seq ≠ (x.last + 1) % 2 ^ 32) :
    sessRequest typ m act s = nak m 2 (msgViolation m 7 s) := by
  rw [sessRequest, msgChecked_taken h]
  simp only [hx, ← ht, hs, hn, ne_eq, not_true_eq_false, not_false_eq_true, if_true, if_false]

/-- A request in turn is executed in the session that has taken its number. -/
theorem sessRequest_in_turn (ht : m.tag = tagOf x.key (msgBytes m)) (hn : m.seq = (x.last + 1) % 2 ^ 32) (hs : m.seq ≠ x.last) :
    sessRequest typ m act s = act k { x with last := m.seq, stored := none, who := m.who }
      (setSess k (some { x with last := m.seq, stored := none, who := m.who }) s) := by
  rw [sessRequest, msgChecked_taken h]
  simp only [hx, ← ht, hs, ← hn, ne_eq, not_true_eq_false, if_false]

end

/-! ## OPEN and CLOSE (R58, R60, R61) -/

/-- An OPEN on the switch under the access key takes the first free session. -/
theorem openRequest_free {m : ObjMsg} {k : Nat} {s : State} (hm : m.service = false) (hk : (s.accessKey false).all (· == 0) = false)
    (ht : m.tag = tagOf (s.accessKey false) (msgBytes m)) (hf : (sessNums false).find? (fun k => (s.sess k).isNone) = some k) :
    openRequest m s = sessOpen m k s := by
  simp only [openRequest, hm, hk, ← ht, hf, State.mayOpen]
  simp

/-- The nonce with which the module answers an OPEN, and the session that opens on the switch (R60, R61). -/
def State.openNonce (s : State) : List Byte := (List.range 16).map fun i => Config.randomByte (16 * s.fresh + i)
def State.openedSess (s : State) (m : ObjMsg) : Sess :=
  { id := s.newSession, who := m.who, key := Config.cmac (s.accessKey false) (m.data.take 16 ++ s.openNonce) }

theorem sessOpen_switch {m : ObjMsg} {k : Nat} {s : State} (hm : m.service = false) :
    sessOpen m k s = replySend false m.who (s.accessKey false) { msgReply m 2 s.openNonce with session := s.newSession }
      (setSess k (some (s.openedSess m)) s.used) := by
  simp [sessOpen, State.openNonce, State.openedSess, hm]

@[simp] theorem sess_finish (s t : State) (k : Nat) : (finish s t).sess k = t.sess k := by simp [State.sess]
@[simp] theorem replySend_sess (b : Bool) (who : Nat) (key : List Byte) (r : ObjReply) (s : State) (k : Nat) :
    (replySend b who key r s).sess k = s.sess k := rfl

/-- A session on the switch closes without anything else. -/
theorem sessShut_switch {k : Nat} {x : Sess} {s : State} (hk : k ≠ 3) (hx : s.sess k = some x) : sessShut k s = setSess k none s := by
  simp [sessShut, hk, hx]

/-! ## READ and WRITE (R62, R64) -/

/-- The answer to the last request executed is stored with the session. -/
theorem sessReply_stores {k : Nat} {r : ObjReply} {x : Sess} {s : State} (hx : s.sess k = some x) (hr : r.seq = x.last) :
    sessReply k r s = replySend (k == 3) x.who x.key r (setSess k (some { x with stored := some r }) s) := by
  simp [sessReply, hx, hr]

/-- A READ whose object answers at once. -/
theorem readRequest_answered {m : ObjMsg} {k : Nat} {a : ObjAnswer} {s : State}
    (ha : objAnswer (sessPath k) m.index m.sub s (objRead (sessPath k) m.index m.sub s) = some a) :
    readRequest m k s = sessReply k
      (accessReply m.session m.seq m.index m.sub m.offset m.length a (objRead (sessPath k) m.index m.sub s)) (objRead (sessPath k) m.index m.sub s) := by
  simp [readRequest, sessSettle, ha]

/-- The service port's path is that of session 3. -/
theorem sessPath_eq_service {k : Nat} (hk : k < 4) : sessPath k = .service ↔ k = 3 := by
  match k, hk with
  | 0, _ | 1, _ | 2, _ | 3, _ => simp [sessPath]

/-- A WRITE of a whole value to an entry that takes it, other than the service port's image, commits the value. -/
theorem writeRequest_whole {m : ObjMsg} {k : Nat} {y : Sess} {u : State} (hf : m.flags = 1) (ho : m.offset = 0) (hy : y.part = none)
    (hi : ¬ (k = 3 ∧ m.index = 0x4D00 ∧ m.sub = 2)) (hd : downloadCode (sessPath k) m.index m.sub none u = 0)
    (hn : ∀ n, u.entrySize m.index m.sub = some n → (m.data.take m.length).length ≤ n) (hk : k < 4) :
    writeRequest m k y u = sessSettle k m 0
      (objAnswer (sessPath k) m.index m.sub (setSess k (some { y with dead := false }) u)
        (objWrite (sessPath k) m.index m.sub (u.swapped m.index m.sub (m.data.take m.length)) (setSess k (some { y with dead := false }) u)))
      (objWrite (sessPath k) m.index m.sub (u.swapped m.index m.sub (m.data.take m.length)) (setSess k (some { y with dead := false }) u)) := by
  have hp : y.partOf m.index m.sub = [] := by simp [Sess.partOf, hy]
  have himg : ¬ (sessPath k = .service ∧ m.index = 0x4D00 ∧ m.sub = 2) := by rwa [sessPath_eq_service hk]
  have hsess : ({ y with part := none, dead := false } : Sess) = { y with dead := false } := by rw [← hy]
  cases he : u.entrySize m.index m.sub with
  | none => simp [writeRequest, hf, ho, hp, himg, hd, he, hsess]
  | some n =>
    have hle : ¬ n < (m.data.take m.length).length := (hn n he).not_gt
    simp only [List.length_take] at hle
    simp [writeRequest, hf, ho, hp, himg, hd, he, hle, hsess]

/-- Settles O12, clause by clause: the checks that a message passes, then what its request does. -/
theorem sessions : Obligations.Sessions := by
  refine ⟨?openFree, ?inTurn, ?stored, ?repeated, ?refused, ?idle⟩
  case openFree =>
    intro m k s hl hp hf hm hk ht hfree
    have hopen : exec (.sessionOpen m) s = .next (finish s (sessOpen m k s)) :=
      ok_of_eq s ((msgChecked_taken ⟨hl, hp, hf⟩).trans (openRequest_free hm hk ht hfree))
    rw [sessOpen_switch hm] at hopen
    refine ⟨_, s.openedSess m, s.openNonce, hopen, ?_, rfl, rfl, rfl, sends_finish rfl, fun r n => ?_, fun a => ?_⟩
    · rw [sess_finish, replySend_sess, State.sess_setSess_same]
    · rw [rd_finish]; rfl
    · rw [memByte_finish]; rfl
  case inTurn =>
    rintro m k x y s u hl hp hx ht hn hs rfl rfl
    refine ⟨fun hf hk => ?close, fun a hf ha => ?read, ?write⟩
    case close =>
      exact ok_of_eq s ((sessRequest_in_turn ⟨hl, hp, hf⟩ hx ht hn hs).trans (sessShut_switch hk.ne (State.sess_setSess_same s k _)))
    case read => exact ok_of_eq s ((sessRequest_in_turn ⟨hl, hp, hf⟩ hx ht hn hs).trans (readRequest_answered ha))
    case write =>
      rintro v hf hlast ho hy hi hd hsize hk rfl
      exact ok_of_eq s ((sessRequest_in_turn ⟨hl, hp, hf⟩ hx ht hn hs).trans (writeRequest_whole hlast ho hy hi hd hsize hk))
  case stored => exact fun k r x s hx hr => sessReply_stores hx hr
  case repeated => exact fun m k x r s hl hp hf hx ht hs hr => ok_of_eq s (sessRequest_repeated ⟨hl, hp, hf⟩ hx ht hs hr)
  case refused =>
    intro m k x s hl hp hf hx
    exact ⟨fun ht hs hn => ok_of_eq s (sessRequest_out_of_turn ⟨hl, hp, hf⟩ hx ht hs hn),
      fun ht => ok_of_eq s (sessRequest_wrong_tag ⟨hl, hp, hf⟩ hx ht)⟩
  case idle =>
    intro k x s hk hx hw
    have hk3 : k.val ≠ 3 := fun h => hk (Fin.ext h)
    have he : exec (.sessionIdleTimeout k) s = .next (finish s (sessShut k s)) := by
      have : exec (.sessionIdleTimeout k) s = execSessionIdleTimeout k s := rfl
      simp [this, execSessionIdleTimeout, ok, hk3, hx, hw]
    rw [he, sessShut_switch hk3 hx]

end Sys2Proof.Machine

/-! # The application range (02_object_dictionary.md, R72) -/

namespace Sys2Proof.Machine

/-! ## Declarations -/

/-- A declaration of one entry in the range that is not declared yet may stand. -/
theorem declareOk_one {a : AppDecl} {s : State} (hi : isApp a.index = true) (hs : a.sub < 256) (hn : s.appEntry a.index a.sub = none) :
    declareOk [a] s = true := by
  simp [declareOk, hi, hs, hn]

/-- A declaration of one entry that may stand adds the entry and is answered. -/
theorem appDeclare_one {a : AppDecl} {s : State} (hc : s.dom.core = true) (ho : declareOk [a] s = true) :
    appDeclare [a] s =
      { s with dict := { s.dict with
          app := tabSet none s.dict.app (odKey a.index a.sub)
            (some { numeric := a.numeric, size := a.size, acc := a.acc, dflt := a.dflt }) } }.emit (.appDeclared true) := by
  simp [appDeclare, hc, ho]

/-- A declaration that may not stand is answered, and adds nothing. -/
theorem appDeclare_refused {l : List AppDecl} {s : State} (hc : s.dom.core = true) (ho : declareOk l s = false) :
    appDeclare l s = s.emit (.appDeclared false) := by
  simp [appDeclare, hc, ho]

@[simp] theorem appEntry_finish (s t : State) (i sub : Nat) : (finish s t).appEntry i sub = t.appEntry i sub := by simp [State.appEntry]

/-! ## Answers of application firmware to an SDO transfer -/

section

variable {k : Fin 4} {v : List Byte} {a : AppAccess} {x : Sdo} {s : State}

/-- An answer that an upload waits for ends it. -/
theorem sdoAnswered_upload {b : Bool} {r : ObjAnswer} (hx : s.sdo k = some x) (hp : x.phase = .answer true b) :
    sdoAnswered k r s = uploadDone k x b r s := by
  simp only [sdoAnswered, hx, hp]

/-- So does one that a download waits for. -/
theorem sdoAnswered_download {b : Bool} {r : ObjAnswer} (hx : s.sdo k = some x) (hp : x.phase = .answer false b) :
    sdoAnswered k r s = downloadDone k x b r s := by
  simp only [sdoAnswered, hx, hp]

/-- The abort of an access leaves the transfers of the servers. -/
@[simp] theorem objAborted_sdo (s : State) (p : DPath) (i sub code j : Nat) : (s.objAborted p i sub code).sdo j = s.sdo j := by
  unfold State.objAborted
  split
  · rfl
  · split <;> rfl

variable (hd : s.appDue (.sdo k) = [a]) (hx : s.sdo k = some x)

include hd hx

/-- The one access outstanding was a read, and is answered with a value. -/
theorem appEnd_read {b : Bool} (ha : a.data = none) (hp : x.phase = .answer true b) :
    appEnd (.sdo k) v 0 s = uploadValue k x b v ((setAppDue (.sdo k) [] s).objValue (.sdo k) a.index a.sub v) := by
  have hx' : ((setAppDue (.sdo k) [] s).objValue (.sdo k) a.index a.sub v).sdo k = some x := hx
  simp only [appEnd, hd, ha, ne_eq, not_true_eq_false, if_false, appFinish, sdoAnswered_upload hx' hp, uploadDone]

/-- The one access outstanding was a write, and is accepted. -/
theorem appEnd_write {b : Bool} {w : List Byte} (ha : a.data = some w) (hp : x.phase = .answer false b) :
    appEnd (.sdo k) v 0 s = sdoSend k (doneFrame x b)
      (setSdo k none ((setAppDue (.sdo k) [] s).emit (.objWritten (.sdo k) a.index a.sub .accepted))) := by
  have hx' : ((setAppDue (.sdo k) [] s).emit (.objWritten (.sdo k) a.index a.sub .accepted)).sdo k = some x := hx
  simp only [appEnd, hd, ha, ne_eq, not_true_eq_false, if_false, appFinish, sdoAnswered_download hx' hp, downloadDone]

/-- The one access outstanding was a read, and ends with an abort. -/
theorem appEnd_abort {b : Bool} {code : Nat} (hc : code ≠ 0) (hp : x.phase = .answer true b) :
    appEnd (.sdo k) v code s = sdoAbortFrame k x.index x.sub code
      (setSdo k none ((setAppDue (.sdo k) [] s).objAborted (.sdo k) a.index a.sub code)) := by
  have hx' : ((setAppDue (.sdo k) [] s).objAborted (.sdo k) a.index a.sub code).sdo k = some x := (objAborted_sdo _ _ _ _ _ _).trans hx
  simp only [appEnd, hd, ne_eq, hc, not_false_eq_true, if_true, appFinish, sdoAnswered_upload hx' hp, uploadDone]

end

/-- Settles O13: a declaration adds its entry or is refused, and the answer to the one access outstanding ends its transfer. -/
theorem applicationRange : Obligations.ApplicationRange := by
  refine ⟨?declared, ?refused, ?answered⟩
  case declared =>
    intro a s hc hi hs hn
    refine ⟨_, ok_of_eq s (appDeclare_one hc (declareOk_one hi hs hn)), sends_finish rfl, fun r n => ?_, fun b => ?_, ?_⟩
    · rw [rd_finish]; rfl
    · rw [memByte_finish]; rfl
    · simp [State.appEntry]
  case refused => exact fun l s hc ho => ok_of_eq s (appDeclare_refused hc ho)
  case answered =>
    rintro k v code a x b s u hd hx rfl
    refine ⟨fun ha hp => ?_, fun w ha hp => ?_, fun hc hp => ?_, fun hp => ?_⟩
    · exact ok_of_eq s (appEnd_read hd hx ha hp)
    · exact ok_of_eq s (appEnd_write hd hx ha hp)
    · exact ok_of_eq s (appEnd_abort hd hx hc hp)
    · exact ok_of_eq s (appEnd_abort hd hx (by decide) hp)

end Sys2Proof.Machine

/-! # Supply bands, ground studs and domain starts (03_connectors_electrical.md, R90, R91, R93, R98, R99) -/

namespace Sys2Proof.Machine

/-! ## Domains that go off (R90, R91, R99) -/

theorem unitsReset_dom (us : List IoUnit) (keep : Nat → Bool) (s : State) : (unitsReset us keep s).dom = s.dom := rfl

theorem queuesReset_dom (l : List QId) (s : State) : (queuesReset l s).dom = s.dom :=
  foldl_keeps State.dom _ (fun t i => State.setQ_dom t i {}) l s

theorem commsOff_comms (s : State) : (commsOff s).dom.comms = false := rfl

theorem fieldOff_dom (s : State) : (fieldOff s).dom = { s.dom with field := false } :=
  congrArg (fun d : Domains => { d with field := false }) (queuesReset_dom [.field] (unitsReset [.FIO] (fun _ => false) s))

theorem coreOff_dom (s : State) : (coreOff s).dom = { s.dom with core := false } := rfl

theorem switchLost_dom (s : State) : (switchLost s).dom = s.dom := by
  simp only [switchLost, State.wr_dom, queuesReset_dom, unitsReset_dom]

theorem switchOff_dom (s : State) : (switchOff s).dom = { s.dom with switch := false } :=
  congrArg (fun d : Domains => { d with switch := false }) (switchLost_dom s)

theorem keepOff_dom (s : State) : (keepOff s).dom = { s.dom with keep := false } :=
  congrArg (fun d : Domains => { d with keep := false })
    (foldl_keeps State.dom _ (fun t r => State.wr_dom t .PWR_RCNT r 0) (List.range 16) (unitsReset [.NET] (fun _ => false) s))

/-- In PARK the loss of the Switch supply takes the Switch domain, and a Field domain that was held. -/
theorem supplyLost_dom {s : State} (hp : s.pwrState = 2 ∧ s.pwrPhase = 0 ∧ s.dom.keep = true) :
    (supplyLost s).dom = { s.dom with switch := false, field := false } := by
  obtain ⟨hstate, hphase, hkeep⟩ := hp
  simp [supplyLost, hstate, hphase, hkeep, switchOff_dom, dormantFrom, fieldOff_dom]

/-- Core, Comms and Field are all off. -/
def State.regulatorDomainsOff (s : State) : Prop := s.dom.core = false ∧ s.dom.comms = false ∧ s.dom.field = false

/-- The main regulator takes its three domains with it, whichever of them were on. -/
theorem regulatorOff_domainsOff (s : State) : (regulatorOff s).regulatorDomainsOff := by
  have hcomms : (if s.dom.comms then commsOff s else s).dom.comms = false := by
    split
    · exact commsOff_comms s
    · next h => exact Bool.eq_false_iff.2 h
  have hfield (t : State) (hc : t.dom.comms = false) :
      (if t.dom.field then fieldOff t else t).dom.comms = false ∧ (if t.dom.field then fieldOff t else t).dom.field = false := by
    split
    · rw [fieldOff_dom]
      exact ⟨hc, rfl⟩
    · next h => exact ⟨hc, Bool.eq_false_iff.2 h⟩
  have hcore (t : State) (hcf : t.dom.comms = false ∧ t.dom.field = false) : (if t.dom.core then coreOff t else t).regulatorDomainsOff := by
    split
    · exact ⟨rfl, hcf⟩
    · next h => exact ⟨Bool.eq_false_iff.2 h, hcf⟩
  exact hcore _ (hfield _ hcomms)

/-- Below 6 V the Switch domain goes, with Keep where KEEP_IN is low too; where Field is off already, nothing else does. -/
theorem switchSupplyGone_dom (keep : Bool) {s : State} (hf : s.dom.field = false) :
    (switchSupplyGone keep s).dom = { s.dom with switch := false, keep := keep && s.dom.keep } := by
  have hswitch : (if s.pwrState = 2 ∧ s.pwrPhase = 0 ∧ s.dom.keep then supplyLost s else switchOff s).dom = { s.dom with switch := false } := by
    split
    · next hp => rw [supplyLost_dom hp, ← hf]
    · exact switchOff_dom s
  unfold switchSupplyGone
  cases keep
  · exact (keepOff_dom _).trans (congrArg (fun d : Domains => { d with keep := false }) hswitch)
  · exact hswitch

/-! ## Bands (R90, R93, R98) -/

theorem moduleEnters_full (keep : Bool) (s : State) :
    moduleEnters .full keep s = coreReturns { s with supply := { s.supply with module := .full } } := rfl

/-- In a band other than Full that has the main regulator on, the boosts stop. -/
theorem moduleEnters_boosts_stop {b : Band} (keep : Bool) (s : State) (hd : b.dark = false) (hf : b ≠ .full) :
    moduleEnters b keep s = coreReturns (boostOff { s with supply := { s.supply with module := b } }) := by
  cases b with
  | below6 | off => cases hd
  | full => exact absurd rfl hf
  | hold | reduced | _ => rfl

/-- Hold, Reduced and Overvoltage are such bands. -/
theorem bandOf_boosts_stop {n : Nat} (h : n = 2 ∨ n = 3 ∨ n = 5) : (bandOf n).dark = false ∧ bandOf n ≠ .full := by
  rcases h with rfl | rfl | rfl <;> decide

theorem moduleEnters_off (keep : Bool) (s : State) :
    moduleEnters .off keep s = regulatorOff (boostOff { s with supply := { s.supply with module := .off } }) := rfl

theorem moduleEnters_below6 (keep : Bool) (s : State) :
    moduleEnters .below6 keep s = switchSupplyGone keep (regulatorOff (boostOff { s with supply := { s.supply with module := .below6 } })) := rfl

theorem exec_moduleSupplyBandChange {b : Fin 6} {keep : Bool} {s u : State} (hs : s.dom.switch = true) (h : moduleEnters (bandOf b) keep s = u) :
    exec (.moduleSupplyBandChange b keep) s = .next (finish s u) :=
  ok_of_eq s ((if_pos hs).trans h)

/-! ## Starts (R91, R99) -/

/-- A field of a masked word is masked by that field of the mask. -/
theorem bitsOf_and (w m : Word) (lo wd : Nat) : bitsOf (w &&& m).toNat lo wd = bitsOf w.toNat lo wd &&& bitsOf m.toNat lo wd := by
  simp only [bitsOf, BitVec.toNat_and, Nat.and_div_two_pow, Nat.and_mod_two_pow]

/-- In RUN every field that lies in the low nine bits of PWR_STAT reads 0. -/
theorem runState_getF (s : State) {f : Fld} (h : f.reg = .PWR_STAT ∧ bitsOf (word 0xFFFFFE00).toNat f.lo f.wd = 0) : (runState s).getF f 0 = 0 := by
  obtain ⟨hreg, hmask⟩ := h
  rw [State.getF, hreg, runState, State.rd_wr_same, bitsOf_and, hmask, Nat.and_zero]

theorem runState_rd_other (s : State) {r : Reg} {n : Nat} (h : (r, n) ∉ [(Reg.PWR_STAT, 0)]) : (runState s).rd r n = s.rd r n :=
  State.rd_wr_but (by simpa using h)

theorem switchReturns_run {s : State} (hs : s.dom.switch = false) (hk : s.dom.keep = true) (hp : s.pwrPhase ≠ 5) (hd : s.pwrState ≠ 3) :
    switchReturns s = almResume { switchStart (runState s) with pwr := { (switchStart (runState s)).pwr with pll := true } } := by
  simp [switchReturns, hs, hk, hp, hd]

theorem switchReturns_exit {s : State} (hs : s.dom.switch = false) (hk : s.dom.keep = true) (hp : s.pwrPhase = 5) :
    switchReturns s = switchStart (dormantOver s) := by
  simp [switchReturns, hs, hk, hp]

/-- Settles O14, clause by clause from what each command's effect is. -/
theorem supplyAndDomains : Obligations.SupplyAndDomains := by
  refine ⟨?feed, ?module, ?moduleOff, ?studs, ?switchStart, ?keepStart, ?commsStart, ?fieldStart, ?on⟩
  case feed =>
    intro k b s hs
    exact ⟨fun hf => ok_of_eq s (if_pos (by simp [hs, hf])), fun hf => ok_of_eq s (if_neg (by simp [hf]))⟩
  case module =>
    rintro b keep s u hs rfl
    refine ⟨fun hb => ?full, fun hb => ?boostsStop, fun hb => ?off, fun hb => ?below6⟩
    case full =>
      have hband : bandOf b = .full := by rw [hb]; rfl
      rw [hband]
      exact exec_moduleSupplyBandChange hs (by rw [hband, moduleEnters_full])
    case boostsStop =>
      obtain ⟨hd, hf⟩ := bandOf_boosts_stop hb
      exact exec_moduleSupplyBandChange hs (moduleEnters_boosts_stop keep s hd hf)
    case off =>
      have hband : bandOf b = .off := by rw [hb]; rfl
      rw [hband]
      exact ⟨_, exec_moduleSupplyBandChange hs (by rw [hband, moduleEnters_off]), rfl, regulatorOff_domainsOff _⟩
    case below6 =>
      have hband : bandOf b = .below6 := by rw [hb]; rfl
      rw [hband]
      obtain ⟨hcore, hcomms, hfield⟩ := regulatorOff_domainsOff (boostOff { s with supply := { s.supply with module := .below6 } })
      refine ⟨_, exec_moduleSupplyBandChange hs (by rw [hband, moduleEnters_below6]), rfl, ?_⟩
      rw [switchSupplyGone_dom keep hfield]
      exact ⟨hcore, hcomms, hfield, rfl⟩
  case moduleOff =>
    intro b keep s hs
    exact ⟨fun hb => ok_of_eq s ((if_neg (by simp [hs])).trans (if_pos (by simpa using hb))),
      fun hk hb => ok_of_eq s ((if_neg (by simp [hs])).trans (if_neg (by simp [hk, hb])))⟩
  case studs =>
    rintro lost s u v rfl rfl
    have hlost : 2 ≤ (lost : Nat) ↔ (lost : Nat) = 2 := by omega
    exact ok_of_eq s (if_congr hlost rfl rfl)
  case switchStart =>
    intro s hs hk
    exact ⟨fun hp hd => ok_of_eq s (switchReturns_run hs hk hp hd), fun hp => ok_of_eq s (switchReturns_exit hs hk hp)⟩
  case keepStart =>
    intro s hk
    refine ⟨_, ok_of_eq s (if_neg (by simp [hk])), ?_, ?_, ?_, fun r n hr => ?_, fun a => ?_, sends_finish rfl⟩
    · rw [finish_dom]; rfl
    · exact (getF_finish s _ _ _).trans (runState_getF _ (by decide))
    · exact (getF_finish s _ _ _).trans (runState_getF _ (by decide))
    · rw [rd_finish, runState_rd_other _ hr]; rfl
    · rw [memByte_finish]; rfl
  case commsStart => exact fun s hc hr => ok_of_eq s (if_pos (by simp [hc, hr]))
  case fieldStart => exact fun pins s hf hr => ok_of_eq s (if_pos (by simp [hf, hr]))
  case on =>
    rintro pins s c (⟨rfl, h⟩ | ⟨rfl, h⟩ | ⟨rfl, h⟩ | ⟨rfl, h⟩)
    · exact ok_of_eq s (if_pos (.inl h))
    · exact ok_of_eq s (if_pos h)
    · exact ok_of_eq s (if_neg (by simp [h]))
    · exact ok_of_eq s (if_neg (by simp [h]))

end Sys2Proof.Machine

/-! # The servo and the UTC data (04_almanac.md, R129, R137, R141) -/

namespace Sys2Proof.Machine

theorem pair_ne_of_notMem_singleton {r q : Reg} {n k : Nat} (h : (r, n) ∉ [(q, k)]) : (r, n) ≠ (q, k) := by simpa using h

/-- A module that is no grandmaster has the role that software gave it. -/
theorem servoRole_of_free {s : State} (hr : s.role = 0) : s.servoRole = 0 := by simp [State.servoRole, hr]

/-- UTC data is no part of the role. -/
theorem servoRole_utcSet (u : Nat) (s : State) : (utcSet u s).servoRole = s.servoRole := by
  have hr : (utcSet u s).role = s.role := State.getF_wr_ne _ (by decide)
  have hd : (utcSet u s).flag F.ALM_STATUS_GM_DEFERRED 0 = s.flag F.ALM_STATUS_GM_DEFERRED 0 := State.flag_wr_ne _ (by decide)
  simp only [State.servoRole, hr, hd]

/-- Where the servo enters another state, ALM_STATUS shows it, the lock run starts again, and line 33 is requested. -/
theorem servoTo_entered {n : Nat} {s : State} (h : s.servo ≠ n) :
    servoTo n s = { (s.setF F.ALM_STATUS_SERVO 0 n).request 33 with alm := { s.alm with lockRun := 0, holdSince := s.up } } := if_neg h

/-- The servo is in the state that it enters. -/
theorem servo_servoTo {n : Nat} (s : State) (hn : n < 2 ^ F.ALM_STATUS_SERVO.wd) : (servoTo n s).servo = n := by
  unfold servoTo
  split
  · assumption
  · exact (State.getF_setF_eq s (by decide)).trans (Nat.mod_eq_of_lt hn)

/-- Entering a state of the servo changes no other field of ALM_STATUS. -/
theorem getF_servoTo {f : Fld} (n : Nat) (s : State)
    (h : f.reg = F.ALM_STATUS_SERVO.reg ∧ f.lo + f.wd ≤ 32 ∧
      (f.lo + f.wd ≤ F.ALM_STATUS_SERVO.lo ∨ F.ALM_STATUS_SERVO.lo + F.ALM_STATUS_SERVO.wd ≤ f.lo)) :
    (servoTo n s).getF f 0 = s.getF f 0 := by
  unfold servoTo
  split
  · rfl
  · exact State.getF_setF_apart s h

theorem servoTo_gm (n : Nat) (s : State) : (servoTo n s).alm.gm = s.alm.gm := by
  unfold servoTo
  split <;> rfl

end Sys2Proof.Machine

/-! # What a Switch cycle leaves of the Almanac (04_almanac.md, R117; 06_power_channels.md, R205) -/

namespace Sys2Proof.Machine

/-- What the retry decisions of a Switch cycle leave alone: the Almanac's time, the model's clock, and the Almanac's status. -/
def State.almView (s : State) : Almanac × Nat × Word := (s.alm, s.up, s.rd .ALM_STATUS 0)

theorem State.almView_of {s t : State} (ha : t.alm = s.alm) (hu : t.up = s.up) (hr : t.regs = s.regs) : t.almView = s.almView := by
  rw [State.almView, State.almView, ha, hu, State.rd_of_regs hr]

section

variable (s : State)

/-! ## Registers, and what lies beside them -/

theorem almView_wr {r : Reg} {n : Nat} {w : Word} (h : r ≠ .ALM_STATUS) : (s.wr r n w).almView = s.almView := by
  rw [State.almView, State.almView, State.rd_wr_ne s h.symm, State.wr_alm, State.wr_up]

theorem almView_setF {f : Fld} {n v : Nat} (h : f.reg ≠ .ALM_STATUS) : (s.setF f n v).almView = s.almView := almView_wr s h
theorem almView_setB {f : Fld} {n : Nat} {b : Bool} (h : f.reg ≠ .ALM_STATUS) : (s.setB f n b).almView = s.almView := almView_wr s h

@[simp] theorem almView_setCh (n : Nat) (x : Chan) : (s.setCh n x).almView = s.almView := rfl
@[simp] theorem almView_setSns (n : Nat) (x : SnsChan) : (s.setSns n x).almView = s.almView := rfl
@[simp] theorem almView_setTp (n : Nat) (x : Tpdo) : (setTp n x s).almView = s.almView := rfl
@[simp] theorem almView_setQ (i : QId) (x : RecQ) : (s.setQ i x).almView = s.almView := rfl
@[simp] theorem almView_odoCount (a b c d : Nat) : (s.odoCount a b c d).almView = s.almView := rfl
@[simp] theorem almView_raise (a b : Nat) : (s.raise a b).almView = s.almView := rfl

@[simp] theorem almView_emcyObj (a b c d : Nat) : (s.emcyObj a b c d).almView = s.almView := by
  obtain ⟨_, _, _, _, h⟩ := emcy_frame s { code := a, b3 := b, index := c, sub := d }
  rw [State.emcyObj, h]
  rfl

@[simp] theorem almView_coSend (id : Nat) (d : List Byte) : (coSend id d s).almView = s.almView := by
  obtain ⟨l, h⟩ := coSend_frame id d s
  rw [h]
  rfl

@[simp] theorem almView_offer (i : QId) (ws : List Word) : (s.offer i ws).almView = s.almView := by
  unfold State.offer
  dsimp only
  split <;> rfl

/-! ## Transitions of a stage and their records (R218 to R220) -/

@[simp] theorem almView_latchTransition (b n : Nat) : (latchTransition b n s).almView = s.almView := by
  simp (disch := decide) only [latchTransition, almView_wr]

@[simp] theorem almView_tpdoTransition (n : Nat) : (tpdoTransition n s).almView = s.almView := by
  unfold tpdoTransition
  split
  · rfl
  · refine foldl_keeps State.almView _ (fun t k => ?_) _ s
    dsimp only
    split
    · split
      · rfl
      · simp [lastTransitionIn]
    · rfl

@[simp] theorem almView_recordTransition (n : Nat) (e : Edge) (t : Transition) : (recordTransition n e t s).almView = s.almView := by
  unfold recordTransition
  simp [apply_ite State.almView]

@[simp] theorem almView_edgePast (n : Nat) (e : Edge) : (edgePast n e s).almView = s.almView := by
  unfold edgePast
  dsimp only
  split
  · simp
  · split
    · simp
    · split <;> simp

@[simp] theorem almView_edge (n : Nat) (on aligned : Bool) (reason : Nat) (meas : Bool) : (edge n on aligned reason meas s).almView = s.almView := by
  unfold edge edgeAwait
  split <;> simp

/-! ## The stage (R204, R214, R271) -/

@[simp] theorem almView_stageTo (n : Nat) (on : Bool) : (stageTo n on s).almView = s.almView := by
  unfold stageTo snsEdge
  simp (disch := decide) [apply_ite State.almView, almView_setB]

@[simp] theorem almView_sigForget (n : Nat) : (sigForget n s).almView = s.almView := by
  simp (disch := decide) [sigForget, almView_setB, almView_setF]

@[simp] theorem almView_sigStart (n volt : Nat) (skip : Bool) : (sigStart n volt skip s).almView = s.almView := by
  unfold sigStart
  simp (disch := decide) [apply_ite State.almView, almView_setF]

@[simp] theorem almView_inrushStart (n : Nat) : (inrushStart n s).almView = s.almView := by
  simp (disch := decide) only [inrushStart, almView_setB]

@[simp] theorem almView_inrushStop (n : Nat) : (inrushStop n s).almView = s.almView := by
  simp (disch := decide) [inrushStop, apply_ite State.almView, almView_setB]

@[simp] theorem almView_stageUp (n : Nat) (aligned safe : Bool) : (stageUp n aligned safe s).almView = s.almView := by simp [stageUp]

@[simp] theorem almView_toState (n code : Nat) : (toState n code s).almView = s.almView := by
  simp (disch := decide) [toState, apply_ite State.almView, almView_setF]

@[simp] theorem almView_alignDrop (n : Nat) : (alignDrop n s).almView = s.almView := by
  simp [alignDrop, apply_ite State.almView]

@[simp] theorem almView_waitDrop (n : Nat) : (waitDrop n s).almView = s.almView :=
  almView_setB (f := F.PROT_STAT_WAIT) (n := n) (b := false) s (by decide)

@[simp] theorem almView_reserve (n : Nat) : (reserve n s).almView = s.almView := rfl

/-! ## SAFE, and the retry decision (R205, R206, R239) -/

@[simp] theorem almView_safeStageOn (n : Nat) : (safeStageOn n s).almView = s.almView := by
  simp (disch := decide) [safeStageOn, apply_ite State.almView, almView_setB]

@[simp] theorem almView_safeEnter (n : Nat) : (safeEnter n s).almView = s.almView := by
  simp (disch := decide) [safeEnter, apply_ite State.almView, almView_setB]

@[simp] theorem almView_offCleared (n : Nat) : (offCleared n s).almView = s.almView := by
  simp (disch := decide) [offCleared, almView_setB, almView_setF]

@[simp] theorem almView_toOff (n : Nat) : (toOff n s).almView = s.almView := by simp [toOff, apply_ite State.almView]

@[simp] theorem almView_toThermal (n : Nat) (kept : Option Nat) : (toThermal n kept s).almView = s.almView := by
  simp (disch := decide) [toThermal, almView_setB]

@[simp] theorem almView_lockOff (n : Nat) (source : Bool) : (lockOff n source s).almView = s.almView := by
  simp [lockOff, apply_ite State.almView]

@[simp] theorem almView_retryWait (n back : Nat) : (retryWait n back s).almView = s.almView := by simp [retryWait, apply_ite State.almView]

@[simp] theorem almView_retryDecision (n : Nat) : (retryDecision n s).almView = s.almView := by simp [retryDecision, apply_ite State.almView]

@[simp] theorem almView_tripDecide (n : Nat) : (tripDecide s n).almView = s.almView := by simp [tripDecide, apply_ite State.almView]

/-- The retry decisions of a cycle leave the Almanac's time, the model's clock and the Almanac's status. -/
theorem almView_nextCycle : (nextCycle s).almView = s.almView := foldl_keeps State.almView tripDecide (fun t n => almView_tripDecide t n) _ _

end

end Sys2Proof.Machine

/-! # LOST_CLR and AGED of the record queues (04_almanac.md, R134; R159, R188, R222, R306, R319, R328, R349, R358, R484) -/

namespace Sys2Proof.Machine

theorem State.q_setQ (s : State) (i j : QId) (v : RecQ) : (s.setQ i v).q j = if qKey j = qKey i then v else s.q j := tabGet_set _ _ _ _ _

/-! ## LOST_CLR -/

section

variable {c : Instr} {m : Master} {addr : Nat} {i : QId} {s : State}

/-- A write that clears the count and is answered as accepted, in a unit without a result register. -/
theorem lostClr_answered (h : exec c s = .next (finish s ((s.clearLost i).emit (.written m addr .accepted)))) :
    ∃ t, exec c s = .next t ∧ t.q i = { s.q i with lost := 0 } ∧ sends s t [.written m addr .accepted] ∧ memSame s t := by
  refine ⟨_, h, ?_, sends_finish rfl, State.memByte_of_mem (finish_mem s _)⟩
  rw [q_finish]
  exact (State.q_setQ s i i _).trans (if_pos rfl)

/-- So is one in a unit with one. -/
theorem lostClr_answered_in {r : Reg} {n : Nat} {w : Word}
    (h : exec c s = .next (finish s (((s.clearLost i).wr r n w).emit (.written m addr .accepted)))) :
    ∃ t, exec c s = .next t ∧ t.q i = { s.q i with lost := 0 } ∧ sends s t [.written m addr .accepted] ∧ memSame s t := by
  refine ⟨_, h, ?_, sends_finish rfl, State.memByte_of_mem (finish_mem s _)⟩
  rw [q_finish]
  exact (State.q_setQ s i i _).trans (if_pos rfl)

end

/-! What each unit makes of a write with LOST_CLR alone. -/

theorem mstWrite_lostClr (m : Master) (s : State) : mstWrite m .MST_CQ_CLR 0 0x80000000 s = (.accepted, s.clearLost .milestone) := rfl
theorem outWrite_lostClr (s : State) : outWrite .OUT_TRQSTAT 0 0x80000000 s = (.accepted, 0, s.clearLost .transition) := rfl
theorem vlvWrite_lostClr (s : State) : vlvWrite .VLV_EVQSTAT 0 0x80000000 s = (.accepted, 0, false, s.clearLost .valve) := rfl
theorem sinWrite_lostClr (m : Master) (s : State) : sinWrite m .SIN_EQSTAT 0 0x80000000 s = (.accepted, 0, s.clearLost .edge) := rfl
theorem fioWrite_lostClr (s : State) : fioWrite .FIO_CQSTAT 0 0x80000000 s = (.accepted, 0, s.clearLost .field) := rfl
theorem linWrite_lostClr (n : Nat) (s : State) : linWrite .LIN_RQSTAT n 0x80000000 s = (.accepted, s.clearLost (.lin n)) := rfl
theorem canWrite_lostClr (n : Nat) (s : State) :
    canWrite .CAN_QSTAT n 0x80000000 s = (.accepted, 0, s.clearLost (.can (n / 2) (n % 2))) := rfl
theorem fcruWrite_lostClr (m : Master) (s : State) : fcruWrite m .FCRU_LOGSTAT 0 0x80000000 s = (.accepted, 0, s.clearLost .faultLog) := rfl
theorem wcuWrite_lostClr (n : Nat) (s : State) : wcuWrite .WCU_CAP n 0x80000000 s = (.accepted, s.clearLost (.capture n)) := rfl

/-- A register of CAN_QSTAT is that of one receive queue of one channel. -/
theorem canAccess_lostClr (m : Master) {c : Fin 8} {b : Fin 2} {s : State} (h : canFitted s.variant c = true) :
    canAccess m .CAN_QSTAT (2 * c + b) 0x80000000 s =
      ((s.clearLost (.can c b)).wr .CAN_RESULT (bk m c) (word (Code.accepted.num + 0x100 * (0 % 64) + 0x10000 * Reg.addr .CAN_QSTAT (2 * c + b)))).emit
        (.written m (Reg.addr .CAN_QSTAT (2 * c + b)) .accepted) := by
  have hchan : (2 * c.val + b.val) / 2 = c.val := by omega
  have hqueue : (2 * c.val + b.val) % 2 = b.val := by omega
  have hfit : regFitted s.variant .CAN_QSTAT (2 * c + b) = true := (congrArg (canFitted s.variant) hchan).trans h
  rw [canAccess, if_pos hfit, canWrite_lostClr, canChan, hchan, hqueue]

/-! ## AGED (R134) -/

/-- The record queue of a queue of time-stamped records; the receive rings are kept in memory. -/
def stampQueueOf : StampQueue → Option QId
  | .milestone => some .milestone
  | .lin c => some (.lin c.val)
  | .sinEdge => some .edge
  | .fioChange => some .field
  | .wcuCapture n => some (.capture n.val)
  | .vlvEvent => some .valve
  | .canQueue n k => some (.can n.val k.val)
  | .ethRing _ => none

/-- AGED of a record queue is set in the record queue. -/
theorem exec_aged {q : StampQueue} {k : QId} (i : Nat) (s : State) (h : stampQueueOf q = some k) :
    exec (.aged q i) s = .next (finish s (s.setQ k (RecQ.ageOne k i (s.q k)))) := by
  cases q <;> cases h <;> rfl

/-- AGED of a receive ring is set in its descriptor. -/
theorem exec_aged_ring (r : Fin 6) {i : Nat} (s : State) (h : i < 128) :
    exec (.aged (.ethRing r) i) s = .next (finish s (ageDesc (128 * r.val + i) s)) := ok_of_eq s (if_pos h)

/-- A descriptor that is not owned and holds a frame takes AGED. -/
theorem ageDesc_set {k : Nat} {s : State} (hown : bitOf (tabGet 0 s.eth.desc (4 * k + 1)).toNat 31 = false)
    (hlen : bitsOf (tabGet 0 s.eth.desc (4 * k + 1)).toNat 0 11 ≠ 0) :
    ageDesc k s = { s with eth := { s.eth with
      desc := tabSet 0 s.eth.desc (4 * k + 1) (putBits (tabGet 0 s.eth.desc (4 * k + 1)) 27 1 1) } } :=
  if_neg (by rw [hown, beq_eq_false_iff_ne.2 hlen]; decide)

section

variable {k : QId} {p : Nat × Nat} (hk : qAgedAt k = some p) (i : Nat) (q : RecQ)

include hk

theorem ageOne_recs : (RecQ.ageOne k i q).recs = q.recs.mapIdx fun j x => if j = i ∧ ¬ (j = 0 ∧ q.locked) then x.age p else x := by
  simp only [RecQ.ageOne, hk]

/-- The record named takes AGED, unless it is the locked head. -/
theorem ageOne_recs_named {r : Rec} (hr : q.recs[i]? = some r) :
    (RecQ.ageOne k i q).recs[i]? = some (if i = 0 ∧ q.locked = true then r else r.age p) := by
  rw [ageOne_recs hk, List.getElem?_mapIdx, hr]
  by_cases hl : i = 0 ∧ q.locked = true <;> simp [hl]

theorem ageOne_recs_other {j : Nat} (hj : j ≠ i) : (RecQ.ageOne k i q).recs[j]? = q.recs[j]? := by
  rw [ageOne_recs hk, List.getElem?_mapIdx]
  simp [hj]

theorem ageOne_keeps :
    (RecQ.ageOne k i q).locked = q.locked ∧ (RecQ.ageOne k i q).lost = q.lost ∧ (RecQ.ageOne k i q).seq = q.seq := by
  simp only [RecQ.ageOne, hk, and_self]

end

/-- Settles O7: what each unit makes of LOST_CLR, and where AGED is set. -/
theorem lostAndAged : Obligations.LostAndAged := by
  refine ⟨⟨?lostClr, ?capture⟩, ?aged, ?record, ?ring⟩
  case lostClr =>
    intro m c4 c8 b s c addr i hlin hcan h
    simp only [List.mem_cons, Prod.mk.injEq, List.not_mem_nil, or_false] at h
    rcases h with ⟨rfl, rfl, rfl⟩ | ⟨rfl, rfl, rfl⟩ | ⟨rfl, rfl, rfl⟩ | ⟨rfl, rfl, rfl⟩ | ⟨rfl, rfl, rfl⟩ | ⟨rfl, rfl, rfl⟩ | ⟨rfl, rfl, rfl⟩ |
      ⟨rfl, rfl, rfl⟩
    · exact lostClr_answered (ok_of_eq s (by rw [mstAccess, mstWrite_lostClr]; rfl))
    · exact lostClr_answered_in (ok_of_eq s (if_pos rfl))
    · exact lostClr_answered_in (ok_of_eq s (if_pos rfl))
    · exact lostClr_answered_in (ok_of_eq s (if_pos rfl))
    · exact lostClr_answered_in (ok_of_eq s (if_pos rfl))
    · exact lostClr_answered_in (ok_of_eq s (if_pos hlin))
    · exact lostClr_answered_in (ok_of_eq s (canAccess_lostClr m hcan))
    · exact lostClr_answered_in (ok_of_eq s rfl)
  case capture =>
    rintro m n s u rfl
    exact ok_of_eq s rfl
  case aged =>
    intro q k i s h
    have hq : stampQueueOf q = some k := by
      simp only [List.mem_append, List.mem_cons, List.mem_map, List.mem_flatMap, List.mem_finRange, List.not_mem_nil, or_false, true_and,
        Prod.mk.injEq] at h
      rcases h with ((((⟨rfl, rfl⟩ | ⟨rfl, rfl⟩ | ⟨rfl, rfl⟩ | ⟨rfl, rfl⟩) | ⟨c, rfl, rfl⟩) | ⟨n, rfl, rfl⟩) | ⟨n, j, rfl, rfl⟩) <;> rfl
    refine ⟨_, exec_aged i s hq, ?_, fun j hj => ?_, fun r n => ?_, State.memByte_of_mem (finish_mem s _)⟩
    · rw [q_finish, State.q_setQ, if_pos rfl]
    · rw [q_finish, State.q_setQ, if_neg hj]
    · rw [rd_finish, State.rd_setQ]
  case record => exact fun k p i q r hk hr => ⟨ageOne_recs_named hk i q hr, fun j hj => ageOne_recs_other hk i q hj, ageOne_keeps hk i q⟩
  case ring =>
    rintro r i w s hi rfl hown hlen
    refine ⟨_, exec_aged_ring r s hi, ?_, fun k hk => ?_, fun q n => ?_, fun a => ?_⟩
    · rw [finish_eth, ageDesc_set hown hlen]
      exact tabGet_set_same _ _ _ _
    · rw [finish_eth, ageDesc_set hown hlen]
      exact tabGet_set_other _ _ _ _ hk
    · rw [rd_finish, ageDesc_set hown hlen]
      rfl
    · rw [memByte_finish, ageDesc_set hown hlen]
      rfl

end Sys2Proof.Machine

/-! # The tick, the step and the registers of the Almanac (04_almanac.md, R117 to R134, R141, R143) -/

namespace Sys2Proof.Machine

theorem almView_iff {s t : State} :
    t.almView = s.almView ↔ t.alm = s.alm ∧ t.up = s.up ∧ t.rd .ALM_STATUS 0 = s.rd .ALM_STATUS 0 := by
  simp only [State.almView, Prod.mk.injEq]

/-- A field reads as its register does. -/
theorem getF_of_rd {s t : State} {f : Fld} {n : Nat} (h : t.rd f.reg n = s.rd f.reg n) : t.getF f n = s.getF f n := by
  rw [State.getF, State.getF, h]

/-! ## What is due at a tick, and what has ended (R149, R173, R205) -/

/-- Entries that the last tick ended are freed in the milestone table, and nothing else changes. -/
theorem entriesFree_frame (s : State) : ∃ m, entriesFree s = { s with mst := m } := by
  unfold entriesFree
  generalize (s.liveEntries.filter fun p => p.2.ended).map (·.1) = l
  induction l generalizing s with
  | nil => exact ⟨s.mst, rfl⟩
  | cons e l ih => exact ih (entryFree e s)

theorem entriesFree_almView (s : State) : (entriesFree s).almView = s.almView := by
  obtain ⟨m, h⟩ := entriesFree_frame s
  rw [h]
  rfl

theorem entriesFree_none {s : State} (h : ∀ p ∈ s.liveEntries, p.2.ended = false) : entriesFree s = s := by
  have hnil : (s.liveEntries.filter fun p => p.2.ended) = [] := List.filter_eq_nil_iff.2 fun p hp => by simp [h p hp]
  rw [entriesFree, hnil]
  rfl

/-- A cycle that left nothing to be decided leaves the state. -/
theorem nextCycle_idle {s : State} (h : s.cyc = {}) : nextCycle s = s := by
  have hnone : (s.chansWhere fun n => s.cyc.trips.contains n) = [] := by
    rw [h]
    exact List.filter_eq_nil_iff.2 fun n _ => by simp
  rw [nextCycle, hnone, List.foldl_nil, ← h]

theorem servoIfDue_none {s : State} (h : s.alm.servoDue = none) : servoIfDue s = s := by simp only [servoIfDue, h]
theorem stepIfDue_none {s : State} (h : s.alm.stepDue = none) : stepIfDue s = s := by simp only [stepIfDue, h]
theorem stepIfDue_some {s : State} {p : Nat × Nat} (h : s.alm.stepDue = some p) : stepIfDue s = stepTo p.1 p.2 s := by simp only [stepIfDue, h]

/-- Where nothing is due and the last cycle left nothing, only ended entries are freed. -/
theorem timeOn_idle {s : State} (hd : s.alm.servoDue = none) (hs : s.alm.stepDue = none) (hc : s.cyc = {}) : timeOn s = entriesFree s := by
  have hc' : (entriesFree s).cyc = {} := by
    obtain ⟨m, h⟩ := entriesFree_frame s
    rw [h]
    exact hc
  rw [timeOn, servoIfDue_none hd, stepIfDue_none hs, nextCycle_idle hc']

/-- What a tick brings about beside a step does not touch the Almanac. -/
theorem timeOn_almView (s : State) : (timeOn s).almView = (stepIfDue (servoIfDue s)).almView :=
  (almView_nextCycle _).trans (entriesFree_almView _)

/-- The state that a write of ROLE gives the servo leaves the time and the step that is due. -/
theorem servoIfDue_time (s : State) :
    (servoIfDue s).alm.sec = s.alm.sec ∧ (servoIfDue s).alm.ns = s.alm.ns ∧ (servoIfDue s).alm.stepDue = s.alm.stepDue ∧ (servoIfDue s).up = s.up := by
  unfold servoIfDue servoTo
  split
  · exact ⟨rfl, rfl, rfl, rfl⟩
  · split <;> exact ⟨rfl, rfl, rfl, rfl⟩

theorem servoIfDue_epoch (s : State) : (servoIfDue s).getF F.ALM_STATUS_EPOCH 0 = s.getF F.ALM_STATUS_EPOCH 0 := by
  unfold servoIfDue
  split
  · rfl
  · exact getF_servoTo _ _ (by decide)

/-! ## The tick (R117, R141, R143) -/

/-- The tick in which NS passes 1,000,000,000, before a leap second and a load of the RTC. -/
def rolledOver (s : State) : State :=
  { s with up := s.up + 8, alm := { s.alm with
    sec := s.alm.sec + 1, ns := tickSum s / 2 ^ 32 - 1000000000, frac := tickSum s % 2 ^ 32 } }

theorem tickSum_eq (s : State) : s.alm.ns * 2 ^ 32 + s.alm.frac + s.alm.addend = tickSum s := rfl

theorem tick_within {s : State} (h : tickSum s / 2 ^ 32 < 1000000000) :
    tick s = { s with up := s.up + 8, alm := { s.alm with ns := tickSum s / 2 ^ 32, frac := tickSum s % 2 ^ 32 } } := if_pos h

theorem tick_within_frame {s : State} (h : tickSum s / 2 ^ 32 < 1000000000) :
    ∃ n f, tick s = { s with up := s.up + 8, alm := { s.alm with ns := n, frac := f } } := ⟨_, _, tick_within h⟩

theorem tick_rolled {s : State} (h : 1000000000 ≤ tickSum s / 2 ^ 32) : tick s = rtcLoadNow (leapApply (rolledOver s)) := if_neg h.not_gt

/-- A leap second changes registers, and nothing else. -/
theorem leapApply_frame (s : State) : ∃ l, leapApply s = { s with regs := l } := by
  unfold leapApply
  dsimp only
  split
  · exact ⟨_, rfl⟩
  · split <;> exact ⟨_, rfl⟩

/-- Of the registers it changes ALM_UTC alone. -/
theorem leapApply_rd (s : State) {r : Reg} {n : Nat} (h : (r, n) ≠ (.ALM_UTC, 0)) : (leapApply s).rd r n = s.rd r n := by
  unfold leapApply
  dsimp only
  split
  · exact (State.rd_setB_but h).trans (State.rd_setF_but h)
  · split
    · exact (State.rd_setB_but h).trans (State.rd_setF_but h)
    · rfl

section

variable {s : State}

/-- LEAP61 at its second raises the UTC offset and clears. -/
theorem leapApply_raises (h : s.flag F.ALM_UTC_LEAP61 0 = true) (hs : ((s.alm.sec : Int) - (s.utcOffset + 1)) % 86400 = 0) :
    (leapApply s).getF F.ALM_UTC_UTC_OFFSET 0 = codeOf 16 (s.utcOffset + 1) % 2 ^ 16 ∧ (leapApply s).flag F.ALM_UTC_LEAP61 0 = false := by
  rw [show leapApply s = (s.setF F.ALM_UTC_UTC_OFFSET 0 (codeOf 16 (s.utcOffset + 1))).setB F.ALM_UTC_LEAP61 0 false from if_pos ⟨h, hs⟩]
  exact ⟨(State.getF_setB_apart _ (by decide)).trans (State.getF_setF_eq s (by decide)), State.flag_setB_eq _ (by decide)⟩

/-- LEAP59 at its second lowers it and clears. -/
theorem leapApply_lowers (h61 : s.flag F.ALM_UTC_LEAP61 0 = false) (h : s.flag F.ALM_UTC_LEAP59 0 = true)
    (hs : ((s.alm.sec : Int) - (s.utcOffset - 1)) % 86400 = 0) :
    (leapApply s).getF F.ALM_UTC_UTC_OFFSET 0 = codeOf 16 (s.utcOffset - 1) % 2 ^ 16 ∧ (leapApply s).flag F.ALM_UTC_LEAP59 0 = false := by
  rw [show leapApply s = (s.setF F.ALM_UTC_UTC_OFFSET 0 (codeOf 16 (s.utcOffset - 1))).setB F.ALM_UTC_LEAP59 0 false from
    (if_neg (by simp [h61])).trans (if_pos ⟨h, hs⟩)]
  exact ⟨(State.getF_setB_apart _ (by decide)).trans (State.getF_setF_eq s (by decide)), State.flag_setB_eq _ (by decide)⟩

theorem leapApply_none (h61 : s.flag F.ALM_UTC_LEAP61 0 = false) (h59 : s.flag F.ALM_UTC_LEAP59 0 = false) : leapApply s = s :=
  (if_neg (by simp [h61])).trans (if_neg (by simp [h59]))

/-- A load of the RTC that is due takes the second that begins. -/
theorem rtcLoadNow_due (h : s.alm.rtcLoad = true) :
    rtcLoadNow s = { s with alm := { s.alm with rtcSec := s.alm.sec, rtcSub := 0, rtcAt := s.up, rtcValid := true, rtcLoad := false } } := if_pos h

end

/-- A load of the RTC changes the Almanac's part for the RTC alone. -/
theorem rtcLoadNow_frame (s : State) : ∃ sec sub up valid load, rtcLoadNow s =
    { s with alm := { s.alm with rtcSec := sec, rtcSub := sub, rtcAt := up, rtcValid := valid, rtcLoad := load } } := by
  unfold rtcLoadNow
  split <;> exact ⟨_, _, _, _, _, rfl⟩

/-- A whole second changes the registers, and the Almanac's part for the RTC. -/
theorem wholeSecond_frame (s : State) : ∃ sec sub up valid load, rtcLoadNow (leapApply s) =
    { s with
      regs := (leapApply s).regs
      alm := { s.alm with rtcSec := sec, rtcSub := sub, rtcAt := up, rtcValid := valid, rtcLoad := load } } := by
  obtain ⟨l, hl⟩ := leapApply_frame s
  obtain ⟨sec, sub, up, valid, load, hr⟩ := rtcLoadNow_frame (leapApply s)
  refine ⟨sec, sub, up, valid, load, ?_⟩
  rw [hr, hl]

theorem wholeSecond_regs (s : State) : (rtcLoadNow (leapApply s)).regs = (leapApply s).regs := by
  obtain ⟨_, _, _, _, _, h⟩ := wholeSecond_frame s
  rw [h]

/-- What a whole second leaves of the time, of what is due, and of the rest of the state. -/
theorem wholeSecond_keeps (s : State) :
    let t := rtcLoadNow (leapApply s)
    (t.alm.sec = s.alm.sec ∧ t.alm.ns = s.alm.ns ∧ t.alm.frac = s.alm.frac) ∧ (t.alm.servoDue = s.alm.servoDue ∧ t.alm.stepDue = s.alm.stepDue) ∧
      t.cyc = s.cyc ∧ t.up = s.up ∧ t.mem = s.mem ∧ t.sent = s.sent := by
  obtain ⟨_, _, _, _, _, h⟩ := wholeSecond_frame s
  rw [h]
  exact ⟨⟨rfl, rfl, rfl⟩, ⟨rfl, rfl⟩, rfl, rfl, rfl, rfl⟩

/-- A tick leaves what is due, and the clock of the model is one tick on. -/
theorem tick_due (s : State) :
    (tick s).alm.servoDue = s.alm.servoDue ∧ (tick s).alm.stepDue = s.alm.stepDue ∧ (tick s).cyc = s.cyc ∧ (tick s).up = s.up + 8 := by
  rcases Nat.lt_or_ge (tickSum s / 2 ^ 32) 1000000000 with h | h
  · obtain ⟨_, _, ht⟩ := tick_within_frame h
    rw [ht]
    exact ⟨rfl, rfl, rfl, rfl⟩
  · obtain ⟨-, ⟨hservo, hstep⟩, hcyc, hup, -⟩ := wholeSecond_keeps (rolledOver s)
    rw [tick_rolled h]
    exact ⟨hservo, hstep, hcyc, hup⟩

theorem tick_rd (s : State) {r : Reg} {n : Nat} (h : (r, n) ≠ (.ALM_UTC, 0)) : (tick s).rd r n = s.rd r n := by
  rcases Nat.lt_or_ge (tickSum s / 2 ^ 32) 1000000000 with hn | hn
  · obtain ⟨_, _, ht⟩ := tick_within_frame hn
    rw [ht]
    rfl
  · rw [tick_rolled hn, State.rd_of_regs (wholeSecond_regs _)]
    exact leapApply_rd (rolledOver s) h

/-! ## Steps (R132, R134) -/

theorem ageDesc_almanac (k : Nat) (s : State) : (ageDesc k s).alm = s.alm ∧ (ageDesc k s).regs = s.regs := by
  unfold ageDesc
  dsimp only
  split <;> exact ⟨rfl, rfl⟩

/-- AGED goes to the queues and the receive rings: the Almanac and the registers stay. -/
theorem ageQueues_almanac (s : State) : s.ageQueues.alm = s.alm ∧ s.ageQueues.regs = s.regs := by
  have hring (r : Nat) (t : State) : ((List.range 128).foldl (fun u d => ageDesc (128 * r + d) u) t).alm = t.alm ∧
      ((List.range 128).foldl (fun u d => ageDesc (128 * r + d) u) t).regs = t.regs :=
    ⟨foldl_keeps State.alm _ (fun u d => (ageDesc_almanac _ u).1) _ t, foldl_keeps State.regs _ (fun u d => (ageDesc_almanac _ u).2) _ t⟩
  have hqueue (t : State) (i : QId) : ((if (t.q i).recs = [] then t else t.setQ i (RecQ.ageAll i (t.q i))) : State).alm = t.alm ∧
      ((if (t.q i).recs = [] then t else t.setQ i (RecQ.ageAll i (t.q i))) : State).regs = t.regs := by
    split <;> exact ⟨rfl, rfl⟩
  exact ⟨(foldl_keeps State.alm _ (fun t r => (hring r t).1) _ _).trans (foldl_keeps State.alm _ (fun t i => (hqueue t i).1) _ s),
    (foldl_keeps State.regs _ (fun t r => (hring r t).2) _ _).trans (foldl_keeps State.regs _ (fun t i => (hqueue t i).2) _ s)⟩

theorem stepTo_eq (sec ns : Nat) (s : State) :
    stepTo sec ns s = (({ s with alm := { s.alm with sec := sec, ns := ns, frac := 0, stepDue := none } } : State).setF
      F.ALM_STATUS_EPOCH 0 (s.getF F.ALM_STATUS_EPOCH 0 + 1)).ageQueues := rfl

/-- A step gives the new time and counts EPOCH. -/
theorem stepTo_spec (sec ns : Nat) (s : State) :
    (stepTo sec ns s).alm = { s.alm with sec := sec, ns := ns, frac := 0, stepDue := none } ∧
      (stepTo sec ns s).getF F.ALM_STATUS_EPOCH 0 = (s.getF F.ALM_STATUS_EPOCH 0 + 1) % 2 ^ F.ALM_STATUS_EPOCH.wd := by
  obtain ⟨ha, hr⟩ := ageQueues_almanac (({ s with alm := { s.alm with sec := sec, ns := ns, frac := 0, stepDue := none } } : State).setF
    F.ALM_STATUS_EPOCH 0 (s.getF F.ALM_STATUS_EPOCH 0 + 1))
  exact ⟨ha, (State.getF_of_regs hr _ _).trans (State.getF_setF_eq _ (by decide))⟩

/-! ## The Almanac's registers (R120, R121, R123, R127, R128) -/

/-- A read of ALM_SEC_LO latches the rest of the time of its tick, for the master that reads. -/
theorem readSecLo_latches (m : Master) (s : State) :
    (readSecLo m s).2.rd .ALM_SEC_HI (bk m 0) = word (s.alm.sec / 2 ^ 32 % 65536) ∧ (readSecLo m s).2.rd .ALM_NS (bk m 0) = word s.alm.ns ∧
      (readSecLo m s).2.rd .ALM_SHORT_LAT (bk m 0) = word s.short ∧ (readSecLo m s).2.rd .ALM_WRAP (bk m 0) = word s.wrap := by
  unfold readSecLo
  refine ⟨?_, ?_, ?_, State.rd_wr_same _ _ _ _⟩
  · rw [State.rd_wr_ne _ (by decide), State.rd_wr_ne _ (by decide), State.rd_wr_ne _ (by decide), State.rd_wr_same]
  · rw [State.rd_wr_ne _ (by decide), State.rd_wr_ne _ (by decide), State.rd_wr_same]
  · rw [State.rd_wr_ne _ (by decide), State.rd_wr_same]

/-- A latching read changes registers: nothing is sent before its answer, and no memory is touched. -/
theorem readSecLo_kept (m : Master) (s : State) : (readSecLo m s).2.sent = s.sent ∧ (readSecLo m s).2.mem = s.mem := by
  unfold readSecLo
  exact ⟨by iterate 4 rw [State.wr_sent], by iterate 4 rw [State.wr_mem]⟩

theorem answerRead_sent (m : Master) (addr : Nat) (p : Word × State) :
    (State.answerRead m addr p).sent = [.value m addr p.1] ++ p.2.sent := rfl

theorem answerRead_mem (m : Master) (addr : Nat) (p : Word × State) : (State.answerRead m addr p).mem = p.2.mem := State.emit_mem _ _

theorem answerRead_rd (m : Master) (addr : Nat) (p : Word × State) (r : Reg) (n : Nat) : (State.answerRead m addr p).rd r n = p.2.rd r n :=
  State.rd_emit _ _ _ _

theorem readSecLo_rd (m : Master) (s : State) {r : Reg} {n : Nat}
    (h : (r, n) ∉ [(Reg.ALM_SEC_HI, bk m 0), (.ALM_NS, bk m 0), (.ALM_SHORT_LAT, bk m 0), (.ALM_WRAP, bk m 0)]) :
    (readSecLo m s).2.rd r n = s.rd r n := by
  simp only [List.mem_cons, List.not_mem_nil, or_false, not_or] at h
  obtain ⟨h1, h2, h3, h4⟩ := h
  exact (State.rd_wr_but h4).trans ((State.rd_wr_but h3).trans ((State.rd_wr_but h2).trans (State.rd_wr_but h1)))

section

variable {a : Nat} {s : State}

theorem addendCommit_accepted (hlo : addendMin ≤ a) (hhi : a ≤ addendMax) (hr : s.role = 0) :
    addendCommit a s = (.accepted, { s with alm := { s.alm with addend := a } }) :=
  (if_neg (not_or.2 ⟨hlo.not_gt, hhi.not_gt⟩)).trans (if_neg (not_not.2 hr))

theorem addendCommit_of_role (hlo : addendMin ≤ a) (hhi : a ≤ addendMax) (hr : s.role ≠ 0) : addendCommit a s = (.state, almRefuse s) :=
  (if_neg (not_or.2 ⟨hlo.not_gt, hhi.not_gt⟩)).trans (if_pos hr)

theorem addendCommit_outside (h : a < addendMin ∨ addendMax < a) : addendCommit a s = (.invalid, almRefuse s) := if_pos h

/-- A write of ALM_ADDEND_HI answers with what its commit says. -/
theorem exec_almAddendWrite {m : Master} {v : Word} {c : Code} {u : State}
    (h : addendCommit (F.ALM_ADDEND_HI_INT.of v * 2 ^ 32 + (s.rd .ALM_ADDEND_LO 0).toNat) s = (c, u)) :
    exec (.almAddendWrite m v) s = .next (finish s (u.emit (.written m 0x409 c))) :=
  ok_of_eq s (congrArg (fun r : Code × State => r.2.answered m 0x409 r.1) h)

end

section

variable {v : Word} {s : State}

theorem almCtrlWrite_refused (h : ctrlCheck v s ≠ .accepted) : almCtrlWrite v s = (ctrlCheck v s, almRefuse s) := by
  unfold almCtrlWrite
  split
  · next hc => exact absurd hc h
  · rfl

/-- ALM_CTRL after an accepted write: ROLE, CANCH and CANSYNC_TX are in force. -/
def ctrlTaken (v : Word) (s : State) : State :=
  (claimMove s ((roleSet (F.ALM_CTRL_ROLE.of v) s).setF F.ALM_CTRL_CANCH 0 (F.ALM_CTRL_CANCH.of v))).setB F.ALM_CTRL_CANSYNC_TX 0
    (F.ALM_CTRL_CANSYNC_TX.on v)

/-- The step of the values in ALM_SET is due. -/
def stepSet (s : State) : State :=
  { s with alm := { s.alm with
    stepDue := some ((s.rd .ALM_SET_SEC_LO 0).toNat + s.getF F.ALM_SET_SEC_HI_SET_SEC_HI 0 * 2 ^ 32, s.getF F.ALM_SET_NS_SET_NS 0) } }

theorem almCtrlWrite_accepted (h : ctrlCheck v s = .accepted) :
    almCtrlWrite v s = (.accepted, if F.ALM_CTRL_STEP.on v then stepSet (ctrlTaken v s) else ctrlTaken v s) := by
  simp only [almCtrlWrite, h]
  rfl

/-- A write with STEP set is the write itself. -/
theorem step_or_self (h : F.ALM_CTRL_STEP.on v = true) : v ||| word (2 ^ F.ALM_CTRL_STEP.lo) = v := by
  have hbit : v.getLsbD 6 = true := by
    simpa [Fld.on, Fld.of, bitsOf, F.ALM_CTRL_STEP, BitVec.getLsbD, Nat.testBit_eq_decide_div_mod_eq] using h
  have hword : word (2 ^ F.ALM_CTRL_STEP.lo) = BitVec.twoPow 32 6 := rfl
  ext i hi
  rw [hword, BitVec.getElem_or, BitVec.getElem_twoPow]
  by_cases h6 : i = 6
  · subst h6
    rw [show v[6] = true from hbit, Bool.true_or]
  · rw [decide_eq_false h6, Bool.or_false]

/-- A write of ALM_CTRL answers with what it came to. -/
theorem exec_almRole {m : Master} {c : Code} {u : State} (h : almCtrlWrite v s = (c, u)) :
    exec (.almRole m v) s = .next (finish s (u.emit (.written m 0x400 c))) :=
  ok_of_eq s (congrArg (fun r : Code × State => r.2.answered m 0x400 r.1) h)

theorem exec_almStepWrite {m : Master} {c : Code} {u : State} (hs : F.ALM_CTRL_STEP.on v = true) (h : almCtrlWrite v s = (c, u)) :
    exec (.almStepWrite m v) s = .next (finish s (u.emit (.written m 0x400 c))) :=
  ok_of_eq s (congrArg (fun r : Code × State => r.2.answered m 0x400 r.1) ((congrArg (fun w => almCtrlWrite w s) (step_or_self hs)).trans h))

end

theorem exec_almanacTick {s : State} (h : s.almRuns = true) : exec .almanacTick s = .next (finish s (timeOn (tick s))) := ok_of_eq s (if_pos h)

/-- A rollover is seen by a tick, and by NS_ROLLOVER. -/
theorem exec_rollover {c : Instr} {s : State} (hc : c = .almanacTick ∨ c = .nsRollover) (hr : s.almRuns = true)
    (hn : 1000000000 ≤ tickSum s / 2 ^ 32) : exec c s = .next (finish s (timeOn (tick s))) := by
  rcases hc with rfl | rfl
  · exact exec_almanacTick hr
  · exact ok_of_eq s (if_pos (by rw [hr, tickRolls, decide_eq_true hn]; rfl))

/-- Where nothing is due, a rollover is a whole second with the entries freed that have ended. -/
theorem timeOn_rolled {s : State} (hd : s.alm.servoDue = none) (hs : s.alm.stepDue = none) (hc : s.cyc = {})
    (hn : 1000000000 ≤ tickSum s / 2 ^ 32) : ∃ m, timeOn (tick s) = { rtcLoadNow (leapApply (rolledOver s)) with mst := m } := by
  obtain ⟨hservo, hstep, hcyc, -⟩ := tick_due s
  rw [timeOn_idle (hservo.trans hd) (hstep.trans hs) (hcyc.trans hc), tick_rolled hn]
  exact entriesFree_frame _

/-- The Almanac and the model's clock after a tick in which no step is due. -/
theorem timeOn_tick_time {s : State} (hs : s.alm.stepDue = none) :
    (timeOn (tick s)).alm.sec = (tick s).alm.sec ∧ (timeOn (tick s)).alm.ns = (tick s).alm.ns ∧ (timeOn (tick s)).up = s.up + 8 := by
  obtain ⟨-, hstep, -, hup⟩ := tick_due s
  obtain ⟨hsec, hns, hdue, hup'⟩ := servoIfDue_time (tick s)
  have hview := timeOn_almView (tick s)
  rw [stepIfDue_none ((hdue.trans hstep).trans hs)] at hview
  obtain ⟨halm, hclock, -⟩ := almView_iff.1 hview
  exact ⟨by rw [halm, hsec], by rw [halm, hns], by rw [hclock, hup', hup]⟩

/-- A step that is due is carried out in the tick. -/
theorem timeOn_tick_step {sec ns : Nat} {s : State} (hs : s.alm.stepDue = some (sec, ns)) :
    ((timeOn (tick s)).alm.sec = sec ∧ (timeOn (tick s)).alm.ns = ns ∧ (timeOn (tick s)).alm.stepDue = none) ∧
      (timeOn (tick s)).getF F.ALM_STATUS_EPOCH 0 = (s.getF F.ALM_STATUS_EPOCH 0 + 1) % 2 ^ F.ALM_STATUS_EPOCH.wd := by
  obtain ⟨-, hstep, -, -⟩ := tick_due s
  obtain ⟨-, -, hdue, -⟩ := servoIfDue_time (tick s)
  have hview := timeOn_almView (tick s)
  rw [stepIfDue_some ((hdue.trans hstep).trans hs)] at hview
  obtain ⟨ha, he⟩ := stepTo_spec sec ns (servoIfDue (tick s))
  obtain ⟨halm, -, hstatus⟩ := almView_iff.1 hview
  have hepoch : (tick s).getF F.ALM_STATUS_EPOCH 0 = s.getF F.ALM_STATUS_EPOCH 0 := getF_of_rd (tick_rd s (by decide))
  refine ⟨by rw [halm, ha]; exact ⟨rfl, rfl, rfl⟩, ?_⟩
  calc (timeOn (tick s)).getF F.ALM_STATUS_EPOCH 0
      = (stepTo sec ns (servoIfDue (tick s))).getF F.ALM_STATUS_EPOCH 0 :=
        getF_of_rd hstatus
    _ = _ := by rw [he, servoIfDue_epoch, hepoch]

/-- Settles O15: each clause from what the tick, the step and the registers do. -/
theorem almanacTime : Obligations.AlmanacTime := by
  refine ⟨⟨?within, ?idle, ?rollover, ?wrap, ?step⟩, ?secLo, ?short, ?addend, ?refused, ?accepted⟩
  case within => 
    intro s hr hn
    rw [tickSum_eq] at hn ⊢
    rw [exec_almanacTick hr, tick_within hn]
  case idle =>
    intro s hd hs hc he
    rw [timeOn_idle hd hs hc, entriesFree_none he]
  case rollover =>
    intro s c hc hr hd hs hcyc hn
    rw [tickSum_eq] at hn ⊢
    obtain ⟨m, hm⟩ := timeOn_rolled hd hs hcyc hn
    obtain ⟨⟨hsec, hns, hfrac⟩, -, -, hup, hmem, hsent⟩ := wholeSecond_keeps (rolledOver s)
    have hregs : (finish s (timeOn (tick s))).regs = (leapApply (rolledOver s)).regs := by
      rw [finish_regs, hm]
      exact wholeSecond_regs _
    have halm : (finish s (timeOn (tick s))).alm = (rtcLoadNow (leapApply (rolledOver s))).alm := by rw [finish_alm, hm]
    have hclock : (finish s (timeOn (tick s))).up = s.up + 8 := by
      rw [finish_up, hm]
      exact hup
    refine ⟨_, exec_rollover hc hr hn, ?_, ?_, ?_, hclock, fun r n hrn => ?_, State.memByte_of_mem ?_, sends_finish ?_, fun h61 hday => ?_,
      fun h61 h59 hday => ?_, fun h61 h59 => ?_, fun hload => ?_⟩
    · rw [halm, hsec]; rfl
    · rw [halm, hns, rolledOver]
    · rw [halm, hfrac]; rfl
    · rw [State.rd_of_regs hregs, leapApply_rd _ (pair_ne_of_notMem_singleton hrn)]; rfl
    · rw [finish_mem, hm]; exact hmem
    · rw [hm]; exact hsent
    · rw [State.getF_of_regs hregs, State.flag_of_regs hregs]
      exact leapApply_raises (s := rolledOver s) h61 hday
    · rw [State.getF_of_regs hregs, State.flag_of_regs hregs]
      exact leapApply_lowers (s := rolledOver s) h61 h59 hday
    · rw [State.rd_of_regs hregs, leapApply_none (s := rolledOver s) h61 h59]; rfl
    · obtain ⟨l, hl⟩ := leapApply_frame (rolledOver s)
      rw [hclock, halm, rtcLoadNow_due (by rw [hl]; exact hload), hl]
      exact ⟨rfl, rfl, rfl, rfl⟩
  case wrap =>
    intro s hr hs hw
    obtain ⟨hsec, hns, hup⟩ := timeOn_tick_time hs
    have hcount : (finish s (timeOn (tick s))).total = (tick s).total := by rw [State.total, finish_alm, hsec, hns, ← State.total]
    refine ⟨_, ok_of_eq s (if_pos (by simpa [hr] using hw)), ?_, hcount, by rw [finish_up, hup]⟩
    exact congrArg (· / 2 ^ 32) hcount
  case step =>
    intro sec ns s hs
    refine ⟨ok_of_eq s ((stepIfDue_some hs).trans (stepTo_eq sec ns s)), fun hr => ?_⟩
    obtain ⟨⟨hsec, hns, hnone⟩, hepoch⟩ := timeOn_tick_step hs
    exact ⟨_, exec_almanacTick hr, by rw [finish_alm, hsec], by rw [finish_alm, hns], by rw [finish_alm, hnone], by rw [getF_finish, hepoch]⟩
  case secLo =>
    intro m s
    obtain ⟨hhi, hns, hshort, hwrap⟩ := readSecLo_latches m s
    obtain ⟨hsent, hmem⟩ := readSecLo_kept m s
    have he : exec (.almSecLoRead m) s = .next (finish s (State.answerRead m 0x402 (readSecLo m s))) := rfl
    refine ⟨_, he, ?_, ?_, ?_, ?_, sends_finish ?_, State.memByte_of_mem ?_, fun r n hr => ?_⟩
    · rw [rd_finish, answerRead_rd, hhi]
    · rw [rd_finish, answerRead_rd, hns]
    · rw [rd_finish, answerRead_rd, hshort]
    · rw [rd_finish, answerRead_rd, hwrap]
    · rw [answerRead_sent, hsent]
      rfl
    · rw [finish_mem, answerRead_mem, hmem]
    · rw [rd_finish, answerRead_rd, readSecLo_rd m s hr]
  case short =>
    intro m s
    have he : exec (.almShortRead m) s = .next (finish s (State.answerRead m 0x405 (readShort m s))) := rfl
    refine ⟨_, he, ?_, sends_finish ?_, State.memByte_of_mem ?_, fun r n hr => ?_⟩
    · rw [rd_finish, answerRead_rd, readShort, State.rd_wr_same]
    · rw [answerRead_sent, readShort, State.wr_sent]
    · rw [finish_mem, answerRead_mem, readShort, State.wr_mem]
    · rw [rd_finish, answerRead_rd, readShort, State.rd_wr_but (pair_ne_of_notMem_singleton hr)]
  case addend =>
    rintro m v a s rfl
    exact ⟨fun hlo hhi hr => exec_almAddendWrite (addendCommit_accepted hlo hhi hr),
      fun hlo hhi hr => exec_almAddendWrite (addendCommit_of_role hlo hhi hr), fun h => exec_almAddendWrite (addendCommit_outside h)⟩
  case refused =>
    exact fun m v s h => exec_almRole (almCtrlWrite_refused h)
  case accepted =>
    rintro m v s u h rfl
    have hw := almCtrlWrite_accepted h
    refine ⟨fun hs => exec_almRole ?_, fun hs => exec_almStepWrite hs ?_⟩ <;>
      · rw [hw, hs]
        rfl

end Sys2Proof.Machine

/-! # PPS, the time message, the servo and the RTC (04_almanac.md, R129, R135, R136, R143, R145) -/

namespace Sys2Proof.Machine

/-! ## A PPS edge (R135, R136, R145) -/

/-- The state after an edge has been seen. -/
def State.ppsSeen (s : State) : State := { s with alm := { s.alm with ppsAt := some s.up } }

/-- An edge at `t` is taken over from the state `s`: its stamp, and the second that it is named for. -/
def ppsTaken (t : Nat) (named : Option Nat) (s : State) : State :=
  (({ s with alm := { s.alm with lastPps := some t, ppsSecond := named } } : State).wr .ALM_PPS_STAMP 0 (word t)).setB F.ALM_STATUS_PPS_OK 0 true

/-- Neither the stamp of an edge nor PPS_OK is part of the role. -/
theorem servoRole_ppsTaken (t : Nat) (named : Option Nat) (s : State) : (ppsTaken t named s).servoRole = s.servoRole := by
  have hr : (ppsTaken t named s).role = s.role := (State.getF_setB_ne _ (by decide)).trans (State.getF_wr_ne _ (by decide))
  have hd : (ppsTaken t named s).flag F.ALM_STATUS_GM_DEFERRED 0 = s.flag F.ALM_STATUS_GM_DEFERRED 0 :=
    (State.flag_setB_apart _ (by decide)).trans (State.flag_wr_ne _ (by decide))
  simp only [State.servoRole, hr, hd]

section

variable {p : Nat} {s : State}

/-- An edge within 1 s ± 1 ms of the last accepted one is accepted. -/
theorem ppsAccepted_in_window {t : Nat} (hp : s.alm.lastPps = some p) (h : p + 999000000 ≤ t ∧ t ≤ p + 1001000000) : ppsAccepted t s = true := by
  simp [ppsAccepted, hp, h]

/-- Outside ACQUIRE every other edge is not. -/
theorem ppsAccepted_outside {t : Nat} (h : ∀ p, s.alm.lastPps = some p → t < p + 999000000 ∨ p + 1001000000 < t) (hs : s.servo ≠ 1) :
    ppsAccepted t s = false := by
  cases hp : s.alm.lastPps with
  | none => simp [ppsAccepted, hp, hs]
  | some p =>
    have := h p hp
    simp [ppsAccepted, hp, hs]
    omega

/-- No message waits that was committed in the tick of an edge seen now. -/
theorem messageKept_same (h : ∀ m, s.alm.message = some m → m.commit ≠ s.total) : messageKept s = s := by
  unfold messageKept
  split
  · next m hm => exact if_neg (h m hm)
  · rfl

/-- A message is used up, and gives the UTC data where PPS is the source. -/
def messageUsed (m : Option TimeMessage) (s : State) : State :=
  match m with
  | some x =>
    let u := { s with alm := { s.alm with message := none } }
    if s.servoRole = 1 then utcSet x.utc u else u
  | none => s

/-- An edge with a named second goes to the servo where PPS is the source. -/
def ppsMeasured (t : Nat) (named : Option Nat) (s : State) : State :=
  match named with
  | some n => if s.servoRole = 1 then servoMeasure ((n * 1000000000 : Nat) - (t : Int)) s else s
  | none => s

/-- What an edge does in its parts: it is seen; then it is taken over, or counts as ignored. -/
theorem ppsEdge_eq (s : State) :
    ppsEdge s =
      let t := ppsStamp s
      let u := messageKept s.ppsSeen
      if ppsAccepted t u then ppsMeasured t (ppsNamed t u) (ppsTaken t (ppsNamed t u) (messageUsed (messageFor t s) u))
      else { u with alm := { u.alm with ppsIgnored := u.alm.ppsIgnored + 1 } } := rfl

/-- An edge that is not accepted counts as ignored. -/
theorem ppsEdge_ignored (ha : ppsAccepted (ppsStamp s) s.ppsSeen = false) (hm : ∀ m, s.alm.message = some m → m.commit ≠ s.total) :
    ppsEdge s = { s.ppsSeen with alm := { s.ppsSeen.alm with ppsIgnored := s.alm.ppsIgnored + 1 } } := by
  have hk : messageKept s.ppsSeen = s.ppsSeen := messageKept_same hm
  rw [ppsEdge_eq]
  dsimp only
  rw [hk]
  exact if_neg (by simp [ha])

/-- One that is accepted is taken over, and measured. -/
theorem ppsEdge_accepted (ha : ppsAccepted (ppsStamp s) s.ppsSeen = true) (hm : ∀ m, s.alm.message = some m → m.commit ≠ s.total) :
    ppsEdge s = ppsMeasured (ppsStamp s) (ppsNamed (ppsStamp s) s)
      (ppsTaken (ppsStamp s) (ppsNamed (ppsStamp s) s) (messageUsed (messageFor (ppsStamp s) s) s.ppsSeen)) := by
  have hk : messageKept s.ppsSeen = s.ppsSeen := messageKept_same hm
  rw [ppsEdge_eq]
  dsimp only
  rw [hk]
  exact if_pos ha

/-- An edge whose second has no message is named one second after the last one (assumption 12). -/
theorem ppsNamed_next {t : Nat} (hm : messageFor t s = none) : ppsNamed t s = s.alm.ppsSecond.map (· + 1) := by simp [ppsNamed, hm]

theorem ppsNamed_message {t : Nat} {m : TimeMessage} (hm : messageFor t s = some m) : ppsNamed t s = some m.second := by simp [ppsNamed, hm]

theorem messageFor_none (t : Nat) (hm : s.alm.message = none) : messageFor t s = none := by simp [messageFor, hm]

/-- A message committed 10 ms to 990 ms before an edge is that edge's. -/
theorem messageFor_some {t : Nat} {m : TimeMessage} (hm : s.alm.message = some m) (h : m.commit + 10000000 ≤ t ∧ t ≤ m.commit + 990000000) :
    messageFor t s = some m := by
  obtain ⟨hlo, hhi⟩ := h
  have hedge : m.forEdge t = true := decide_eq_true ⟨hlo, by split <;> omega⟩
  simp [messageFor, hm, hedge]

theorem ppsMeasured_elsewhere (t : Nat) (named : Option Nat) (hr : s.servoRole ≠ 1) : ppsMeasured t named s = s := by
  cases named <;> simp [ppsMeasured, hr]

theorem ppsMeasured_source {t n : Nat} (hr : s.servoRole = 1) : ppsMeasured t (some n) s = servoMeasure ((n * 1000000000 : Nat) - (t : Int)) s := by
  simp [ppsMeasured, hr]

theorem messageUsed_source {m : TimeMessage} (hr : s.servoRole = 1) :
    messageUsed (some m) s = { utcSet m.utc s with alm := { s.alm with message := none } } := by
  simp only [messageUsed, hr, if_true]
  rfl

end

theorem exec_ppsEdge {s u : State} (hr : s.almRuns = true) (hu : ppsEdge s = u) : exec .ppsEdge s = .next (finish s u) :=
  ok_of_eq s ((if_pos hr).trans hu)

/-- In role GM a commit's message waits for its edge, and one that waited already is discarded and counted (R135, R152). -/
theorem timeMessageCommit_source {s : State} (sec : Nat) (hr : s.role = 1) :
    timeMessageCommit sec s = (.accepted, { s with alm := { s.alm with
      discarded := if s.alm.message = none then s.alm.discarded else s.alm.discarded + 1
      message := some { second := sec % 2 ^ 48, utc := s.alm.utcStaged, commit := s.total, atEdge := s.alm.ppsAt == some s.up } } }) := by
  cases hm : s.alm.message <;> simp [timeMessageCommit, hr, hm]

/-! ## The servo's holdover (R129) -/

/-- Without a measurement the servo holds over at the mean addend. -/
theorem holdover_spec {s : State} (hs : s.servo = 1 ∨ s.servo = 2) :
    let u := servoTo 3 { s with alm := { s.alm with addend := meanAddend s } }
    let t := finish s u
    t.servo = 3 ∧ t.alm.addend = meanAddend s ∧ t.alm.holdSince = s.up ∧ t.alm.addends = s.alm.addends ∧ sends s t [] ∧ memSame s t ∧
      regsBut s t [(.ALM_STATUS, 0)] := by
  intro u t
  have hservo : u.servo = 3 := servo_servoTo _ (by decide)
  have hne : ({ s with alm := { s.alm with addend := meanAddend s } } : State).servo ≠ 3 := by
    have hsame : ({ s with alm := { s.alm with addend := meanAddend s } } : State).servo = s.servo := rfl
    omega
  have hu : u = _ := servoTo_entered hne
  refine ⟨(getF_finish s u _ _).trans hservo, ?_, ?_, ?_, sends_finish (by rw [hu]; rfl), fun a => ?_, fun r n hr => ?_⟩
  · rw [finish_alm, hu]
  · rw [finish_alm, hu]
  · rw [finish_alm, hu]
  · rw [memByte_finish, hu]; rfl
  · rw [rd_finish, hu]
    exact State.rd_setF_but (pair_ne_of_notMem_singleton hr)

/-! ## The RTC (R143) -/

/-- While LOCKED the RTC is to be loaded, and its TRIM is corrected. -/
theorem rtcAlign_locked {s : State} (hs : s.servo = 2) :
    let t := finish s (rtcAlign s)
    t.alm.rtcLoad = true ∧ t.getF F.NET_RTC_TRIM_TRIM 0 = codeOf 16 (clampInt (-2000) 2000 (Config.rtcTrim s.fresh)) % 2 ^ 16 ∧
      regsBut s t [(.NET_RTC_TRIM, 0)] := by
  intro t
  have ha : rtcAlign s = (({ s with alm := { s.alm with rtcLoad := true } } : State).rtcRebase.setF F.NET_RTC_TRIM_TRIM 0
      (codeOf 16 (clampInt (-2000) 2000 (Config.rtcTrim s.fresh)))).used := if_pos hs
  refine ⟨?_, ?_, fun r n hr => ?_⟩
  · rw [finish_alm, ha]; rfl
  · rw [getF_finish, ha, State.getF_used]
    exact State.getF_setF_eq _ (by decide)
  · rw [rd_finish, ha, State.rd_used, State.rd_setF_but (pair_ne_of_notMem_singleton hr)]
    rfl

/-- Settles O16, clause by clause: what becomes of an edge, of a time message, of the servo and of the RTC. -/
theorem almanacSources : Obligations.AlmanacSources := by
  refine ⟨?edge, ?ignored, ?okTimeout, ?holdover, ?commit, ?discard, ?align, ?trim⟩
  case edge =>
    rintro p _ s u hruns rfl hp hlo hhi
    have ha : ppsAccepted (ppsStamp s) s.ppsSeen = true := ppsAccepted_in_window (s := s.ppsSeen) hp ⟨hlo, hhi⟩
    refine ⟨fun hm hu => ?unnamed, fun m hm hc1 hc2 hrole ht hu => ?named⟩
    case unnamed =>
      have hseen := ppsEdge_accepted ha (by simp [hm])
      rw [messageFor_none _ hm, ppsNamed_next (messageFor_none _ hm)] at hseen
      refine ⟨fun hrole => exec_ppsEdge hruns ?_, fun n hrole hn => exec_ppsEdge hruns ?_⟩
      · rw [hseen, ppsMeasured_elsewhere _ _ (by rw [servoRole_ppsTaken]; exact hrole), hu]
        rfl
      · have hu' : u = ppsTaken (ppsStamp s) (some (n + 1)) s.ppsSeen := by rw [hu, hn]; rfl
        rw [hseen, hn, hu']
        exact ppsMeasured_source ((servoRole_ppsTaken _ _ _).trans hrole)
    case named =>
      have hmf := messageFor_some hm ⟨hc1, hc2⟩
      have hseen := ppsEdge_accepted ha (by simp only [hm, Option.some.injEq]; rintro _ rfl; omega)
      have hused := messageUsed_source (m := m) (s := s.ppsSeen) hrole
      have hu' : u = ppsTaken (ppsStamp s) (some m.second) (messageUsed (some m) s.ppsSeen) := by
        rw [hu, hused]
        rfl
      rw [hmf, ppsNamed_message hmf, ← hu'] at hseen
      refine exec_ppsEdge hruns (hseen.trans (ppsMeasured_source ?_))
      rw [hu', servoRole_ppsTaken, hused]
      exact (servoRole_utcSet _ _).trans hrole
  case ignored =>
    intro s hruns hout hs hm
    exact exec_ppsEdge hruns (ppsEdge_ignored (ppsAccepted_outside (s := s.ppsSeen) hout hs) hm)
  case okTimeout => exact fun s => rfl
  case holdover => exact fun s hs => ⟨_, ok_of_eq s (if_pos hs), holdover_spec hs⟩
  case commit =>
    intro p sec s
    have he : exec (.timeMessageCommit p sec) s = execTimeMessageCommit p sec s := rfl
    refine ⟨fun hr => ?_, fun hr => ?_⟩
    · rw [he, execTimeMessageCommit, timeMessageCommit_source sec hr]
      rfl
    · rw [he]
      simp [execTimeMessageCommit, timeMessageCommit, ok, hr]
  case discard =>
    intro m s hm
    have he : exec .timeMessageDiscard s = execTimeMessageDiscard s := rfl
    rw [he]
    simp only [execTimeMessageDiscard, ok, hm]
  case align => exact fun s hv hs => ok_of_eq s ((if_pos hv).trans (if_neg hs))
  case trim => exact fun s hv hs => ⟨_, ok_of_eq s (if_pos hv), rtcAlign_locked hs⟩

end Sys2Proof.Machine

/-! # CAN time sync (04_almanac.md, R139, R140, R149, R152) -/

namespace Sys2Proof.Machine

/-! ## The follower -/

/-- A frame of the sync pair reaches a follower: it is whole, of the type named, and its sender is not muted. -/
def State.syncHears (s : State) (typ : Nat) (d : List Byte) : Prop :=
  s.role = 3 ∧ d.length = 8 ∧ byteAt d 0 = typ ∧ syncMuted s = false

/-- Such a frame has its effect. -/
theorem syncFrame_acts {typ : Nat} {d : List Byte} {s t : State} (h : s.syncHears typ d) :
    (if s.role = 3 ∧ d.length = 8 ∧ byteAt d 0 = typ ∧ ! syncMuted s then t else s) = t := by
  obtain ⟨hr, hl, ht, hm⟩ := h
  exact if_pos ⟨hr, hl, ht, by rw [hm]; rfl⟩

theorem exec_tsync {d : List Byte} (sof : Nat) {s : State} (h : s.syncHears 0x10 d) :
    exec (.tsync d sof) s = .next (finish s { s with alm := { s.alm with tsync := some (tsyncOf d sof) } }) :=
  ok_of_eq s (syncFrame_acts h)

theorem exec_fup {d : List Byte} {s u : State} (h : s.syncHears 0x18 d) (hu : fupReceive d s = u) :
    exec (.fup d) s = .next (finish s u) :=
  ok_of_eq s ((syncFrame_acts h).trans hu)

section

variable {d : List Byte} {w : TsyncWait} {s : State}

/-- A FUP of another sequence is a violation, and the TSYNC waits on (R152). -/
theorem fupReceive_other_seq (hw : s.alm.tsync = some w) (hq : byteAt d 1 / 16 ≠ w.seq) :
    fupReceive d s = s.violation 3 0x05 (s.getF F.ALM_CTRL_CANCH 0 * 65536) := by
  simp [fupReceive, hw, hq]

/-- A FUP in time and with a reference gives the time of its TSYNC's start of frame (R140). -/
theorem fupReceive_measures {ref : Nat} (hw : s.alm.tsync = some w) (hq : byteAt d 1 / 16 = w.seq) (ht : s.total ≤ w.sof + 100000000)
    (hr : syncReference w s = some ref) :
    fupReceive d s = servoMeasure
      (((nearestSecond (beField d 6 2) ref * 1000000000 + beField d 2 4 % 2 ^ 30 + s.getF F.ALM_CANSYNC_PROP 0 : Nat) : Int) - (w.sof : Int))
      (utcSet (tsyncUtc w) { s with alm := { s.alm with tsync := none } }) := by
  simp [fupReceive, hw, hq, hr, Nat.not_lt.2 ht]

/-- A late FUP, and one without a reference, drop the TSYNC (R140, R152). -/
theorem fupReceive_drops (hw : s.alm.tsync = some w) (hq : byteAt d 1 / 16 = w.seq)
    (h : w.sof + 100000000 < s.total ∨ syncReference w s = none) :
    fupReceive d s = { s with alm := { s.alm with tsync := none } } := by
  rcases h with h | h <;> simp [fupReceive, hw, hq, h]

end

/-! ## The producer -/

/-- While its channel runs and sends, a frame of the pair leaves on it. -/
theorem canSyncSend_sends {s : State} (id : Nat) (d : List Byte) (hc : s.canOn (s.getF F.ALM_CTRL_CANCH 0) = true)
    (hs : s.canSends (s.getF F.ALM_CTRL_CANCH 0) = true) :
    canSyncSend id d s = s.emit (.canFrame (s.getF F.ALM_CTRL_CANCH 0) id d) := by
  simp [canSyncSend, hc, hs]

theorem exec_canSyncProduce_idle {s u : State} (hu : s.applyHeld .ALM_CANSYNC 0 = u) (hp : u.producesSync = false) :
    exec .canSyncProduce s = .next (finish s u) := by
  subst hu
  exact ok_of_eq s (if_neg (by simp [hp]))

theorem exec_canSyncProduce_sends {s : State} (hh : s.heldOf .ALM_CANSYNC 0 = none) (hp : s.producesSync = true)
    (hc : s.canOn (s.getF F.ALM_CTRL_CANCH 0) = true) (hs : s.canSends (s.getF F.ALM_CTRL_CANCH 0) = true) :
    exec .canSyncProduce s = .next (finish s
      { s.emit (.canFrame (s.getF F.ALM_CTRL_CANCH 0) (s.getF F.ALM_CANSYNC_ID 0) (tsyncData s)) with
        alm := { s.alm with txFup := some s.alm.txSeq, txSeq := (s.alm.txSeq + 1) % 16 } }) := by
  have he : exec .canSyncProduce s = execCanSyncProduce s := rfl
  rw [he]
  simp only [execCanSyncProduce, ok, s.applyHeld_none hh, hp, if_true, canSyncSend_sends _ _ hc hs, State.emit_alm]

theorem exec_canSyncFupSend {s : State} {sof q : Nat} (hq : s.alm.txFup = some q)
    (hc : s.canOn (s.getF F.ALM_CTRL_CANCH 0) = true) (hs : s.canSends (s.getF F.ALM_CTRL_CANCH 0) = true) :
    exec (.canSyncFupSend sof) s = .next (finish s
      { s.emit (.canFrame (s.getF F.ALM_CTRL_CANCH 0) (s.getF F.ALM_CANSYNC_ID 0 + 1) (fupData q sof)) with
        alm := { s.alm with txFup := none } }) := by
  have he : exec (.canSyncFupSend sof) s = execCanSyncFupSend sof s := rfl
  rw [he]
  simp only [execCanSyncFupSend, ok, hq, canSyncSend_sends _ _ hc hs, State.emit_alm]

/-- A frame that leaves, with a change of the Almanac's state beside its registers, changes nothing else. -/
theorem sentWithAlm_spec (s : State) (ch id : Nat) (d : List Byte) (a : Almanac) :
    let t := finish s { s.emit (.canFrame ch id d) with alm := a }
    sends s t [.canFrame ch id d] ∧ t.alm = a ∧ regsSame s t ∧ memSame s t := by
  refine ⟨sends_finish rfl, finish_alm _ _, fun r n => ?_, fun b => ?_⟩
  · rw [rd_finish]; rfl
  · rw [memByte_finish]; rfl

/-- The role is no part of ALM_CANSYNC. -/
theorem role_wr_cansync (s : State) (w : Word) : ((s.unhold .ALM_CANSYNC 0).wr .ALM_CANSYNC 0 w).role = s.role :=
  State.getF_wr_ne _ (by decide)

/-- Settles O17, clause by clause: what each frame of the pair does to a follower, and what the producer sends. -/
theorem canSync : Obligations.CanSync := by
  refine ⟨?tsync, ?fup, ?timeout, ?produce, ?apply, ?fupSend⟩
  case tsync => exact fun d sof s hr hl ht hm => exec_tsync sof ⟨hr, hl, ht, hm⟩
  case fup =>
    rintro d w s u hr hl ht hm hw rfl
    have hh : s.syncHears 0x18 d := ⟨hr, hl, ht, hm⟩
    exact ⟨fun hq => exec_fup hh (fupReceive_other_seq hw hq), fun ref hq hs href => exec_fup hh (fupReceive_measures hw hq hs href),
      fun hq h => exec_fup hh (fupReceive_drops hw hq h)⟩
  case timeout => exact fun s => rfl
  case produce =>
    intro s hh hr htx hc hs
    have hp : s.producesSync = true := by simp [State.producesSync, hr, htx]
    obtain ⟨hsent, halm, hregs, hmem⟩ := sentWithAlm_spec s (s.getF F.ALM_CTRL_CANCH 0) (s.getF F.ALM_CANSYNC_ID 0) (tsyncData s)
      { s.alm with txFup := some s.alm.txSeq, txSeq := (s.alm.txSeq + 1) % 16 }
    exact ⟨_, exec_canSyncProduce_sends hh hp hc hs, hsent, by rw [halm], by rw [halm], hregs, hmem⟩
  case apply =>
    intro w s hw hr
    refine exec_canSyncProduce_idle (by simp only [State.applyHeld, hw]) ?_
    simp [State.producesSync, role_wr_cansync, hr]
  case fupSend =>
    intro sof q s hq hc hs
    obtain ⟨hsent, halm, hregs, hmem⟩ := sentWithAlm_spec s (s.getF F.ALM_CTRL_CANCH 0) (s.getF F.ALM_CANSYNC_ID 0 + 1) (fupData q sof)
      { s.alm with txFup := none }
    exact ⟨_, exec_canSyncFupSend hq hc hs, by rw [halm], hregs, hmem, hsent⟩

end Sys2Proof.Machine

/-! # gPTP (04_almanac.md, R137, R138, R146 to R148) -/

namespace Sys2Proof.Machine

/-! ## Sync (R138, R147) -/

section

variable {m : PtpSync} {s : State}

theorem ptpSyncReceive_bad (hm : s.mutedPartner 6 m.port.val = false) (hb : ptpBad s m.bad m.domain m.port.val = true) :
    ptpSyncReceive m s = s.violation 6 0x0A m.port.val := by
  simp [ptpSyncReceive, hm, hb]

/-- A one-step Sync on the slave port is complete. -/
theorem ptpSyncReceive_one_step (hm : s.mutedPartner 6 m.port.val = false) (hb : ptpBad s m.bad m.domain m.port.val = false)
    (hp : s.slavePort m.port.val = true) (hf : m.followUp = false) (ht : m.twoStep = false) : ptpSyncReceive m s = syncComplete m s := by
  simp [ptpSyncReceive, hm, hb, hp, hf, ht]

/-- A two-step Sync on the slave port is forwarded as it is, and waits for its Follow_Up. -/
theorem ptpSyncReceive_two_step (hm : s.mutedPartner 6 m.port.val = false) (hb : ptpBad s m.bad m.domain m.port.val = false)
    (hp : s.slavePort m.port.val = true) (hf : m.followUp = false) (ht : m.twoStep = true) :
    ptpSyncReceive m s =
      { s.emits ((s.ptpPortsBut m.port.val).map fun k => .ptpSyncTwo k m.seq) with alm := { s.alm with twoStep := some m } } := by
  simp [ptpSyncReceive, hm, hb, hp, hf, ht]

/-- A follower measures a complete Sync before it forwards it. -/
theorem syncComplete_follower (hr : s.servoRole = 2) : syncComplete m s = syncForward m (servoMeasure (syncOffset m s) s).used := by
  simp [syncComplete, hr]

end

/-! ## Announce (R137, R146) -/

/-- The state in which a clock is selected that is heard now. -/
def State.withGm (s : State) (a : Announce) : State := { s with alm := { s.alm with gm := some a, gmAt := s.up } }

/-- With no clock selected, an Announce selects its clock; the BMCA acts on it, and a follower takes its UTC data. -/
theorem announceReceive_first {a : Announce} {s t : State} (hm : s.mutedPartner 6 a.port.val = false)
    (hb : ptpBad s a.bad a.domain a.port.val = false) (hg : s.alm.gm = none) (ht : bmcaAct none (s.withGm a) = t) :
    announceReceive a s = if t.servoRole = 2 ∧ t.slavePort a.port.val then utcSet (announceUtc a) t else t := by
  have hs : bmcaSelect a s = some a := by simp [bmcaSelect, hg]
  subst ht
  simp only [announceReceive, hm, hb, hg, hs, Bool.false_eq_true, if_false, if_true]
  rfl

/-- A module in role FREE only notes the clock. -/
theorem bmcaAct_free {a : Announce} {s : State} (hr : s.role = 0) : bmcaAct none (s.withGm a) = s.withGm a := by
  have hr' : (s.withGm a).role = 0 := hr
  have hg : (s.withGm a).alm.gm = some a := rfl
  simp [bmcaAct, hg, hr']

/-- A grandmaster defers to a better clock, and acquires. -/
theorem bmcaAct_defers {a : Announce} {s : State} (hr : s.role = 1) (hd : s.flag F.ALM_STATUS_GM_DEFERRED 0 = false)
    (hk : rankBetter (rankOf a) s.ownRank = true) :
    bmcaAct none (s.withGm a) = servoTo 1 ((s.withGm a).setB F.ALM_STATUS_GM_DEFERRED 0 true) := by
  have hr' : (s.withGm a).role = 1 := hr
  have hd' : (s.withGm a).flag F.ALM_STATUS_GM_DEFERRED 0 = false := hd
  have hk' : rankBetter (rankOf a) (s.withGm a).ownRank = true := hk
  have hg : (s.withGm a).alm.gm = some a := rfl
  simp [bmcaAct, hg, hr', hd', hk']

theorem flag_servoTo_deferred (n : Nat) (s : State) :
    (servoTo n s).flag F.ALM_STATUS_GM_DEFERRED 0 = s.flag F.ALM_STATUS_GM_DEFERRED 0 :=
  congrArg (· != 0) (getF_servoTo n s (by decide))

/-- The UTC data of a source, taken or not, changes nothing of the Almanac but ALM_UTC. -/
theorem utcSet_if_spec (c : Prop) [Decidable c] (u : Nat) (s : State) :
    let t := if c then utcSet u s else s
    t.alm = s.alm ∧ t.servo = s.servo ∧ t.flag F.ALM_STATUS_GM_DEFERRED 0 = s.flag F.ALM_STATUS_GM_DEFERRED 0 := by
  intro t
  by_cases h : c
  · have ht : t = utcSet u s := if_pos h
    rw [ht]
    exact ⟨rfl, State.getF_wr_ne s (by decide), State.flag_wr_ne s (by decide)⟩
  · have ht : t = s := if_neg h
    rw [ht]
    exact ⟨rfl, rfl, rfl⟩

/-! ## The announce receipt timeout (R137, R146) -/

theorem gmExpire_heard {s : State} (h : s.alm.gm = none ∨ s.up < s.alm.gmAt + 3000000000) : gmExpire s = s := by
  refine if_neg fun hx => ?_
  obtain ⟨hgm, hup⟩ := hx
  rcases h with h | h
  · simp [h] at hgm
  · omega

theorem gmExpire_lost {a : Announce} {s : State} (hg : s.alm.gm = some a) (h : s.alm.gmAt + 3000000000 ≤ s.up) : gmExpire s = gmLost s :=
  if_pos ⟨by rw [hg]; rfl, h⟩

/-- The clock that is given up is selected no more, and the module no longer defers to it. -/
theorem gmLost_spec (s : State) :
    (gmLost s).alm.gm = none ∧ (s.role = 1 → (gmLost s).flag F.ALM_STATUS_GM_DEFERRED 0 = false) := by
  unfold gmLost
  dsimp only
  split
  · exact ⟨servoTo_gm _ _, fun _ => (flag_servoTo_deferred _ _).trans (State.flag_setB_eq _ (by decide))⟩
  · next h => exact ⟨rfl, fun hr => Bool.eq_false_iff.2 fun hd => h ⟨hr, hd⟩⟩

/-! ## The peer delay (R146, R148) -/

section

variable {p : Fin 8} {delay : Nat} {s : State}

/-- An exchange on a fitted port that is up, where no setting waits. -/
theorem exec_peerDelayExchange {u : State} (hf : ethFitted s.variant p.val = true) (hl : (s.ptpPort p.val).linkUp = true)
    (hu : peerDelay p.val delay s = u) : exec (.peerDelayExchange p delay) s = .next (finish s u) :=
  ok_of_eq s ((if_pos ⟨hf, hl⟩).trans hu)

theorem almApply_phycal_none {n : Nat} (hh : s.heldOf .ALM_PHYCAL n = none) : almApply .ALM_PHYCAL n s = s := by
  simp [almApply, hh, s.applyHeld_none hh]

/-- The port after an exchange. -/
def PtpPort.exchanged (x : PtpPort) (delay : Nat) : PtpPort :=
  { x with delay := delay, exchanges := x.exchanges + 1, asCapable := decide (delay ≤ 12800) }

/-- The sixteenth exchange after link-up is the port's baseline. -/
theorem peerDelay_baseline {n : Nat} (hh : s.heldOf .ALM_PHYCAL n = none) (hx : (s.ptpPort n).exchanges = 15) :
    peerDelay n delay s = (((s.setPtpPort n ((s.ptpPort n).exchanged delay)).setF F.ALM_PHYCAL_BASE n delay).setB F.ALM_PHYCAL_BASE_VALID n
      true).setPtpPort n { (s.ptpPort n).exchanged delay with adjAt := s.up } := by
  simp only [peerDelay, almApply_phycal_none hh]
  exact if_pos (by simp [hx])

/-- Before it an exchange gives the port its delay, and its capability. -/
theorem peerDelay_early {n : Nat} (hh : s.heldOf .ALM_PHYCAL n = none) (hx : (s.ptpPort n).exchanges < 15)
    (hb : s.flag F.ALM_PHYCAL_BASE_VALID n = false) : peerDelay n delay s = s.setPtpPort n ((s.ptpPort n).exchanged delay) := by
  simp only [peerDelay, almApply_phycal_none hh]
  rw [if_neg (by simp; omega), if_neg (by simp [hb])]
  rfl

end

@[simp] theorem ptpPort_finish (s t : State) (n : Nat) : (finish s t).ptpPort n = t.ptpPort n := by simp [State.ptpPort]

/-- Settles O18, clause by clause from what each frame and each transmission does. -/
theorem gptp : Obligations.Gptp := by
  refine ⟨?sync, ?transmit, ?announce, ?announceTransmit, ?request, ?exchange, ?absent⟩
  case sync =>
    intro m s hm
    refine ⟨fun hb => ok_of_eq s (ptpSyncReceive_bad hm hb), fun hb hp hf ht hr => ?_, fun hb hp hf ht => ok_of_eq s (ptpSyncReceive_two_step hm hb hp hf ht)⟩
    exact ok_of_eq s ((ptpSyncReceive_one_step hm hb hp hf ht).trans (syncComplete_follower hr))
  case transmit => exact fun s => ⟨fun h => ok_of_eq s (if_pos h), fun h => ok_of_eq s (if_neg (by simp [h]))⟩
  case announce =>
    intro a s hm hb hg
    refine ⟨fun hr => ?free, fun hr hd hk => ?grandmaster⟩
    case free =>
      have hrole : (s.withGm a).servoRole = 0 := servoRole_of_free hr
      exact ok_of_eq s ((announceReceive_first hm hb hg (bmcaAct_free hr)).trans (if_neg (by simp [hrole])))
    case grandmaster =>
      have hdefer : ((s.withGm a).setB F.ALM_STATUS_GM_DEFERRED 0 true).flag F.ALM_STATUS_GM_DEFERRED 0 = true := State.flag_setB_eq _ (by decide)
      set t := servoTo 1 ((s.withGm a).setB F.ALM_STATUS_GM_DEFERRED 0 true) with ht
      obtain ⟨halm, hservo, hflag⟩ := utcSet_if_spec (t.servoRole = 2 ∧ t.slavePort a.port.val) (announceUtc a) t
      refine ⟨_, ok_of_eq s (announceReceive_first hm hb hg (bmcaAct_defers hr hd hk)), ?_⟩
      exact ⟨by rw [finish_alm, halm, ht, servoTo_gm]; rfl, by rw [flag_finish, hflag, ht, flag_servoTo_deferred, hdefer],
        (getF_finish s _ _ _).trans (hservo.trans (servo_servoTo _ (by decide)))⟩
  case announceTransmit =>
    refine fun s => ⟨fun h => ok_of_eq s (congrArg announceSend (gmExpire_heard h)), ?_⟩
    rintro a u hg h rfl
    exact ⟨ok_of_eq s (congrArg announceSend (gmExpire_lost hg h)), gmLost_spec s⟩
  case request => exact fun p s hf hl => ok_of_eq s (if_pos ⟨hf, hl⟩)
  case exchange =>
    intro p delay s hf hl hh
    refine ⟨fun hx => ⟨_, exec_peerDelayExchange hf hl (peerDelay_baseline hh hx), ?_⟩,
      fun hx hb => exec_peerDelayExchange hf hl (peerDelay_early hh hx hb)⟩
    simp only [ptpPort_finish, State.ptpPort_setPtpPort_same, getF_finish, flag_finish, State.getF_setPtpPort, State.flag_setPtpPort]
    refine ⟨rfl, congrArg (· + 1) hx, rfl, ?_, State.flag_setB_eq _ (by decide), fun r n hr => ?_⟩
    · rw [State.getF_setB_apart _ (by decide), State.getF_setF_eq _ (by decide)]
    · have hr' : (r, n) ≠ (.ALM_PHYCAL, p.val) := by simpa using hr
      rw [rd_finish, State.rd_setPtpPort, State.rd_setB_but hr', State.rd_setF_but hr', State.rd_setPtpPort]
  case absent => exact fun p s hf => ok_of_eq s (if_neg (by simp [hf]))

end Sys2Proof.Machine

/-! # Milestones: admission, cancelling and running (05_milestones_timers.md, R159 to R177) -/

namespace Sys2Proof.Machine

/-! ## Commands in MST_CMD (R159, R160) -/

section

variable {m : Master} {w : Word} {s : State}

theorem mstCmdWrite_submit (hr : reservedSet .MST_CMD w = false) (ho : F.MST_CMD_OP.of w = 1) :
    mstCmdWrite m w s = ((submit m (s.staged m) s).1,
      mstResult m (submit m (s.staged m) s).1 (submit m (s.staged m) s).2.1 (reqWord (s.staged m) 0) (submit m (s.staged m) s).2.2) := by
  simp only [mstCmdWrite, hr, ho, if_true, Bool.false_eq_true, if_false]

theorem mstCmdWrite_cancel (hr : reservedSet .MST_CMD w = false) (ho : F.MST_CMD_OP.of w = 2) :
    mstCmdWrite m w s = ((cancelTag (F.MST_CMD_TAG.of w) s).1,
      mstResult m (cancelTag (F.MST_CMD_TAG.of w) s).1 0 (F.MST_CMD_TAG.of w) (cancelTag (F.MST_CMD_TAG.of w) s).2) := by
  simp [mstCmdWrite, hr, ho]

/-- A write of MST_CMD is answered with its decision. -/
theorem mstAccess_cmd {c : Code} {u : State} (h : mstCmdWrite m w s = (c, u)) : mstAccess m .MST_CMD 0 w s = u.emit (.written m 0x500 c) :=
  congrArg (fun p : Code × State => p.2.answered m 0x500 p.1) h

end

/-- The command word of a cancel: no reserved bit, its operation and its tag. -/
theorem cancelWord_fields {tag : Nat} (h : tag < 65536) :
    reservedSet .MST_CMD (word (2 + 0x10000 * tag)) = false ∧ F.MST_CMD_OP.of (word (2 + 0x10000 * tag)) = 2 ∧
      F.MST_CMD_TAG.of (word (2 + 0x10000 * tag)) = tag := by
  have hn : (word (2 + 0x10000 * tag)).toNat = 2 + 0x10000 * tag := by rw [word_toNat, Nat.mod_eq_of_lt (by omega)]
  refine ⟨?_, ?_, ?_⟩
  · have hand : word (2 + 0x10000 * tag) &&& word Reg.MST_CMD.desc.rsv = 0 := by
      apply BitVec.eq_of_toNat_eq
      have hlow : (word Reg.MST_CMD.desc.rsv).toNat < 2 ^ 16 := by decide
      rw [BitVec.toNat_and, hn, ← Nat.mod_eq_of_lt (Nat.and_lt_two_pow _ hlow), Nat.and_mod_two_pow, Nat.add_mul_mod_self_left]
      decide
    simp [reservedSet, hand]
  · rw [Fld.of, hn]
    simp only [bitsOf, F.MST_CMD_OP]
    omega
  · rw [Fld.of, hn]
    simp only [bitsOf, F.MST_CMD_TAG]
    omega

/-! ## Requests (R162, R165, R174) -/

section

variable {m : Master} {ws : List Word} {s : State}

/-- A request that is not accepted takes no entry. -/
theorem submit_refused (h : ((stepIfDue s).admission ws).1 ≠ .accepted) :
    submit m ws s = (((stepIfDue s).admission ws).1, 0, stepIfDue s) := by
  unfold submit
  dsimp only
  split
  · next hc _ => exact absurd hc h
  · rfl

/-- One that is accepted takes the lowest free entry. -/
theorem submit_accepted {e : Nat} (h : ((stepIfDue s).admission ws).1 = .accepted) (he : (stepIfDue s).freeEntry = some e) :
    submit m ws s = (.accepted, e, ((stepIfDue s).setEntry e (some
      { words := placedWords ws ((stepIfDue s).admission ws).2, first := ((stepIfDue s).admission ws).2, owner := m,
        plans := (stepIfDue s).planList (reqItems (reqWord ws)) })).wr .MST_PLACED (bk m 0) (word ((stepIfDue s).admission ws).2)) := by
  unfold submit
  dsimp only
  rw [h, he]

/-- A master that is no path of the dictionary submits what it has staged. -/
theorem exec_milestoneSubmit (hm : ∀ p, m ≠ .dict p) (req : Option (List Word)) {c : Code} {e : Nat} {u : State}
    (h : submit m (s.staged m) s = (c, e, u)) :
    exec (.milestoneSubmit m req) s = .next (finish s ((mstResult m c e (reqWord (s.staged m) 0) u).emit (.written m 0x500 c))) := by
  have hw : mstCmdWrite m (word 1) s = (c, mstResult m c e (reqWord (s.staged m) 0) u) := by
    rw [mstCmdWrite_submit (by decide) (by decide), h]
  have hx : exec (.milestoneSubmit m req) s = .next (finish s (mstAccess m .MST_CMD 0 (word 1) s)) := by
    cases m with
    | dict p => exact absurd rfl (hm p)
    | _ => rfl
  rw [hx, mstAccess_cmd hw]

theorem objSubmit_whole (p : DPath) (hl : ws.length = 18) :
    objSubmit p ws s = (mstResult (.dict p) (submit (.dict p) ws s).1 (submit (.dict p) ws s).2.1 (reqWord ws 0) (submit (.dict p) ws s).2.2).objDone
      p 0x2300 1 (submit (.dict p) ws s).1 := (if_neg (by omega)).trans (if_neg (by omega))

end

/-! ## Cancelling (R173, R174) -/

section

variable {m : Master} {tag : Nat} {s : State}

theorem cancelTag_unknown (h : s.tagged tag = none) : cancelTag tag s = (.unknownTag, s) := by simp only [cancelTag, h]
theorem cancelTag_live {e : Nat} (h : s.tagged tag = some e) : cancelTag tag s = (.accepted, cancelEntry 2 e s) := by simp only [cancelTag, h]

/-- A master that is no path of the dictionary cancels by MST_CMD. -/
theorem exec_milestoneCancel (hm : ∀ p, m ≠ .dict p) (ht : tag < 65536) {c : Code} {u : State} (h : cancelTag tag s = (c, u)) :
    exec (.milestoneCancel m tag) s = .next (finish s ((mstResult m c 0 tag u).emit (.written m 0x500 c))) := by
  obtain ⟨hr, ho, htag⟩ := cancelWord_fields ht
  have hw : mstCmdWrite m (word (2 + 0x10000 * tag)) s = (c, mstResult m c 0 tag u) := by rw [mstCmdWrite_cancel hr ho, htag, h]
  have hx : exec (.milestoneCancel m tag) s = .next (finish s (mstAccess m .MST_CMD 0 (word (2 + 0x10000 * (tag % 65536))) s)) := by
    cases m with
    | dict p => exact absurd rfl (hm p)
    | _ => rfl
  rw [hx, Nat.mod_eq_of_lt ht, mstAccess_cmd hw]

variable {kind e : Nat} {x : MstEntry} (hx : s.entry e = some x)

include hx

theorem cancelEntry_ended (h : x.ended = true) : cancelEntry kind e s = s := by simp [cancelEntry, hx, h]

/-- A cancel in time ends the entry, with its record. -/
theorem cancelEntry_in_time (h : x.ended = false) (ht : s.earliest ≤ x.next) :
    cancelEntry 2 e s = mstRecord e x 2 [] [] (s.setEntry e (some { x with ended := true })) := by
  simp only [cancelEntry, hx, h, ht, Bool.false_eq_true, if_false, if_true]
  rfl

/-- A run too near to stop becomes the last. -/
theorem cancelEntry_late (h : x.ended = false) (ht : x.next < s.earliest) :
    cancelEntry kind e s = s.setEntry e (some { x with cancelled := max kind x.cancelled }) := by
  simp [cancelEntry, hx, h, ht.not_ge]

end

/-! ## Runs (R170 to R172) -/

/-- What an item missed: its mask less what was applied. -/
def missedMasks (x : MstEntry) (applied : List Nat) : List Nat :=
  (List.range x.items.length).map fun k => (x.items.map (·.mask)).getD k 0 - applied.getD k 0

/-- An entry after a run. -/
def afterRun (x : MstEntry) : MstEntry :=
  { x with runs := x.runs + 1, lastShort := x.next % 2 ^ 32, ended := x.cancelled != 0 || x.lastRun }

/-- A run of an entry that has not ended, at or after its instant. -/
theorem milestoneRun_due {e : Nat} {x : MstEntry} {s : State} (hx : s.entry e = some x) (he : x.ended = false) (hr : s.almRuns = true)
    (ht : x.next ≤ s.total) :
    milestoneRun e s =
      let r := runItems x.plans x.items s
      let missed := missedMasks x r.1
      let t := r.2.setEntry e (some (afterRun x))
      if (x.cancelled != 0 || x.lastRun) || x.recEach || missed.any (· != 0) then
        mstRecord e (afterRun x) (if x.cancelled ≠ 0 then x.cancelled else if x.lastRun then 1 else 0) r.1 missed t
      else t := by
  unfold milestoneRun
  rw [hx]
  exact if_neg (by simp [he, hr, ht])

/-! ## Entries that are free again (R173, R174) -/

theorem entryFree_entry (k e : Nat) (s : State) : (entryFree k s).entry e = if e = k then none else s.entry e :=
  tabGet_set none s.mst.entries e k none

/-- Freeing several entries frees each of them. -/
theorem entriesFreed_entry (l : List Nat) (e : Nat) (s : State) :
    (l.foldl (fun t k => entryFree k t) s).entry e = if e ∈ l then none else s.entry e := by
  induction l generalizing s with
  | nil => rfl
  | cons k l ih =>
    rw [List.foldl_cons, ih, entryFree_entry]
    by_cases hl : e ∈ l <;> simp [hl]

/-- What a table holds beside its default stands in its list. -/
theorem mem_of_tabGet {α : Type} {d : α} {t : Tab α} {k : Nat} (h : tabGet d t k ≠ d) : (k, tabGet d t k) ∈ t := by
  induction t with
  | nil => exact absurd rfl h
  | cons p t ih =>
    obtain ⟨j, a⟩ := p
    by_cases hk : j = k
    · subst hk
      simp [tabGet]
    · simp only [tabGet, hk, if_false] at h ⊢
      exact List.mem_cons_of_mem _ (ih h)

/-- A live entry is listed with its number. -/
theorem mem_liveEntries {e : Nat} {x : MstEntry} {s : State} (h : s.entry e = some x) : (e, x) ∈ s.liveEntries := by
  have hmem : (e, s.entry e) ∈ s.mst.entries := mem_of_tabGet (show s.entry e ≠ none by simp [h])
  rw [h] at hmem
  exact List.mem_filterMap.2 ⟨_, hmem, rfl⟩

theorem entriesFree_ended {e : Nat} {x : MstEntry} {s : State} (h : s.entry e = some x) (he : x.ended = true) : (entriesFree s).entry e = none := by
  have hmem : e ∈ (s.liveEntries.filter fun p => p.2.ended).map (·.1) :=
    List.mem_map.2 ⟨(e, x), List.mem_filter.2 ⟨mem_liveEntries h, he⟩, rfl⟩
  rw [entriesFree, entriesFreed_entry, if_pos hmem]

/-- Settles O19: admission, cancelling, running and reading, each from its own equation. -/
theorem milestones : Obligations.Milestones := by
  refine ⟨?submit, ?dictSubmit, ?cancel, ?cancelAll, ?run, ?freed, ?result, ?event⟩
  case submit =>
    rintro m req s u hm rfl
    exact ⟨fun h => exec_milestoneSubmit hm req (submit_refused h), fun e h he => exec_milestoneSubmit hm req (submit_accepted h he)⟩
  case dictSubmit => exact fun p ws s hl => ok_of_eq s (objSubmit_whole p hl)
  case cancel =>
    intro m tag s hm ht
    refine ⟨fun h => exec_milestoneCancel hm ht (cancelTag_unknown h), fun e x h hx => ?_⟩
    have hlive := cancelTag_live h
    refine ⟨fun he => ?_, fun he hn => ?_, fun he hn => ?_⟩
    · exact exec_milestoneCancel hm ht (by rw [hlive, cancelEntry_ended hx he])
    · exact exec_milestoneCancel hm ht (by rw [hlive, cancelEntry_in_time hx he hn])
    · exact exec_milestoneCancel hm ht (by rw [hlive, cancelEntry_late hx he hn])
  case cancelAll => exact fun p s => rfl
  case run =>
    rintro e x y s r missed hx he hr ht rfl rfl rfl
    have hrun := milestoneRun_due hx he hr ht
    refine ⟨fun h => ?_, fun h1 h2 h3 => ?_⟩
    · exact ok_of_eq s (hrun.trans (if_pos (by simpa [missedMasks, or_assoc] using h)))
    · have hends : (x.cancelled != 0 || x.lastRun) = false := h1
      have hmissed : (missedMasks x (runItems x.plans x.items s).1).any (· != 0) = false := h3
      exact ok_of_eq s (hrun.trans (if_neg (by rw [hends, h2, hmissed]; decide)))
  case freed => exact fun e x s h he => entriesFree_ended h he
  case result => exact fun m s => rfl
  case event =>
    intro m c s
    refine ⟨_, ok_of_eq s rfl, ?_, sends_finish rfl, fun r n hr => ?_, State.memByte_of_mem (finish_mem s _)⟩
    · rw [flag_finish]
      exact State.flag_setB_eq s (by decide)
    · rw [rd_finish]
      exact State.rd_setB_but (pair_ne_of_notMem_singleton hr)

end Sys2Proof.Machine

/-! # Frames of the Ethernet switch and of the service port (12_ethernet_switch.md, R366 to R376, R385; 04_almanac.md, R145) -/

namespace Sys2Proof.Machine

/-! ## A frame received at a port (R366, R367, R368) -/

/-- A received frame, counted. -/
def frameCounted (p : Nat) (f : EthFrame) (s : State) : State := ethCount p cRxb (frameLenIn f) (ethCount p cRxf 1 s)

/-- A frame from a port: counted and checked, and forwarded while the switch is enabled. -/
theorem frameIn_received (p : Nat) (f : EthFrame) (s : State) :
    frameIn p f none s = boundary p
      (if f.bad = true then ethCount p cFcs 1 (frameCounted p f s)
      else if frameLenIn f < 64 then ethCount p cRunt 1 (frameCounted p f s)
      else if 1522 < frameLenIn f then ethCount p cOversize 1 (frameCounted p f s)
      else if (! (frameCounted p f s).ethEn) = true then frameCounted p f s
      else if (frameCounted p f s).mirrors p 0 = true then mirrorCopy f p (forward p f none (frameCounted p f s))
      else forward p f none (frameCounted p f s)) := rfl

section

variable {p : Nat} {f : EthFrame} {s : State}

theorem frameIn_bad (h : f.bad = true) : frameIn p f none s = boundary p (ethCount p cFcs 1 (frameCounted p f s)) := by
  rw [frameIn_received, if_pos h]

variable (hb : f.bad = false)

include hb

theorem frameIn_runt (h : frameLenIn f < 64) : frameIn p f none s = boundary p (ethCount p cRunt 1 (frameCounted p f s)) := by
  rw [frameIn_received, hb, if_neg Bool.false_ne_true, if_pos h]

theorem frameIn_oversize (h : 1522 < frameLenIn f) : frameIn p f none s = boundary p (ethCount p cOversize 1 (frameCounted p f s)) := by
  have hmin : ¬ frameLenIn f < 64 := by omega
  rw [frameIn_received, hb, if_neg Bool.false_ne_true, if_neg hmin, if_pos h]

variable (hmin : 64 ≤ frameLenIn f) (hmax : frameLenIn f ≤ 1522)

include hmin hmax

theorem frameIn_disabled (h : (frameCounted p f s).ethEn = false) : frameIn p f none s = boundary p (frameCounted p f s) := by
  rw [frameIn_received, hb, if_neg Bool.false_ne_true, if_neg hmin.not_gt, if_neg hmax.not_gt, h, Bool.not_false, if_pos rfl]

theorem frameIn_enabled (h : (frameCounted p f s).ethEn = true) :
    frameIn p f none s = boundary p (if (frameCounted p f s).mirrors p 0 then mirrorCopy f p (forward p f none (frameCounted p f s))
      else forward p f none (frameCounted p f s)) := by
  rw [frameIn_received, hb, if_neg Bool.false_ne_true, if_neg hmin.not_gt, if_neg hmax.not_gt, h, if_neg (by decide)]

end

section

variable {p : Nat} {f : EthFrame} {s : State}

/-- A frame that ingress filtering keeps out counts in the port's VLAN discards. -/
theorem forward_filtered (h : s.admits p f (s.ingressTag p f).1 = false) : forward p f none s = ethCount p cVlan 1 s := if_pos (by simp [h])

/-- One that it lets in is learned from, and queued. -/
theorem forward_admitted (hp : p < 8) (h : s.admits p f (s.ingressTag p f).1 = true) {full : Bool} {v : State}
    (hl : learn f (s.ingressTag p f).1 p s = (full, v)) :
    forward p f none s = queueAll f (s.ingressTag p f).1 (s.ingressTag p f).2 p none
      ((if f.etype = 0x88F7 then [8] else v.egressPorts f (s.ingressTag p f).1 full).filter fun q => q != p && v.portUp q) v := by
  have hgptp : (f.etype = 0x88F7 ∧ p ≠ 8) = (f.etype = 0x88F7) := propext (and_iff_left hp.ne)
  unfold forward
  dsimp only
  rw [if_neg (by simp [h]), hl]
  simp only [hgptp]

theorem exec_ethFrameReceived {p : Fin 8} (hd : s.dom.comms = true) (hu : s.portUp p = true) :
    exec (.ethFrameReceived p f) s = .next (finish s (frameIn p { f with sfd := s.stampIn p f.sfd } none s)) :=
  ok_of_eq s (if_pos (by simp [hd, hu]))

end

/-! ## A frame sent (R369, R370, R372) -/

/-- The last number below `n` that meets a test is found first from above. -/
theorem find?_reverse_range {n q : Nat} {t : Nat → Bool} (hq : q < n) (ht : t q = true) (hno : ∀ j < n, q < j → t j = false) :
    (List.range n).reverse.find? t = some q := by
  induction n with
  | zero => omega
  | succ n ih =>
    rw [List.range_succ, List.reverse_append, List.reverse_singleton, List.singleton_append, List.find?_cons]
    by_cases hn : q = n
    · rw [← hn, ht]
    · rw [hno n n.lt_succ_self (by omega)]
      exact ih (by omega) fun j hj => hno j (by omega)

/-- The highest queue of a port that may send does. -/
theorem exec_ethFrameTransmitted {p : Fin 9} {q : Nat} {s : State} (sfd : Nat) (hu : s.portUp p = true) (hq : q < 8) (hs : s.mayServe p q = true)
    (hno : ∀ j < 8, q < j → s.mayServe p j = false) :
    exec (.ethFrameTransmitted (p.castLE (Nat.le_add_right 9 1)) sfd) s =
      .next (finish s (boundary p (sendHead p q (if (p : Nat) = 8 then sfd else s.stampOut p sfd) s))) := by
  have hp : (p : Nat) ≠ 9 := by omega
  have hfind : (List.range 8).reverse.find? (fun q => s.mayServe p q) = some q := find?_reverse_range hq hs hno
  refine ok_of_eq s ((if_neg hp).trans ((if_pos hu).trans ?_))
  dsimp only [Fin.val_castLE]
  rw [hfind]

/-- The head of an unshaped queue of a port that is not mirrored leaves with the tag that the VLAN gives it. -/
theorem sendHead_unshaped {p q sfd : Nat} {e : EthQ} {rest : List EthQ} {s : State} (hp : p < 8) (he : s.eq p q = e :: rest) (ha : e.asIs = false)
    (hj : e.job = none) (hA : s.slope p true = 0) (hB : s.slope p false = 0) (hm : s.mirrors p 1 = false) {tag : Option (Nat × Nat)}
    (ht : tag = if s.vlanUntag e.vid p then none else some (e.pcp, e.vid)) :
    sendHead p q sfd s = (ethCount p cTxb (frameLen e.frame tag.isSome) (ethCount p cTxf 1 (setEq p q rest s))).emit
      (.ethFrame p (frameBytesOut { e.frame with tag := tag } tag)) := by
  unfold sendHead
  rw [he]
  dsimp only
  rw [if_neg hp.ne, hm, hj, hA, hB, ha, ← ht]
  simp [jobDone]

/-! ## Links (R148, R368, R385) -/

theorem linkDown_up {p : Nat} {s : State} (h : s.flag F.ETH_PSTAT_LINK p = true) :
    linkDown p s =
      let u := ((((s.setB F.ETH_PSTAT_LINK p false).setB ⟨.ETH_STAT, p, 1⟩ 0 false).countF F.ETH_PSTAT_DOWNS p).setF F.ETH_PSTAT_SQI p 0).setB
        F.ALM_PHYCAL_BASE_VALID p false
      let v := u.setPtpPort p { u.ptpPort p with linkUp := false, asCapable := false, exchanges := 0 }
      queuesDrop p (if v.slavePort p then gmLost v else v) := if_neg (by simp [h])

theorem linkDown_down {p : Nat} {s : State} (h : s.flag F.ETH_PSTAT_LINK p = false) : linkDown p s = s := if_pos (by simp [h])

/-- At a port with a PHY a link that goes down takes with it what hangs on it. -/
theorem exec_ethLinkDown {p : Fin 10} {s u : State} (hp : (p : Nat) < 8) (h : linkDown p s = u) :
    exec (.ethLinkDown p) s = .next (finish s u) := ok_of_eq s ((if_neg (by omega)).trans ((if_neg (by omega)).trans h))

/-! ## SVC_EN (R376) -/

/-- What frames in flight do not touch: SVC_EN, the service port's status, and the dictionary with its sessions. -/
def State.svcView (s : State) : Bool × Word × Dict := (s.svc.en, s.rd .ETH_SVCSTAT 0, s.dict)

theorem svcView_iff {s t : State} :
    t.svcView = s.svcView ↔ t.svc.en = s.svc.en ∧ t.rd .ETH_SVCSTAT 0 = s.rd .ETH_SVCSTAT 0 ∧ t.dict = s.dict := by
  simp only [State.svcView, Prod.mk.injEq]

theorem svcView_jobReturn (r d res : Nat) (stamp : Option Nat) (s : State) : (jobReturn r d res stamp s).svcView = s.svcView := by
  unfold jobReturn
  dsimp only
  split
  · rfl
  · split <;> rfl

theorem svcView_jobDone (job : Option (Nat × Nat)) (p : Nat) (stamp : Option Nat) (s : State) : (jobDone job p stamp s).svcView = s.svcView := by
  unfold jobDone
  dsimp only
  split
  · rfl
  · split
    · rfl
    · split
      · split <;> exact svcView_jobReturn _ _ _ _ _
      · rfl

theorem svcView_ethCount (p k d : Nat) (s : State) : (ethCount p k d s).svcView = s.svcView := by
  unfold ethCount
  dsimp only
  split <;> rfl

theorem svcView_queuesDrop (p : Nat) (s : State) : (queuesDrop p s).svcView = s.svcView := by
  refine foldl_keeps State.svcView _ (fun t q => ?_) (List.range 8) s
  exact foldl_keeps State.svcView _ (fun u e => (svcView_jobDone _ _ _ _).trans (svcView_ethCount _ _ _ _)) _ (setEq p q [] t)

theorem svcView_setF {f : Fld} {n v : Nat} (s : State) (h : f.reg ≠ .ETH_SVCSTAT) : (s.setF f n v).svcView = s.svcView := by
  rw [State.svcView, State.svcView, State.rd_setF_ne s h.symm]
  rfl

theorem svcView_updTo (st : Nat) (s : State) : (updTo st s).svcView = s.svcView := svcView_setF (f := F.SVC_USTAT_STATE) s (by decide)

theorem svcView_journalAdd (ev code : Nat) (s : State) : (journalAdd ev code s).svcView = s.svcView := by
  unfold journalAdd
  exact svcView_setF (f := F.SVC_USTAT_CODE) _ (by decide)

theorem svcView_updInterrupt (power : Bool) (s : State) : (updInterrupt power s).svcView = s.svcView := by
  unfold updInterrupt
  split
  · exact (svcView_updTo _ _).trans (svcView_journalAdd _ _ _)
  · split
    · exact (svcView_updTo _ _).trans ((svcView_journalAdd _ _ _).trans (svcView_setF _ (by decide)))
    · rfl

/-- The session on the service port is closed, and that port's status stays. -/
theorem sessShut_service (s : State) :
    (sessShut 3 s).sess 3 = none ∧ (sessShut 3 s).svc.en = s.svc.en ∧ (sessShut 3 s).rd .ETH_SVCSTAT 0 = s.rd .ETH_SVCSTAT 0 := by
  unfold sessShut
  split
  · next h => exact ⟨Option.isNone_iff_eq_none.1 h, rfl, rfl⟩
  · rw [if_pos rfl]
    have hview : (updInterrupt false ((setSess 3 none s).setB F.SVC_STAT_MODE 0 false)).svcView = (setSess 3 none s).svcView :=
      (svcView_updInterrupt _ _).trans (svcView_setF _ (by decide))
    obtain ⟨hen, hstat, hdict⟩ := svcView_iff.1 hview
    refine ⟨?_, hen, hstat⟩
    rw [State.sess, hdict]
    exact State.sess_setSess_same s 3 none

theorem flag_of_rd {s t : State} {f : Fld} {n : Nat} (h : t.rd f.reg n = s.rd f.reg n) : t.flag f n = s.flag f n := by
  rw [State.flag, State.flag, State.getF, State.getF, h]

/-- SVC_EN and the link of the service port are shown as off. -/
def svcShownOff (s : State) : State := (s.setB F.ETH_SVCSTAT_EN 0 false).setB F.ETH_SVCSTAT_LINK 0 false

theorem svcShownOff_flags (s : State) :
    (svcShownOff s).flag F.ETH_SVCSTAT_EN 0 = false ∧ (svcShownOff s).flag F.ETH_SVCSTAT_LINK 0 = false :=
  ⟨(State.flag_setB_apart _ (by decide)).trans (State.flag_setB_eq s (by decide)), State.flag_setB_eq _ (by decide)⟩

theorem svcFall_eq (s : State) : svcFall s = sessShut 3 (queuesDrop 9 (svcShownOff { s with svc := { s.svc with en := false } })) := rfl

/-- The fall of SVC_EN: its flags are clear, and no service session is open. -/
theorem svcFall_spec (s : State) :
    (svcFall s).svc.en = false ∧ ((svcFall s).flag F.ETH_SVCSTAT_EN 0 = false ∧ (svcFall s).flag F.ETH_SVCSTAT_LINK 0 = false) ∧
      (svcFall s).sess 3 = none := by
  rw [svcFall_eq]
  generalize hw : ({ s with svc := { s.svc with en := false } } : State) = w
  obtain ⟨hsess, hen, hstat⟩ := sessShut_service (queuesDrop 9 (svcShownOff w))
  obtain ⟨hen', hstat', -⟩ := svcView_iff.1 (svcView_queuesDrop 9 (svcShownOff w))
  obtain ⟨hflag, hlink⟩ := svcShownOff_flags w
  have hrd := hstat.trans hstat'
  refine ⟨?_, ⟨(flag_of_rd (f := F.ETH_SVCSTAT_EN) hrd).trans hflag, (flag_of_rd (f := F.ETH_SVCSTAT_LINK) hrd).trans hlink⟩, hsess⟩
  rw [hen, hen', ← hw]
  rfl

/-! ## A frame at the service port (R376) -/

section

variable {f : EthFrame} {s : State}

theorem exec_svcFrameReceived (hu : s.svcUp = true) : exec (.svcFrameReceived f) s = .next (finish s (svcFrame f s)) := ok_of_eq s (if_pos hu)

theorem svcFrame_bad (h : f.bad = true) : svcFrame f s = ethCount 9 cFcs 1 (frameCounted 9 f s) := if_pos h

variable (hb : f.bad = false)

include hb

theorem svcFrame_oversize (h : 1522 < frameLenIn f) : svcFrame f s = ethCount 9 cOversize 1 (frameCounted 9 f s) :=
  (if_neg (by simp [hb])).trans (if_pos h)

variable (hmax : frameLenIn f ≤ 1522)

include hmax

theorem svcFrame_arp (h : svcArp f s = true) :
    svcFrame f s = (ethCount 9 cTxb ((arpAnswer f s).length + 4) (ethCount 9 cTxf 1 (frameCounted 9 f s))).emit (.ethFrame 9 (arpAnswer f s)) :=
  (if_neg (by simp [hb])).trans ((if_neg hmax.not_gt).trans (if_pos h))

theorem svcFrame_datagram (h : svcArp f s = false) (hu : (svcFor f && udpFor f s.svcIp) = true) :
    svcFrame f s = (ringWrite 4 f none 0 0 9 (frameCounted 9 f s)).2 :=
  (if_neg (by simp [hb])).trans ((if_neg hmax.not_gt).trans ((if_neg (by simp [h])).trans (if_pos hu)))

theorem svcFrame_ignored (h : svcFor f = false) : svcFrame f s = (frameCounted 9 f s).countF F.ETH_SVCSTAT_IGN 0 :=
  (if_neg (by simp [hb])).trans ((if_neg hmax.not_gt).trans ((if_neg (by simp [svcArp, h])).trans (if_neg (by simp [h]))))

end

/-- Settles O37: the paths of a frame, of a link and of SVC_EN, each by its own equation. -/
theorem switchFrames : Obligations.SwitchFrames := by
  refine ⟨?received, ?down, ?sent, ?head, ?service, ?ageOut, ?linkUp, ?svcLinkUp, ?linkDown, ?svcLinkDown, ?enRise, ?enFall, ?svcFrame⟩
  case received =>
    rintro p f g s u v full hd hu rfl rfl hl
    rw [exec_ethFrameReceived hd hu]
    refine ⟨fun hb => ?_, fun hb h => ?_, fun hb h => ?_, fun hb h1 h2 he => ?_, fun hb h1 h2 he => ⟨fun ha => ?_, ?_⟩⟩
    · rw [frameIn_bad hb]; rfl
    · rw [frameIn_runt hb h]; rfl
    · rw [frameIn_oversize hb h]; rfl
    · rw [frameIn_disabled hb h1 h2 he]; rfl
    · rw [frameIn_enabled hb h1 h2 he, frameCounted, forward_filtered ha]
    · rintro w ha rfl
      rw [frameIn_enabled hb h1 h2 he, frameCounted, forward_admitted p.isLt ha hl.symm]
  case down =>
    intro p f s h
    exact ok_of_eq s (if_neg (by rcases h with h | h <;> simp [h]))
  case sent => exact fun p q sfd s hu hq hs hno => exec_ethFrameTransmitted sfd hu hq hs hno
  case head =>
    rintro p q sfd e rest s u tag hp he ha hj hA hB hm rfl ht
    exact sendHead_unshaped hp he ha hj hA hB hm ht
  case service => exact fun sfd s => rfl
  case ageOut =>
    intro mac vid s
    refine ⟨_, ok_of_eq s rfl, sends_finish rfl, fun r n => ?_, State.memByte_of_mem (finish_mem s _), ?_, fun l => ?_⟩
    · rw [rd_finish]; rfl
    · rw [finish_eth]; rfl
    · rw [finish_eth]
      simp [setEth, List.mem_filter, imp_iff_not_or]
  case linkUp =>
    rintro p sqi s u hp hd hf he rfl
    exact ok_of_eq s ((if_neg (by omega)).trans (if_pos (by simp [hd, hf, he])))
  case svcLinkUp => exact fun sqi s hd he => ok_of_eq s ((if_pos rfl).trans (if_pos (by simp [hd, he])))
  case linkDown =>
    rintro p s u v hp rfl rfl
    exact ⟨fun h => exec_ethLinkDown hp (linkDown_up h), fun h => exec_ethLinkDown hp (linkDown_down h)⟩
  case svcLinkDown => exact fun s => rfl
  case enRise =>
    intro s
    refine ⟨_, ok_of_eq s rfl, ?_, ?_, sends_finish rfl, fun r n hr => ?_, State.memByte_of_mem (finish_mem s _)⟩
    · rw [finish_svc]; rfl
    · rw [flag_finish]
      exact State.flag_setB_eq _ (by decide)
    · rw [rd_finish]
      exact State.rd_setB_but (pair_ne_of_notMem_singleton hr)
  case enFall =>
    intro s
    have he : exec .svcEnFall s = .next (finish s (svcFall s)) := rfl
    obtain ⟨hen, ⟨hflag, hlink⟩, hsess⟩ := svcFall_spec s
    exact ⟨_, he, by rw [finish_svc, hen], by rw [flag_finish, hflag], by rw [flag_finish, hlink], by rw [sess_finish, hsess]⟩
  case svcFrame =>
    intro f s u hu hc
    obtain rfl : u = frameCounted 9 f s := hc
    refine ⟨fun hb => ?_, fun hb h => ?_, fun hb h ha => ?_, fun hb h ha hd => ?_, fun hb h hf => ?_⟩
    · rw [exec_svcFrameReceived hu, svcFrame_bad hb]
    · rw [exec_svcFrameReceived hu, svcFrame_oversize hb h]
    · rw [exec_svcFrameReceived hu, svcFrame_arp hb h ha]
    · rw [exec_svcFrameReceived hu, svcFrame_datagram hb h ha (by simpa using hd)]
    · rw [exec_svcFrameReceived hu, svcFrame_ignored hb h hf]

end Sys2Proof.Machine

/-! # The windows of the record queues (R159, R219, R302, R313, R322, R339, R355, R475) -/

namespace Sys2Proof.Machine

section

variable {q : RecQ} {r : Rec} {l : List Rec} {i : QId} {s : State}

theorem RecQ.word_empty (h : q.recs = []) (k : Nat) : q.word k = 0 := by simp only [RecQ.word, h]
theorem RecQ.word_head (h : q.recs = r :: l) (k : Nat) : q.word k = r.words.getD k 0 := by simp only [RecQ.word, h]

theorem State.lockHead_empty (h : (s.q i).recs = []) : s.lockHead i = s := by simp only [State.lockHead, h]
theorem State.lockHead_head (h : (s.q i).recs = r :: l) : s.lockHead i = s.setQ i { s.q i with locked := true } := by simp only [State.lockHead, h]

theorem State.releaseHead_unlocked (h : (s.q i).locked = false) : s.releaseHead i = s := if_neg (by simp [h])
theorem State.releaseHead_locked (h : (s.q i).locked = true) :
    s.releaseHead i = s.setQ i { s.q i with recs := (s.q i).recs.drop 1, locked := false } := if_pos h

theorem canLock_empty {n k : Nat} (h : (s.q (.can n k)).recs = []) : canLock n k s = s := by
  simp only [canLock, h, ite_self]

end

/-- What a read of a window's first word does to the queue: the head of a CAN queue takes its count with the lock. -/
def windowLock (i : QId) (s : State) : State :=
  match i with
  | .can n k => canLock n k s
  | j => s.lockHead j

/-- An empty queue has no head to lock. -/
theorem windowLock_empty {i : QId} {s : State} (h : (s.q i).recs = []) : windowLock i s = s := by
  cases i
  case can n k => exact canLock_empty h
  all_goals exact State.lockHead_empty h

/-- The head of a queue that is no CAN queue is locked as it stands. -/
theorem windowLock_head {i : QId} {r : Rec} {l : List Rec} {s : State} (h : (s.q i).recs = r :: l) (hi : ∀ n k, i ≠ .can n k) :
    windowLock i s = s.setQ i { s.q i with locked := true } := by
  cases i
  case can n k => exact absurd rfl (hi n k)
  all_goals exact State.lockHead_head h

section

variable {m : Master} {c k : Nat} {s : State}

/-! What a read of a CAN queue's window and of a LIN queue's window is, on a fitted channel. -/

theorem windowRead_first (hf : canFitted s.variant c = true) :
    windowRead m c k 0 s = (windowLock (.can c k) s).emit (.value m (0x60000000 + 0x1000 * c + 0x80 * k) ((s.q (.can c k)).word 0)) := by
  rw [windowRead, if_pos hf]
  rfl

theorem windowRead_last (hf : canFitted s.variant c = true) :
    windowRead m c k 18 s =
      (s.releaseHead (.can c k)).emit (.value m (0x60000000 + 0x1000 * c + 0x80 * k + 72) ((s.q (.can c k)).word 18)) := by
  rw [windowRead, if_pos hf]
  rfl

theorem linHeadRead_window (hk : k < 4) (hf : linFitted s.variant c = true) :
    linHeadRead m c k s = State.answerRead m (Reg.addr .LIN_RQ (4 * c + k)) (s.readWindow (.lin c) 4 k) := by
  have hread : linRead m .LIN_RQ (4 * c + k) s = s.readWindow (.lin ((4 * c + k) / 4)) 4 ((4 * c + k) % 4) := rfl
  have hchan : (4 * c + k) / 4 = c := by omega
  have hword : (4 * c + k) % 4 = k := by omega
  rw [linHeadRead, if_pos hf, hread, hchan, hword]

end

/-- Settles O20: every window's first word locks the head, and its last word releases it. -/
theorem queueWindows : Obligations.QueueWindows := by
  refine ⟨?first, ?last⟩
  case first =>
    intro m c4 c8 b s c addr i hlin hcan h
    have hexec : exec c s = .next (finish s ((windowLock i s).emit (.value m addr ((s.q i).word 0)))) := by
      simp only [List.mem_cons, Prod.mk.injEq, List.not_mem_nil, or_false] at h
      rcases h with ⟨rfl, rfl, rfl⟩ | ⟨rfl, rfl, rfl⟩ | ⟨rfl, rfl, rfl⟩ | ⟨rfl, rfl, rfl⟩ | ⟨rfl, rfl, rfl⟩ | ⟨rfl, rfl, rfl⟩ | ⟨rfl, rfl, rfl⟩ |
        ⟨rfl, rfl, rfl⟩
      exacts [rfl, rfl, rfl, rfl, rfl, ok_of_eq s (linHeadRead_window (by decide) hlin), rfl, ok_of_eq s (windowRead_first hcan)]
    refine ⟨fun he => ?_, fun r l hr hi => ?_, fun r l hr hi => ?_⟩
    · rw [hexec, windowLock_empty he, RecQ.word_empty he]
    · rw [hexec, windowLock_head hr hi, RecQ.word_head hr]
    · subst hi
      rw [hexec, windowLock, RecQ.word_head hr]
  case last =>
    intro m c4 c8 b s c addr k i hlin hcan h
    have hexec : exec c s = .next (finish s ((s.releaseHead i).emit (.value m addr ((s.q i).word k)))) := by
      simp only [List.mem_cons, Prod.mk.injEq, List.not_mem_nil, or_false] at h
      rcases h with ⟨rfl, rfl, rfl, rfl⟩ | ⟨rfl, rfl, rfl, rfl⟩ | ⟨rfl, rfl, rfl, rfl⟩ | ⟨rfl, rfl, rfl, rfl⟩ | ⟨rfl, rfl, rfl, rfl⟩ |
        ⟨rfl, rfl, rfl, rfl⟩ | ⟨rfl, rfl, rfl, rfl⟩ | ⟨rfl, rfl, rfl, rfl⟩
      exacts [rfl, rfl, rfl, rfl, rfl, ok_of_eq s (linHeadRead_window (by decide) hlin), rfl, ok_of_eq s (windowRead_last hcan)]
    exact ⟨fun hl => by rw [hexec, State.releaseHead_unlocked hl], fun hl => by rw [hexec, State.releaseHead_locked hl]⟩

end Sys2Proof.Machine

/-! # Head records and last transitions over the dictionary (R177, R193, R219, R226, R329, R330, R341, R360, R485) -/

namespace Sys2Proof.Machine

/-! ## Head records -/

section

variable {p : DPath} {index sub : Nat} {i : QId} {r : Rec} {l : List Rec} {s : State}

/-- The record that is returned leaves the queue. -/
theorem State.popHead_head (h : (s.q i).recs = r :: l) : s.popHead i = s.setQ i { s.q i with recs := l, locked := false } := by
  rw [State.popHead, h, List.drop_one, List.tail_cons]

theorem headRead_empty (h : (s.q i).recs = []) : headRead p index sub i s = s.emit (.objAbort p index sub 0x08000024) := by
  simp only [headRead, h]

theorem headRead_head (h : (s.q i).recs = r :: l) :
    headRead p index sub i s =
      (s.setQ i { s.q i with recs := l, locked := false }).emit (.objRead p index sub (r.words.flatMap fun w => leBytes 4 w.toNat)) := by
  simp only [headRead, h, State.popHead_head h]

/-- A locked head is refused (R341). -/
theorem recordRead_locked {f : List Word → List Word} (h : (s.q i).recs = r :: l) (hl : (s.q i).locked = true) :
    recordRead p index sub i f s = s.objAborted p index sub 0x08000022 := by
  simp only [recordRead, h, hl, if_true]

theorem recordRead_unlocked {f : List Word → List Word} (h : (s.q i).recs = r :: l) (hl : (s.q i).locked = false) :
    recordRead p index sub i f s =
      (s.setQ i { s.q i with recs := l, locked := false }).emit (.objRead p index sub ((f r.words).flatMap fun w => leBytes 4 w.toNat)) := by
  rw [← State.popHead_head h]
  simp [recordRead, h, hl]

/-- A capture channel's record goes out with the records that stay and those lost. -/
theorem captureRead_head {n : Nat} (h : (s.q (.capture n)).recs = r :: l) :
    captureRead p n s = (s.setQ (.capture n) { s.q (.capture n) with recs := l, locked := false }).emit
      (.objRead p (0x2410 + n) 0x0B ([r.words.getD 0 0, r.words.getD 1 0,
        word (l.length + 0x10000 * (s.q (.capture n)).lost) ||| r.words.getD 2 0].flatMap fun w => leBytes 4 w.toNat)) := by
  have hq : (s.popHead (.capture n)).q (.capture n) = { s.q (.capture n) with recs := l, locked := false } := by
    rw [State.popHead_head h, State.q_setQ, if_pos rfl]
  simp only [captureRead, h, hq]
  rw [State.popHead_head h]

end

/-- Settles O21: a record that goes out leaves its queue, and a transition that goes out is latched. -/
theorem recordReads : Obligations.RecordReads := by
  refine ⟨?heads, ?capture, ?lin, ?can, ?transition, ?absent⟩
  case heads =>
    intro p s c index sub i h
    have hexec : exec c s = .next (finish s (headRead p index sub i s)) := by
      simp only [List.mem_cons, Prod.mk.injEq, List.not_mem_nil, or_false] at h
      rcases h with ⟨rfl, rfl, rfl, rfl⟩ | ⟨rfl, rfl, rfl, rfl⟩ | ⟨rfl, rfl, rfl, rfl⟩ | ⟨rfl, rfl, rfl, rfl⟩ <;> rfl
    exact ⟨fun he => by rw [hexec, headRead_empty he], fun r l hr => by rw [hexec, headRead_head hr]⟩
  case capture => exact fun p n r l s h => ok_of_eq s (captureRead_head h)
  case lin => exact fun p c r l s hf h hl => ok_of_eq s ((if_pos hf).trans (recordRead_unlocked h hl))
  case can =>
    intro p n q r l s hf h
    refine ⟨fun hl => ok_of_eq s ((if_pos hf).trans (recordRead_locked h hl)), fun hl => ok_of_eq s ((if_pos hf).trans ?_)⟩
    rw [canRecordObj, recordRead_unlocked h hl, h, List.length_cons]
  case transition => exact fun p n s hf => ⟨ok_of_eq s (if_pos hf), ok_of_eq s (if_pos hf)⟩
  case absent => exact fun p n packed s hf => ok_of_eq s (if_neg (by simp [hf]))

end Sys2Proof.Machine

/-! # The waveform counters (05_milestones_timers.md, R178, R180, R183) -/

namespace Sys2Proof.Machine

/-- A fold whose every step leaves the state as it is. -/
theorem foldl_unchanged {α β : Type} {g : β → α → β} {s : β} {l : List α} (h : ∀ a ∈ l, g s a = s) : l.foldl g s = s := by
  induction l with
  | nil => rfl
  | cons a l ih => rw [List.foldl_cons, h a (by simp), ih fun b hb => h b (by simp [hb])]

/-! ## Channels that do not compare, and settings that do not wait -/

section

variable {s : State} {c n : Nat}

theorem wcuCatchUp_of_not_compare (h : s.twCompare n = false) : wcuCatchUp s n = s := if_neg (by simp [h])
theorem wcuLanding_of_not_compare (h : s.twCompare n = false) : wcuLanding s n = s := if_neg (by simp [h])
theorem pwmAtZero_of_not_compare (h : s.twCompare n = false) : pwmAtZero s n = s := if_pos (.inr (by simp [h]))
theorem wcuCctrlApply_of_none (h : s.heldOf .WCU_CCTRL n = none) : wcuCctrlApply s n = s := by simp only [wcuCctrlApply, h]

/-- A channel compares or not as its WCU_CCTRL says. -/
theorem State.twCompare_of_rd {t : State} (h : t.rd .WCU_CCTRL n = s.rd .WCU_CCTRL n) : t.twCompare n = s.twCompare n := by
  simp only [State.twCompare, State.getF, F.WCU_CCTRL_FUNC, h]

/-- Where no setting of a counter waits, its apply point changes nothing. -/
theorem wcuApplySettings_of_none (hctrl : s.heldOf .WCU_CTRL c = none) (htop : s.heldOf .WCU_TOP c = none)
    (hchan : ∀ n ∈ wcuChans c, s.heldOf .WCU_CCTRL n = none) : wcuApplySettings c s = s := by
  have hall : s.applyAll [.WCU_CTRL, .WCU_TOP] c = s := by
    simp only [State.applyAll, List.foldl_cons, List.foldl_nil, s.applyHeld_none hctrl, s.applyHeld_none htop]
  rw [wcuApplySettings, hall]
  exact foldl_unchanged fun n hn => wcuCctrlApply_of_none (hchan n hn)

end

/-! ## The landing of a step (R178) -/

/-- What a step that lands on `k` does to the count and the direction, before the matches of the landing. -/
def wcuLand (c k : Nat) (s : State) : State :=
  if k = 0 then wcuBoundary c (s.wr .WCU_CNT c 0)
  else if s.wcuUpDown c && k == s.wcuTop c then (s.wr .WCU_CNT c (word k)).setB F.WCU_STAT_DIR c true
  else s.wr .WCU_CNT c (word k)

/-- The end of suppression at a landing on 0. -/
def unsuppress (t : State) (n : Nat) : State := t.setTw n { t.tw n with suppressed := false }

/-- The count, the number of periods and the direction after a landing on 0. -/
def wcuWrapped (c : Nat) (s : State) : State :=
  ((s.wr .WCU_CNT c 0).setF F.WCU_STAT_PERIODS c (s.getF F.WCU_STAT_PERIODS c + 1)).setB F.WCU_STAT_DIR c false

section

variable {s : State} {c : Nat}

/-- Ending suppression changes no register. -/
theorem unsuppress_regs (l : List Nat) (s : State) : (l.foldl unsuppress s).regs = s.regs :=
  foldl_keeps State.regs unsuppress (fun _ _ => rfl) l s

/-- No register of a landing on 0 but the count and the status changes. -/
theorem wcuWrapped_rd {r : Reg} {n : Nat} (h : (r, n) ∉ [(.WCU_CNT, c), (.WCU_STAT, c)]) : (wcuWrapped c s).rd r n = s.rd r n := by
  simp only [List.mem_cons, List.not_mem_nil, or_false, not_or] at h
  obtain ⟨hcnt, hstat⟩ := h
  rw [wcuWrapped, State.rd_setB_but hstat, State.rd_setF_but hstat, State.rd_wr_but hcnt]

end

section

variable {s : State} {c : Nat} (hr : s.wcuRuns c = true) (hc : ∀ n ∈ wcuChans c, s.twCompare n = false)

include hr hc

/-- Where no channel compares, a step is its landing. -/
theorem wcuStep_of_not_compare (hland : ∀ n ∈ wcuChans c, (wcuLand c (s.wcuNextCount c) s).rd .WCU_CCTRL n = s.rd .WCU_CCTRL n) :
    wcuStep c s = wcuLand c (s.wcuNextCount c) s := by
  have hcatch : (wcuChans c).foldl wcuCatchUp s = s := foldl_unchanged fun n hn => wcuCatchUp_of_not_compare (hc n hn)
  have hstep : wcuStep c s = (wcuChans c).foldl wcuLanding (wcuLand c (s.wcuNextCount c) s) := by
    unfold wcuStep wcuLand
    rw [if_neg (by simp [hr]), hcatch]
    by_cases h0 : s.wcuNextCount c = 0 <;> simp only [h0] <;> rfl
  rw [hstep]
  exact foldl_unchanged fun n hn => wcuLanding_of_not_compare ((State.twCompare_of_rd (hland n hn)).trans (hc n hn))

/-- A step that lands neither on 0 nor on the TOP of up/down mode. -/
theorem wcuStep_between (h0 : s.wcuNextCount c ≠ 0) (ht : s.wcuUpDown c = false ∨ s.wcuNextCount c ≠ s.wcuTop c) :
    wcuStep c s = s.wr .WCU_CNT c (word (s.wcuNextCount c)) := by
  have hland : wcuLand c (s.wcuNextCount c) s = s.wr .WCU_CNT c (word (s.wcuNextCount c)) :=
    (if_neg h0).trans (if_neg (by rcases ht with h | h <;> simp [h]))
  rw [wcuStep_of_not_compare hr hc fun n _ => by rw [hland, State.rd_wr_ne s (by decide)], hland]

/-- A step that lands on the TOP of up/down mode. -/
theorem wcuStep_turns (h0 : s.wcuNextCount c ≠ 0) (hu : s.wcuUpDown c = true) (ht : s.wcuNextCount c = s.wcuTop c) :
    wcuStep c s = (s.wr .WCU_CNT c (word (s.wcuTop c))).setB F.WCU_STAT_DIR c true := by
  have hland : wcuLand c (s.wcuNextCount c) s = (s.wr .WCU_CNT c (word (s.wcuTop c))).setB F.WCU_STAT_DIR c true := by
    rw [← ht]
    exact (if_neg h0).trans (if_pos (by simp [hu, ht]))
  rw [wcuStep_of_not_compare hr hc fun n _ => by rw [hland, State.rd_setB_ne _ (by decide), State.rd_wr_ne s (by decide)], hland]

/-- A step that lands on 0, where no setting waits. -/
theorem wcuStep_wraps (h0 : s.wcuNextCount c = 0) (hctrl : s.heldOf .WCU_CTRL c = none) (htop : s.heldOf .WCU_TOP c = none)
    (hchan : ∀ n ∈ wcuChans c, s.heldOf .WCU_CCTRL n = none) : wcuStep c s = (wcuChans c).foldl unsuppress (wcuWrapped c s) := by
  have hcctrl : ∀ n, ((wcuChans c).foldl unsuppress (wcuWrapped c s)).rd .WCU_CCTRL n = s.rd .WCU_CCTRL n := fun n => by
    rw [State.rd_of_regs (unsuppress_regs _ _), wcuWrapped_rd (by simp)]
  have hland : wcuLand c (s.wcuNextCount c) s = (wcuChans c).foldl unsuppress (wcuWrapped c s) := by
    have happly : wcuApplySettings c (s.wr .WCU_CNT c 0) = s.wr .WCU_CNT c 0 := wcuApplySettings_of_none hctrl htop hchan
    have hperiods : (s.wr .WCU_CNT c 0).getF F.WCU_STAT_PERIODS c = s.getF F.WCU_STAT_PERIODS c := State.getF_wr_ne s (by decide)
    have hbound : wcuBoundary c (s.wr .WCU_CNT c 0) = (wcuChans c).foldl pwmAtZero ((wcuChans c).foldl unsuppress (wcuWrapped c s)) := by
      rw [wcuBoundary, happly, hperiods]
      rfl
    rw [wcuLand, if_pos h0, hbound]
    exact foldl_unchanged fun n hn => pwmAtZero_of_not_compare ((State.twCompare_of_rd (hcctrl n)).trans (hc n hn))
  rw [wcuStep_of_not_compare hr hc fun n _ => by rw [hland, hcctrl], hland]

end

/-- The count, the status and every other register after a landing on 0. -/
theorem wrapped_spec {s t : State} {c : Nat} (hr : s.wcuRuns c = true) (ht : t.regs = (wcuWrapped c s).regs) :
    t.rd .WCU_CNT c = 0 ∧ t.getF F.WCU_STAT_PERIODS c = (s.getF F.WCU_STAT_PERIODS c + 1) % 2 ^ F.WCU_STAT_PERIODS.wd ∧
    t.wcuDown c = false ∧ t.wcuRuns c = true ∧ regsBut s t [(.WCU_CNT, c), (.WCU_STAT, c)] := by
  refine ⟨?_, ?_, ?_, ?_, fun r n h => ?_⟩
  · rw [State.rd_of_regs ht, wcuWrapped, State.rd_setB_ne _ (by decide), State.rd_setF_ne _ (by decide), State.rd_wr_same]
  · rw [State.getF_of_regs ht, wcuWrapped, State.getF_setB_apart _ (by decide), State.getF_setF_eq _ (by decide)]
  · exact (State.flag_of_regs ht _ _).trans (State.flag_setB_eq _ (by decide))
  · rw [State.wcuRuns, State.flag_of_regs ht, wcuWrapped, State.flag_setB_apart _ (by decide), State.flag_setF_apart _ (by decide),
      State.flag_wr_ne _ (by decide)]
    exact hr
  · rw [State.rd_of_regs ht, wcuWrapped_rd h]

/-! ## The commands -/

section

variable {s : State}

/-- A command of a match: the catch-up match that is due, else the step that lands on the compare value (R183). -/
theorem exec_wcuCompareMatch {n : Fin 32} (hr : s.wcuRuns (n / 4) = true) (hc : s.twCompare n = true) :
    exec (.wcuCompareMatch n) s = .next (finish s (if (s.tw n).catchUp then twUpdate s (wcuCatchUp s n)
      else if s.wcuNextCount (n / 4) == (s.rd .WCU_CMP n).toNat then wcuStepAll (n / 4) s else s)) :=
  ok_of_eq s (if_neg (by simp [hr, hc]))

theorem wcuCatchUp_due {n : Nat} (hr : s.wcuRuns (n / 4) = true) (hc : s.twCompare n = true) (hd : (s.tw n).catchUp = true) :
    wcuCatchUp s n = wcuMatch n s := if_pos (by simp [hr, hc, hd])

/-- A counter that does not run stands. -/
theorem wcuStep_stopped {c : Nat} (h : s.wcuRuns c = false) : wcuStep c s = s := if_pos (by simp [h])

end

/-- Settles O22: where a step lands, and what each landing does. -/
theorem waveformSteps : Obligations.WaveformSteps := by
  refine ⟨?next, ?step, ?boundary, ?compare, ?stopped⟩
  case next => exact fun c s => ⟨fun h => if_neg (by simp [h]), fun h => if_pos h⟩
  case step =>
    intro c s hr hc h0
    refine ⟨fun ht => ?_, fun hu ht hd => ?_⟩
    · exact ok_of_eq s (congrArg (twUpdate s) (wcuStep_between hr hc h0 ht))
    · exact ok_of_eq s ((if_pos (by simp [hr, hu, ht, hd])).trans (congrArg (twUpdate s) (wcuStep_turns hr hc h0 hu ht)))
  case boundary =>
    rintro c s t i hi hr hc h0 hctrl htop rfl
    have hwrap := wcuStep_wraps hr (fun n hn => (hc n hn).1) h0 hctrl htop fun n hn => (hc n hn).2
    refine ⟨?_, wrapped_spec hr (by rw [hwrap, unsuppress_regs])⟩
    rcases hi with rfl | rfl
    · rfl
    · exact ok_of_eq s (if_pos (by simp [hr, h0]))
  case compare =>
    intro n s hr hc
    refine ⟨fun hd => ?_, fun hd hn => ?_⟩
    · rw [exec_wcuCompareMatch hr hc, if_pos hd, wcuCatchUp_due hr hc hd]
    · rw [exec_wcuCompareMatch hr hc, if_neg (by simp [hd]), if_pos (by simp [hn])]
      rfl
  case stopped => exact fun c s h => ok_of_eq s (congrArg (twUpdate s) (wcuStep_stopped h))

end Sys2Proof.Machine

/-! # Writes and reads of the waveform unit (05_milestones_timers.md, R179 to R182, R185, R188, R189) -/

namespace Sys2Proof.Machine

section

variable {m : Master} {r : Reg} {n : Nat} {v : Word} {s t : State} {code : Code}

/-- A write of the unit has the answer of its check, in WCU_RESULT, and the outputs follow. -/
theorem ok_wcuAccess (h : wcuWrite r n v s = (code, t)) :
    ok s (wcuAccess m r n v s) = .next (finish s (twUpdate s (t.answer m .WCU_RESULT code (wcuItem r n) (r.addr n)))) := by
  rw [ok, wcuAccess, h]

/-! ## WCU_CTRLc (R179, R180) -/

section

variable {c : Nat} (hr : reservedSet .WCU_CTRL v = false) (hm : (F.WCU_CTRL_MODE.on v && s.next .WCU_TOP c == 1) = false)

include hr hm

/-- The FCRU holds the counter (R179, R470). -/
theorem wcuWrite_ctrl_blocked (h : (F.WCU_CTRL_EN.on v && tabGet false s.wcuBlocked c) = true) : wcuWrite .WCU_CTRL c v s = (.state, s) := by
  simp only [wcuWrite, wcuCtrlWrite, firstCode, hr, hm, h, Bool.false_eq_true, if_false, if_true, ne_eq, reduceCtorEq, not_false_eq_true]

theorem wcuWrite_ctrl_taken (h : (F.WCU_CTRL_EN.on v && tabGet false s.wcuBlocked c) = false) :
    wcuWrite .WCU_CTRL c v s = (.accepted,
      if F.WCU_CTRL_EN.on v then wcuStart c (wcuHold .WCU_CTRL c c (v &&& word 0x3FFFE) s)
      else wcuStop c (wcuHold .WCU_CTRL c c (v &&& word 0x3FFFE) s)) := by
  simp only [wcuWrite, wcuCtrlWrite, firstCode, hr, hm, h, Bool.false_eq_true, if_false, ne_eq, not_true_eq_false]

end

/-! ## WCU_GSTART and WCU_GSTOP (R180) -/

theorem wcuWrite_gstart_blocked (hr : reservedSet .WCU_GSTART v = false)
    (hb : (onesUpTo 8 v.toNat).any (fun c => tabGet false s.wcuBlocked c) = true) : wcuWrite .WCU_GSTART 0 v s = (.state, s) := by
  simp only [wcuWrite, wcuGstartWrite, hr, hb, Bool.false_eq_true, if_false, if_true]

theorem wcuWrite_gstart_taken (hr : reservedSet .WCU_GSTART v = false)
    (hb : (onesUpTo 8 v.toNat).any (fun c => tabGet false s.wcuBlocked c) = false) :
    wcuWrite .WCU_GSTART 0 v s = (.accepted, wcuStartAll v.toNat s) := by
  simp only [wcuWrite, wcuGstartWrite, hr, hb, Bool.false_eq_true, if_false]

theorem wcuWrite_gstop (hr : reservedSet .WCU_GSTOP v = false) : wcuWrite .WCU_GSTOP 0 v s = (.accepted, wcuStopAll v.toNat s) :=
  if_neg (by simp [hr])

/-! ## WCU_CMPn (R182) -/

/-- Every bit of WCU_CMPn is writable. -/
theorem reservedSet_cmp (v : Word) : reservedSet .WCU_CMP v = false := by
  have hrsv : word (Reg.desc .WCU_CMP).rsv = 0 := rfl
  simp [reservedSet, hrsv]

theorem wcuWrite_cmp_at_once (h : s.wcuRuns (n / 4) = false ∨ s.twCompare n = false) :
    wcuWrite .WCU_CMP n v s = (.accepted, s.wr .WCU_CMP n v) := by
  have hcmp : wcuCmpWrite n v s = s.wr .WCU_CMP n v := if_pos (by rcases h with h | h <;> simp [h])
  rw [wcuWrite, if_neg (by simp [reservedSet_cmp]), hcmp]

/-! ## WCU_CCTRLn (R185, R191) -/

section

variable (hr : reservedSet .WCU_CCTRL v = false) (hf : F.WCU_CCTRL_FUNC.of v ≠ 3) (hs : F.WCU_CCTRL_SRC.of v ≤ 0x77)
  (he : F.WCU_CCTRL_EDGE.of v ≠ 0) (hv : F.WCU_CCTRL_VEVT.of v ≠ 3)

include hr hf hs he hv

theorem wcuWrite_cctrl_absent (h : capSrcFitted s.variant (F.WCU_CCTRL_SRC.of v) = false) : wcuWrite .WCU_CCTRL n v s = (.absent, s) := by
  simp [wcuWrite, wcuCctrlWrite, firstCode, capSrcOk, hr, hf, hs, he, hv, h]

theorem wcuWrite_cctrl_taken (h : capSrcFitted s.variant (F.WCU_CCTRL_SRC.of v) = true) :
    wcuWrite .WCU_CCTRL n v s = (.accepted,
      if F.WCU_CCTRL_ARM.on v then (wcuHold .WCU_CCTRL n (n / 4) (v &&& word 0x37FFFF) s).setB F.WCU_CCTRL_ARM n true
      else wcuHold .WCU_CCTRL n (n / 4) (v &&& word 0x37FFFF) s) := by
  simp [wcuWrite, wcuCctrlWrite, firstCode, capSrcOk, hr, hf, hs, he, hv, h]

end

/-! ## WCU_CAPHn (R188) -/

theorem wcuCaphRead_empty (h : (s.q (.capture n)).recs = []) : wcuCaphRead m n s = (0, s.wr .WCU_CAP (bk m n) 0) := by
  simp only [wcuCaphRead, h]

theorem wcuCaphRead_head {x : Rec} {l : List Rec} (h : (s.q (.capture n)).recs = x :: l) :
    wcuCaphRead m n s = (x.words.getD 0 0,
      ((s.popHead (.capture n)).wr .WCU_CAPV (bk m n) (x.words.getD 1 0)).wr .WCU_CAP (bk m n) (x.words.getD 2 0)) := by
  simp only [wcuCaphRead, h]

end

/-- Settles O23: each write has the answer of its check, and a read of a capture takes the head. -/
theorem waveformRegisters : Obligations.WaveformRegisters := by
  refine ⟨?ctrl, ?gstart, ?gstop, ?cmp, ?cctrl, ?caph⟩
  case ctrl =>
    intro m c v s hr hm
    have hmode : (F.WCU_CTRL_MODE.on v && s.next .WCU_TOP c == 1) = false := by simpa using hm
    refine ⟨fun he hb => ok_wcuAccess (wcuWrite_ctrl_blocked hr hmode (by simp [he, hb])), fun he hb => ok_wcuAccess ?_, fun he => ok_wcuAccess ?_⟩
    · rw [wcuWrite_ctrl_taken hr hmode (by simp [hb]), if_pos he]
    · rw [wcuWrite_ctrl_taken hr hmode (by simp [he]), if_neg (by simp [he])]
  case gstart =>
    exact fun m v s hr => ⟨fun hb => ok_wcuAccess (wcuWrite_gstart_blocked hr hb), fun hb => ok_wcuAccess (wcuWrite_gstart_taken hr hb)⟩
  case gstop => exact fun m v s hr => ok_wcuAccess (wcuWrite_gstop hr)
  case cmp => exact fun m n v s h => ok_wcuAccess (wcuWrite_cmp_at_once h)
  case cctrl =>
    rintro m n v s u hr hf hs he hv rfl
    exact ⟨fun h => ok_wcuAccess (wcuWrite_cctrl_taken hr hf hs he hv h), fun h => ok_wcuAccess (wcuWrite_cctrl_absent hr hf hs he hv h)⟩
  case caph =>
    intro m n s
    refine ⟨fun h => ok_of_eq s (congrArg (State.answerRead m _) (wcuCaphRead_empty h)), fun r l h => ?_⟩
    refine ⟨_, ok_of_eq s (congrArg (State.answerRead m _) (wcuCaphRead_head h)), ?_, ?_, ?_, sends_finish rfl,
      State.memByte_of_mem (finish_mem s _), fun q k hk => ?_⟩
    · rw [q_finish]
      exact (congrArg RecQ.recs (State.q_setQ s (.capture n) (.capture n) _)).trans (by rw [if_pos rfl, h]; rfl)
    · rw [rd_finish, answerRead_rd, State.rd_wr_ne _ (by decide), State.rd_wr_same]
    · rw [rd_finish, answerRead_rd, State.rd_wr_same]
    · simp only [List.mem_cons, List.not_mem_nil, or_false, not_or] at hk
      obtain ⟨hcapv, hcap⟩ := hk
      rw [rd_finish, answerRead_rd, State.rd_wr_but hcap, State.rd_wr_but hcapv]
      rfl

end Sys2Proof.Machine

/-! # The latches of the outputs, APPLY and the DDIN pins (06_power_channels.md, R197, R199, R202, R206, R221, R222, R224) -/

namespace Sys2Proof.Machine

section

variable {m : Master} {r : Reg} {n : Nat} {v : Word} {s t : State}

/-! ## Answers in OUT_RESULT (R13, R224) -/

theorem ok_outAccess {code : Code} {item : Nat} (hf : regFitted s.variant r n = true) (h : outWrite r n v s = (code, item, t)) :
    ok s (outAccess m r n v s) = .next (finish s (t.answer m .OUT_RESULT code item (r.addr n))) := by
  rw [ok, outAccess, if_pos hf, outAnswered, h]

theorem ok_outAccess_absent (hf : regFitted s.variant r n = false) :
    ok s (outAccess m r n v s) = .next (finish s (s.absentWrite m .OUT_RESULT n (r.addr n))) := by
  rw [ok, outAccess, if_neg (by simp [hf])]

/-! ## OUT_LVLn and OUT_APPLYn (R197, R206, R221) -/

theorem outWrite_lvl_taken (hr : reservedSet .OUT_LVL v = false) (h : latchRefused s n (F.OUT_LVL_LEVEL.on v) = false) :
    outWrite .OUT_LVL n v s = (.accepted, n, chanUpdate n false (latchSet n (F.OUT_LVL_LEVEL.on v) s)) := by
  simp [outWrite, outLvlWrite, firstCode, hr, h]

theorem outWrite_lvl_refused (hr : reservedSet .OUT_LVL v = false) (h : latchRefused s n (F.OUT_LVL_LEVEL.on v) = true) :
    outWrite .OUT_LVL n v s = (.state, n, s) := by
  simp [outWrite, outLvlWrite, firstCode, hr, h]

theorem outWrite_apply (hr : reservedSet .OUT_APPLY v = false) :
    outWrite .OUT_APPLY n v s = (.accepted, n, if F.OUT_APPLY_APPLY.on v then chanReconfigure n s (chApplyPending n s) else s) := by
  simp [outWrite, outApplyWrite, outApplyNow, hr]

end

/-! ## The channels that a bank write names (R222) -/

theorem onesUpTo_eq_filter (k v : Nat) : onesUpTo k v = (List.range k).filter (bitOf v) := by
  induction k with
  | zero => rfl
  | succ k ih => rw [onesUpTo, ih, List.range_succ, List.filter_append, List.filter_singleton, Bool.cond_eq_ite]

/-- The numbers of the channels of bank `j`, absent ones too. -/
def bankRange (j : Nat) : List Nat := (List.range 32).map (· + 32 * j)

/-- The channels named by a bank word are those of the bank whose bit is 1. -/
theorem bankNamed_eq_filter (j v : Nat) : (onesUpTo 32 v).map (· + 32 * j) = (bankRange j).filter fun n => bitOf v (n - 32 * j) := by
  rw [onesUpTo_eq_filter, bankRange, List.filter_map]
  simp only [Function.comp_def, Nat.add_sub_cancel]

/-- Where every named channel is fitted, the fitted channels whose bit is 1 are those named. -/
theorem bankFitted_filter_named {vt : Variant} {j v : Nat} (h : ((onesUpTo 32 v).map (· + 32 * j)).all (fun n => chanFitted vt n) = true) :
    ((bankRange j).filter fun n => chanFitted vt n).filter (fun n => bitOf v (n - 32 * j)) = (onesUpTo 32 v).map (· + 32 * j) := by
  rw [List.filter_comm, ← bankNamed_eq_filter]
  exact List.filter_eq_self.mpr (List.all_eq_true.mp h)

/-! ## A bank write (R206, R222, R224) -/

section

variable {j v addr n : Nat} {s : State}

theorem bankWrite_absent {want : Nat → Option Bool} (h : ((onesUpTo 32 v).map (· + 32 * j)).find? (fun n => ! chanFitted s.variant n) = some n) :
    bankWrite j v addr want s = (.absent, n, absentMark addr s) := by
  simp only [bankWrite, h]

/-! The write gives each channel of `changed` its level `b`, and leaves the other channels of the bank. -/

variable {want : Nat → Option Bool} {b : Nat → Bool} {changed : List Nat}
  (hall : ((onesUpTo 32 v).map (· + 32 * j)).all (fun n => chanFitted s.variant n) = true)
  (hc : ((bankRange j).filter fun n => chanFitted s.variant n).filter (fun n => (want n).isSome) = changed)
  (hb : ∀ n c, want n = some c → c = b n)

include hb

/-- The lowest refused channel of the bank is the lowest of those that the write would change. -/
theorem bankRefused_find? {p : Nat → Bool} (hp : ∀ n, p n = (want n).any (latchRefused s n)) (l : List Nat) :
    l.find? p = (l.filter fun n => (want n).isSome).find? fun n => latchRefused s n (b n) := by
  have hpoint : p = fun n => (want n).isSome && latchRefused s n (b n) := by
    funext n
    rw [hp]
    cases h : want n with
    | none => rfl
    | some c => rw [hb n c h]; rfl
  rw [List.find?_filter, hpoint]
  simp only [Bool.decide_and, Bool.decide_eq_true]

/-- Every channel that the write changes takes its level `b`. -/
theorem bankLatches_foldl {g : State → Nat → State} (hg : ∀ t n c, want n = some c → g t n = latchSet n c t) (l : List Nat) :
    (l.filter fun n => (want n).isSome).foldl g s = (l.filter fun n => (want n).isSome).foldl (fun t n => latchSet n (b n) t) s := by
  refine List.foldl_ext _ _ s fun t n hn => ?_
  obtain ⟨c, hw⟩ := Option.isSome_iff_exists.mp (List.mem_filter.mp hn).2
  rw [hg t n c hw, hb n c hw]

omit hb

include hall

theorem bankNamed_find?_absent : ((onesUpTo 32 v).map (· + 32 * j)).find? (fun n => ! chanFitted s.variant n) = none := by
  rw [List.find?_eq_none]
  intro n hn
  simp [List.all_eq_true.mp hall n hn]

include hc hb

/-- What a write that names no absent channel does. -/
theorem bankWrite_fitted : bankWrite j v addr want s = (changed.find? fun n => latchRefused s n (b n)).elim
    (.accepted, 0, chansUpdate changed (changed.foldl (fun t n => latchSet n (b n) t) s)) (fun n => (.state, n, s)) := by
  simp only [bankWrite, bankNamed_find?_absent hall]
  rw [bankRefused_find? hb fun n => by cases want n <;> rfl, bankLatches_foldl hb fun t n c hw => by rw [hw]]
  rw [bankRange] at hc
  rw [hc]
  cases changed.find? (fun n => latchRefused s n (b n)) <;> rfl

theorem bankWrite_refused (h : changed.find? (fun n => latchRefused s n (b n)) = some n) : bankWrite j v addr want s = (.state, n, s) := by
  rw [bankWrite_fitted hall hc hb, h, Option.elim_some]

theorem bankWrite_taken (h : changed.any (fun n => latchRefused s n (b n)) = false) :
    bankWrite j v addr want s = (.accepted, 0, chansUpdate changed (changed.foldl (fun t n => latchSet n (b n) t) s)) := by
  have hnone : changed.find? (fun n => latchRefused s n (b n)) = none := List.find?_eq_none.mpr (List.any_eq_false.mp h)
  rw [bankWrite_fitted hall hc hb, hnone, Option.elim_none]

end

/-! ## OUT_LATBj, OUT_LATSj and OUT_LATCj (R222) -/

/-- The level that a write of OUT_LATSj (`c` true) or OUT_LATCj (`c` false) gives a channel. -/
def namedLevel (c : Bool) (j v n : Nat) : Option Bool := if bitOf v (n - 32 * j) then some c else none

theorem namedLevel_some {c d : Bool} {j v n : Nat} (h : namedLevel c j v n = some d) : d = c := by
  unfold namedLevel at h
  split at h
  · exact (Option.some.inj h).symm
  · cases h

/-- It reaches the channels named. -/
theorem namedLevel_changed {c : Bool} {vt : Variant} {j v : Nat} (h : ((onesUpTo 32 v).map (· + 32 * j)).all (fun n => chanFitted vt n) = true) :
    ((bankRange j).filter fun n => chanFitted vt n).filter (fun n => (namedLevel c j v n).isSome) = (onesUpTo 32 v).map (· + 32 * j) := by
  refine (List.filter_congr fun n _ => ?_).trans (bankFitted_filter_named h)
  unfold namedLevel
  cases bitOf v (n - 32 * j) <;> rfl

section

variable {j n : Nat} {v : Word} {s : State}

/-- A write of OUT_LATSj or OUT_LATCj. -/
def namedWrite (r : Reg) (c : Bool) (j : Nat) (v : Word) (s : State) : Code × Nat × State :=
  bankWrite j v.toNat (r.addr j) (namedLevel c j v.toNat) s

theorem outWrite_latb : outWrite .OUT_LATB j v s = latbWrite j v s := rfl
theorem outWrite_lats : outWrite .OUT_LATS j v s = namedWrite .OUT_LATS true j v s := rfl
theorem outWrite_latc : outWrite .OUT_LATC j v s = namedWrite .OUT_LATC false j v s := rfl

variable {r : Reg} {c : Bool} (hall : ((onesUpTo 32 v.toNat).map (· + 32 * j)).all (fun n => chanFitted s.variant n) = true)

include hall

theorem namedWrite_refused (h : ((onesUpTo 32 v.toNat).map (· + 32 * j)).find? (fun n => latchRefused s n c) = some n) :
    namedWrite r c j v s = (.state, n, s) :=
  bankWrite_refused hall (namedLevel_changed hall) (b := fun _ => c) (fun _ _ => namedLevel_some) h

theorem namedWrite_taken (h : ((onesUpTo 32 v.toNat).map (· + 32 * j)).any (fun n => latchRefused s n c) = false) :
    namedWrite r c j v s = (.accepted, 0, chansUpdate ((onesUpTo 32 v.toNat).map (· + 32 * j))
      (((onesUpTo 32 v.toNat).map (· + 32 * j)).foldl (fun t n => latchSet n c t) s)) :=
  bankWrite_taken hall (namedLevel_changed hall) (b := fun _ => c) (fun _ _ => namedLevel_some) h

theorem latbWrite_refused
    (h : ((bankRange j).filter fun n => chanFitted s.variant n).find? (fun n => latchRefused s n (bitOf v.toNat (n - 32 * j))) = some n) :
    latbWrite j v s = (.state, n, s) :=
  bankWrite_refused hall (List.filter_true _) (b := fun n => bitOf v.toNat (n - 32 * j)) (fun _ _ hw => (Option.some.inj hw).symm) h

theorem latbWrite_taken
    (h : ((bankRange j).filter fun n => chanFitted s.variant n).any (fun n => latchRefused s n (bitOf v.toNat (n - 32 * j))) = false) :
    latbWrite j v s = (.accepted, 0, chansUpdate ((bankRange j).filter fun n => chanFitted s.variant n)
      (((bankRange j).filter fun n => chanFitted s.variant n).foldl (fun t n => latchSet n (bitOf v.toNat (n - 32 * j)) t) s)) :=
  bankWrite_taken hall (List.filter_true _) (b := fun n => bitOf v.toNat (n - 32 * j)) (fun _ _ hw => (Option.some.inj hw).symm) h

end

/-- Settles O24: each write has the answer of its check, and a DDIN pin passes its level on. -/
theorem outputLatches : Obligations.OutputLatches := by
  refine ⟨?level, ?bank, ?apply, ?absent, ?ddin⟩
  case level =>
    exact fun m n v s hf hr => ⟨fun h => ok_outAccess hf (outWrite_lvl_taken hr h), fun h => ok_outAccess hf (outWrite_lvl_refused hr h)⟩
  case bank =>
    intro m j v n s named all hnamed hfitted
    rw [hnamed, hfitted]
    refine ⟨fun h => ⟨?_, ?_, ?_⟩, fun hall => ⟨?_, ?_, ?_, ?_, ?_, ?_⟩⟩
    · exact ok_outAccess rfl (outWrite_latb.trans (bankWrite_absent h))
    · exact ok_outAccess rfl (outWrite_lats.trans (bankWrite_absent h))
    · exact ok_outAccess rfl (outWrite_latc.trans (bankWrite_absent h))
    · exact fun h => ok_outAccess rfl (outWrite_latb.trans (latbWrite_refused hall h))
    · exact fun h => ok_outAccess rfl (outWrite_latb.trans (latbWrite_taken hall h))
    · exact fun h => ok_outAccess rfl (outWrite_lats.trans (namedWrite_refused hall h))
    · exact fun h => ok_outAccess rfl (outWrite_lats.trans (namedWrite_taken hall h))
    · exact fun h => ok_outAccess rfl (outWrite_latc.trans (namedWrite_refused hall h))
    · exact fun h => ok_outAccess rfl (outWrite_latc.trans (namedWrite_taken hall h))
  case apply =>
    intro m n v s hf hr
    refine ⟨fun ha => ok_outAccess hf ?_, fun ha => ok_outAccess hf ?_⟩
    · rw [outWrite_apply hr, if_pos ha]
    · rw [outWrite_apply hr, if_neg (by simp [ha])]
  case absent => exact fun m n v s hf => ⟨ok_outAccess_absent hf, ok_outAccess_absent hf⟩
  case ddin =>
    rintro k high s u rfl
    refine ⟨?_, fun h => ok_of_eq s (if_pos h), fun h => ok_of_eq s (if_neg (by simp [h]))⟩
    rw [State.getF_setF_eq _ (show (k : Nat) + 1 ≤ 32 by omega)]
    cases high <;> rfl

end Sys2Proof.Machine

/-! # The times of an output channel: inrush, off detection, run-on, alignment (06_power_channels.md, R204, R205, R210, R214, R217) -/

namespace Sys2Proof.Machine

section

variable {n : Nat} {s : State}

/-! ## The end of the inrush window (R205) -/

/-- The channel once its inrush window has stopped: the reservation goes, and a paused span restarts. -/
def windowOver (n : Nat) (s : State) : State :=
  cycEnd n (if s.flag F.PROT_STAT_PAUSED n then
    (unreserve n (inrushStop n s)).setCh n { (unreserve n (inrushStop n s)).ch n with span := none } else unreserve n (inrushStop n s))

theorem inrushEnd_running (h : s.flag F.OUT_STAT_INR n = true) :
    inrushEnd n s = if (windowOver n s).chState n = 3 then
      scholdRelease (chFeed n) (toState n ((windowOver n s).onCode n) (windowOver n s)) else windowOver n s := if_neg (by simp [h])

theorem inrushEnd_no_window (h : s.flag F.OUT_STAT_INR n = false) : inrushEnd n s = s := if_pos (by simp [h])

@[simp] theorem unreserve_regs (n : Nat) (s : State) : (unreserve n s).regs = s.regs := by
  unfold unreserve
  split <;> rfl

/-- The end of a window is seen in the registers of the stopped window alone. -/
theorem windowOver_regs (n : Nat) (s : State) : (windowOver n s).regs = (inrushStop n s).regs := by
  unfold windowOver cycEnd
  split <;> simp

/-- A window that stops clears its mark and its pause, and leaves the state of the channel. -/
theorem inrushStop_flags (n : Nat) (s : State) :
    (inrushStop n s).chState n = s.chState n ∧ (inrushStop n s).flag F.OUT_STAT_INR n = false ∧ (inrushStop n s).flag F.PROT_STAT_PAUSED n = false := by
  unfold inrushStop
  refine ⟨?_, ?_, State.flag_setB_eq _ (by decide)⟩
  · unfold State.chState
    rw [State.getF_setB_ne _ (by decide), State.getF_setB_apart _ (by decide)]
    split <;> simp
  · rw [State.flag_setB_ne _ (by decide), State.flag_setB_eq _ (by decide)]

theorem windowOver_flags (n : Nat) (s : State) :
    (windowOver n s).chState n = s.chState n ∧ (windowOver n s).flag F.OUT_STAT_INR n = false ∧ (windowOver n s).flag F.PROT_STAT_PAUSED n = false := by
  have hregs := windowOver_regs n s
  rw [State.chState, State.getF_of_regs hregs, State.flag_of_regs hregs, State.flag_of_regs hregs]
  exact inrushStop_flags n s

/-! ## Off detection (R204) -/

theorem offDetect_inactive (ha : (s.ch n).act = true) (hc : s.command n = false) (hs : s.steadySrc n = false) :
    offDetect n s = commandOff n true false (s.setCh n { s.ch n with act := false }) := if_pos (by simp [ha, hc, hs])

theorem offDetect_active (hc : s.command n = true) : offDetect n s = s := if_neg (by simp [hc])

/-! ## Run-on (R210) -/

/-- The channel once its run-on timer has ended: it follows its drive line. -/
def runonOver (n : Nat) (s : State) : State := chanUpdate n false (s.setCh n { s.ch n with runonEnd := none })

theorem runonEnd_not_running (h : s.runon n = false) : runonEnd n s = s := if_neg (by simp [h])

theorem runonEnd_inactive (h : s.runon n = true) (ha : ((runonOver n s).ch n).act = true) (hc : (runonOver n s).command n = false) :
    runonEnd n s = commandOff n false false ((runonOver n s).setCh n { (runonOver n s).ch n with act := false }) :=
  (if_pos h).trans (if_pos (by rw [← runonOver, ha, hc]; rfl))

theorem runonEnd_active (h : s.runon n = true) (ha : ((runonOver n s).ch n).act = false ∨ (runonOver n s).command n = true) :
    runonEnd n s = runonOver n s :=
  (if_pos h).trans (if_neg (by rw [← runonOver]; rcases ha with h | h <;> simp [h]))

/-! ## The end of an inserted delay (R214, R217) -/

theorem alignRelease_nothing (h : (s.ch n).aligned = []) : alignRelease n s = s := by simp only [alignRelease, h]

/-- The level that has waited goes to the stage. -/
theorem alignRelease_waiting {rel : Nat} {b : Bool} {l : List (Nat × Bool)} {u : State} (h : (s.ch n).aligned = (rel, b) :: l)
    (hu : u = s.setCh n { s.ch n with aligned := l }) :
    alignRelease n s = if u.stage n = b then (if b && u.chState n == 3 && ! u.flag F.OUT_STAT_INR n then inrushStart n u else u)
      else if ! b then edge n false true 0 true (stageTo n false u)
      else if u.thermal n then u
      else if u.chState n = 3 then stageUp n true false u
      else edge n true true 0 true (stageTo n true u) := by
  subst hu
  simp only [alignRelease, h]

end

/-- Settles O25: each clause from what the end of its time does. -/
theorem outputTimes : Obligations.OutputTimes := by
  refine ⟨?window, ?noWindow, ?off, ?fall, ?rise, ?noRunon, ?runon, ?align, ?noAlign⟩
  case window =>
    rintro n s w u rfl hu h
    have hu : u = windowOver n s := hu
    subst hu
    obtain ⟨hstate, hinr, hpaused⟩ := windowOver_flags n s
    refine ⟨hstate, hinr, hpaused, fun h3 => ok_of_eq s ?_, fun h3 => ok_of_eq s ?_⟩
    · rw [inrushEnd_running h, if_pos (hstate.trans h3)]
    · rw [inrushEnd_running h, if_neg (hstate ▸ h3)]
  case noWindow => exact fun n s h => ok_of_eq s (inrushEnd_no_window h)
  case off => exact fun n s ha => ⟨fun hc hs => ok_of_eq s (offDetect_inactive ha hc hs), fun hc => ok_of_eq s (offDetect_active hc)⟩
  case fall =>
    rintro s u rfl h
    exact ⟨ok_of_eq s (if_pos h), ok_of_eq s (if_pos h)⟩
  case rise => exact fun s h => ⟨ok_of_eq s (if_neg (by simp [h])), ok_of_eq s (if_neg (by simp [h])), _, rfl⟩
  case noRunon => exact fun n s h => ok_of_eq s (runonEnd_not_running h)
  case runon =>
    rintro n s u h rfl
    exact ⟨fun ha hc => ok_of_eq s (runonEnd_inactive h ha hc), fun ha => ok_of_eq s (runonEnd_active h ha)⟩
  case align =>
    intro n rel b l s u h hu
    have hexec : exec (.alignDelayEnd n) s = .next (finish s _) := ok_of_eq s (alignRelease_waiting h hu)
    refine ⟨fun hb => ?_, fun hb hoff => ?_, fun hb hon ht => ?_, fun hb hon ht h3 => ?_, fun hb hon ht h3 => ?_⟩
    · rw [hexec, if_pos hb]
    · rw [hexec, if_neg hb, if_pos (by simp [hoff])]
    · rw [hexec, if_neg hb, if_neg (by simp [hon]), if_pos ht]
    · rw [hexec, if_neg hb, if_neg (by simp [hon]), if_neg (by simp [ht]), if_pos h3]
    · rw [hexec, if_neg hb, if_neg (by simp [hon]), if_neg (by simp [ht]), if_neg h3]
  case noAlign => exact fun n s h => ok_of_eq s (alignRelease_nothing h)

end Sys2Proof.Machine

/-! # Transitions of the outputs (06_power_channels.md, R215, R218, R219, R221, R226) -/

namespace Sys2Proof.Machine

/-! ## What a transition record leaves of the channels (R218 to R220) -/

@[simp] theorem offer_chan (s : State) (i : QId) (ws : List Word) : (s.offer i ws).chan = s.chan := by
  unfold State.offer
  dsimp only
  split <;> rfl

@[simp] theorem coSend_chan (id : Nat) (d : List Byte) (s : State) : (coSend id d s).chan = s.chan := by
  obtain ⟨l, h⟩ := coSend_frame id d s
  rw [h]

@[simp] theorem setTp_chan (k : Nat) (x : Tpdo) (s : State) : (setTp k x s).chan = s.chan := rfl

@[simp] theorem latchTransition_chan (b n : Nat) (s : State) : (latchTransition b n s).chan = s.chan := rfl

/-- A TPDO that carries a transition leaves the channels. -/
@[simp] theorem tpdoTransition_chan (n : Nat) (s : State) : (tpdoTransition n s).chan = s.chan := by
  unfold tpdoTransition
  split
  · rfl
  · refine foldl_keeps State.chan _ (fun t k => ?_) _ s
    dsimp only
    split
    · split <;> simp [lastTransitionIn]
    · rfl

/-- A transition that is recorded is the channel's last one, and counts. -/
theorem recordTransition_ch (n : Nat) (e : Edge) (t : Transition) (s : State) :
    (recordTransition n e t s).ch n = { s.ch n with last := t, count := (s.ch n).count + 1 } := by
  have hchan : (recordTransition n e t s).chan = (s.setCh n { s.ch n with last := t, count := (s.ch n).count + 1 }).chan := by
    unfold recordTransition
    simp [apply_ite State.chan]
  rw [State.ch, hchan]
  exact State.ch_setCh_same s n _

/-! ## Crossings (R215, R218) -/

section

variable {n : Nat} {rising : Bool} {e : Edge} {l : List Edge} {s : State}

/-- The oldest awaited transition is recorded with the time of its crossing. -/
def crossed (n : Nat) (e : Edge) (l : List Edge) (s : State) : State :=
  recordTransition n e { sec := s.alm.sec, ns := s.alm.ns, on := e.on } (s.setCh n { s.ch n with awaited := l })

theorem crossing_awaited (h : (s.ch n).awaited = e :: l) (hd : e.on = rising) :
    crossing n rising s = if e.measures && s.measurable n && decide (s.up ≤ e.at_ + 200000) then
      holdMeasurement n e.on (s.up - e.at_) (s.chVolt n) (crossed n e l s) else crossed n e l s := by
  simp only [crossing, h, hd, if_true, crossed]

theorem crossing_other_direction (h : (s.ch n).awaited = e :: l) (hd : e.on ≠ rising) : crossing n rising s = s := by
  simp only [crossing, h, hd, if_false]

theorem crossing_kept {f : Nat} (h : (s.ch n).awaited = []) (hf : (s.ch n).fallAt = some f) (hs : s.stage n = false)
    (hl : (s.ch n).lastFall = none) :
    crossing n false s = s.setCh n { s.ch n with
      lastFall := some (s.alm.sec, s.alm.ns),
      fallDly := if s.measurable n && decide (s.up ≤ f + 200000) then some (s.up - f, s.chVolt n) else none } := by
  simp [crossing, h, hf, hs, hl]

theorem crossing_rising (h : (s.ch n).awaited = []) : crossing n true s = s := by
  unfold crossing
  simp only [h]
  cases (s.ch n).fallAt <;> rfl

theorem noCrossing_awaited (h : (s.ch n).awaited = e :: l) :
    noCrossing n s = recordTransition n e
      { sec := s.fullAt e.at_ / 1000000000, ns := s.fullAt e.at_ % 1000000000, on := e.on, nocross := true }
      (s.setCh n { s.ch n with awaited := l }) := by
  simp only [noCrossing, h]

theorem noCrossing_nothing (h : (s.ch n).awaited = []) : noCrossing n s = s := by
  simp only [noCrossing, h]

end

/-! ## The latch of the last transition (R221, R226) -/

/-- A bank's latch holds the rest of the last transition; every other register stays. -/
theorem latchTransition_spec (b n : Nat) (s : State) :
    (latchTransition b n s).rd .OUT_LTNS (n + 1024 * b) = word (s.ch n).last.ns ∧
    (latchTransition b n s).rd .OUT_TCNT (n + 1024 * b) = word ((s.ch n).count % 65536) ∧
    (latchTransition b n s).rd .OUT_LTHI (n + 1024 * b) = word ((s.ch n).last.sec / 2 ^ 32 % 65536 + 0x10000 * b01 (s.ch n).last.on +
      0x20000 * b01 (s.ch n).last.nocross + 0x40000 * b01 (s.ch n).last.rtct) ∧
    regsBut s (latchTransition b n s) [(.OUT_LTHI, n + 1024 * b), (.OUT_LTNS, n + 1024 * b), (.OUT_TCNT, n + 1024 * b)] := by
  unfold latchTransition
  refine ⟨?_, ?_, ?_, fun r k h => ?_⟩
  · rw [State.rd_wr_ne _ (by decide), State.rd_wr_same]
  · rw [State.rd_wr_same]
  · rw [State.rd_wr_ne _ (by decide), State.rd_wr_ne _ (by decide), State.rd_wr_same]
  · simp only [List.mem_cons, List.not_mem_nil, or_false, not_or] at h
    obtain ⟨hhi, hns, hcnt⟩ := h
    rw [State.rd_wr_but hcnt, State.rd_wr_but hns, State.rd_wr_but hhi]

/-- Settles O26: the record of each crossing, and the latch of each read. -/
theorem outputTransitions : Obligations.OutputTransitions := by
  refine ⟨?awaited, ?none, ?ltsec, ?object⟩
  case awaited =>
    intro n rising e l s u h hu
    have hu : u = crossed n e l s := hu
    subst hu
    refine ⟨fun hd hm => ok_of_eq s ?_, fun hd hm => ok_of_eq s ?_, fun hd => ok_of_eq s (crossing_other_direction h hd), ?_,
      ok_of_eq s (noCrossing_awaited h)⟩
    · rw [crossing_awaited h hd, if_pos (by simpa using hm)]
      rfl
    · -- `=` binds closer than `&&`: the premise is a measurement whose crossing came later than 200 µs.
      rw [Bool.and_eq_true, decide_eq_true_eq] at hm
      rw [crossing_awaited h hd, if_neg (by simp [hm.2])]
    · rw [crossed, recordTransition_ch, State.ch_setCh_same]
  case none =>
    exact fun n s h => ⟨fun f hf hs hl => ok_of_eq s (crossing_kept h hf hs hl), ok_of_eq s (crossing_rising h), ok_of_eq s (noCrossing_nothing h)⟩
  case ltsec =>
    intro m n s hf
    obtain ⟨hns, hcnt, hhi, hrest⟩ := latchTransition_spec (masterBank m) n s
    refine ⟨_, ok_of_eq s (if_pos hf), sends_finish rfl, ?_, ?_, ?_, fun r k h => ?_, State.memByte_of_mem (finish_mem s _)⟩
    · rw [rd_finish, answerRead_rd]
      exact hns
    · rw [rd_finish, answerRead_rd]
      exact hcnt
    · rw [rd_finish, answerRead_rd]
      exact hhi
    · rw [rd_finish, answerRead_rd]
      exact hrest r k h
  case object => exact fun p n s hf => ⟨ok_of_eq s (if_pos hf), ok_of_eq s (if_pos hf)⟩

end Sys2Proof.Machine

/-! # The protection of a channel (07_channel_protection.md, R228 to R240) -/

namespace Sys2Proof.Machine

section

variable {n : Nat} {s : State}

/-! ## Short circuit and junction (R229, R236) -/

/-- The comparator acts on a conducting stage, and what the feed counts of the channel stops for 1 ms. -/
theorem shortCutoff_conducting (h : s.stage n = true) : shortCutoff n s = trip n 1 (s.setCh n { s.ch n with cutUntil := s.up + 1000000 }) := if_pos h
theorem shortCutoff_off (h : s.stage n = false) : shortCutoff n s = s := if_neg (by simp [h])

/-- LATCH_J alone sets the thermal latch. -/
theorem State.thermal_setB_latchJ : (s.setB F.PROT_STAT_LATCH_J n true).thermal n = true := by
  rw [State.thermal, State.flag_setB_eq _ (by decide), Bool.true_or]

/-- What a junction at or below 150 °C leaves of PROT_JTn and LATCH_J, before the channel resumes. -/
def junctionRead (n : Nat) (tj : Int) (s : State) : State := (s.setF F.PROT_JT_TJ n (codeOf 16 tj)).setB F.PROT_STAT_LATCH_J n false

/-- The channel resumes when its last latch clears. -/
theorem junctionCool_clears {tj : Int} (h : s.thermal n = true) (hu : (junctionRead n tj s).thermal n = false) :
    junctionCool n tj s = thermalCleared n (junctionRead n tj s) := if_pos (Bool.and_eq_true_iff.mpr ⟨h, congrArg not hu⟩)

theorem junctionCool_stays {tj : Int} (h : s.thermal n = false ∨ (junctionRead n tj s).thermal n = true) :
    junctionCool n tj s = junctionRead n tj s := by
  refine if_neg fun hc => ?_
  obtain ⟨hset, hclear⟩ := Bool.and_eq_true_iff.mp hc
  rcases h with h | h
  · exact Bool.eq_false_iff.mp h hset
  · exact Bool.eq_false_iff.mp ((Bool.not_eq_true' _).mp hclear) h

/-! ## DIP (R231) -/

theorem dipSet_begins {k : Nat} (h : s.flag F.TOLL_STAT_DIP k = false) : dipSet k s =
    (feedChans k).foldl (fun t n => if t.flag F.OUT_STAT_INR n then t.setB F.PROT_STAT_PAUSED n true else t)
      (snsDisturb (feedChans k) (s.setB F.TOLL_STAT_DIP k true)) := if_neg (by simp [h])

/-- A feed that is in DIP already begins no second pause. -/
theorem dipSet_again {k : Nat} (h : s.flag F.TOLL_STAT_DIP k = true) : dipSet k s = snsDisturb (feedChans k) (s.setB F.TOLL_STAT_DIP k true) := if_pos h

theorem pauseEnd_paused {spent : Bool} (h : s.flag F.PROT_STAT_PAUSED n = true) :
    pauseEnd n spent s = (s.setB F.PROT_STAT_PAUSED n false).setCh n { s.ch n with span := none, dipSpent := spent } := if_pos h

/-- The end of a pause's time means nothing to a channel that does not pause. -/
theorem pauseEnd_spent_unpaused (h : s.flag F.PROT_STAT_PAUSED n = false) : pauseEnd n true s = s := (if_neg (by simp [h])).trans (if_pos rfl)

/-! ## Retries (R239) -/

/-- After a short the restart waits for the inrushes of the feed's other channels. -/
theorem restartQueue_holds (hc : s.getF F.PROT_STAT_CAUSE n = 1) (hi : (feedChans (chFeed n)).any (fun j => j != n && s.chState j == 3) = true) :
    restartQueue n s = s.setB F.PROT_STAT_SCHOLD n true := if_pos ⟨hc, hi⟩

theorem restartQueue_waits
    (h : s.getF F.PROT_STAT_CAUSE n ≠ 1 ∨ (feedChans (chFeed n)).any (fun j => j != n && s.chState j == 3) = false) :
    restartQueue n s = waitAdd n none s := by
  refine if_neg fun ⟨hc, hi⟩ => ?_
  rcases h with h | h
  · exact h hc
  · exact Bool.eq_false_iff.mp h hi

/-- A back-off that ends leads to a restart, where the command stands and none is on its way. -/
theorem backoffEnds_restarts (hst : s.chState n = 5) (hc : s.retryCommand n = true) (hw : s.flag F.PROT_STAT_WAIT n = false)
    (hh : s.flag F.PROT_STAT_SCHOLD n = false) : backoffEnds n s = restartQueue n (s.setCh n { s.ch n with backoffEnd := 0 }) :=
  if_pos ⟨hst, hc, by simp [hw], by simp [hh]⟩

end

/-- Settles O27: what each protection command does, one rule of the unit for each clause. -/
theorem channelProtection : Obligations.ChannelProtection := by
  refine ⟨?short, ?hot, ?cool, ?dipSet, ?dipClear, ?dipTimeout, ?wire, ?backoff, ?reset⟩
  case short => exact fun n s hf => ⟨fun h => ok_of_eq s ((if_pos hf).trans (shortCutoff_conducting h)),
    fun h => ok_of_eq s ((if_pos hf).trans (shortCutoff_off h))⟩
  case hot =>
    rintro n tj s _ hf rfl
    exact ⟨State.thermal_setB_latchJ, ok_of_eq s (if_pos hf)⟩
  case cool =>
    rintro n tj s _ hf rfl
    exact ⟨fun h hu => ok_of_eq s ((if_pos hf).trans (junctionCool_clears h hu)), fun h => ok_of_eq s ((if_pos hf).trans (junctionCool_stays h))⟩
  case dipSet =>
    rintro k s _ hf rfl
    exact ⟨fun h => ok_of_eq s ((if_pos hf).trans (dipSet_begins h)), fun h => ok_of_eq s ((if_pos hf).trans (dipSet_again h))⟩
  case dipClear => exact fun k s => rfl
  case dipTimeout => exact fun n s => ⟨fun h => ok_of_eq s (pauseEnd_paused h), fun h => ok_of_eq s (pauseEnd_spent_unpaused h)⟩
  case wire =>
    rintro s _ hd rfl
    exact ok_of_eq s (if_pos hd)
  case backoff =>
    rintro n s _ hst hc hw hh rfl
    have hends := backoffEnds_restarts hst hc hw hh
    exact ⟨fun h => ok_of_eq s (hends.trans (restartQueue_waits h)), fun hcause hi => ok_of_eq s (hends.trans (restartQueue_holds hcause hi))⟩
  case reset =>
    intro n s h
    refine ⟨_, ok_of_eq s (if_pos h), ?_, fun r k hr => ?_, State.memByte_of_mem (finish_mem s _), sends_finish rfl⟩
    · rw [State.getF_of_regs (finish_regs s _), State.getF_setF_eq _ (by decide), Nat.zero_mod]
    · rw [rd_finish, State.rd_setF_but (pair_ne_of_notMem_singleton hr)]

end Sys2Proof.Machine

/-! # Tollgate (07_channel_protection.md, R241 to R254) -/

namespace Sys2Proof.Machine

/-! ## Answers -/

section

variable {m : Master} {res : Reg} {c : Code} {item addr : Nat} {s : State}

/-- The master's result register holds its answer. -/
theorem State.rd_answer_same : (s.answer m res c item addr).rd res (bk m 0) = resultWord c item addr := by
  rw [State.answer, State.rd_of_regs (State.emit_regs _ _), State.rd_wr_same]

/-- A write's answer changes no register but its master's result register. -/
theorem State.rd_answer_but {q : Reg} {n : Nat} (h : (q, n) ≠ (res, bk m 0)) : (s.answer m res c item addr).rd q n = s.rd q n := by
  rw [State.answer, State.rd_of_regs (State.emit_regs _ _), State.rd_wr_but h]

end

/-! ## Writes (R245, R254) -/

section

variable {m : Master} {k : Nat} {v : Word} {s t : State}

/-- A write of a fitted feed's TOLL_CFGk or TOLL_CLRk has the answer of its check, in TOLL_RESULT with the feed's number. -/
theorem ok_tollAccess {r : Reg} {code : Code} (hr : r = .TOLL_CFG ∨ r = .TOLL_CLR) (hf : feedFitted s.variant k = true)
    (h : tollWrite r k v s = (code, t)) :
    ok s (tollAccess m r k v s) = .next (finish s (t.answer m .TOLL_RESULT code (k + 1) (r.addr k))) := by
  rcases hr with rfl | rfl <;> exact ok_of_eq s ((if_pos hf).trans (by rw [h]))

theorem tollWrite_clr (hr : reservedSet .TOLL_CLR v = false) (hv : F.TOLL_CLR_CLR.on v = true) :
    tollWrite .TOLL_CLR k v s = (.accepted, s.wr .TOLL_CNT k 0) := by
  simp [tollWrite, hr, hv]

variable (hr : reservedSet .TOLL_CFG v = false) (hb : 10 ≤ F.TOLL_CFG_BUDGET.of v ∧ F.TOLL_CFG_BUDGET.of v ≤ 150)
  (hs : F.TOLL_CFG_STAGGER.of v ≤ 20) (ht : 1 ≤ F.TOLL_CFG_RESTORE.of v ∧ F.TOLL_CFG_RESTORE.of v ≤ 100)

include hr hb hs ht

/-- A budget that the plan fits in, or that is the one in force or waiting, waits for the planning step. -/
theorem tollWrite_cfg_taken (h : s.planBase k + s.planMax k ≤ F.TOLL_CFG_BUDGET.of v * 100 ∨
    F.TOLL_CFG_BUDGET.of (s.next .TOLL_CFG k) = F.TOLL_CFG_BUDGET.of v) : tollWrite .TOLL_CFG k v s = (.accepted, s.hold .TOLL_CFG k v) := by
  have hplan : (F.TOLL_CFG_BUDGET.of (s.next .TOLL_CFG k) != F.TOLL_CFG_BUDGET.of v &&
      decide (F.TOLL_CFG_BUDGET.of v * 100 < s.planBase k + s.planMax k)) = false := by
    rcases h with h | h
    · rw [decide_eq_false (by omega), Bool.and_false]
    · rw [h, bne_self_eq_false, Bool.false_and]
  simp [tollWrite, firstCode, hr, hb, hs, ht, hplan]

/-- A new budget below the plan is refused. -/
theorem tollWrite_cfg_refused (hp : F.TOLL_CFG_BUDGET.of v * 100 < s.planBase k + s.planMax k)
    (hn : F.TOLL_CFG_BUDGET.of (s.next .TOLL_CFG k) ≠ F.TOLL_CFG_BUDGET.of v) : tollWrite .TOLL_CFG k v s = (.toll, s) := by
  simp [tollWrite, firstCode, hr, hb, hs, ht, hp, hn]

end

/-! ## Shedding and restore (R246, R248) -/

section

variable {k n : Nat} {s : State}

theorem restoreOffer_none (h : s.offered k = none) : restoreOffer k s = s := by simp only [restoreOffer, h]

theorem restoreOffer_some (h : s.offered k = some n) : restoreOffer k s =
    if (s.tf k).cur + (s.ch n).iShed ≤ ((s.budget k * 10 : Nat) : Int) then waitAdd n none s else s := by simp only [restoreOffer, h]

theorem restoreOffer_fits (h : s.offered k = some n) (hfit : (s.tf k).cur + (s.ch n).iShed ≤ ((s.budget k * 10 : Nat) : Int)) :
    restoreOffer k s = waitAdd n none s := (restoreOffer_some h).trans (if_pos hfit)

theorem restoreOffer_exceeds (h : s.offered k = some n) (hover : ((s.budget k * 10 : Nat) : Int) < (s.tf k).cur + (s.ch n).iShed) :
    restoreOffer k s = s := (restoreOffer_some h).trans (if_neg (not_le.mpr hover))

end

/-- Settles O28: each write has the answer of its check, and each step of Tollgate has its effect where its condition on the feed holds. -/
theorem tollgate : Obligations.Tollgate := by
  refine ⟨?clr, ?budget, ?planning, ?shedding, ?restore⟩
  case clr =>
    intro m k v s hf hr hv
    refine ⟨_, ok_tollAccess (.inr rfl) hf (tollWrite_clr hr hv), ?_, sends_finish rfl, State.memByte_of_mem (finish_mem s _), ?_, fun r i h => ?_⟩
    · rw [rd_finish, State.rd_answer_ne _ (by decide), State.rd_wr_same]
    · rw [rd_finish, State.rd_answer_same]
    · simp only [List.mem_cons, List.not_mem_nil, or_false, not_or] at h
      obtain ⟨hcnt, hres⟩ := h
      rw [rd_finish, State.rd_answer_but hres, State.rd_wr_but hcnt]
  case budget =>
    intro m k v s hf hr hlo hhi hs h1 h100
    exact ⟨fun h => ok_tollAccess (.inl rfl) hf (tollWrite_cfg_taken hr ⟨hlo, hhi⟩ hs ⟨h1, h100⟩ h),
      fun hp hn => ok_tollAccess (.inl rfl) hf (tollWrite_cfg_refused hr ⟨hlo, hhi⟩ hs ⟨h1, h100⟩ hp hn)⟩
  case planning =>
    rintro feeds s _ hd rfl
    exact ok_of_eq s (if_pos hd)
  case shedding => exact fun k s => ⟨fun ho hb => ok_of_eq s (if_pos (by simp [ho, hb])), fun ho => ok_of_eq s (if_neg (by simp [ho]))⟩
  case restore =>
    intro k s hcur
    exact ⟨fun h => ok_of_eq s ((if_pos hcur).trans (restoreOffer_none h)), fun n h =>
      ⟨fun hfit => ok_of_eq s ((if_pos hcur).trans (restoreOffer_fits h hfit)),
        fun hover => ok_of_eq s ((if_pos hcur).trans (restoreOffer_exceeds h hover))⟩⟩

end Sys2Proof.Machine

/-! # Current measurement: samples, the gain window, tester sessions, signatures (08_current_sensing.md, R259 to R278) -/

namespace Sys2Proof.Machine

section

variable {n : Nat} {raw : Int} {refOk : Bool} {x : CalSample} {s u : State}

/-! ## A sample outside a gain window (R261, R265 to R267, R281) -/

/-- What a sample outside a window leaves, before a window opens: it is published, and it joins the offset. -/
def sampleTaken (n : Nat) (raw : Int) (x : CalSample) (s : State) : State := offsetSample n raw (snsPublish n x x.ua false s)

theorem plainSample_shut (h : (sampleTaken n raw x s).gainOpens n = false) : plainSample n raw refOk x s = sampleTaken n raw x s :=
  if_neg (Bool.eq_false_iff.mp h)

/-- A window opens with the sample as the one at t0, and keeps the gain in force (R275). -/
theorem plainSample_opens (hu : sampleTaken n raw x s = u) (h : u.gainOpens n = true) :
    plainSample n raw true x s = u.setSns n { u.snsCh n with win := some { first := x.ua, gain := u.getF F.SNS_CAL_GAIN n } } := by
  subst hu
  exact (if_pos h).trans (if_pos rfl)

/-- A window is not opened under a bad reference (R266). -/
theorem plainSample_bad_reference (hu : sampleTaken n raw x s = u) (h : u.gainOpens n = true) :
    plainSample n raw false x s = refFault (chFeed n) u := by
  subst hu
  exact (if_pos h).trans (if_neg Bool.false_ne_true)

theorem calApply_none_waits (hw : (s.snsCh n).win = none) (hh : s.heldOf .SNS_CAL n = none) : calApply n s = s := by
  rw [calApply, hw, State.applyHeld_none s hh, ite_self]

/-- Stored values wait for the end of a window (R275). -/
theorem calApply_in_window {w : GainWin} (hw : (s.snsCh n).win = some w) : calApply n s = s := by
  rw [calApply, hw, Option.isSome_some, if_pos rfl]

theorem snsSample_outside_window (hw : (s.snsCh n).win = none) (hh : s.heldOf .SNS_CAL n = none) :
    snsSample n raw refOk s = plainSample n raw refOk (s.sample n (s.snsScaled n raw)) s := by
  simp only [snsSample, calApply_none_waits hw hh, hw]

theorem snsSample_in_window {w : GainWin} (hw : (s.snsCh n).win = some w) :
    snsSample n raw refOk s = winSample n w (s.sample n (s.snsScaled n raw)) s := by
  simp only [snsSample, calApply_in_window hw, hw]

/-! ## The gain window of a heavy or medium channel (R268, R275) -/

section

variable {w : GainWin}

theorem winSample_aborted (ha : w.aborted = true) : winSample n w x s = gainAborted n w x s := if_pos ha

/-- Three samples of a window are disturbed on these channels. -/
theorem calWeights_length (hn : n < 64) : (calWeights n).length = 3 := by rw [calWeights, if_pos hn]; rfl

theorem winSample_held (hn : n < 64) (ha : w.aborted = false) (hl : w.held.length < 3) :
    winSample n w x s = s.setSns n { s.snsCh n with win := some { w with held := w.held ++ [x] } } := by
  refine (if_neg (Bool.eq_false_iff.mp ha)).trans (if_neg ?_)
  rw [calWeights_length hn]
  exact hl.not_ge

theorem winSample_closes (hn : n < 64) (ha : w.aborted = false) (hl : 3 ≤ w.held.length) : winSample n w x s = gainClose n w x s := by
  refine (if_neg (Bool.eq_false_iff.mp ha)).trans (if_pos ?_)
  rwa [calWeights_length hn]

end

/-- A sample of a fitted channel has its effect while the Switch domain is on. -/
theorem exec_samplePublish {n : Fin 64} (hd : s.dom.switch = true) (hf : chanFitted s.variant n = true) (h : snsSample n raw refOk s = u) :
    exec (.samplePublish n raw refOk) s = .next (finish s u) :=
  ok_of_eq s ((if_pos (Bool.and_eq_true_iff.mpr ⟨hd, hf⟩)).trans h)

/-! ## The light scan (R260, R263) -/

/-- The scan at its next slot. -/
def scanStepped (s : State) : State := { s with snsSlot := (s.snsSlot + 1) % 32 }

theorem lightSlot_fitted (hf : chanFitted s.variant (64 + s.snsSlot) = true) :
    lightSlot raw refOk s = snsSample (64 + s.snsSlot) (lightReading raw) refOk (scanStepped s) := if_pos hf

/-- An absent channel's slot is left unused. -/
theorem lightSlot_absent (hf : chanFitted s.variant (64 + s.snsSlot) = false) : lightSlot raw refOk s = scanStepped s :=
  if_neg (Bool.eq_false_iff.mp hf)

theorem exec_lightConversion (hd : s.dom.switch = true) (ht : s.flag F.SNS_STATUS_TESTER 0 = false) (h : lightSlot raw refOk s = u) :
    exec (.lightConversion raw refOk) s = .next (finish s u) :=
  ok_of_eq s ((if_pos (by rw [hd, ht]; rfl)).trans h)

/-- A tester session pauses the scan. -/
theorem exec_lightConversion_paused (ht : s.flag F.SNS_STATUS_TESTER 0 = true) : exec (.lightConversion raw refOk) s = .next (finish s s) :=
  ok_of_eq s (if_neg (by rw [ht, Bool.not_true, Bool.and_false]; exact Bool.false_ne_true))

end

/-! ## A flag sets -/

/-- A command that sets one flag changes that flag's register alone. -/
theorem finish_setB_spec (s : State) {f : Fld} {n : Nat} (hf : f.lo + f.wd ≤ 32 ∧ f.wd = 1) :
    (finish s (s.setB f n true)).flag f n = true ∧ regsBut s (finish s (s.setB f n true)) [(f.reg, n)] ∧
      memSame s (finish s (s.setB f n true)) ∧ sends s (finish s (s.setB f n true)) [] := by
  refine ⟨?_, fun r i h => ?_, State.memByte_of_mem (finish_mem s _), sends_finish rfl⟩
  · rw [flag_finish, State.flag_setB_eq s hf]
  · rw [rd_finish, State.rd_setB_but (pair_ne_of_notMem_singleton h)]

/-! ## The end of a capture (R271 to R273) -/

section

variable {n : Nat} {x : List Int} {c : Capture} {s u v : State}

/-- What a capture that is not skipped leaves before it is learned or judged: its peak is stored in LASTPK. -/
def capturePeak (n : Nat) (c : Capture) (y : List Int) (u : State) : State :=
  (if c.volt = 0 then { u with fresh := u.fresh + 128 } else u).setF F.SNS_SIGPK_LASTPK n (codeOf 16 (maxOf y))

variable (hc : (s.snsCh n).cap = some c) (hu : s.setSns n { s.snsCh n with cap := none } = u)

include hc hu

theorem captureEnd_skipped (hs : c.skip = true) : captureEnd n x s = verdictSet n 4 u := by
  simp only [captureEnd, hc, hu, hs, if_true]

variable (hs : c.skip = false) (hv : capturePeak n c (sigScaled s.fresh c.volt x) u = v)

include hs hv

theorem captureEnd_clean : captureEnd n x s = if v.flag F.SNS_SIGSTAT_LEARNT n then sigJudge n c (sigScaled s.fresh c.volt x) v
    else verdictSet n 0 (sigLearn n (sigScaled s.fresh c.volt x) v) := by
  subst hu hv
  simp only [captureEnd, hc, hs]
  rfl

theorem captureEnd_judged (hl : v.flag F.SNS_SIGSTAT_LEARNT n = true) : captureEnd n x s = sigJudge n c (sigScaled s.fresh c.volt x) v :=
  (captureEnd_clean hc hu hs hv).trans (if_pos hl)

theorem captureEnd_learned (hl : v.flag F.SNS_SIGSTAT_LEARNT n = false) :
    captureEnd n x s = verdictSet n 0 (sigLearn n (sigScaled s.fresh c.volt x) v) :=
  (captureEnd_clean hc hu hs hv).trans (if_neg (Bool.eq_false_iff.mp hl))

end

/-! ## Writes and reads of the registers (R277, R278) -/

section

variable {m : Master} {r : Reg} {n : Nat} {v : Word} {s t : State}

/-- A write of a fitted measurement register is answered in SNS_RESULT. -/
theorem ok_snsAccess {code : Code} {item : Nat} (hf : regFitted s.variant r n = true) (h : snsWrite m r n v s = (code, item, t)) :
    ok s (snsAccess m r n v s) = .next (finish s (t.answer m .SNS_RESULT code item (r.addr n))) := by
  rw [ok, snsAccess, if_pos hf, h]

theorem snsWrite_sigcfg {code : Code} (h : sigcfgWrite n v s = (code, t)) : snsWrite m .SNS_SIGCFG n v s = (code, n, t) := by rw [snsWrite, h]

theorem snsWrite_sigsel {code : Code} (h : sigselWrite (masterBank m) v s = (code, t)) :
    snsWrite m .SNS_SIGSEL n v s = (code, F.SNS_SIGSEL_CHAN.of v, t) := by rw [snsWrite, h]

/-- A configuration in range waits for the next switch-on; RELEARN is noted beside it (R272, R281). -/
theorem sigcfgWrite_taken (hn : n < 64) (hr : reservedSet .SNS_SIGCFG v = false) (ht : 1 ≤ F.SNS_SIGCFG_TOL.of v ∧ F.SNS_SIGCFG_TOL.of v ≤ 50)
    (hd : 5 ≤ F.SNS_SIGCFG_DEG_LIM.of v ∧ F.SNS_SIGCFG_DEG_LIM.of v ≤ 100)
    (hc : F.SNS_SIGCFG_DEG_LIM.of v < F.SNS_SIGCFG_CHG_LIM.of v ∧ F.SNS_SIGCFG_CHG_LIM.of v ≤ 200)
    (hh : s.hold .SNS_SIGCFG n (v &&& word 0x7FFFFFFF) = t) :
    sigcfgWrite n v s = (.accepted, t.setSns n { t.snsCh n with relearn := F.SNS_SIGCFG_RELEARN.on v }) := by
  subst hh
  have hrange : 1 ≤ F.SNS_SIGCFG_TOL.of v ∧ F.SNS_SIGCFG_TOL.of v ≤ 50 ∧ 5 ≤ F.SNS_SIGCFG_DEG_LIM.of v ∧ F.SNS_SIGCFG_DEG_LIM.of v ≤ 100 ∧
      F.SNS_SIGCFG_DEG_LIM.of v + 1 ≤ F.SNS_SIGCFG_CHG_LIM.of v ∧ F.SNS_SIGCFG_CHG_LIM.of v ≤ 200 :=
    ⟨ht.1, ht.2, hd.1, hd.2, hc.1, hc.2⟩
  refine (if_neg hn.not_ge).trans (if_neg ?_)
  rw [hr, decide_eq_true hrange]
  exact Bool.false_ne_true

/-- A light channel has no signature: only 0 may be written. -/
theorem sigcfgWrite_light (hn : 64 ≤ n) : sigcfgWrite n v s = (if v = 0 then .accepted else .invalid, s) := if_pos hn

/-- The curve of a fitted heavy or medium channel is latched for the master. -/
theorem sigselWrite_taken {b : Nat} (hr : reservedSet .SNS_SIGSEL v = false) (hcu : F.SNS_SIGSEL_CURVE.of v ≠ 3) (hn : F.SNS_SIGSEL_CHAN.of v < 64)
    (hf : chanFitted s.variant (F.SNS_SIGSEL_CHAN.of v) = true) : sigselWrite b v s = (.accepted,
      (List.range 64).foldl (fun t w => t.wr .SNS_CURVE (w + 1024 * b) (curveWord (s.snsCh (F.SNS_SIGSEL_CHAN.of v)) (F.SNS_SIGSEL_CURVE.of v) w))
        (s.wr .SNS_SIGSEL (1024 * b) v)) := by
  simp [sigselWrite, firstCode, hr, hcu, hn, hf]

end

/-- Settles O29: a sample is split by the window it falls in, a conversion by the slot and the session, a capture by how it ends. -/
theorem sensing : Obligations.Sensing := by
  refine ⟨?plain, ?window, ?light, ?flags, ?testerStart, ?testerRuns, ?testerEnd, ?capture, ?sigcfg, ?sigcfgLight, ?sigsel, ?valRead⟩
  case plain =>
    rintro n raw refOk _ s _ hd hf hw hh rfl rfl
    have hsample := snsSample_outside_window (raw := raw) (refOk := refOk) hw hh
    refine ⟨fun h => exec_samplePublish hd hf (hsample.trans (plainSample_shut h)), fun h hr => ?_, fun h hr => ?_⟩
    · subst hr
      exact exec_samplePublish hd hf (hsample.trans (plainSample_opens rfl h))
    · subst hr
      exact exec_samplePublish hd hf (hsample.trans (plainSample_bad_reference rfl h))
  case window =>
    rintro n raw refOk w _ s hd hf hw rfl
    have hsample := snsSample_in_window (raw := raw) (refOk := refOk) hw
    exact ⟨fun ha hl => exec_samplePublish hd hf (hsample.trans (winSample_held n.isLt ha hl)),
      fun ha hl => exec_samplePublish hd hf (hsample.trans (winSample_closes n.isLt ha hl)),
      fun ha => exec_samplePublish hd hf (hsample.trans (winSample_aborted ha))⟩
  case light =>
    rintro raw refOk s _ hd rfl
    exact ⟨fun ht hf => exec_lightConversion hd ht (lightSlot_fitted hf), fun ht hf => exec_lightConversion hd ht (lightSlot_absent hf),
      exec_lightConversion_paused⟩
  case flags =>
    intro n s hd hf
    have hon := Bool.and_eq_true_iff.mpr ⟨hd, hf⟩
    exact ⟨⟨_, ok_of_eq s (if_pos hon), finish_setB_spec s (by decide)⟩, ⟨_, ok_of_eq s (if_pos hon), finish_setB_spec s (by decide)⟩⟩
  case testerStart =>
    rintro isel s _ hd ht rfl
    exact ⟨ok_of_eq s (if_neg (by simp [hd, ht])), ok_of_eq s (if_neg (by simp [ht]))⟩
  case testerRuns => exact fun isel s ht => ⟨ok_of_eq s (if_pos ht), ok_of_eq s (if_pos (by simp [ht]))⟩
  case testerEnd => exact fun s => rfl
  case capture =>
    intro n x c s u v hc hu hv
    exact ⟨fun hs => ok_of_eq s (captureEnd_skipped hc hu.symm hs),
      fun hs hl => ok_of_eq s (captureEnd_judged hc hu.symm hs hv.symm hl),
      fun hs hl => ok_of_eq s (captureEnd_learned hc hu.symm hs hv.symm hl)⟩
  case sigcfg =>
    intro m n v s u hf hr ht ht' hd hd' hc hc' hu
    exact ok_snsAccess hf (snsWrite_sigcfg (sigcfgWrite_taken n.isLt hr ⟨ht, ht'⟩ ⟨hd, hd'⟩ ⟨hc, hc'⟩ hu.symm))
  case sigcfgLight => exact fun m n v s hn hf => ok_snsAccess hf (snsWrite_sigcfg (sigcfgWrite_light hn))
  case sigsel => exact fun m v s hr hcu hn hf => ok_snsAccess rfl (snsWrite_sigsel (sigselWrite_taken hr hcu hn hf))
  case valRead => exact fun m n s hf => ok_of_eq s (if_pos hf)

end Sys2Proof.Machine

/-! # Commands to valves (09_valve_drivers.md, R291, R293, R295, R296, R299, R300, R306) -/

namespace Sys2Proof.Machine

section

variable {m : Master} {r : Reg} {n v : Nat} {w : Word} {s t : State}

/-! ## Answers in VLV_RESULT (R306) -/

/-- A write of a fitted valve register is answered in VLV_RESULT, with the valve concerned and whether its start is deferred. -/
theorem ok_vlvAccess {code : Code} {item : Nat} {deferred : Bool} (hf : regFitted s.variant r n = true)
    (h : vlvWrite r n w s = (code, item, deferred, t)) :
    ok s (vlvAccess m r n w s) = .next (finish s ((t.wr .VLV_RESULT (bk m 0)
      (word (code.num + 0x100 * (item % 32) + 0x8000 * b01 deferred + 0x10000 * r.addr n))).emit (.written m (r.addr n) code))) :=
  ok_of_eq s ((if_pos hf).trans (by rw [h]))

/-- Without a deferral, DEFER is 0. -/
theorem ok_vlvAccess_undeferred {code : Code} {item : Nat} (hf : regFitted s.variant r n = true) (h : vlvWrite r n w s = (code, item, false, t)) :
    ok s (vlvAccess m r n w s) = .next (finish s ((t.wr .VLV_RESULT (bk m 0)
      (word (code.num + 0x100 * (item % 32) + 0x10000 * r.addr n))).emit (.written m (r.addr n) code))) := by
  have hdefer : 0x8000 * b01 false = 0 := rfl
  rw [ok_vlvAccess hf h, hdefer, Nat.add_zero]

/-- The code of an accepted write is 0. -/
theorem ok_vlvAccess_accepted {item : Nat} (hf : regFitted s.variant r n = true) (h : vlvWrite r n w s = (.accepted, item, false, t)) :
    ok s (vlvAccess m r n w s) = .next (finish s ((t.wr .VLV_RESULT (bk m 0)
      (word (0x100 * (item % 32) + 0x10000 * r.addr n))).emit (.written m (r.addr n) .accepted))) := by
  rw [ok_vlvAccess_undeferred hf h, Code.num, Nat.zero_add]

/-! ## VLV_CMDv (R293, R300) -/

theorem vlvCmdWrite_start (hr : reservedSet .VLV_CMD w = false) (hs : F.VLV_CMD_START.on w = true) (ho : F.VLV_CMD_OFF.on w = false) :
    vlvCmdWrite v w s = ((startCommand v s).1, v, (startCommand v s).2.1, (startCommand v s).2.2) := by
  simp [vlvCmdWrite, hr, hs, ho]

theorem vlvCmdWrite_start_and_off (hs : F.VLV_CMD_START.on w = true) (ho : F.VLV_CMD_OFF.on w = true) :
    vlvCmdWrite v w s = (.invalid, v, false, s) := by
  simp [vlvCmdWrite, hs, ho]

theorem vlvCmdWrite_off (hr : reservedSet .VLV_CMD w = false) (hs : F.VLV_CMD_START.on w = false) (ho : F.VLV_CMD_OFF.on w = true) :
    vlvCmdWrite v w s = (.accepted, v, false, offCommand v s) := by
  simp [vlvCmdWrite, hr, hs, ho]

/-! ## Starts (R293, R295) -/

theorem startCommand_barred (h : s.startBarred v = true) : startCommand v s = (.state, false, s) := if_pos h

section

variable (hb : s.startBarred v = false)

include hb

/-- A start means nothing more to a valve that waits, boosts, peaks or has a restart pending. -/
theorem startCommand_merged (h : s.vState v = 1 ∨ s.vState v = 2 ∨ s.vState v = 3 ∨ s.flag F.VLV_STAT_RPEND v = true) :
    startCommand v s = (.accepted, false, s) :=
  (if_neg (Bool.eq_false_iff.mp hb)).trans (if_pos (by tauto))

variable (h1 : s.vState v ≠ 1) (h2 : s.vState v ≠ 2) (h3 : s.vState v ≠ 3) (hp : s.flag F.VLV_STAT_RPEND v = false)

include h1 h2 h3 hp

/-- Any other start goes by its deferral. -/
theorem startCommand_by_deferral : startCommand v s =
    if s.deferral v = 0 then (.accepted, false, enterBoost v s)
    else if s.deferral v ≤ s.getF F.VLV_GCFG_MAXDEF (v / 4) * 100000 then
      (.accepted, true, if s.vState v = 0 then
          vlvTo v 1 ((s.setVlv v { s.vlv v with promise := s.up + s.deferral v }).countF F.VLV_GCNT_DEFERRED (v / 4))
        else ((s.setVlv v { s.vlv v with promise := s.up + s.deferral v }).countF F.VLV_GCNT_DEFERRED (v / 4)).setB F.VLV_STAT_RPEND v true)
    else (.groupBusy, false, s.countF F.VLV_GCNT_BUSY (v / 4)) :=
  (if_neg (Bool.eq_false_iff.mp hb)).trans (if_neg (by simp [h1, h2, h3, hp]))

theorem startCommand_at_once (hd : s.deferral v = 0) : startCommand v s = (.accepted, false, enterBoost v s) :=
  (startCommand_by_deferral hb h1 h2 h3 hp).trans (if_pos hd)

theorem startCommand_deferred (hd : s.deferral v ≠ 0) (hmax : s.deferral v ≤ s.getF F.VLV_GCFG_MAXDEF (v / 4) * 100000)
    (ht : t = (s.setVlv v { s.vlv v with promise := s.up + s.deferral v }).countF F.VLV_GCNT_DEFERRED (v / 4)) :
    startCommand v s = (.accepted, true, if s.vState v = 0 then vlvTo v 1 t else t.setB F.VLV_STAT_RPEND v true) := by
  subst ht
  rw [startCommand_by_deferral hb h1 h2 h3 hp, if_neg hd, if_pos hmax]

theorem startCommand_busy (hmax : s.getF F.VLV_GCFG_MAXDEF (v / 4) * 100000 < s.deferral v) :
    startCommand v s = (.groupBusy, false, s.countF F.VLV_GCNT_BUSY (v / 4)) := by
  have hd : s.deferral v ≠ 0 := by omega
  rw [startCommand_by_deferral hb h1 h2 h3 hp, if_neg hd, if_neg hmax.not_ge]

end

/-! ## VLV_STARTM and VLV_OFFM (R296) -/

section

variable {l : List Nat} (hl : l = onesUpTo 24 w.toNat)

/-- A mask that names fitted valves alone has no absent one. -/
theorem valves_find?_absent {vt : Variant} (h : l.all (fun v => valveFitted vt v) = true) : l.find? (fun v => ! valveFitted vt v) = none := by
  rw [List.find?_eq_none]
  intro v hv
  simp [List.all_eq_true.mp h v hv]

include hl

theorem vlvWrite_startm_fitted (hr : reservedSet .VLV_STARTM w = false) (h : l.all (fun v => valveFitted s.variant v) = true) :
    vlvWrite .VLV_STARTM n w s = startMask l s s := by
  rw [vlvWrite, startmWrite, ← hl]
  simp only [hr, valves_find?_absent h, Bool.false_eq_true, if_false]

theorem vlvWrite_startm_absent (hr : reservedSet .VLV_STARTM w = false) (h : l.find? (fun v => ! valveFitted s.variant v) = some v) :
    vlvWrite .VLV_STARTM n w s = (.absent, v, false, s) := by
  rw [vlvWrite, startmWrite, ← hl]
  simp only [hr, h, Bool.false_eq_true, if_false]

theorem vlvWrite_offm_fitted (hr : reservedSet .VLV_OFFM w = false) (h : l.all (fun v => valveFitted s.variant v) = true) :
    vlvWrite .VLV_OFFM n w s = (.accepted, 0, false, l.foldl (fun t v => offCommand v t) s) := by
  rw [vlvWrite, offmWrite, ← hl]
  simp only [hr, valves_find?_absent h, Bool.false_eq_true, if_false]

theorem vlvWrite_offm_absent (hr : reservedSet .VLV_OFFM w = false) (h : l.find? (fun v => ! valveFitted s.variant v) = some v) :
    vlvWrite .VLV_OFFM n w s = (.absent, v, false, s) := by
  rw [vlvWrite, offmWrite, ← hl]
  simp only [hr, h, Bool.false_eq_true, if_false]

end

/-! ## VLV_GCLRg (R299, R306) -/

theorem vlvWrite_gclr {code : Code} (h : gclrWrite n w s = (code, t)) : vlvWrite .VLV_GCLR n w s = (code, 4 * n, false, t) := by
  rw [vlvWrite, h]

theorem gclrWrite_clr (hr : reservedSet .VLV_GCLR w = false) (hc : F.VLV_GCLR_CLR.on w = true) (hn : F.VLV_GCLR_CNTCLR.on w = false) :
    gclrWrite n w s = (.accepted, groupApply n (groupClear n s)) := by
  simp [gclrWrite, hr, hc, hn]

theorem gclrWrite_cntclr (hr : reservedSet .VLV_GCLR w = false) (hc : F.VLV_GCLR_CLR.on w = false) (hn : F.VLV_GCLR_CNTCLR.on w = true) :
    gclrWrite n w s = (.accepted, s.wr .VLV_GCNT n 0) := by
  simp [gclrWrite, hr, hc, hn]

end

/-- Settles O30: each write has the answer of its check, and a start is split by what bars it, the valve's state and its deferral. -/
theorem valveCommands : Obligations.ValveCommands := by
  refine ⟨?start, ?off, ?startMask, ?offMask, ?clear⟩
  case start =>
    intro m v w s hf hr hs
    exact ⟨fun ho => ok_vlvAccess hf (vlvCmdWrite_start hr hs ho), fun ho => ok_vlvAccess_undeferred hf (vlvCmdWrite_start_and_off hs ho),
      startCommand_barred, startCommand_merged, fun hb h1 h2 h3 hp => ⟨startCommand_at_once hb h1 h2 h3 hp,
        fun hd hmax u hu => startCommand_deferred hb h1 h2 h3 hp hd hmax hu, startCommand_busy hb h1 h2 h3 hp⟩⟩
  case off => exact fun m v w s hf hr hs ho => ok_vlvAccess_accepted hf (vlvCmdWrite_off hr hs ho)
  case startMask =>
    intro m w s l hr hl
    exact ⟨fun hall => ok_vlvAccess rfl (vlvWrite_startm_fitted hl hr hall), fun v hv => ok_vlvAccess_undeferred rfl (vlvWrite_startm_absent hl hr hv)⟩
  case offMask =>
    intro m w s l hr hl
    refine ⟨fun hall => ?_, fun v hv => ok_vlvAccess_undeferred rfl (vlvWrite_offm_absent hl hr hv)⟩
    exact (ok_vlvAccess_accepted rfl (vlvWrite_offm_fitted hl hr hall)).trans (by rw [Nat.zero_mod, Nat.mul_zero, Nat.zero_add])
  case clear =>
    intro m g w s hf hr
    refine ⟨fun hc hn => ok_vlvAccess_accepted hf (vlvWrite_gclr (gclrWrite_clr hr hc hn)), fun hc hn =>
      ⟨_, ok_vlvAccess_accepted hf (vlvWrite_gclr (gclrWrite_cntclr hr hc hn)), ?_, sends_finish rfl, fun q i h => ?_,
        State.memByte_of_mem (finish_mem s _)⟩⟩
    · rw [rd_finish, State.rd_emit, State.rd_wr_ne _ (by decide), State.rd_wr_same]
    · simp only [List.mem_cons, List.not_mem_nil, or_false, not_or] at h
      obtain ⟨hcnt, hres⟩ := h
      rw [rd_finish, State.rd_emit, State.rd_wr_but hres, State.rd_wr_but hcnt]

end Sys2Proof.Machine

/-! # The course of a valve event (09_valve_drivers.md, R284, R285, R287, R292, R297 to R300; 16_redundancy_faults.md, R470) -/

namespace Sys2Proof.Machine

section

variable {v g cur capv : Nat} {s : State}

/-! ## BOOST (R297, R298, R300) -/

theorem boostFreed_enters (hw : s.vState v = 1 ∨ s.flag F.VLV_STAT_RPEND v = true) (hn : s.boostNow v = true) : boostFreed v s = enterBoost v s :=
  if_pos ⟨hw, hn⟩
theorem boostFreed_taken (h : s.boostNow v = false) : boostFreed v s = s := if_neg fun ⟨_, hn⟩ => Bool.eq_false_iff.mp h hn

theorem peakReached_boost (h : s.vState v = 2) : peakReached v s =
    vlvCur v (s.getF F.VLV_CUR_PEAK v) (phaseTo v 2 (vlvTo v 3 (boostEnd v (strokeJudge v (ttpJudge v (valveCapture v 0 s)))))) := if_pos h

theorem strokeDip_boost (h : s.vState v = 2) (hr : (s.vlv v).restart = false) :
    strokeDip v cur s = valveCapture v 1 ((vlvCur v cur s).setVlv v { s.vlv v with dip := true }) := if_pos ⟨h, by simp [hr]⟩

/-- TMAX below 100 mA is an open circuit. -/
theorem tmaxPassed_open (h : s.vState v = 2) (hc : cur < 10) : tmaxPassed v cur s = valveFault v 3 s := (if_pos h).trans (if_pos hc)

/-- A late valve switches off where LATEACT says so. -/
theorem tmaxPassed_lateact (h : s.vState v = 2) (hc : 10 ≤ cur) (hl : s.flag F.VLV_MODE_LATEACT v = true) :
    tmaxPassed v cur s = valveOff v 2 false (ttpLate v (vlvCur v cur s)) :=
  (if_pos h).trans ((if_neg hc.not_gt).trans (if_pos hl))

/-- Else it is held. -/
theorem tmaxPassed_holds (h : s.vState v = 2) (hc : 10 ≤ cur) (hl : s.flag F.VLV_MODE_LATEACT v = false) : tmaxPassed v cur s =
    vlvCur v (s.getF F.VLV_CUR_HOLD v) (phaseTo v 3 (vlvTo v 4 (boostEnd v (strokeJudge v (ttpLate v (vlvCur v cur s)))))) :=
  (if_pos h).trans ((if_neg hc.not_gt).trans (if_neg (Bool.eq_false_iff.mp hl)))

/-! ## PEAK, HOLD and OFF (R300, R470) -/

theorem dwellPassed_peak (h : s.vState v = 3) :
    dwellPassed v s = vlvCur v (s.getF F.VLV_CUR_HOLD v) (phaseTo v 3 (vlvTo v 4 (valveCapture v 2 s))) := if_pos h

theorem holdmaxPassed_hold (h : s.vState v = 4) (hm : s.getF F.VLV_MODE_HOLDMAX v ≠ 0) : holdmaxPassed v s = valveOff v 1 false s := if_pos ⟨h, hm⟩
/-- HOLDMAX 0 sets no limit. -/
theorem holdmaxPassed_unlimited (hm : s.getF F.VLV_MODE_HOLDMAX v = 0) : holdmaxPassed v s = s := if_neg fun ⟨_, hn⟩ => hn hm

/-- A valve that the FCRU has disabled in its event has its record when its current has decayed. -/
theorem currentDecayed_disabled (h : s.vState v = 8) (he : (s.vlv v).event.fin = 3) : currentDecayed v s = offComplete v s := if_pos ⟨h, he⟩

/-- In OFF the event is complete, and the valve waits for a pending restart or is IDLE. -/
theorem currentDecayed_off (h : s.vState v = 5 ∨ s.vState v = 6) : currentDecayed v s =
    if s.flag F.VLV_STAT_RPEND v then (vlvTo v 1 (offComplete v s)).setB F.VLV_STAT_RPEND v false
    else groupApply (v / 4) (vlvTo v 0 (offComplete v s)) :=
  (if_neg (by omega)).trans (if_pos h)

theorem currentDecayed_restart (h : s.vState v = 5 ∨ s.vState v = 6) (hp : s.flag F.VLV_STAT_RPEND v = true) :
    currentDecayed v s = (vlvTo v 1 (offComplete v s)).setB F.VLV_STAT_RPEND v false := (currentDecayed_off h).trans (if_pos hp)

theorem currentDecayed_idle (h : s.vState v = 5 ∨ s.vState v = 6) (hp : s.flag F.VLV_STAT_RPEND v = false) :
    currentDecayed v s = groupApply (v / 4) (vlvTo v 0 (offComplete v s)) := (currentDecayed_off h).trans (if_neg (Bool.eq_false_iff.mp hp))

/-! ## The recharge window and the capacitor of a group (R284, R285, R292) -/

/-- The group's recharge window is over. -/
def rechargeEnded (g : Nat) (s : State) : State := { s.setB F.VLV_GSTAT_RECHG g false with rechgEnd := tabSet 0 s.rechgEnd g 0 }

/-- Its end clears RECHG, and changes no other register and no byte of memory. -/
theorem rechargeEnded_spec (g : Nat) (s : State) :
    let t := finish s (rechargeEnded g s)
    t.flag F.VLV_GSTAT_RECHG g = false ∧ regsBut s t [(.VLV_GSTAT, g)] ∧ memSame s t ∧ sends s t [] := by
  intro t
  have hregs : t.regs = (s.setB F.VLV_GSTAT_RECHG g false).regs := finish_regs s _
  refine ⟨?_, fun r n hr => ?_, State.memByte_of_mem (finish_mem s _), sends_finish rfl⟩
  · rw [State.flag_of_regs hregs, State.flag_setB_eq _ (by decide)]
  · rw [State.rd_of_regs hregs, State.rd_setB_but (pair_ne_of_notMem_singleton hr)]

/-- The capacitor's voltage, clamped at RAIL + 5 V. -/
def capacitorClamped (g capv : Nat) (s : State) : State :=
  s.setF F.VLV_GSTAT_CAPV g (min capv (s.getF F.VLV_GCFG_RAIL g * 10 + 50))

theorem capacitorAt_available (h : s.getF F.VLV_GCFG_RAIL g * 10 ≤ capv + 20) :
    capacitorAt g capv s = (capacitorClamped g capv s).setB F.VLV_GSTAT_FEEDPATH g false := if_pos h
theorem capacitorAt_low (h : capv + 20 < s.getF F.VLV_GCFG_RAIL g * 10) : capacitorAt g capv s = capacitorClamped g capv s := if_neg h.not_ge

end

/-- Settles O31: each event of a valve has its effect in the phase that it ends. -/
theorem valvePhases : Obligations.ValvePhases := by
  refine ⟨?boost, ?noBoost, ?inBoost, ?dwell, ?holdmax, ?decayed, ?recharge, ?fault, ?noFault, ?highSide, ?capacitor⟩
  case boost => exact fun v s hw hn => ok_of_eq s (boostFreed_enters hw hn)
  case noBoost => exact fun v s h => ok_of_eq s (boostFreed_taken h)
  case inBoost =>
    rintro v cur s _ h rfl
    exact ⟨ok_of_eq s (peakReached_boost h), fun hr => ok_of_eq s (strokeDip_boost h hr), fun hc => ok_of_eq s (tmaxPassed_open h hc),
      fun hc hl => ok_of_eq s (tmaxPassed_lateact h hc hl), fun hc hl => ok_of_eq s (tmaxPassed_holds h hc hl)⟩
  case dwell => exact fun v s h => ok_of_eq s (dwellPassed_peak h)
  case holdmax => exact fun v s h => ⟨fun hm => ok_of_eq s (holdmaxPassed_hold h hm), fun hm => ok_of_eq s (holdmaxPassed_unlimited hm)⟩
  case decayed =>
    rintro v s _ rfl
    exact ⟨fun h hp => ok_of_eq s (currentDecayed_restart h hp), fun h hp => ok_of_eq s (currentDecayed_idle h hp),
      fun h he => ok_of_eq s (currentDecayed_disabled h he)⟩
  case recharge => exact fun g s => ⟨_, ok_of_eq s rfl, rechargeEnded_spec g s⟩
  case fault => exact fun v s h => ⟨ok_of_eq s (if_pos h), ok_of_eq s (if_pos h)⟩
  case noFault => exact fun v s h => ⟨ok_of_eq s (if_neg (Bool.eq_false_iff.mp h)), ok_of_eq s (if_neg (Bool.eq_false_iff.mp h))⟩
  case highSide => exact fun g s hf => ok_of_eq s (if_pos hf)
  case capacitor =>
    rintro g capv s _ hf hruns rfl
    have hon := Bool.and_eq_true_iff.mpr ⟨hf, hruns⟩
    exact ⟨fun h => ok_of_eq s ((if_pos hon).trans (capacitorAt_available h)), fun h => ok_of_eq s ((if_pos hon).trans (capacitorAt_low h))⟩

end Sys2Proof.Machine

/-! # Switch inputs (10_inputs_field_io.md, R309 to R313, R315, R316) -/

namespace Sys2Proof.Machine

section

variable {n : Nat} {s u : State}

/-- A command of a fitted switch input has its effect while the Switch domain is on and the almanac runs. -/
theorem if_sinServed {α : Type} {x y : α} (hd : s.dom.switch = true) (ha : s.almStopped = false) (hf : sinFitted s.variant n = true) :
    (if s.dom.switch && ! s.almStopped && sinFitted s.variant n then x else y) = x :=
  if_pos (by rw [hd, ha, hf]; rfl)

/-! ## Pins (R310, R312) -/

/-- The input's RAW bit takes a pin's level. -/
def pinRead (n : Nat) (raw : Bool) (s : State) : State := s.setB F.SIN_STAT_RAW n raw

section

variable {raw : Bool}

/-- A resistor-coded input has no pin level. -/
theorem pinCrossing_resistor (h : s.sinMode n = 2) : pinCrossing n raw s = s := if_pos h

theorem pinCrossing_pulse (h : s.sinMode n = 3) : pinCrossing n raw s = pulseEdge n (s.shortLess 336) (pinRead n raw s) :=
  (if_neg (by omega)).trans (if_pos h)

variable (hu : pinRead n raw s = u) (h : s.sinMode n = 0 ∨ s.sinMode n = 1)

include hu h

/-- In modes 0 and 1 a crossing concerns the run. -/
theorem pinCrossing_filtered : pinCrossing n raw s = if u.sinTarget n = u.sinLevel n then runDrop n u
    else if (u.si n).run.isSome then u
    else (u.setSi n { u.si n with run := some (s.shortLess 336) }).setB F.SIN_STAT_RUN n true := by
  subst hu
  exact (if_neg (by omega)).trans (if_neg (by omega))

theorem pinCrossing_back (ht : u.sinTarget n = u.sinLevel n) : pinCrossing n raw s = runDrop n u :=
  (pinCrossing_filtered hu h).trans (if_pos ht)

theorem pinCrossing_run_goes_on (ht : u.sinTarget n ≠ u.sinLevel n) (hr : (u.si n).run ≠ none) : pinCrossing n raw s = u :=
  (pinCrossing_filtered hu h).trans ((if_neg ht).trans (if_pos (Option.isSome_iff_ne_none.mpr hr)))

theorem pinCrossing_run_begins (ht : u.sinTarget n ≠ u.sinLevel n) (hr : (u.si n).run = none) :
    pinCrossing n raw s = (u.setSi n { u.si n with run := some (s.shortLess 336) }).setB F.SIN_STAT_RUN n true :=
  (pinCrossing_filtered hu h).trans ((if_neg ht).trans (if_neg (by rw [hr]; exact Bool.false_ne_true)))

end

/-- A run that has lasted its time changes the level, with the stamp of its crossing. -/
theorem runEnd_of_run {stamp : Nat} (h : (s.si n).run = some stamp) : runEnd n s = levelChange n (s.sinTarget n) stamp false (runDrop n s) := by
  rw [runEnd, h]

/-! ## Resistor-coded readings (R311) -/

/-- The input's RES field takes a reading, full scale above the converter's range. -/
def resRead (n : Nat) (ohms : Option Nat) (s : State) : State :=
  s.setF F.SIN_STAT_RES n (match ohms with | some r => sat 0xFFFF r | none => 0xFFFF)

/-- The candidate after a reading of position `p`: it is read once more, or a new one begins. -/
def candidateAfter (n p : Nat) (u : State) : Input :=
  let x := u.si n
  if x.candN ≠ 0 ∧ x.cand = p then { x with candN := x.candN + 1 }
  else { x with cand := p, candN := 1, candStamp := u.short, candAt := if x.candN = 0 ∧ x.resume.isSome = true then x.candAt else u.up }

theorem candidateAfter_begins {p : Nat} (h : (u.si n).candN = 0 ∨ (u.si n).cand ≠ p) : candidateAfter n p u =
    { u.si n with cand := p, candN := 1, candStamp := u.short,
                  candAt := if (u.si n).candN = 0 ∧ (u.si n).resume.isSome = true then (u.si n).candAt else u.up } :=
  if_neg (by tauto)

theorem candidateAfter_read_again {p : Nat} (hn : (u.si n).candN ≠ 0) (hc : (u.si n).cand = p) :
    candidateAfter n p u = { u.si n with candN := (u.si n).candN + 1 } := if_pos ⟨hn, hc⟩

section

variable {ohms : Option Nat}

theorem resConversion_other_mode (h : s.sinMode n ≠ 2) : resConversion n ohms s = s := if_pos h

variable (hm : s.sinMode n = 2) (hu : resRead n ohms s = u)

include hm hu

/-- A reading of the present position drops the candidate. -/
theorem resConversion_present (hp : u.posOf n ohms = u.sinPos n) (hr : (u.si n).resume = none) :
    resConversion n ohms s = (u.setSi n { u.si n with candN := 0 }).setB F.SIN_STAT_RUN n false := by
  subst hu
  exact (if_neg (not_not.mpr hm)).trans (if_pos ⟨hp, Option.isNone_iff_eq_none.mpr hr⟩)

variable (hp : u.posOf n ohms ≠ u.sinPos n ∨ (u.si n).resume ≠ none)

include hp

/-- Any other reading concerns the candidate, which is confirmed when it has been read twice or more over DEBOUNCE. -/
theorem resConversion_candidate {y : Input} (hy : candidateAfter n (u.posOf n ohms) u = y) : resConversion n ohms s =
    if 2 ≤ y.candN ∧ y.candAt + u.getF F.SIN_CFG_DEBOUNCE n * 1000 ≤ u.up then
      posChange n (u.posOf n ohms) y.candStamp ((u.setSi n { y with candN := 0 }).setB F.SIN_STAT_RUN n false)
    else (u.setSi n y).setB F.SIN_STAT_RUN n true := by
  subst hu hy
  refine (if_neg (not_not.mpr hm)).trans (if_neg fun ⟨hpos, hres⟩ => ?_)
  exact hp.elim (· hpos) (· (Option.isNone_iff_eq_none.mp hres))

theorem resConversion_begins (hc : (u.si n).candN = 0 ∨ (u.si n).cand ≠ u.posOf n ohms) : resConversion n ohms s =
    (u.setSi n { u.si n with
      cand := u.posOf n ohms, candN := 1, candStamp := u.short,
      candAt := if (u.si n).candN = 0 ∧ (u.si n).resume.isSome = true then (u.si n).candAt else u.up }).setB F.SIN_STAT_RUN n true :=
  (resConversion_candidate hm hu hp (candidateAfter_begins hc)).trans (if_neg fun ⟨htwice, _⟩ => Nat.not_succ_le_self 1 htwice)

variable (hn : (u.si n).candN ≠ 0) (hc : (u.si n).cand = u.posOf n ohms)

include hn hc

theorem resConversion_confirmed (ht : (u.si n).candAt + u.getF F.SIN_CFG_DEBOUNCE n * 1000 ≤ u.up) : resConversion n ohms s =
    posChange n (u.posOf n ohms) (u.si n).candStamp ((u.setSi n { u.si n with candN := 0 }).setB F.SIN_STAT_RUN n false) :=
  (resConversion_candidate hm hu hp (candidateAfter_read_again hn hc)).trans
    (if_pos ⟨Nat.succ_le_succ (Nat.one_le_iff_ne_zero.mpr hn), ht⟩)

theorem resConversion_waits (ht : u.up < (u.si n).candAt + u.getF F.SIN_CFG_DEBOUNCE n * 1000) : resConversion n ohms s =
    (u.setSi n { u.si n with candN := (u.si n).candN + 1 }).setB F.SIN_STAT_RUN n true :=
  (resConversion_candidate hm hu hp (candidateAfter_read_again hn hc)).trans (if_neg fun ⟨_, hlong⟩ => ht.not_ge hlong)

end

/-- A period of 0 changes the input's SIN_PER, and no other register and no byte of memory. -/
theorem periodZero_spec (n : Nat) (s : State) :
    let t := finish s (s.wr .SIN_PER n 0)
    t.rd .SIN_PER n = 0 ∧ regsBut s t [(.SIN_PER, n)] ∧ memSame s t ∧ sends s t [] := by
  refine ⟨?_, fun r i hr => ?_, State.memByte_of_mem (finish_mem s _), sends_finish rfl⟩
  · rw [rd_finish, State.rd_wr_same]
  · rw [rd_finish, State.rd_wr_but (pair_ne_of_notMem_singleton hr)]

/-! ## Poll samples (R315, R316) -/

/-- An input's level at the entry. -/
def State.entryLevel (s : State) (n : Nat) : Bool := (s.si n).atEntry.1 != 0

section

variable {levels : Nat}

section

variable (hw : s.net.windows.contains 3 = true) (hp : s.net.polled ≠ [])

include hw hp

/-- The sample that follows a recognised one judges the open poll window. -/
theorem pollSample_in_window : pollSample levels s =
    if pollChanges levels s.entryLevel s.net.polled s = [] then { s with net := { s.net with polled := [] } }
    else wakeConfirm 3 { s with net := { s.net with polled := [] } } :=
  if_pos (Bool.and_eq_true_iff.mpr ⟨hw, bne_iff_ne.mpr hp⟩)

theorem pollSample_window_unconfirmed (hc : pollChanges levels s.entryLevel s.net.polled s = []) :
    pollSample levels s = { s with net := { s.net with polled := [] } } := (pollSample_in_window hw hp).trans (if_pos hc)

theorem pollSample_window_confirmed (hc : pollChanges levels s.entryLevel s.net.polled s ≠ []) :
    pollSample levels s = wakeConfirm 3 { s with net := { s.net with polled := [] } } := (pollSample_in_window hw hp).trans (if_neg hc)

end

variable (hw : s.net.windows.contains 3 = false)

include hw

theorem not_poll_window_judged : ¬ (s.net.windows.contains 3 && s.net.polled != []) = true := by
  rw [hw]
  exact Bool.false_ne_true

theorem pollSample_asleep_same (hs : s.asleep = true) (hc : pollChanges levels s.entryLevel s.net.pollSet s = []) : pollSample levels s = s :=
  (if_neg (not_poll_window_judged hw)).trans ((if_pos hs).trans (if_pos (.inl hc)))

theorem pollSample_asleep_recognised (hs : s.asleep = true) (ha : s.sourceArmed 3 = true)
    (hc : pollChanges levels s.entryLevel s.net.pollSet s ≠ []) : pollSample levels s =
    recognise 3 { s with net := { s.net with polled := pollChanges levels s.entryLevel s.net.pollSet s } } := by
  refine (if_neg (not_poll_window_judged hw)).trans ((if_pos hs).trans (if_neg ?_))
  rintro (hnone | hunarmed | hwindow)
  · exact hc hnone
  · rw [ha] at hunarmed
    exact Bool.false_ne_true hunarmed
  · exact Bool.false_ne_true (hw.symm.trans hwindow)

theorem pollSample_up (hs : s.asleep = false) (he : s.entering = false) (h2 : s.nmState ≠ 2) (h3 : s.nmState ≠ 3) : pollSample levels s = s :=
  (if_neg (not_poll_window_judged hw)).trans ((if_neg (Bool.eq_false_iff.mp hs)).trans (if_neg (by simp [he, h2, h3])))

end

end

/-- Settles O32: a crossing is split by the input's mode and run, a reading by the candidate, a poll sample by the window and the power state. -/
theorem switchInputs : Obligations.SwitchInputs := by
  refine ⟨?pin, ?level, ?resistor, ?otherMode, ?period, ?poll⟩
  case pin =>
    intro n raw s u hd ha hf hu
    have hserved {t : State} (h : pinCrossing n raw s = t) : exec (.sinPinCrossing n raw) s = .next (finish s t) :=
      ok_of_eq s ((if_sinServed hd ha hf).trans h)
    refine ⟨fun hm => ⟨fun ht => hserved (pinCrossing_back hu.symm hm ht), fun ht hr => hserved (pinCrossing_run_goes_on hu.symm hm ht hr),
      fun ht hr => hserved (pinCrossing_run_begins hu.symm hm ht hr)⟩, fun hm => hserved (pinCrossing_resistor hm), fun hm => ?_⟩
    subst hu
    exact hserved (pinCrossing_pulse hm)
  case level =>
    intro n stamp s hd ha hf hr
    exact ok_of_eq s ((if_sinServed hd ha hf).trans (congrArg (accInputs s) (runEnd_of_run hr)))
  case resistor =>
    rintro n ohms s u _ hd ha hf hm hu rfl
    have hserved {t : State} (h : resConversion n ohms s = t) : exec (.sinResConversion n ohms) s = .next (finish s (accInputs s t)) :=
      ok_of_eq s ((if_sinServed hd ha hf).trans (congrArg (accInputs s) h))
    exact ⟨fun hp hr => hserved (resConversion_present hm hu.symm hp hr), fun hp hc => hserved (resConversion_begins hm hu.symm hp hc),
      fun hp hn hc => ⟨fun ht => hserved (resConversion_confirmed hm hu.symm hp hn hc ht),
        fun ht => hserved (resConversion_waits hm hu.symm hp hn hc ht)⟩⟩
  case otherMode =>
    intro n ohms s hm
    refine ok_of_eq s (ite_eq_right_iff.mpr fun _ => ?_)
    rw [resConversion_other_mode hm]
    exact accInputs_same fun _ => rfl
  case period => exact fun n s hm => ⟨_, ok_of_eq s (if_pos hm), periodZero_spec n s⟩
  case poll =>
    rintro levels s _ _ rfl rfl
    exact ⟨fun hw hp => ⟨fun hc => ok_of_eq s (pollSample_window_unconfirmed hw hp hc), fun hc => ok_of_eq s (pollSample_window_confirmed hw hp hc)⟩,
      fun hw hs ha => ⟨fun hc => ok_of_eq s (pollSample_asleep_same hw hs hc), fun hc => ok_of_eq s (pollSample_asleep_recognised hw hs ha hc)⟩,
      fun hw hs he h2 h3 => ok_of_eq s (pollSample_up hw hs he h2 h3)⟩

end Sys2Proof.Machine

/-! # Field points (10_inputs_field_io.md, R322 to R325, R327, R328; 14_power_states.md, R412) -/

namespace Sys2Proof.Machine

section

variable {p : Nat} {s : State}

/-! ## Pins and filters (R322) -/

section

variable {high : Bool} {u : State} (hu : s.setB (portBit .FIO_PIN p) 0 high = u)

include hu

theorem fieldCrossing_output (ho : u.fioIsOut p = true) : fieldCrossing p high s = u := by
  subst hu
  exact if_pos ho

variable (ho : u.fioIsOut p = false)

include ho

/-- On an input a crossing concerns the run. -/
theorem fieldCrossing_input : fieldCrossing p high s = if high = u.fioIn p then u.setFp p { u.fp p with run := none }
    else if (u.fp p).run.isSome then u else u.setFp p { u.fp p with run := some (u.shortLess 1216) } := by
  subst hu
  exact if_neg (Bool.eq_false_iff.mp ho)

theorem fieldCrossing_back (hl : high = u.fioIn p) : fieldCrossing p high s = u.setFp p { u.fp p with run := none } :=
  (fieldCrossing_input hu ho).trans (if_pos hl)

theorem fieldCrossing_run_goes_on (hl : high ≠ u.fioIn p) (hr : (u.fp p).run ≠ none) : fieldCrossing p high s = u :=
  (fieldCrossing_input hu ho).trans ((if_neg hl).trans (if_pos (Option.isSome_iff_ne_none.mpr hr)))

theorem fieldCrossing_run_begins (hl : high ≠ u.fioIn p) (hr : (u.fp p).run = none) :
    fieldCrossing p high s = u.setFp p { u.fp p with run := some (u.shortLess 1216) } :=
  (fieldCrossing_input hu ho).trans ((if_neg hl).trans (if_neg (by rw [hr]; exact Bool.false_ne_true)))

end

/-- A run that has lasted FILTER changes the filtered level, with the stamp of its crossing. -/
theorem fieldRunEnd_of_run {stamp : Nat} (h : (s.fp p).run = some stamp) :
    fieldRunEnd p s = fieldChange p (s.fioPin p) stamp false (s.setFp p { s.fp p with run := none }) := by
  rw [fieldRunEnd, h]

/-- Inputs are sampled while the field domain is on and the points are not PARKHELD. -/
theorem fieldSampled (hd : s.dom.field = true) (ht : s.toState ≠ 3) : (s.dom.field && s.toState != 3) = true :=
  Bool.and_eq_true_iff.mpr ⟨hd, bne_iff_ne.mpr ht⟩

end

section

variable {m : Master} {r : Reg} {n : Nat} {w image : Word} {s t : State}

/-! ## Answers in FIO_RESULT (R328) -/

/-- A write of a fitted field register is answered in FIO_RESULT, with the code's number and the point concerned. -/
theorem ok_fioAccess {code : Code} {k item : Nat} (hk : code.num = k) (hf : regFitted s.variant r n = true)
    (h : fioWrite r n w s = (code, item, t)) : ok s (fioAccess m r n w s) = .next (finish s ((t.wr .FIO_RESULT (bk m 0)
      (word (k + 0x100 * (item % 256) + 0x10000 * r.addr n))).emit (.written m (r.addr n) code))) :=
  ok_of_eq s ((if_pos hf).trans (by rw [h, ← hk]))

/-- A write that names no point has POINT 0. -/
theorem ok_fioAccess_no_point {code : Code} {k : Nat} (hk : code.num = k) (hf : regFitted s.variant r n = true)
    (h : fioWrite r n w s = (code, 0, t)) : ok s (fioAccess m r n w s) = .next (finish s ((t.wr .FIO_RESULT (bk m 0)
      (word (k + 0x10000 * r.addr n))).emit (.written m (r.addr n) code))) := by
  rw [ok_fioAccess hk hf h, Nat.zero_mod, Nat.mul_zero, Nat.add_zero]

/-- The code of an accepted write is 0. -/
theorem ok_fioAccess_accepted (hf : regFitted s.variant r n = true) (h : fioWrite r n w s = (.accepted, 0, t)) :
    ok s (fioAccess m r n w s) = .next (finish s ((t.wr .FIO_RESULT (bk m 0)
      (word (0x10000 * r.addr n))).emit (.written m (r.addr n) .accepted))) := by
  rw [ok_fioAccess_no_point (k := 0) rfl hf h, Nat.zero_add]

/-! ## Refresh writes (R324, R325, R412) -/

theorem fioWrite_out : fioWrite .FIO_OUT n w s = imageWrite .FIO_OUT w w s := rfl
theorem fioWrite_outs : fioWrite .FIO_OUTS n w s = imageWrite .FIO_OUTS w (s.rd .FIO_OUT 0 ||| w) s := rfl
theorem fioWrite_outc : fioWrite .FIO_OUTC n w s = imageWrite .FIO_OUTC w (s.rd .FIO_OUT 0 &&& ~~~ w) s := rfl
theorem fioWrite_kick : fioWrite .FIO_KICK n w s = kickWrite w s := rfl

/-- A write that names an absent point is refused whole. -/
theorem imageWrite_absent {p : Nat} (h : absentPoint s w = some p) : imageWrite r w image s = (.absent, p, s) := by rw [imageWrite, h]

section

variable (ha : absentPoint s w = none)

include ha

theorem imageWrite_taken (ht : r = .FIO_OUT ∨ s.toState ≠ 2) (hp : parkHeldRise s image = false) :
    imageWrite r w image s = (.accepted, 0, (refresh s).wr .FIO_OUT 0 image) := by
  have hleaves : ¬ (r != .FIO_OUT && s.toState == 2) = true := by
    rw [Bool.and_eq_true_iff, bne_iff_ne, beq_iff_eq]
    exact fun ⟨hr, htimeout⟩ => ht.elim hr fun hout => hout htimeout
  simp only [imageWrite, ha, if_neg hleaves, hp, Bool.false_eq_true, if_false]

/-- In TIMEOUT only a write of the whole image is taken. -/
theorem imageWrite_timeout (hr : r ≠ .FIO_OUT) (ht : s.toState = 2) : imageWrite r w image s = (.state, 0, s) := by
  simp [imageWrite, ha, hr, ht]

theorem imageWrite_parkHeld (hp : parkHeldRise s image = true) : imageWrite r w image s = (.state, 0, s) := by
  simp [imageWrite, ha, hp]

end

theorem kickWrite_timeout (hr : reservedSet .FIO_KICK w = false) (ht : s.toState = 2) : kickWrite w s = (.state, 0, s) := by
  simp [kickWrite, hr, ht]

theorem kickWrite_kick (hr : reservedSet .FIO_KICK w = false) (ht : s.toState ≠ 2) (hk : F.FIO_KICK_KICK.on w = true) :
    kickWrite w s = (.accepted, 0, refresh s) := by
  simp [kickWrite, hr, ht, hk]

/-! ## FIO_COSF and FIO_STATUS (R327, R328) -/

theorem fioWrite_cosf_left (h : s.rd .FIO_COSF 0 &&& ~~~ w ≠ 0) :
    fioWrite .FIO_COSF n w s = (.accepted, 0, s.wr .FIO_COSF 0 (s.rd .FIO_COSF 0 &&& ~~~ w)) := by
  simp only [fioWrite, if_neg h]

/-- With the last flag the interrupt goes. -/
theorem fioWrite_cosf_emptied (h : s.rd .FIO_COSF 0 &&& ~~~ w = 0) :
    fioWrite .FIO_COSF n w s = (.accepted, 0, (s.wr .FIO_COSF 0 0).withdraw 14) := by
  simp only [fioWrite, h, if_true]

theorem fioWrite_status (hr : reservedSet .FIO_STATUS w = false) : fioWrite .FIO_STATUS n w s = (.accepted, 0, faultWrite w s) := by
  simp only [fioWrite, hr, Bool.false_eq_true, if_false]

theorem faultWrite_clears (hw : F.FIO_STATUS_FAULT.on w = true) (hc : s.fioCause = false) :
    faultWrite w s = s.setB F.FIO_STATUS_FAULT 0 false := if_pos (by rw [hw, hc]; rfl)

theorem faultWrite_stays (hc : s.fioCause = true) : faultWrite w s = s := if_neg (by rw [hc, Bool.not_true, Bool.and_false]; exact Bool.false_ne_true)

/-- What a write that clears FAULT leaves, with its answer. -/
theorem faultCleared_spec (m : Master) (v : Word) (s : State) :
    let t := finish s (((s.setB F.FIO_STATUS_FAULT 0 false).wr .FIO_RESULT (bk m 0) v).emit (.written m (Reg.addr .FIO_STATUS 0) .accepted))
    t.flag F.FIO_STATUS_FAULT 0 = false ∧ sends s t [.written m (Reg.addr .FIO_STATUS 0) .accepted] ∧
      regsBut s t [(.FIO_STATUS, 0), (.FIO_RESULT, bk m 0)] ∧ memSame s t := by
  refine ⟨?_, sends_finish rfl, fun q i h => ?_, State.memByte_of_mem (finish_mem s _)⟩
  · rw [flag_finish, State.flag_emit, State.flag_wr_ne _ (by decide), State.flag_setB_eq s (by decide)]
  · simp only [List.mem_cons, List.not_mem_nil, or_false, not_or] at h
    obtain ⟨hstatus, hresult⟩ := h
    rw [rd_finish, State.rd_emit, State.rd_wr_but hresult, State.rd_setB_but hstatus]

/-- A cause that sets, sets FAULT: FAULT rises with it, or stands already. -/
theorem causeSet_sets_fault {f : Fld} (hf : F.FIO_STATUS_FAULT.reg = f.reg ∧ F.FIO_STATUS_FAULT.lo + F.FIO_STATUS_FAULT.wd ≤ f.lo)
    (hs : s.flag f 0 = false) : (causeSet f true s).flag F.FIO_STATUS_FAULT 0 = true := by
  obtain ⟨hreg, hlo⟩ := hf
  cases hfault : s.flag F.FIO_STATUS_FAULT 0 with
  | false =>
    simp only [causeSet, hs, hfault, Bool.not_false, Bool.and_self, if_true, flag_emcyObj, State.flag_raise, State.flag_request]
    exact State.flag_setB_eq _ (by decide)
  | true =>
    simp only [causeSet, hfault, Bool.not_true, Bool.and_false, Bool.false_eq_true, if_false]
    rw [State.flag_setB_apart s ⟨hreg, by decide, .inl hlo⟩, hfault]

end

/-- Settles O33: a crossing is split by the point's direction and run, a refresh write by what refuses it, a cause by whether FAULT stands. -/
theorem fieldPoints : Obligations.FieldPoints := by
  refine ⟨?pin, ?change, ?image, ?absent, ?kick, ?cosf, ?timeout, ?fault, ?suplow, ?ovld, ?retry, ?ovt, ?cause⟩
  case pin =>
    intro p high s u hd ht hf hu
    have hserved {t : State} (h : fieldCrossing p high s = t) : exec (.fioPinCrossing p high) s = .next (finish s t) :=
      ok_of_eq s ((if_pos (Bool.and_eq_true_iff.mpr ⟨fieldSampled hd ht, hf⟩)).trans h)
    exact ⟨fun ho => hserved (fieldCrossing_output hu.symm ho), fun ho hl => hserved (fieldCrossing_back hu.symm ho hl),
      fun ho hl hr => hserved (fieldCrossing_run_goes_on hu.symm ho hl hr), fun ho hl hr => hserved (fieldCrossing_run_begins hu.symm ho hl hr)⟩
  case change => exact fun p stamp s hd ht hr => ok_of_eq s ((if_pos (fieldSampled hd ht)).trans (fieldRunEnd_of_run hr))
  case image =>
    intro m w s ha
    exact ⟨fun hp => ok_fioAccess_accepted rfl (fioWrite_out.trans (imageWrite_taken ha (.inl rfl) hp)),
      fun ht hp => ok_fioAccess_accepted rfl (fioWrite_outs.trans (imageWrite_taken ha (.inr ht) hp)),
      fun ht hp => ok_fioAccess_accepted rfl (fioWrite_outc.trans (imageWrite_taken ha (.inr ht) hp)),
      fun hp => ok_fioAccess_no_point rfl rfl (fioWrite_out.trans (imageWrite_parkHeld ha hp)),
      fun ht => ⟨ok_fioAccess_no_point rfl rfl (fioWrite_outs.trans (imageWrite_timeout ha (by decide) ht)),
        ok_fioAccess_no_point rfl rfl (fioWrite_outc.trans (imageWrite_timeout ha (by decide) ht))⟩⟩
  case absent =>
    intro m w p s ha
    exact ⟨ok_fioAccess rfl rfl (fioWrite_out.trans (imageWrite_absent ha)), ok_fioAccess rfl rfl (fioWrite_outs.trans (imageWrite_absent ha)),
      ok_fioAccess rfl rfl (fioWrite_outc.trans (imageWrite_absent ha))⟩
  case kick =>
    intro m w s hr
    exact ⟨fun ht hk => ok_fioAccess_accepted rfl (fioWrite_kick.trans (kickWrite_kick hr ht hk)),
      fun ht => ok_fioAccess_no_point rfl rfl (fioWrite_kick.trans (kickWrite_timeout hr ht))⟩
  case cosf =>
    intro m w s
    exact ⟨fun h => ok_fioAccess_accepted rfl (fioWrite_cosf_left h), fun h => ok_fioAccess_accepted rfl (fioWrite_cosf_emptied h)⟩
  case timeout => exact fun s => ⟨fun h => ok_of_eq s (if_pos h), fun h => ok_of_eq s (if_neg h)⟩
  case fault =>
    intro m w s hr hw
    refine ⟨fun hc => ⟨_, ok_fioAccess_accepted rfl ((fioWrite_status hr).trans ?_), faultCleared_spec m _ s⟩,
      fun hc => ok_fioAccess_accepted rfl ((fioWrite_status hr).trans ?_)⟩
    · rw [faultWrite_clears hw hc]
    · rw [faultWrite_stays hc]
  case suplow => exact fun low volt s hd => ok_of_eq s (if_pos hd)
  case ovld => exact fun p s hd => ok_of_eq s (if_pos hd)
  case retry => exact fun p s => rfl
  case ovt => exact fun p hot s hd hf => ok_of_eq s (if_pos (Bool.and_eq_true_iff.mpr ⟨hd, hf⟩))
  case cause =>
    rintro f s (rfl | rfl | rfl) hs
    · exact causeSet_sets_fault (by decide) hs
    · exact causeSet_sets_fault (by decide) hs
    · exact causeSet_sets_fault (by decide) hs

end Sys2Proof.Machine

/-! # Written words and fields (01_architecture.md, R33) -/

namespace Sys2Proof.Machine

/-- A number of the model reads its bits as Lean's numbers do. -/
theorem bitOf_eq_testBit (n i : Nat) : bitOf n i = n.testBit i := by
  rw [bitOf, Nat.testBit_eq_decide_div_mod_eq]
  rfl

/-- A bit of a word with a 1 put into it. -/
theorem bitOf_or_bit {j : Nat} (w : Word) (hj : j < 32) (i : Nat) : bitOf (w ||| word (2 ^ j)).toNat i = (bitOf w.toNat i || decide (i = j)) := by
  have hp : (word (2 ^ j)).toNat = 2 ^ j := by rw [word_toNat, Nat.mod_eq_of_lt (Nat.pow_lt_pow_right (by decide) hj)]
  rw [bitOf_eq_testBit, bitOf_eq_testBit, BitVec.toNat_or, Nat.testBit_or, hp, Nat.testBit_two_pow]
  simp only [eq_comm]

/-- A field of one bit is on where the word has its bit. -/
theorem Fld.on_eq_bitOf {f : Fld} (hf : f.wd = 1) (w : Word) : f.on w = bitOf w.toNat f.lo := by
  have h2 : w.toNat / 2 ^ f.lo % 2 < 2 := Nat.mod_lt _ (by decide)
  rw [Fld.on, Fld.of, bitsOf, bitOf, hf, pow_one]
  interval_cases w.toNat / 2 ^ f.lo % 2 <;> rfl

/-- A one-bit field of a word with a 1 put into it. -/
theorem Fld.on_or_bit {f : Fld} {j : Nat} (hf : f.wd = 1 ∧ j < 32) (w : Word) : f.on (w ||| word (2 ^ j)) = (f.on w || decide (f.lo = j)) := by
  rw [Fld.on_eq_bitOf hf.1, Fld.on_eq_bitOf hf.1, bitOf_or_bit w hf.2]

/-- A word has a reserved bit where one of two words has. -/
theorem reservedSet_or (r : Reg) (v w : Word) : reservedSet r (v ||| w) = (reservedSet r v || reservedSet r w) := by
  have h : (v ||| w) &&& word r.desc.rsv = (v &&& word r.desc.rsv) ||| (w &&& word r.desc.rsv) := by ext i; simp [Bool.and_or_distrib_right]
  rw [reservedSet, reservedSet, reservedSet, h, Bool.eq_iff_iff]
  simp only [bne_iff_ne, Bool.or_eq_true]
  exact (not_congr BitVec.or_eq_zero_iff).trans not_and_or

/-- A field of a register's RW bits takes the written word's part. -/
theorem State.getF_wrMasked {s : State} {f : Fld} {n : Nat} {w : Word} (hf : ∀ i < f.wd, bitOf f.reg.desc.rw (f.lo + i) = true ∧ f.lo + i < 32) :
    (s.wrMasked f.reg n w).getF f n = f.of w := by
  refine Nat.eq_of_testBit_eq fun i => ?_
  rw [State.getF, State.wrMasked, State.rd_wr_same, Fld.of, bitsOf_bit, bitsOf_bit]
  by_cases hi : i < f.wd
  · obtain ⟨hb, hlt⟩ := hf i hi
    have hm : (word f.reg.desc.rw).toNat.testBit (f.lo + i) = true := by
      rw [word_toNat, Nat.testBit_mod_two_pow, ← bitOf_eq_testBit, hb, decide_eq_true hlt, Bool.and_self]
    have hn : (word f.reg.desc.rw).getLsbD (f.lo + i) = true := hm
    have hx : ((s.rd f.reg n &&& ~~~word f.reg.desc.rw ||| w &&& word f.reg.desc.rw)).getLsbD (f.lo + i) = w.getLsbD (f.lo + i) := by
      simp [hn]
    rw [decide_eq_true hi]
    exact congrArg _ hx
  · simp [hi]

/-! ## Waiting values (R35) -/

/-- An apply point of a register leaves its waiting value in force, or the value that it had. -/
theorem State.rd_applyHeld_same (s : State) (r : Reg) (n : Nat) : (s.applyHeld r n).rd r n = s.next r n := by
  unfold State.applyHeld State.next
  split
  · rfl
  · exact State.rd_wr_same _ _ _ _

/-- Every other register stays. -/
theorem State.rd_applyHeld_other {s : State} {r q : Reg} {n k : Nat} (h : (q, k) ≠ (r, n)) : (s.applyHeld r n).rd q k = s.rd q k := by
  unfold State.applyHeld
  split
  · rfl
  · exact State.rd_wr_but h

/-- So does every other value that waits. -/
theorem State.heldOf_applyHeld_other {s : State} {r q : Reg} {n k : Nat} (h : (q, k) ≠ (r, n)) : (s.applyHeld r n).heldOf q k = s.heldOf q k := by
  unfold State.applyHeld
  split
  · rfl
  · have hk : regKey q k ≠ regKey r n := fun e => h (Prod.ext_iff.2 (regKey_inj e))
    exact tabGet_set_other none none s.held none hk

theorem State.applyHeld_sent (s : State) (r : Reg) (n : Nat) : (s.applyHeld r n).sent = s.sent := by unfold State.applyHeld; split <;> rfl
theorem State.applyHeld_mem (s : State) (r : Reg) (n : Nat) : (s.applyHeld r n).mem = s.mem := by unfold State.applyHeld; split <;> rfl

/-- A table without the keys that fail a test. -/
theorem tabGet_filter_key {α : Type} (d : α) (t : Tab α) (p : Nat → Bool) (k : Nat) :
    tabGet d (t.filter fun x => p x.1) k = if p k then tabGet d t k else d := by
  induction t with
  | nil => simp [tabGet]
  | cons x t ih =>
    obtain ⟨j, a⟩ := x
    by_cases hj : j = k
    · subst hj
      cases hp : p j <;> simp [hp, tabGet, ih]
    · cases hp : p j <;> simp [hp, tabGet, hj, ih]

/-! ## What a command leaves of the registers and of data space -/

section

variable {s t u : State} {l : List (Reg × Nat)}

theorem regsBut_refl (s : State) (l : List (Reg × Nat)) : regsBut s s l := fun _ _ _ => rfl

theorem regsBut_of_regs (h : regsBut s t l) (hu : u.regs = t.regs) : regsBut s u l := fun r n hn => (State.rd_of_regs hu r n).trans (h r n hn)

theorem regsBut_wr {r : Reg} {n : Nat} (w : Word) (h : regsBut s t l) (hr : (r, n) ∈ l) : regsBut s (t.wr r n w) l := fun q k hk =>
  have hne : (q, k) ≠ (r, n) := fun e => hk (e ▸ hr)
  (State.rd_wr_but hne).trans (h q k hk)

theorem regsBut_setF {f : Fld} {n : Nat} (v : Nat) (h : regsBut s t l) (hf : (f.reg, n) ∈ l) : regsBut s (t.setF f n v) l := regsBut_wr _ h hf

theorem regsBut_setB {f : Fld} {n : Nat} (b : Bool) (h : regsBut s t l) (hf : (f.reg, n) ∈ l) : regsBut s (t.setB f n b) l := regsBut_setF _ h hf

theorem regsBut_finish (h : regsBut s u l) : regsBut s (finish s u) l := regsBut_of_regs h (finish_regs s u)

theorem regsSame_finish (h : u.regs = s.regs) : regsSame s (finish s u) := State.rd_of_regs ((finish_regs s u).trans h)

theorem memSame_finish (h : u.mem = s.mem) : memSame s (finish s u) := State.memByte_of_mem ((finish_mem s u).trans h)

end

end Sys2Proof.Machine

/-! # The state of a CAN channel (11_can_lin.md, R334 to R337, R340, R343) -/

namespace Sys2Proof.Machine

/-- A write of a CAN register of a fitted channel has its effect, and its answer in CANn_RESULT. -/
theorem canAccess_fitted {m : Master} {r : Reg} {n item : Nat} {w : Word} {s t : State} {code : Code} {v : Nat} (hf : regFitted s.variant r n = true)
    (h : canWrite r n w s = (code, item, t)) (hv : code.num + 0x100 * (item % 64) + 0x10000 * r.addr n = v) :
    canAccess m r n w s = (t.wr .CAN_RESULT (bk m (canChan r n)) (word v)).emit (.written m (r.addr n) code) := by
  simp only [canAccess, hf, if_true, h, hv]

/-! ## MODE (R335) -/

section

variable {n : Nat} {w : Word} {s : State} (hr : reservedSet .CAN_MODE w = false) (hm : F.CAN_MODE_MODE.of w ≤ 4)

include hr hm

/-- In CONFIG a MODE takes the channel where it says. -/
theorem canWrite_mode_config (hs : s.canState n = 0) :
    canWrite .CAN_MODE n w s = (.accepted, 0, (s.wr .CAN_MODE n w).setF F.CAN_STAT_STATE n
      (if F.CAN_MODE_MODE.of w = 1 ∨ F.CAN_MODE_MODE.of w = 2 then 1
        else if F.CAN_MODE_MODE.of w = 3 then 4 else if F.CAN_MODE_MODE.of w = 4 then 5 else 0)) := by
  simp [canWrite, canModeAccept, hr, hm.not_gt, hs, canTo]

/-- Outside it a MODE that is not 0 is refused. -/
theorem canWrite_mode_refused (hs : s.canState n ≠ 0) (h0 : F.CAN_MODE_MODE.of w ≠ 0) : canWrite .CAN_MODE n w s = (.state, 0, s) := by
  simp [canWrite, canModeAccept, hr, hm.not_gt, hs, h0]

end

/-! ## Frames received (R337, R340, R394) -/

/-- What the channel makes of a frame, by its state. -/
theorem canReceive_on {n : Nat} {f : CanFrame} {s : State} (ho : s.canOn n = true) :
    canReceive n f s = if s.canState n = 2 then filtersApply n (recLess n (canFilter n f s))
      else if s.canState n = 3 ∨ s.canState n = 7 then filtersApply n (canFilter n f s) else filtersApply n s := by
  simp [canReceive, ho]

theorem canReceive_off {n : Nat} {f : CanFrame} {s : State} (ho : s.canOn n = false) : canReceive n f s = s := by simp [canReceive, ho]

/-- Only a standard frame with identifier 0 can be a malformed NMT command. -/
theorem nmtMalformed_of_id {n : Nat} {f : CanFrame} {s : State} (hf : f.ide = true ∨ f.id ≠ 0) : nmtMalformed n f s = s := by
  refine if_neg ?_
  rintro ⟨-, -, hid, hide, -⟩
  rcases hf with h | h
  · simp [h] at hide
  · exact h hid

section

variable {n : Fin 8} {f : CanFrame} {s t : State} (hf : f.ide = true ∨ f.id ≠ 0) (ht : canReceive n f s = t)

include hf ht

/-- A frame that a queue stores confirms the channel's wake. -/
theorem exec_canFrameReceived_stored
    (hq : (s.q (.can n 0)).recs.length < (t.q (.can n 0)).recs.length ∨ (s.q (.can n 1)).recs.length < (t.q (.can n 1)).recs.length) :
    exec (.canFrameReceived n f) s = .next (finish s (wakeConfirm (4 + n) t)) := by
  have he : exec (.canFrameReceived n f) s = execCanFrameReceived n f s := rfl
  rw [he, execCanFrameReceived, ht, nmtMalformed_of_id hf]
  simp [ok, hq]

/-- One that no queue stores does not. -/
theorem exec_canFrameReceived_not_stored (h0 : (t.q (.can n 0)).recs.length ≤ (s.q (.can n 0)).recs.length)
    (h1 : (t.q (.can n 1)).recs.length ≤ (s.q (.can n 1)).recs.length) : exec (.canFrameReceived n f) s = .next (finish s t) := by
  have he : exec (.canFrameReceived n f) s = execCanFrameReceived n f s := rfl
  rw [he, execCanFrameReceived, ht, nmtMalformed_of_id hf]
  simp [ok, h0.not_gt, h1.not_gt]

end

/-! ## Errors (R334, R336, R343) -/

/-- An error's code and phase in CANn_ERR. -/
def canErrorCode (n lec : Nat) (dph : Bool) (s : State) : State :=
  (s.setF F.CAN_ERR_LEC n (if lec = 7 ∧ s.flag F.CAN_MODE_PXHD n = false then 2 else lec)).setB F.CAN_ERR_DPH n dph

section

variable {n lec : Fin 8} {dph tx : Bool} {tec rec_ : Nat} {s : State} (ho : s.canOn n = true) (hl : lec ≠ 0)

include ho hl

/-- On a channel that only listens an error sets its code. -/
theorem exec_canError_listening (hs : s.canState n = 3 ∨ s.canState n = 7) (ha : (canErrorCode n lec dph s).activeMb n = none) :
    exec (.canError n lec dph tx tec rec_) s = .next (finish s (filtersApply n (canErrorCode n lec dph s))) := by
  have he : exec (.canError n lec dph tx tec rec_) s = execCanError n lec dph tx tec rec_ s := rfl
  have hl' : ¬ lec.val = 0 := fun h => hl (Fin.ext h)
  have hc : (s.setF F.CAN_ERR_LEC n (s.lecOf n lec)).setB F.CAN_ERR_DPH n dph = canErrorCode n lec dph s := by simp [canErrorCode, State.lecOf]
  rw [he, execCanError, hc]
  rcases hs with h | h <;> simp [ok, ho, hl', State.canSends, h, ha]

/-- On a channel that sends it sets the counters too, which lead to bus-off, or leave an attempt of the module's own failed. -/
theorem exec_canError_sending {v u : State} (hs : s.canState n = 2 ∨ s.canState n = 4) (hv : v = countersTo n tec rec_ (canErrorCode n lec dph s))
    (hu : 255 < tec ∧ u = busOff n v ∨ tec ≤ 255 ∧ (v.activeMb n = none ∨ tx = false) ∧ u = v ∨
      tec ≤ 255 ∧ tx = true ∧ ∃ b, v.activeMb n = some b ∧ u = attemptFails n b 4 v) :
    exec (.canError n lec dph tx tec rec_) s = .next (finish s (filtersApply n u)) := by
  have he : exec (.canError n lec dph tx tec rec_) s = execCanError n lec dph tx tec rec_ s := rfl
  have hl' : ¬ lec.val = 0 := fun h => hl (Fin.ext h)
  have hc : (s.setF F.CAN_ERR_LEC n (s.lecOf n lec)).setB F.CAN_ERR_DPH n dph = canErrorCode n lec dph s := by simp [canErrorCode, State.lecOf]
  have hsend : s.canSends n = true := by rcases hs with h | h <;> simp [State.canSends, h]
  have hst : ¬ s.canState n = 0 ∧ ¬ s.canState n = 6 ∧ ¬ s.canState n = 8 := by omega
  rw [he, execCanError, hc]
  obtain ⟨h0, h6, h8⟩ := hst
  rcases hu with ⟨ht, rfl⟩ | ⟨ht, ha, rfl⟩ | ⟨ht, rfl, b, hb, rfl⟩
  · simp [ok, ho, hl', hsend, h0, h6, h8, ← hv, ht]
  · rcases ha with ha | rfl
    · simp [ok, ho, hl', hsend, h0, h6, h8, ← hv, ht.not_gt, ha]
    · cases h : u.activeMb n <;> simp [ok, ho, hl', hsend, h0, h6, h8, ← hv, ht.not_gt, h]
  · simp [ok, ho, hl', hsend, h0, h6, h8, ← hv, ht.not_gt, hb]

end

/-! ## Bus-off (R336) -/

/-- Recovery ends in the state that MODE gives, with both counters 0, and with EMCY 0x8140 on the CANopen channel. -/
theorem exec_canBusOffRecovery {n : Fin 8} {s u : State} (hs : s.canState n = 8) (hr : tabGet false s.canRecover n = true)
    (hu : u = s.setF F.CAN_STAT_STATE n (if s.getF F.CAN_MODE_MODE n = 3 then 4 else 2)) :
    exec (.canBusOffRecovery n) s = .next (finish s
      (let v := countersTo n 0 0 { u with canRecover := tabSet false u.canRecover n false }
       if (n : Nat) = s.canOpenCh then v.emcyObj 0x8140 0 0 0 else v)) := by
  subst hu
  have he : exec (.canBusOffRecovery n) s = execCanBusOffRecovery n s := rfl
  rw [he, execCanBusOffRecovery, if_pos ⟨hs, hr⟩]
  rfl

/-- RECOVER starts recovery in BUS_OFF while ABOR is clear. -/
theorem canWrite_recover {n : Nat} {w : Word} {s : State} (hs : s.canState n = 8) (ha : s.flag F.CAN_MODE_ABOR n = false)
    (hr : reservedSet .CAN_ERR (w ||| word (2 ^ F.CAN_ERR_RECOVER.lo)) = false) :
    canWrite .CAN_ERR n (w ||| word (2 ^ F.CAN_ERR_RECOVER.lo)) s =
      (.accepted, 0, { s with canRecover := tabSet false s.canRecover n true }) := by
  have hon : F.CAN_ERR_RECOVER.on (w ||| word (2 ^ F.CAN_ERR_RECOVER.lo)) = true := by
    rw [Fld.on_or_bit (by decide), decide_eq_true rfl, Bool.or_true]
  simp [canWrite, hr, hon, recoverStart, hs, ha]

/-- Settles O34, clause by clause from what each command does in each state of the channel. -/
theorem canStates : Obligations.CanStates := by
  refine ⟨?mode, ?config, ?integrated, ?received, ?receivedOff, ?error, ?recovery, ?recover, ?quietNot, ?quietEnd⟩
  case mode =>
    intro m n w s hf hr hm
    exact ⟨fun hs => ok_of_eq s (canAccess_fitted (r := .CAN_MODE) hf (canWrite_mode_config hr hm hs) (Nat.zero_add _)),
      fun hs h0 => ok_of_eq s (canAccess_fitted (r := .CAN_MODE) hf (canWrite_mode_refused hr hm hs h0) rfl)⟩
  case config =>
    intro n s ha
    exact ⟨fun hh => ok_of_eq s (if_pos (by simp [hh, ha])), fun hh => ok_of_eq s (if_neg (by simp [hh]))⟩
  case integrated => exact fun n s hs => ok_of_eq s (if_pos hs)
  case received =>
    intro n f s t hf ho ht
    have hr := (canReceive_on ho).trans ht.symm
    exact ⟨exec_canFrameReceived_stored hf hr, exec_canFrameReceived_not_stored hf hr⟩
  case receivedOff => exact fun n f s hf ho => exec_canFrameReceived_not_stored hf (canReceive_off ho) le_rfl le_rfl
  case error =>
    rintro n lec dph tx tec rec_ s u v ho hl rfl
    exact ⟨exec_canError_listening ho hl, fun hs hv => ⟨fun ht => exec_canError_sending ho hl hs hv (.inl ⟨ht, rfl⟩),
      fun ht ha => exec_canError_sending ho hl hs hv (.inr (.inl ⟨ht, ha, rfl⟩)),
      fun ht hx b hb => exec_canError_sending ho hl hs hv (.inr (.inr ⟨ht, hx, b, hb, rfl⟩))⟩⟩
  case recovery =>
    intro n s u hs hr hu
    have h := exec_canBusOffRecovery hs hr hu
    exact ⟨fun hn => h.trans (by simp only [hn, if_false]), fun hn => h.trans (by simp only [hn, if_true])⟩
  case recover =>
    intro m n w s hf hs ha hr
    refine ⟨_, ok_of_eq s (canAccess_fitted (r := .CAN_ERR) hf (canWrite_recover hs ha hr) rfl), ?_, sends_finish rfl,
      regsBut_finish (regsBut_wr _ (regsBut_refl s _) (List.mem_singleton_self _)), memSame_finish rfl⟩
    rw [finish_canRecover, State.emit_canRecover, State.wr_canRecover]
    exact tabGet_set_same false s.canRecover n true
  case quietNot => exact fun n s hs => ok_of_eq s (if_neg hs)
  case quietEnd => exact fun n s hs => ok_of_eq s (if_pos hs)

end Sys2Proof.Machine

/-! # CAN mailboxes (11_can_lin.md, R342, R343, R345) -/

namespace Sys2Proof.Machine

/-! ## The state of a mailbox, and what is beside it -/

/-- An event bit of CANn_IRQ is a register's. -/
theorem canEvt_rd {n b : Nat} {s : State} {r : Reg} {k : Nat} (h : r ≠ .CAN_IRQ) : (canEvt n b s).rd r k = s.rd r k := s.rd_setB_ne h
@[simp] theorem canEvt_sent (n b : Nat) (s : State) : (canEvt n b s).sent = s.sent := rfl

section

variable (n m st out : Nat) (s : State)

/-- The end of a request in MB_STATm. -/
def mbEndStat : State := ((s.setF F.MB_STAT_STATE (mbIx n m) st).setF F.MB_STAT_OUTCOME (mbIx n m) out).setB F.MB_STAT_REREQ (mbIx n m) false

/-- The end of a request with what goes with it, but for the interrupt. -/
def mbEndQuiet : State := mbAbortSet n m false (mbFailed n m 0 ((mbEndStat n m st out s).setB ⟨.CAN_TXEND, m, 1⟩ n true))

theorem mbEnd_eq : mbEnd n m st out s =
    if (mbEndQuiet n m st out s).flag F.MB_CTRL_TXIRQ (mbIx n m) then canEvt n 2 (mbEndQuiet n m st out s) else mbEndQuiet n m st out s := rfl

theorem mbEndQuiet_regs : (mbEndQuiet n m st out s).regs = ((mbEndStat n m st out s).setB ⟨.CAN_TXEND, m, 1⟩ n true).regs := rfl

theorem mbEnd_rd_stat (k : Nat) : (mbEnd n m st out s).rd .MB_STAT k = (mbEndStat n m st out s).rd .MB_STAT k := by
  have hquiet : (mbEndQuiet n m st out s).rd .MB_STAT k = (mbEndStat n m st out s).rd .MB_STAT k := by
    rw [State.rd_of_regs (mbEndQuiet_regs n m st out s)]
    exact State.rd_setB_ne _ (by simp)
  rw [mbEnd_eq, apply_ite (fun t : State => t.rd .MB_STAT k), canEvt_rd (by decide), ite_self, hquiet]

theorem mbEnd_sent : (mbEnd n m st out s).sent = s.sent := by
  rw [mbEnd_eq, apply_ite State.sent, canEvt_sent, ite_self]
  rfl

end

theorem mbEnd_state {n m st out : Nat} {s : State} (h : st < 4) : (mbEnd n m st out s).mbState n m = st := by
  have hrd : (mbEnd n m st out s).mbState n m = (mbEndStat n m st out s).mbState n m :=
    congrArg (fun w : Word => bitsOf w.toNat 0 2) (mbEnd_rd_stat n m st out s _)
  rw [hrd, State.mbState, mbEndStat, State.getF_setB_apart _ (by decide), State.getF_setF_apart _ (by decide), State.getF_setF_eq _ (by decide)]
  exact Nat.mod_eq_of_lt h

theorem mbEnd_outcome {n m st out : Nat} {s : State} (h : out < 16) : (mbEnd n m st out s).getF F.MB_STAT_OUTCOME (mbIx n m) = out := by
  have hrd : (mbEnd n m st out s).getF F.MB_STAT_OUTCOME (mbIx n m) = (mbEndStat n m st out s).getF F.MB_STAT_OUTCOME (mbIx n m) :=
    congrArg (fun w : Word => bitsOf w.toNat 4 4) (mbEnd_rd_stat n m st out s _)
  rw [hrd, mbEndStat, State.getF_setB_apart _ (by decide), State.getF_setF_eq _ (by decide)]
  exact Nat.mod_eq_of_lt h

/-! ## Buffer words (R342) -/

/-- A write of a buffer word on a fitted channel. -/
theorem exec_mailboxBufferWrite {m : Master} {n : Fin 8} {b : Fin 32} {k : Fin 18} {w : Word} {s t : State} (hf : canFitted s.variant n = true)
    (h : mbBufWrite n b k w s = t) :
    exec (.mailboxBufferWrite m n b k w) s =
      .next (finish s (t.emit (.written m (0x60000000 + 0x1000 * n + 0x100 + 0x50 * b + 4 * k) .accepted))) := by
  have he : exec (.mailboxBufferWrite m n b k w) s = execMailboxBufferWrite m n b k w s := rfl
  rw [he, execMailboxBufferWrite, if_pos hf, h]
  rfl

/-! ## The actions of MB_CTRLm (R343) -/

/-- The four action bits of a word without one are clear. -/
theorem bitOf_of_low_clear {w : Word} {i : Nat} (hw : w &&& 0xF = 0) (hi : i < 4) : bitOf w.toNat i = false := by
  have hm : (0xF : Word).getLsbD i = true := by interval_cases i <;> rfl
  have h : (w &&& 0xF).getLsbD i = false := by rw [hw]; exact BitVec.getLsbD_zero
  rw [BitVec.getLsbD_and, hm, Bool.and_true] at h
  rw [bitOf_eq_testBit]
  exact h

/-- Of the four action bits a word without one has just the one put into it. -/
theorem onesUpTo_or_bit {w : Word} {j : Nat} (hj : j < 4) (hw : w &&& 0xF = 0) : onesUpTo 4 (w ||| word (2 ^ j)).toNat = [j] := by
  have hb : ∀ i < 4, bitOf (w ||| word (2 ^ j)).toNat i = decide (i = j) := fun i hi => by
    rw [bitOf_or_bit w (by omega) i, bitOf_of_low_clear hw hi, Bool.false_or]
  simp only [onesUpTo, hb 0 (by decide), hb 1 (by decide), hb 2 (by decide), hb 3 (by decide)]
  interval_cases j <;> rfl

/-- An action bit of a word without one is on where it is the one put in. -/
theorem mbAction_on {w : Word} {f : Fld} {j : Nat} (hf : f.wd = 1 ∧ f.lo < 4) (hj : j < 4) (hw : w &&& 0xF = 0) :
    f.on (w ||| word (2 ^ j)) = decide (f.lo = j) := by
  have h : f.on w = false := by rw [Fld.on_eq_bitOf hf.1, bitOf_of_low_clear hw hf.2]
  rw [Fld.on_or_bit ⟨hf.1, by omega⟩, h, Bool.false_or]

section

variable {n b : Nat} {w : Word} {s : State}

/-- What a write of MB_CTRLm comes to once its checks let it pass. -/
theorem mbCtrlWrite_one {j : Nat} {t : State} (hr : reservedSet .MB_CTRL w = false) (hw : w &&& 0xF = 0) (hc : s.claimedMb n b = false)
    (he : s.entering = false)
    (h : j = 2 ∧ s.mbState n b < 2 ∧ mbLoadOk (s.mbWord n b 0) (s.mbWord n b 1) = true ∧
        t = ((mbSettings n b (w ||| word (2 ^ j)) s).setF F.MB_STAT_STATE (mbIx n b) 1).setB F.MB_STAT_WIGN (mbIx n b) false ∨
      j = 3 ∧ s.mbState n b < 2 ∧ t = (mbSettings n b (w ||| word (2 ^ j)) s).setF F.MB_STAT_STATE (mbIx n b) 0 ∨
      j = 1 ∧ t = mbAborted n b (mbSettings n b (w ||| word (2 ^ j)) s) ∨
      j = 0 ∧ mbRequest n b false (mbSettings n b (w ||| word (2 ^ j)) s) = (true, t)) :
    mbCtrlWrite n b (w ||| word (2 ^ j)) s = (.accepted, t) := by
  have hj : j < 4 := by omega
  have hres : reservedSet .MB_CTRL (w ||| word (2 ^ j)) = false := by
    rw [reservedSet_or, hr]
    interval_cases j <;> rfl
  have hload : F.MB_CTRL_LOAD.on (w ||| word (2 ^ j)) = decide (2 = j) := mbAction_on (f := F.MB_CTRL_LOAD) (by decide) hj hw
  have hclear : F.MB_CTRL_CLEAR.on (w ||| word (2 ^ j)) = decide (3 = j) := mbAction_on (f := F.MB_CTRL_CLEAR) (by decide) hj hw
  have habort : F.MB_CTRL_ABORT.on (w ||| word (2 ^ j)) = decide (1 = j) := mbAction_on (f := F.MB_CTRL_ABORT) (by decide) hj hw
  have hreq : F.MB_CTRL_REQ.on (w ||| word (2 ^ j)) = decide (0 = j) := mbAction_on (f := F.MB_CTRL_REQ) (by decide) hj hw
  simp only [mbCtrlWrite, onesUpTo_or_bit hj hw, hres, hload, hclear, habort, hreq, hc, he]
  rcases h with ⟨rfl, hs, hl, rfl⟩ | ⟨rfl, hs, rfl⟩ | ⟨rfl, rfl⟩ | ⟨rfl, ht⟩
  · simp [firstCode, hs.not_ge, hl]
  · simp [firstCode, hs.not_ge]
  · simp [firstCode]
  · rw [ht]
    simp [firstCode]

end

/-- A write of MB_CTRLm on a fitted channel has its effect, and its answer. -/
theorem canAccess_mbCtrl {m : Master} {n : Fin 8} {b : Fin 32} {v : Word} {s t : State} (hf : canFitted s.variant n = true)
    (h : mbCtrlWrite n b v s = (.accepted, t)) (hr : reservedSet .MB_CTRL v = false) :
    canAccess m .MB_CTRL (mbIx n b) v s = (t.wr .CAN_RESULT (bk m n) (word (0x100 * (b % 64) + 0x10000 * Reg.addr .MB_CTRL (mbIx n b)))).emit
      (.written m (Reg.addr .MB_CTRL (mbIx n b)) .accepted) := by
  have hd : mbIx n b / 32 = n := by unfold mbIx; omega
  have hm : mbIx n b % 32 = b := by unfold mbIx; omega
  have hw : canWrite .MB_CTRL (mbIx n b) v s = (.accepted, (b : Nat), t) := by simp [canWrite, hr, hd, hm, h]
  have hfit : regFitted s.variant .MB_CTRL (mbIx n b) = true := (congrArg (canFitted s.variant) hd).trans hf
  rw [canAccess_fitted hfit hw rfl, canChan, hd, Code.num, Nat.zero_add]

/-- The settings of MB_CTRLm lie beside every other register. -/
theorem mbSettings_getF {n m k : Nat} {w : Word} {s : State} {f : Fld} (h : f.reg ≠ .MB_CTRL) : (mbSettings n m w s).getF f k = s.getF f k :=
  s.getF_wr_ne h

/-- REQ of a LOADED mailbox outside BUS_OFF. -/
theorem mbRequest_loaded {n b : Nat} {v : Word} {s : State} (hs : s.mbState n b = 1) (hn : s.canState n ≠ 8) (hm : F.MB_CTRL_MSONLY.on v = false) :
    mbRequest n b false (mbSettings n b v s) = (true, mbPend n b false (mbSettings n b v s)) := by
  have hst : (mbSettings n b v s).mbState n b = 1 := (mbSettings_getF (f := F.MB_STAT_STATE) (by decide)).trans hs
  have hch : (mbSettings n b v s).canState n = s.canState n := mbSettings_getF (f := F.CAN_STAT_STATE) (by decide)
  have hms : (mbSettings n b v s).flag F.MB_CTRL_MSONLY (mbIx n b) = false := by
    have hget : (mbSettings n b v s).getF F.MB_CTRL_MSONLY (mbIx n b) = F.MB_CTRL_MSONLY.of v := State.getF_wrMasked (f := F.MB_CTRL_MSONLY) (by decide)
    rw [State.flag, hget]
    exact hm
  simp [mbRequest, hst, hch, hn, hms]

/-- ABORT of a PENDING mailbox that was never tried. -/
theorem mbAborted_untried {n b : Nat} {v : Word} {s : State} (hs : s.mbState n b = 2) (ha : s.getF F.MB_STAT_ATTEMPTS (mbIx n b) = 0) :
    mbAborted n b (mbSettings n b v s) = mbEnd n b 1 2 (mbSettings n b v s) := by
  have hst : (mbSettings n b v s).mbState n b = 2 := (mbSettings_getF (f := F.MB_STAT_STATE) (by decide)).trans hs
  have hat : (mbSettings n b v s).getF F.MB_STAT_ATTEMPTS (mbIx n b) = 0 := (mbSettings_getF (by decide)).trans ha
  rw [mbAborted, if_pos hst, if_pos hat]

/-- What a request writes of MB_STATm. -/
def mbPendStat (n b : Nat) (s : State) : State :=
  (((s.setF F.MB_STAT_STATE (mbIx n b) 2).setF F.MB_STAT_OUTCOME (mbIx n b) 0).setF F.MB_STAT_ATTEMPTS (mbIx n b) 0).setB F.MB_STAT_MS (mbIx n b) false

theorem mbPend_regs (n b : Nat) (s : State) :
    (mbPend n b false s).regs = ((mbPendStat n b s).wr .MB_RQT (mbIx n b) (word s.short)).regs := rfl

theorem mbPend_rqt (n b : Nat) (s : State) : (mbPend n b false s).rd .MB_RQT (mbIx n b) = word s.short := by
  rw [State.rd_of_regs (mbPend_regs n b s), State.rd_wr_same]

theorem mbPend_state (n b : Nat) (s : State) : (mbPend n b false s).mbState n b = 2 := by
  rw [State.mbState, State.getF_of_regs (mbPend_regs n b s), State.getF_wr_ne _ (by decide), mbPendStat, State.getF_setB_apart _ (by decide),
    State.getF_setF_apart _ (by decide), State.getF_setF_apart _ (by decide), State.getF_setF_eq _ (by decide)]
  rfl

theorem mbPend_attempts (n b : Nat) (s : State) : (mbPend n b false s).getF F.MB_STAT_ATTEMPTS (mbIx n b) = 0 := by
  rw [State.getF_of_regs (mbPend_regs n b s), State.getF_wr_ne _ (by decide), mbPendStat, State.getF_setB_apart _ (by decide),
    State.getF_setF_eq _ (by decide), Nat.zero_mod]

/-! ## Sending (R343, R345) -/

/-- The mailbox selected becomes ACTIVE; without one nothing changes. -/
theorem exec_canTxSelect {n : Fin 8} {s u : State} (ho : s.canOn n = true) (hs : s.canSends n = true) (ha : s.activeMb n = none)
    (hh : s.heldOf .CAN_MODE n = none)
    (hu : s.selectMb n = none ∧ u = s ∨
      ∃ b, s.selectMb n = some b ∧ u = (s.setF F.MB_STAT_STATE (mbIx n b) 3).countF F.MB_STAT_ATTEMPTS (mbIx n b)) :
    exec (.canTxSelect n) s = .next (finish s u) := by
  refine ok_of_eq s ?_
  rcases hu with ⟨hb, rfl⟩ | ⟨b, hb, rfl⟩ <;> simp [ho, hs, ha, hh, hb]

section

variable {n : Fin 8} {b : Nat} {s u : State} (hb : s.activeMb n = some b)

include hb

/-- A frame of the ACTIVE mailbox that no other channel state and no SELFRX brings back ends its request, or begins the one asked for meanwhile. -/
theorem exec_canTxSent {sof : Nat} (hs : s.canState n = 2) (hx : s.flag F.CAN_MODE_SELFRX n = false)
    (hu : u = (s.wr .MB_TS (mbIx n b) (word sof)).emit (.canTx n b (s.mbWords n b))) {again late : Bool}
    (hl : tabGet false s.mbAbort (mbIx n b) = late) (ha : (s.flag F.MB_STAT_REREQ (mbIx n b) && ! late) = again) :
    exec (.canTxSent n sof) s = .next (finish s (filtersApply n (countersTo n (s.getF F.CAN_STAT_TEC n - 1) (s.getF F.CAN_STAT_REC n)
      (let v := mbEnd n b (if again then 2 else 1) (if late then 5 else 1) u
       if again then v.setF F.MB_STAT_ATTEMPTS (mbIx n b) 0 else v)))) := by
  subst hu hl ha
  refine ok_of_eq s ?_
  simp only [hb, hs, hx]
  rfl

/-- An attempt lost to arbitration. -/
theorem exec_canTxArbitrationLost : exec (.canTxArbitrationLost n) s = .next (finish s (attemptFails n b 3 s)) := by
  refine ok_of_eq s ?_
  simp only [hb]

end

/-- Settles O35, clause by clause: the buffer, the actions of MB_CTRLm, and the ways an attempt goes. -/
theorem canMailboxes : Obligations.CanMailboxes := by
  refine ⟨?buffer, ?control, ?select, ?sent, ?lost⟩
  case buffer =>
    intro m n b k w s hf hc
    refine ⟨fun hs => exec_mailboxBufferWrite hf ?_, fun hs => exec_mailboxBufferWrite hf ?_⟩
    · simp only [mbBufWrite, hc, hs.not_ge, if_false, Bool.false_eq_true]
    · simp only [mbBufWrite, hc, hs, if_true, if_false, Bool.false_eq_true]
  case control =>
    intro m n b w s hf hc he hr hw
    have hres : ∀ j, reservedSet .MB_CTRL (word (2 ^ j)) = false → reservedSet .MB_CTRL (w ||| word (2 ^ j)) = false := fun j hj => by
      rw [reservedSet_or, hr, hj, Bool.or_false]
    refine ⟨fun hs hl => ?load, fun hs hn hm => ?req, fun hs ha => ?abort, fun hs => ?clear⟩
    case load =>
      refine ⟨_, ok_of_eq s (canAccess_mbCtrl hf (mbCtrlWrite_one (j := 2) hr hw hc he (.inl ⟨rfl, hs, hl, rfl⟩)) (hres 2 rfl)), ?_, sends_finish rfl⟩
      refine (getF_finish s _ _ _).trans ?_
      rw [State.getF_emit, State.getF_wr_ne _ (by decide), State.getF_setB_apart _ (by decide), State.getF_setF_eq _ (by decide)]
      rfl
    case req =>
      have hms : F.MB_CTRL_MSONLY.on (w ||| word (2 ^ 0)) = false := by rw [Fld.on_or_bit (by decide), hm]; rfl
      have hreq := mbRequest_loaded (v := w ||| word (2 ^ 0)) hs hn hms
      refine ⟨_, ok_of_eq s (canAccess_mbCtrl hf (mbCtrlWrite_one (j := 0) hr hw hc he (.inr (.inr (.inr ⟨rfl, hreq⟩)))) (hres 0 rfl)), ?_, ?_, ?_,
        sends_finish rfl⟩
      · refine (getF_finish s _ _ _).trans ?_
        rw [State.getF_emit, State.getF_wr_ne _ (by decide)]
        exact mbPend_state _ _ _
      · rw [rd_finish, State.rd_emit, State.rd_wr_ne _ (by decide)]
        exact mbPend_rqt _ _ _
      · rw [getF_finish, State.getF_emit, State.getF_wr_ne _ (by decide)]
        exact mbPend_attempts _ _ _
    case abort =>
      have hab := mbAborted_untried (v := w ||| word (2 ^ 1)) hs ha
      refine ⟨_, ok_of_eq s (canAccess_mbCtrl hf (mbCtrlWrite_one (j := 1) hr hw hc he (.inr (.inr (.inl ⟨rfl, hab.symm⟩)))) (hres 1 rfl)), ?_, ?_,
        sends_finish (congrArg _ (mbEnd_sent _ _ _ _ _))⟩
      · refine (getF_finish s _ _ _).trans ?_
        rw [State.getF_emit, State.getF_wr_ne _ (by decide)]
        exact mbEnd_state (by decide)
      · rw [getF_finish, State.getF_emit, State.getF_wr_ne _ (by decide)]
        exact mbEnd_outcome (by decide)
    case clear =>
      refine ⟨_, ok_of_eq s (canAccess_mbCtrl hf (mbCtrlWrite_one (j := 3) hr hw hc he (.inr (.inl ⟨rfl, hs, rfl⟩))) (hres 3 rfl)), ?_, sends_finish rfl⟩
      refine (getF_finish s _ _ _).trans ?_
      rw [State.getF_emit, State.getF_wr_ne _ (by decide), State.getF_setF_eq _ (by decide)]
      rfl
  case select =>
    intro n s ho hs ha hh
    exact ⟨fun b hb => exec_canTxSelect ho hs ha hh (.inr ⟨b, hb, rfl⟩), fun hb => exec_canTxSelect ho hs ha hh (.inl ⟨hb, rfl⟩)⟩
  case sent =>
    intro n b sof s u hb hs hx hu
    exact ⟨fun hr hl => exec_canTxSent (again := false) (late := false) hb hs hx hu hl (by rw [hr]; rfl),
      fun hr hl => exec_canTxSent (again := true) (late := false) hb hs hx hu hl (by rw [hr]; rfl),
      fun hl => exec_canTxSent (again := false) (late := true) hb hs hx hu hl (by rw [Bool.not_true, Bool.and_false])⟩
  case lost =>
    intro n b s hb
    have h := exec_canTxArbitrationLost hb
    refine ⟨fun ho => h.trans ?_, fun h1 h2 => h.trans ?_⟩
    · rw [attemptFails]
      simp [ho]
    · rw [attemptFails]
      simp [h1, h2]

end Sys2Proof.Machine

/-! # Registers of the Ethernet unit (12_ethernet_switch.md, R373, R375, R381, R383, R384) -/

namespace Sys2Proof.Machine

/-! ## Writes and their answers -/

/-- A write of a fitted ETH register has its effect, and its answer. -/
theorem ethAccess_fitted {m : Master} {r : Reg} {n : Nat} {w : Word} {s t : State} {c : Code} (hf : regFitted s.variant r n = true)
    (h : ethWrite r n w s = (c, t)) : ethAccess m r n w s = ethAnswer m r n c t := by
  simp only [ethAccess, hf, if_true, h]

section

variable {m : Master} {r : Reg} {n : Nat} {c : Code} {s : State}

/-- ETH_RESULT where the module has a switch. -/
theorem ethAnswer_regsBut {t : State} {l : List (Reg × Nat)} (h : regsBut s t l) (hl : (.ETH_RESULT, bk m 0) ∈ l) :
    regsBut s (ethAnswer m r n c t) l := by
  refine regsBut_of_regs (t := if regFitted t.variant .ETH_RESULT 0 then _ else t) ?_ (State.emit_regs _ _)
  split
  · exact regsBut_wr _ h hl
  · exact h

theorem ethAnswer_rd {q : Reg} {k : Nat} (h : q ≠ .ETH_RESULT) : (ethAnswer m r n c s).rd q k = s.rd q k := by
  rw [ethAnswer, State.answered, State.rd_emit]
  split
  · exact s.rd_wr_ne h
  · rfl

theorem ethAnswer_eth : (ethAnswer m r n c s).eth = s.eth := by
  rw [ethAnswer, State.answered, State.emit_eth]
  split <;> rfl

theorem ethAnswer_mem : (ethAnswer m r n c s).mem = s.mem := by
  rw [ethAnswer, State.answered, State.emit_mem]
  split <;> rfl

theorem ethAnswer_sent : (ethAnswer m r n c s).sent = .written m (r.addr n) c :: s.sent := by
  have h : (ethAnswer m r n c s).sent = .written m (r.addr n) c ::
      (if regFitted s.variant .ETH_RESULT 0 then s.wr .ETH_RESULT (bk m 0) (word (c.num + 0x100 * (n % 256) + 0x10000 * r.addr n)) else s).sent := rfl
  rw [h, apply_ite State.sent, State.wr_sent, ite_self]

end

/-! ## Rings (R375) -/

/-- KICK without a new SIZE has the descriptors of a transmit ring taken. -/
theorem ethWrite_kick {r : Nat} {w v : Word} {s : State} (hv : v = w ||| word (2 ^ F.ETH_RING_KICK.lo)) (hr : reservedSet .ETH_RING v = false)
    (hs : F.ETH_RING_SIZE.of v = s.getF F.ETH_RING_SIZE r) (hl : s.getF F.ETH_RING_SIZE r ≤ 128) :
    ethWrite .ETH_RING r v s = (.accepted, if r % 2 = 1 then takeAll 128 r s else s) := by
  have hk : F.ETH_RING_KICK.on v = true := by rw [hv, Fld.on_or_bit (by decide), decide_eq_true rfl, Bool.or_true]
  simp [ethWrite, ringAccess, hr, hs, hl.not_gt, hk]

/-! ## Counters (R383) -/

/-- The registers of a port's counters with the values that a read of ETH_RXF latches. -/
theorem counterLatch_rd {m : Master} {p : Nat} {s : State} :
    (counterLatch m p s).rd .ETH_RXB (bk m p) = word (s.ethCnt p cRxb) ∧ (counterLatch m p s).rd .ETH_TXF (bk m p) = word (s.ethCnt p cTxf) ∧
    (counterLatch m p s).rd .ETH_TXB (bk m p) = word (s.ethCnt p cTxb) ∧
    (counterLatch m p s).rd .ETH_D1 (bk m p) = word (s.ethCnt p cFcs + 0x10000 * s.ethCnt p cOversize) ∧
    (counterLatch m p s).rd .ETH_D2 (bk m p) = word (s.ethCnt p cRunt + 0x10000 * s.ethCnt p cVlan) ∧
    (counterLatch m p s).rd .ETH_D3 (bk m p) = word (s.ethCnt p cNobuf + 0x10000 * s.ethCnt p cLinkdn) ∧
    (counterLatch m p s).rd .ETH_D4 (bk m p) = word (s.ethCnt p cMirdrop) := by
  simp [counterLatch, counterRegs, State.counterWords, State.rd_wr]

/-- Registers written one after the other leave every other register. -/
theorem regsBut_foldl_wr {k : Nat} {s : State} {l : List (Reg × Nat)} (ws : List (Reg × Word)) (hl : ∀ x ∈ ws, (x.1, k) ∈ l) :
    ∀ {t : State}, regsBut s t l → regsBut s (ws.foldl (fun t x => t.wr x.1 k x.2) t) l := by
  induction ws with
  | nil => exact fun h => h
  | cons x ws ih => exact fun h => ih (fun y hy => hl y (List.mem_cons_of_mem x hy)) (regsBut_wr x.2 h (hl x List.mem_cons_self))

theorem counterLatch_regsBut (m : Master) (p : Nat) (s : State) : regsBut s (counterLatch m p s) (counterRegs.map fun r => (r, bk m p)) :=
  regsBut_foldl_wr _ (fun x hx => List.mem_map_of_mem (f := fun r => (r, bk m p)) (List.of_mem_zip (a := x.1) (b := x.2) hx).1) (regsBut_refl s _)

theorem counterLatch_keeps {β : Type} (f : State → β) (h : ∀ (t : State) r n w, f (t.wr r n w) = f t) (m : Master) (p : Nat) (s : State) :
    f (counterLatch m p s) = f s := foldl_keeps f _ (fun t _ => h t _ _ _) _ _

/-- A port's counters without those of port `p`. -/
theorem ethCnt_cleared {p q k : Nat} {s t : State} (ht : t.eth = { s.eth with cnt := s.eth.cnt.filter fun x => x.1 / 16 != p }) (hk : k < 16) :
    t.ethCnt q k = if q = p then 0 else s.ethCnt q k := by
  have hd : (16 * q + k) / 16 = q := by omega
  have hcnt : t.eth.cnt = s.eth.cnt.filter fun x => x.1 / 16 != p := by rw [ht]
  rw [State.ethCnt, hcnt, tabGet_filter_key 0 s.eth.cnt (fun j => j / 16 != p), hd]
  by_cases h : q = p <;> simp [h, State.ethCnt]

/-- CLR. -/
theorem ethWrite_cclr {p : Nat} {w : Word} {s : State} (hr : reservedSet .ETH_CCLR w = false) (hc : F.ETH_CCLR_CLR.on w = true) :
    ethWrite .ETH_CCLR p w s = (.accepted, setEth { s.eth with cnt := s.eth.cnt.filter fun x => x.1 / 16 != p } s) := by
  simp [ethWrite, hr, hc]

/-! ## Static entries (R384) -/

section

variable {e : Nat} {w v : Word} {s : State} (hv : v = w ||| word (2 ^ F.ETH_SA_CTL_VALID.lo)) (hr : reservedSet .ETH_SA_CTL v = false)

theorem ethWrite_static_absent (hr : reservedSet .ETH_SA_CTL v = false) (ha : absentPorts s.variant (F.ETH_SA_CTL_PORTS.of v) = true) :
    ethWrite .ETH_SA_CTL e v s = (.absent, s) := by
  simp [ethWrite, staticWrite, hr, ha]

include hv hr

theorem ethWrite_static_taken (ha : absentPorts s.variant (F.ETH_SA_CTL_PORTS.of v) = false) (h0 : F.ETH_SA_HI_VID.of (s.next .ETH_SA_HI e) ≠ 0)
    (h1 : F.ETH_SA_HI_VID.of (s.next .ETH_SA_HI e) ≠ 4095) :
    ethWrite .ETH_SA_CTL e v s = (.accepted, ((s.applyHeld .ETH_SA_LO e).applyHeld .ETH_SA_HI e).wr .ETH_SA_CTL e v) := by
  have hk : F.ETH_SA_CTL_VALID.on v = true := by rw [hv, Fld.on_or_bit (by decide), decide_eq_true rfl, Bool.or_true]
  simp [ethWrite, staticWrite, hr, ha, hk, h0, h1, State.applyAll]

theorem ethWrite_static_invalid (ha : absentPorts s.variant (F.ETH_SA_CTL_PORTS.of v) = false)
    (h : F.ETH_SA_HI_VID.of (s.next .ETH_SA_HI e) = 0 ∨ F.ETH_SA_HI_VID.of (s.next .ETH_SA_HI e) = 4095) :
    ethWrite .ETH_SA_CTL e v s = (.invalid, s) := by
  have hk : F.ETH_SA_CTL_VALID.on v = true := by rw [hv, Fld.on_or_bit (by decide), decide_eq_true rfl, Bool.or_true]
  simp [ethWrite, staticWrite, hr, ha, hk, h]

end

/-- The three words of a static entry come into force together. -/
theorem staticEntry_words (e : Nat) (v : Word) (s : State) :
    let t := ((s.applyHeld .ETH_SA_LO e).applyHeld .ETH_SA_HI e).wr .ETH_SA_CTL e v
    t.rd .ETH_SA_CTL e = v ∧ t.rd .ETH_SA_LO e = s.next .ETH_SA_LO e ∧ t.rd .ETH_SA_HI e = s.next .ETH_SA_HI e := by
  have hnext : (s.applyHeld .ETH_SA_LO e).next .ETH_SA_HI e = s.next .ETH_SA_HI e := by
    rw [State.next, State.next, State.heldOf_applyHeld_other (by simp), State.rd_applyHeld_other (by simp)]
  refine ⟨State.rd_wr_same _ _ _ _, ?_, ?_⟩
  · rw [State.rd_wr_ne _ (by decide), State.rd_applyHeld_other (by simp), State.rd_applyHeld_same]
  · rw [State.rd_wr_ne _ (by decide), State.rd_applyHeld_same, hnext]

/-- Settles O38, register by register. -/
theorem switchRegisters : Obligations.SwitchRegisters := by
  refine ⟨?kick, ?latch, ?clear, ?buffer, ?static⟩
  case kick => exact fun m r w v s hf hv hr hs hl => ok_of_eq s (hv ▸ ethAccess_fitted hf (ethWrite_kick hv hr hs hl))
  case latch =>
    intro m p s hf
    have hrun : exec (.ethRxfRead m p) s =
        .next (finish s ((counterLatch m p s).emit (.value m (Reg.addr .ETH_RXF p) (word (s.ethCnt p cRxf))))) := ok_of_eq s (if_pos hf)
    obtain ⟨hrxb, htxf, htxb, h1, h2, h3, h4⟩ := counterLatch_rd (m := m) (p := p) (s := s)
    refine ⟨_, hrun, ?_, ?_, ?_, ?_, ?_, ?_, ?_, ?_, sends_finish ?_, memSame_finish ?_,
      regsBut_finish (regsBut_of_regs (counterLatch_regsBut m p s) (State.emit_regs _ _))⟩
    · rwa [rd_finish, State.rd_emit]
    · rwa [rd_finish, State.rd_emit]
    · rwa [rd_finish, State.rd_emit]
    · rwa [rd_finish, State.rd_emit]
    · rwa [rd_finish, State.rd_emit]
    · rwa [rd_finish, State.rd_emit]
    · rwa [rd_finish, State.rd_emit]
    · rw [finish_eth, State.emit_eth]
      exact counterLatch_keeps State.eth (fun _ _ _ _ => rfl) m p s
    · exact congrArg _ (counterLatch_keeps State.sent (fun _ _ _ _ => rfl) m p s)
    · rw [State.emit_mem]
      exact counterLatch_keeps State.mem (fun _ _ _ _ => rfl) m p s
  case clear =>
    intro m p w s hf hr hc
    have heth : ∀ q k, k < 16 → (finish s (ethAnswer m .ETH_CCLR p .accepted
        (setEth { s.eth with cnt := s.eth.cnt.filter fun x => x.1 / 16 != p } s))).ethCnt q k = if q = (p : Nat) then 0 else s.ethCnt q k :=
      fun q k hk => ethCnt_cleared (by rw [finish_eth, ethAnswer_eth]; rfl) hk
    exact ⟨_, ok_of_eq s (ethAccess_fitted hf (ethWrite_cclr hr hc)), fun k hk => (heth p k hk).trans (if_pos rfl),
      fun q k hq hk => (heth q k hk).trans (if_neg hq), sends_finish ethAnswer_sent,
      regsBut_finish (ethAnswer_regsBut (regsBut_of_regs (regsBut_refl s _) rfl) (List.mem_singleton_self _)), memSame_finish ethAnswer_mem⟩
  case buffer =>
    intro m s hf
    exact ⟨_, ok_of_eq s (if_pos hf), finish_eth s _, sends_finish rfl, regsSame_finish rfl, memSame_finish rfl⟩
  case static =>
    rintro m e w _ s hf rfl hr
    refine ⟨fun ha => ok_of_eq s (ethAccess_fitted hf (ethWrite_static_absent hr ha)), fun ha h0 h1 => ?taken,
      fun ha h => ok_of_eq s (ethAccess_fitted hf (ethWrite_static_invalid rfl hr ha h))⟩
    obtain ⟨hctl, hlo, hhi⟩ := staticEntry_words e (w ||| word (2 ^ F.ETH_SA_CTL_VALID.lo)) s
    refine ⟨_, ok_of_eq s (ethAccess_fitted hf (ethWrite_static_taken rfl hr ha h0 h1)), ?_, ?_, ?_, sends_finish ?_, memSame_finish ?_⟩
    · rw [rd_finish, ethAnswer_rd (by decide), hctl]
    · rw [rd_finish, ethAnswer_rd (by decide), hlo]
    · rw [rd_finish, ethAnswer_rd (by decide), hhi]
    · rw [ethAnswer_sent, State.wr_sent, State.applyHeld_sent, State.applyHeld_sent]
      rfl
    · rw [ethAnswer_mem, State.wr_mem, State.applyHeld_mem, State.applyHeld_mem]

end Sys2Proof.Machine

/-! # The network manager (13_network_sleep_wake.md, R387 to R393) -/

namespace Sys2Proof.Machine

/-! ## Writes of NET registers (R402) -/

/-- A write of a NET register has its effect, and its answer in NET_RESULT. -/
theorem netAccess_eq {m : Master} {r : Reg} {n item k : Nat} {w : Word} {s t : State} {c : Code} (h : netWrite m r n w s = (c, item, t))
    (hk : c.num + 0x100 * item + 0x10000 * r.addr n = k) :
    netAccess m r n w s = (t.wr .NET_RESULT (bk m 0) (word k)).emit (.written m (r.addr n) c) := by
  simp only [netAccess, h, hk]

theorem netWrite_ctrl {m : Master} {w : Word} {s : State} (hr : reservedSet .NET_CTRL w = false) :
    netWrite m .NET_CTRL 0 w s = (.accepted, 0, netCtrl w s) := by
  have hok : ¬ (! netOk .NET_CTRL w) = true := by simp [netOk, hr]
  exact (if_neg Bool.false_ne_true).trans (if_neg hok)

/-- A written word with a reserved bit is refused. -/
theorem netWrite_reserved {m : Master} {r : Reg} {n : Nat} {w : Word} {s : State} (hf : regFitted s.variant r n = true) (hr : reservedSet r w = true) :
    netWrite m r n w s = (.invalid, 0, s) := by
  have hbad : (! netOk r w) = true := by simp [netOk, hr]
  exact (if_neg (by simp [hf])).trans (if_pos hbad)

/-! ## Wake requests (R389 to R391) -/

/-- A wake request has been seen in the round. -/
def wakeSeen (s : State) : State := { s with net := { s.net with wakeSeen := true } }

/-- A wake request from the module itself cancels an eve, lets rounds resume while the entry has not begun, is latched during one, and otherwise
keeps the round from being agreed. -/
theorem wakeRequest_near {s v : State}
    (h : (s.nmState = 2 ∨ s.nmState = 3 ∧ s.entering = false) ∧ v = nmCancel (wakeSeen s) ∨
      (s.nmState = 3 ∧ s.entering = true) ∧ v = wakeLatch none (wakeSeen s) ∨ (s.nmState ≠ 2 ∧ s.nmState ≠ 3) ∧ v = wakeSeen s) :
    wakeRequest none true s = v := by
  rcases h with ⟨h2 | ⟨h3, he⟩, rfl⟩ | ⟨⟨h3, he⟩, rfl⟩ | ⟨⟨h2, h3⟩, rfl⟩
  · simp [wakeRequest, wakeSeen, h2]
  · simp [wakeRequest, wakeSeen, h3, he]
  · simp [wakeRequest, wakeSeen, State.eveCancelled, h3, he]
  · simp [wakeRequest, wakeSeen, h2, h3]

/-- One of a node in a round keeps the round from being agreed. -/
theorem wakeRequest_node {s : State} (h : s.nmState = 1) : wakeRequest none false s = wakeSeen s := by
  simp [wakeRequest, wakeSeen, h]

/-! ## NET_CTRL (R389, R390) -/

section

variable {w : Word} {s u v : State} (hu : u = s.wrMasked .NET_CTRL 0 w) (hh : F.NET_CTRL_HOLD.on w = false)

include hu hh

/-- NMEN in ACTIVE starts the manager, or ends it. -/
theorem netCtrl_nmen (hw : F.NET_CTRL_WAKEREQ.on w = false)
    (hv : (s.nmOn = false ∧ u.nmOn = true ∧ u.pwrState = 0 ∧ v = nmStart u) ∨ (s.nmOn = true ∧ u.nmOn = false ∧ v = nmOff u) ∨
      ((s.nmOn = u.nmOn ∨ u.nmOn = true ∧ u.pwrState ≠ 0) ∧ v = u)) : netCtrl w s = v := by
  simp only [netCtrl, ← hu, hh, hw]
  rcases hv with ⟨h1, h2, h3, hv⟩ | ⟨h1, h2, hv⟩ | ⟨h | ⟨h2, h3⟩, hv⟩
  · simp [h1, h2, h3, hv]
  · simp [h1, h2, hv]
  · cases hn : s.nmOn <;> simp [← h, hn, hv]
  · simp [h2, h3, hv]

/-- WAKEREQ with NMEN as it stands is a wake request. -/
theorem netCtrl_wakereq (hw : F.NET_CTRL_WAKEREQ.on w = true) (hn : s.nmOn = F.NET_CTRL_NMEN.on w) : netCtrl w s = wakeRequest none true u := by
  have hon : u.nmOn = s.nmOn := by
    have hget : u.getF F.NET_CTRL_NMEN 0 = F.NET_CTRL_NMEN.of w := hu ▸ State.getF_wrMasked (f := F.NET_CTRL_NMEN) (by decide)
    rw [hn, State.nmOn, State.flag, hget, Fld.on]
  simp only [netCtrl, ← hu, hh, hw]
  cases h : s.nmOn <;> simp [hon, h]

end

/-- A word that has a bit stays when the bit is put in. -/
theorem or_bit_of_on {f : Fld} {w : Word} (hf : f.wd = 1 ∧ f.lo < 32) (h : f.on w = true) : w ||| word (2 ^ f.lo) = w := by
  refine BitVec.eq_of_toNat_eq (Nat.eq_of_testBit_eq fun i => ?_)
  rw [← bitOf_eq_testBit, ← bitOf_eq_testBit, bitOf_or_bit w hf.2]
  by_cases hi : i = f.lo
  · rw [hi, ← Fld.on_eq_bitOf hf.1, h, Bool.true_or]
  · simp [hi]

/-! ## Votes (R387) -/

section

variable {n : Fin 8} {id node : Nat} {data : List Byte} {s : State} (hn : s.nmCh n = true) (hc : s.canOn n = true) (hs : s.nmState = 1)
  (hid : id = s.getF F.NET_NMID_BASE 0 + node) (h1 : 1 ≤ node) (h63 : node ≤ 63) (hm : s.mutedPartner 2 (n * 65536 + node) = false)

include hn hc hs hid h1 h63 hm

/-- A malformed vote is a violation of its node. -/
theorem voteReceived_malformed (hb : data.length ≠ 8 ∨ (data.getD 0 0).toNat ≠ node ∨ 4 ≤ (data.getD 1 0).toNat ∨
      (data.getD 2 0).toNat ≠ s.getF F.NET_STAT_ROUND 0) :
    voteReceived n id data s = s.violationEmcy 2 4 (n * 65536 + node) := by
  have hsub : id - s.getF F.NET_NMID_BASE 0 = node := by omega
  have hle : ¬ id ≤ s.getF F.NET_NMID_BASE 0 := by omega
  simp only [voteReceived, hsub]
  generalize data.getD 0 0 = x0, data.getD 1 0 = x1, data.getD 2 0 = x2 at hb ⊢
  have hbad : data.length ≠ 8 ∨ x0.toNat ≠ node ∨ x2.toNat ≠ s.getF F.NET_STAT_ROUND 0 ∨ 4 ≤ x1.toNat := by omega
  rw [if_neg (by simp [hn, hc, hs, hle, h63.not_gt]), if_neg (by simp [hm, hs]), if_pos hbad]

/-- A vote of the round counts, and one that asks for a wake, or that a mandatory node sends without SLEEP, is a wake request. -/
theorem voteReceived_counted {t : State} (hl : data.length = 8) (h0 : (data.getD 0 0).toNat = node)
    (hr : (data.getD 2 0).toNat = s.getF F.NET_STAT_ROUND 0) (hb : (data.getD 1 0).toNat < 4)
    (ht : t = { s with net := { s.net with
      votes := tabSet 0 s.net.votes (nodeIx n node) ((data.getD 1 0).toNat + 1)
      woke := if bitOf (data.getD 1 0).toNat 1 then tabSet 0 s.net.woke (nodeIx n node) 4 else s.net.woke } }) :
    voteReceived n id data s =
      if bitOf (data.getD 1 0).toNat 1 ∨ s.mandatory n node = true ∧ (! bitOf (data.getD 1 0).toNat 0) = true then wakeSeen t else t := by
  have hsub : id - s.getF F.NET_NMID_BASE 0 = node := by omega
  have hle : ¬ id ≤ s.getF F.NET_NMID_BASE 0 := by omega
  have hgood : ¬ (data.length ≠ 8 ∨ (data.getD 0 0).toNat ≠ node ∨ (data.getD 2 0).toNat ≠ s.getF F.NET_STAT_ROUND 0 ∨ 4 ≤ (data.getD 1 0).toNat) := by
    omega
  have hwake : wakeRequest none false t = wakeSeen t := wakeRequest_node (ht ▸ hs)
  simp only [voteReceived, hsub]
  rw [if_neg (by simp [hn, hc, hs, hle, h63.not_gt]), if_neg (by simp [hm, hs]), if_neg hgood, ← ht, hwake]

end

/-- Settles O39, clause by clause: NET_CTRL, votes, rounds, the entry, and the awake timer. -/
theorem networkManager : Obligations.NetworkManager := by
  refine ⟨?nmen, ?reserved, ?wakereqDict, ?wakereq, ?vote, ?round, ?entry, ?expiry, ?noTimer⟩
  case nmen =>
    intro m w s u v hr hh hw hu hv
    exact ok_of_eq s (netAccess_eq (netCtrl_nmen hu hh hw hv ▸ netWrite_ctrl hr) (Nat.zero_add _))
  case reserved => exact fun m w s hr => ok_of_eq s (netAccess_eq (netWrite_reserved rfl hr) rfl)
  case wakereqDict =>
    rintro p w s u v rfl hv
    exact ok_of_eq s (congrArg (·.objDone p 0x4600 0x31 .accepted) (wakeRequest_near hv))
  case wakereq =>
    intro c w s u v hr hh hw hn hu hv
    have hst : u.nmState = s.nmState := hu ▸ State.getF_wr_ne s (g := F.NET_STAT_NMST) (by decide)
    have hreq : wakeRequest none true u = v := by
      refine wakeRequest_near ?_
      rcases hv with ⟨h2, rfl⟩ | ⟨hlt, rfl⟩
      · exact .inl ⟨.inl (hst.trans h2), rfl⟩
      · exact .inr (.inr ⟨by omega, rfl⟩)
    refine ok_of_eq s ?_
    rw [or_bit_of_on (by decide) hw]
    exact netAccess_eq ((netCtrl_wakereq hu hh hw hn).trans hreq ▸ netWrite_ctrl hr) (Nat.zero_add _)
  case vote =>
    rintro n id node _ _ data s hn hc hs hid h1 h63 hm rfl rfl
    refine ⟨fun hl h0 hr hb hq => ok_of_eq s ?_, fun hl h0 hr hb hq => ok_of_eq s ?_, fun hl h0 hr hb => ok_of_eq s ?_,
      fun hb => ok_of_eq s (voteReceived_malformed hn hc hs hid h1 h63 hm hb)⟩
    · rw [voteReceived_counted hn hc hs hid h1 h63 hm hl h0 hr (by omega) rfl]
      generalize (data.getD 1 0).toNat = b at hb hq ⊢
      interval_cases b
      · have hq := hq.resolve_left (by decide)
        simp [bitOf, hq]
      · simp [bitOf]
    · rw [voteReceived_counted hn hc hs hid h1 h63 hm hl h0 hr (by omega) rfl]
      generalize (data.getD 1 0).toNat = b at hb ⊢
      simp [bitOf, hb, hq, wakeSeen]
    · rw [voteReceived_counted hn hc hs hid h1 h63 hm hl h0 hr (by omega) rfl]
      generalize (data.getD 1 0).toNat = b at hb ⊢
      rcases hb with hb | hb <;> simp [bitOf, hb, wakeSeen]
  case round =>
    intro s
    refine ⟨fun h => ok_of_eq s (if_pos h), fun h hi => ok_of_eq s ?_, fun h hi ha => ok_of_eq s ?_, fun h hi ha hg => ok_of_eq s ?_,
      fun h hi ha hg => ok_of_eq s ?_⟩
    · simp [nmRoundEnd, h, hi]
    · simp [nmRoundEnd, h, hi, ha]
    · simp [nmRoundEnd, h, hi, ha, hg]
    · simp [nmRoundEnd, h, hi, ha, hg]
  case entry =>
    rintro _ s rfl
    have htarget : (nmTo 3 s).flag F.NET_CTRL_TARGET 0 = s.flag F.NET_CTRL_TARGET 0 := State.flag_setF_ne s (by decide)
    refine ⟨fun h => ok_of_eq s ?_, fun h => ok_of_eq s (if_pos h), fun h he hp => ?_, fun h => ?_⟩
    · rw [nmPnr, if_neg (not_not.2 h), nmEntry, htarget]
    · exact ⟨ok_of_eq s (if_pos ⟨h, by rw [he]; rfl, hp⟩), ok_of_eq s (if_pos ⟨h, by rw [he]; rfl, hp⟩)⟩
    · exact ⟨ok_of_eq s (if_neg fun hc => h hc.1), ok_of_eq s (if_neg fun hc => h hc.1)⟩
  case expiry =>
    intro e s u hw hp hu
    have hst : u.nmState = s.nmState := by
      rw [hu, State.nmState, getF_emcyObj, State.getF_setB_apart _ (by decide)]
      rfl
    refine ⟨fun h => ok_of_eq s ?_, fun h => ok_of_eq s ?_⟩
    · simp [awakeExpire, hw, hp.not_ge, ← hu, hst, h]
    · simp [awakeExpire, hw, hp.not_ge, ← hu, hst, h]
  case noTimer => exact fun s hw => ok_of_eq s (if_pos (.inl (by rw [hw]; rfl)))

end Sys2Proof.Machine

/-! # Wakes and the wake link (13_network_sleep_wake.md, R394 to R400) -/

namespace Sys2Proof.Machine

/-! ## What the manager's start leaves of a wake -/

/-- What a wake keeps beside the manager: the link, the windows, the confirmation and NET_WSRC. -/
def State.wakeView (s : State) : WakeLink × List Nat × Bool × Word := (s.net.link, s.net.windows, s.net.confirmed, s.rd .NET_WSRC 0)

section

variable (s : State)

theorem wakeView_wr {r : Reg} {n : Nat} {w : Word} (h : r ≠ .NET_WSRC) : (s.wr r n w).wakeView = s.wakeView := by
  simp only [State.wakeView, s.rd_wr_ne h.symm, State.wr_net]

theorem wakeView_setF {f : Fld} {n v : Nat} (h : f.reg ≠ .NET_WSRC) : (s.setF f n v).wakeView = s.wakeView := wakeView_wr s h

theorem wakeView_setB {f : Fld} {n : Nat} {b : Bool} (h : f.reg ≠ .NET_WSRC) : (s.setB f n b).wakeView = s.wakeView := wakeView_wr s h

theorem wakeView_unhold (r : Reg) (n : Nat) : (s.unhold r n).wakeView = s.wakeView := rfl

theorem wakeView_applyHeld {r : Reg} {n : Nat} (h : r ≠ .NET_WSRC) : (s.applyHeld r n).wakeView = s.wakeView := by
  unfold State.applyHeld
  split
  · rfl
  · exact wakeView_wr _ h

theorem wakeView_applyPart {fs : List Fld} {r : Reg} (h : ∀ f ∈ fs, f.reg ≠ .NET_WSRC) : (applyPart fs r s).wakeView = s.wakeView := by
  have hfold : ∀ w : Word, ∀ l : List Fld, (∀ f ∈ l, f.reg ≠ .NET_WSRC) → ∀ t : State,
      (l.foldl (fun u f => u.setF f 0 (f.of w)) t).wakeView = t.wakeView := fun w l => by
    induction l with
    | nil => exact fun _ _ => rfl
    | cons f l ih =>
      exact fun hl t => (ih (fun g hg => hl g (List.mem_cons_of_mem f hg)) _).trans (wakeView_setF t (hl f List.mem_cons_self))
  unfold applyPart
  split
  · rfl
  · next w _ =>
    dsimp only
    rw [apply_ite State.wakeView, wakeView_unhold, ite_self, hfold w fs h]

theorem wakeView_mbEmpty (n m : Nat) : (mbEmpty n m s).wakeView = s.wakeView := by
  have h : (mbEmpty n m s).wakeView = ((s.wr .MB_CTRL (mbIx n m) 0).wr .MB_STAT (mbIx n m)
      (word ((if 2 ≤ s.mbState n m then 2 else s.getF F.MB_STAT_OUTCOME (mbIx n m)) * 16))).wakeView := rfl
  rw [h, wakeView_wr _ (by decide), wakeView_wr _ (by decide)]

theorem wakeView_pairEmpty (n f : Nat) : (pairEmpty n f s).wakeView = s.wakeView := by
  simp only [pairEmpty, List.foldl_cons, List.foldl_nil]
  rw [wakeView_wr _ (by decide), wakeView_unhold, wakeView_wr _ (by decide), wakeView_unhold, wakeView_wr _ (by decide), wakeView_unhold]

theorem wakeView_claimMove (before : State) : (claimMove before s).wakeView = s.wakeView := by
  unfold claimMove
  refine foldl_keeps State.wakeView _ (fun t n => ?_) _ s
  dsimp only
  refine (foldl_keeps State.wakeView _ (fun u f => ?_) _ _).trans (foldl_keeps State.wakeView _ (fun u m => ?_) _ t)
  · rw [apply_ite State.wakeView, wakeView_pairEmpty, ite_self]
  · rw [apply_ite State.wakeView, wakeView_mbEmpty, ite_self]

theorem wakeView_roundApply : (roundApply s).wakeView = s.wakeView := by
  unfold roundApply
  dsimp only
  rw [wakeView_claimMove, foldl_keeps State.wakeView _ fun t c => (wakeView_applyHeld _ (by decide)).trans (wakeView_applyHeld t (by decide)),
    wakeView_applyHeld _ (by decide), wakeView_applyPart _ (by decide)]

theorem wakeView_nmSend (cmd ms : Nat) : (nmSend cmd ms s).wakeView = s.wakeView := by
  unfold nmSend
  split
  · rfl
  · refine foldl_keeps State.wakeView _ (fun t n => ?_) _ s
    rw [apply_ite State.wakeView]
    exact ite_self _

/-- What the start of a round notes in the manager is none of it. -/
theorem wakeView_round (a c d e : Bool) (b : Tab Nat) :
    ({ s with net := { s.net with inRound := a, votes := b, ignSeen := c, holdSeen := d, wakeSeen := e } } : State).wakeView = s.wakeView := rfl

theorem wakeView_nmRound : (nmRound s).wakeView = s.wakeView := by
  unfold nmRound
  dsimp only
  rw [wakeView_nmSend, wakeView_round, wakeView_setF _ (by decide), wakeView_roundApply]

theorem wakeView_nmAwakeCheck : (nmAwakeCheck s).wakeView = s.wakeView := by
  unfold nmAwakeCheck
  split
  · exact (wakeView_nmRound _).trans ((wakeView_setF (f := F.NET_STAT_NMST) _ (by decide)).trans (wakeView_setB (f := F.NET_STAT_AGREE) s (by decide)))
  · rfl

theorem emcyObj_net (a b c d : Nat) : (s.emcyObj a b c d).net = s.net := by
  obtain ⟨_, _, _, _, h⟩ := emcy_frame s { code := a, b3 := b, index := c, sub := d }
  rw [State.emcyObj, h]

theorem wakeView_emcyObj (a b c d : Nat) : (s.emcyObj a b c d).wakeView = s.wakeView := by
  rw [State.wakeView, emcyObj_net, rd_emcyObj, State.wakeView]

theorem wakeView_awakeStart (f : Fld) : (awakeStart f s).wakeView = s.wakeView := wakeView_applyHeld (r := .NET_AWAKE) s (by decide)

end

/-! ## Sources recognised (R394) -/

/-- A source's first window in PARK or DORMANT: the exit begins, NET_WSRC names the source, and its wake is counted. -/
def wakeOpened (src : Nat) (s : State) : State :=
  let u := (exitBegin s).wr .NET_WSRC 0 (word src)
  wakeCount src (({ u with net := { u.net with windows := [src] } } : State).setB F.NET_WSRC_OPEN 0 true)

section

variable {src : Nat} {s : State}

theorem recognise_disarmed (h : s.sourceArmed src = false) : recognise src s = s := if_pos (by simp [h])

/-- Asleep, with the manager off or waiting, a source's first window opens; the RTC's is confirmed at once. -/
theorem recognise_asleep (hs : s.asleep = true) (hn : s.nmState = 0 ∨ s.nmState = 4) (hp : s.pwrPhase ≠ 5) (hw : s.net.windows = [])
    (ha : s.sourceArmed src = true) (h8 : src < 8) :
    recognise src s = if src = 1 then wakeConfirm 1 (wakeOpened src s) else wakeOpened src s := by
  obtain ⟨hpwr, hent⟩ : 2 ≤ s.pwrState ∧ s.entering = false := by simpa [State.asleep] using hs
  have hwake : wakeNow src false s = if src = 1 then wakeConfirm 1 (wakeOpened src s) else wakeOpened src s := by
    have hsrc : src % 8 + 8 * b01 false = src := by simp [b01, Nat.mod_eq_of_lt h8]
    have hexit : ((exitBegin s).wr .NET_WSRC 0 (word src)).net.windows = [] := hw
    have hopen : ([src] != ([] : List Nat)) = true := rfl
    have hnone : ¬ ([] : List Nat).contains src = true := by simp
    have hleave : ¬ (s.pwrPhase = 5 ∨ s.pwrState < 2) := by simp [hp, hpwr.not_gt]
    simp only [wakeNow, wakeOpened, openFollow, hw, hsrc, if_neg hleave, if_neg hnone, hexit, List.nil_append, hopen]
  rw [recognise, ← hwake]
  rcases hn with h | h <;> simp [ha, hent, h, State.eveCancelled, hpwr]

/-- Awake, with the manager off or in a round, a source does nothing. -/
theorem recognise_awake (hp : s.pwrState < 2) (h0 : s.pwrPhase = 0) (hw : s.net.windows = []) (hn : s.nmState = 0 ∨ s.nmState = 1 ∧ s.net.pnrUp ≤ s.up) :
    recognise src s = s := by
  have hent : s.entering = false := by
    have h : s.getF F.PWR_STAT_PHASE 0 = 0 := h0
    simp [State.entering, h]
  unfold recognise
  rcases hn with h | ⟨h, hup⟩
  · simp [hent, h, State.eveCancelled, hp.not_ge, h0, hw]
  · simp [hent, h, State.eveCancelled, hup.not_gt, hp.not_ge, h0, hw]

/-- In the eve a local source cancels it, and any source one that was agreed. -/
theorem recognise_eve (ha : s.sourceArmed src = true) (he : s.entering = false) (hn : s.nmState = 2)
    (hf : src < 4 ∨ s.flag F.NET_STAT_FORCED 0 = false) : recognise src s = nmCancel (wakeCount src (wakeSeen s)) := by
  unfold recognise wakeRequest
  simp [ha, he, hn, hf, wakeSeen]

/-- During an entry a source is latched. -/
theorem recognise_entering (ha : s.sourceArmed src = true) (he : s.entering = true) (hn : s.nmState = 0 ∨ s.nmState = 3) :
    recognise src s = wakeLatch (some src) (wakeSeen s) := by
  unfold recognise wakeRequest
  rcases hn with h | h <;> simp [ha, he, h, wakeSeen, State.eveCancelled]

end

/-- A wake frame of a decoder, or an overflow of its error counter, is its source's wake while the module sleeps. -/
theorem decoderMatch_asleep {n : Nat} {f : Option CanFrame} {s : State} (hf : ∀ x, f = some x → wakeFrame n x s = true) (hs : s.asleep = true) :
    decoderMatch n f s = recognise (4 + n) s := by
  cases f with
  | none => simp [decoderMatch, hs]
  | some x => simp [decoderMatch, hs, hf x rfl]

theorem decoderMatch_no_wake_frame {n : Nat} {f : CanFrame} {s : State} (hf : wakeFrame n f s = false) : decoderMatch n (some f) s = s := by
  simp [decoderMatch, hf]

/-! ## Windows that end unconfirmed (R397, R398) -/

/-- The only window ends: it is a false wake of its source. -/
def windowEnded (src : Nat) (s : State) : State :=
  (falseCount src (({ s with net := { s.net with windows := [], run := tabSet 0 s.net.run src (tabGet 0 s.net.run src + 1) } } : State).setB
    F.NET_WSRC_OPEN 0 false)).setB F.NET_WSRC_FALSE 0 true

/-- A source whose false wakes have come to the limit is disarmed. -/
def windowLimited (src : Nat) (n : Nat) (u : State) : State :=
  if src ≠ 0 ∧ u.getF F.NET_CFG_FWLIM 0 ≤ n then { u.setB ⟨.NET_ARM, 8 + src, 1⟩ 0 true with net := { u.net with disarmed := true } } else u

/-- The last window that ends returns the module, but not once a wake was confirmed. -/
theorem wakeFalse_last {src : Nat} {s v : State} (hw : s.net.windows = [src])
    (hv : v = windowLimited src (tabGet 0 s.net.run src + 1) (windowEnded src s)) :
    wakeFalse src s = if s.net.confirmed = false then (entryRequest (s.net.returnTo - 1) true v).2.2 else nmAwakeCheck v := by
  have hnet : v.net.windows = [] ∧ v.net.confirmed = s.net.confirmed ∧ v.net.returnTo = s.net.returnTo := by
    rw [hv, windowLimited]
    split <;> exact ⟨rfl, rfl, rfl⟩
  obtain ⟨hwin, hconf, hret⟩ := hnet
  have hfilter : s.net.windows.filter (· != src) = [] := by simp [hw]
  have hopen : ¬ (! s.net.windows.contains src) = true := by simp [hw]
  have heq : wakeFalse src s = if v.net.windows = [] ∧ ! v.net.confirmed then (entryRequest (v.net.returnTo - 1) true v).2.2 else nmAwakeCheck v := by
    rw [hv]
    refine (if_neg hopen).trans ?_
    simp only [hfilter]
    rfl
  rw [heq, hconf, hret]
  simp [hwin]

end Sys2Proof.Machine

namespace Sys2Proof.Machine

/-! ## The alarm (R396) -/

/-- The alarm clears its EN. -/
def alarmSpent (s : State) : State := s.setB F.NET_RTCALM_HI_EN 0 false

section

variable {s : State}

theorem alarmSpent_getF {g : Fld} (h : g.reg ≠ .NET_RTCALM_HI) (n : Nat) : (alarmSpent s).getF g n = s.getF g n := s.getF_setB_ne h

theorem alarmSpent_power : (alarmSpent s).pwrState = s.pwrState ∧ (alarmSpent s).pwrPhase = s.pwrPhase ∧ (alarmSpent s).nmState = s.nmState :=
  ⟨alarmSpent_getF (by decide) 0, alarmSpent_getF (by decide) 0, alarmSpent_getF (by decide) 0⟩

theorem alarmSpent_asleep : (alarmSpent s).asleep = s.asleep := by
  obtain ⟨hstate, hphase, _⟩ := alarmSpent_power (s := s)
  have hent : (alarmSpent s).entering = s.entering := congrArg (fun p => decide (1 ≤ p ∧ p ≤ 4)) hphase
  rw [State.asleep, State.asleep, hstate, hent]

theorem alarmSpent_sourceArmed : (alarmSpent s).sourceArmed 1 = s.sourceArmed 1 := by
  have harm : ∀ g : Fld, g.reg = .NET_ARM → (alarmSpent s).getF g 0 = s.getF g 0 := fun g hg => alarmSpent_getF (by rw [hg]; decide) 0
  simp [State.sourceArmed, State.flag, harm F.NET_ARM_RTC rfl, harm F.NET_ARM_DISARMED rfl]

theorem alarmFire_clear (h : s.flag F.NET_RTCALM_HI_EN 0 = false) : alarmFire s = s := if_pos (.inl (by simp [h]))

variable (h : s.flag F.NET_RTCALM_HI_EN 0 = true) (hk : s.dom.keep = true)

include h hk

theorem alarmFire_asleep (ha : s.asleep = true) : alarmFire s = recognise 1 (alarmSpent s) :=
  (if_neg (by simp [h, hk])).trans (congrArg (recognise 1) (if_pos (alarmSpent_asleep.trans ha)))

/-- Awake, the alarm requests its interrupt only. -/
theorem alarmFire_awake (hp : s.pwrState < 2) (h0 : s.pwrPhase = 0) (hw : s.net.windows = []) (hn : s.nmState = 0 ∨ s.nmState = 1 ∧ s.net.pnrUp ≤ s.up) :
    alarmFire s = (alarmSpent s).request 31 := by
  obtain ⟨hstate, hphase, hnm⟩ := alarmSpent_power (s := s)
  have hawake : ¬ (alarmSpent s).asleep = true := by
    rw [alarmSpent_asleep]
    simp [State.asleep, hp.not_ge]
  refine (if_neg (by simp [h, hk])).trans ((congrArg (recognise 1) (if_neg hawake)).trans ?_)
  exact recognise_awake (hstate ▸ hp) (hphase ▸ h0) hw (hnm ▸ hn)

end

/-- A word of NET_RTCALM_HI without a reserved bit reaches the alarm. -/
theorem netWrite_alarm {m : Master} {w : Word} {s : State} (hr : reservedSet .NET_RTCALM_HI w = false) :
    netWrite m .NET_RTCALM_HI 0 w s = ((alarmWrite w s).1, 0, (alarmWrite w s).2) := by
  have hok : ¬ (! netOk .NET_RTCALM_HI w) = true := by simp [netOk, hr]
  exact (if_neg Bool.false_ne_true).trans (if_neg hok)

theorem alarmWrite_on {w : Word} {s : State} (hr : reservedSet .NET_RTCALM_HI w = false) (h : F.NET_RTCALM_HI_EN.on w = true)
    (hs : s.rtcNow.1 < (s.next .NET_RTCALM_LO 0).toNat + 2 ^ 32 * F.NET_RTCALM_HI_SEC_HI.of w) :
    alarmWrite w s = (.accepted, (s.applyHeld .NET_RTCALM_LO 0).wr .NET_RTCALM_HI 0 w) :=
  (if_neg (by simp [hr])).trans ((if_neg (by simp [h])).trans (if_neg hs.not_ge))

theorem alarmWrite_past {w : Word} {s : State} (hr : reservedSet .NET_RTCALM_HI w = false) (h : F.NET_RTCALM_HI_EN.on w = true)
    (hs : (s.next .NET_RTCALM_LO 0).toNat + 2 ^ 32 * F.NET_RTCALM_HI_SEC_HI.of w ≤ s.rtcNow.1) : alarmWrite w s = (.invalid, s) :=
  (if_neg (by simp [hr])).trans ((if_neg (by simp [h])).trans (if_pos hs))

theorem alarmWrite_off {w : Word} {s : State} (hr : reservedSet .NET_RTCALM_HI w = false) (h : F.NET_RTCALM_HI_EN.on w = false) :
    alarmWrite w s = (.accepted, s.wr .NET_RTCALM_HI 0 w) :=
  (if_neg (by simp [hr])).trans (if_pos (by simp [h]))

/-! ## The wake link (R400) -/

/-- The link's transaction as it is set in a state. -/
def withLink (l : WakeLink) (s : State) : State := { s with net := { s.net with link := l } }

section

variable {s : State}

@[simp] theorem withLink_net (l : WakeLink) : (withLink l s).net = { s.net with link := l } := rfl
@[simp] theorem withLink_sent (l : WakeLink) : (withLink l s).sent = s.sent := rfl
@[simp] theorem withLink_mem (l : WakeLink) : (withLink l s).mem = s.mem := rfl
@[simp] theorem withLink_regs (l : WakeLink) : (withLink l s).regs = s.regs := rfl
@[simp] theorem withLink_dom (l : WakeLink) : (withLink l s).dom = s.dom := rfl
@[simp] theorem withLink_short (l : WakeLink) : (withLink l s).short = s.short := rfl

theorem linkAddress_other {addr : Nat} {read : Bool} (h : addr ≠ s.getF F.NET_WLCFG_ADDR 0) : linkAddress addr read s = s := if_pos (.inl h)

theorem linkAddress_muted {addr : Nat} {read : Bool} (h : addr = s.getF F.NET_WLCFG_ADDR 0) (hk : s.dom.keep = true) (hm : s.mutedPartner 7 0 = true) :
    linkAddress addr read s = s.emit (.linkAck false) := (if_neg (by simp [h, hk])).trans (if_pos hm)

/-- Awake, the module's own address begins a transaction. -/
theorem linkAddress_own {addr : Nat} {read : Bool} (h : addr = s.getF F.NET_WLCFG_ADDR 0) (hk : s.dom.keep = true) (hm : s.mutedPartner 7 0 = false)
    (hl : s.net.link.active = false) (hp : s.pwrState < 2) (h0 : s.pwrPhase = 0) (hw : s.net.windows = [])
    (hn : s.nmState = 0 ∨ s.nmState = 1 ∧ s.net.pnrUp ≤ s.up) :
    linkAddress addr read s = (withLink { s.net.link with active := true, read := read, bytes := 0, viol := false } s).emit (.linkAck true) := by
  have hbegin : linkAddress addr read s =
      recognise 2 ((withLink { s.net.link with active := true, read := read, bytes := 0, viol := false } s).emit (.linkAck true)) := by
    refine (if_neg (by simp [h, hk])).trans ((if_neg (by simp [hm])).trans ?_)
    simp only [hl]
    rfl
  rw [hbegin]
  exact recognise_awake hp h0 hw hn

variable {ptr : Nat} {data : List Byte} (ha : s.net.link.active = true) (hr : s.net.link.read = false) (hv : s.net.link.viol = false)

include ha hr hv

theorem linkWrite_beyond (h : 6 < ptr) : linkWrite ptr data s = linkNack s := (if_neg (by simp [ha, hr, hv])).trans (if_pos h)

/-- A pointer within the link's bytes is taken, and the data follow. -/
theorem linkWrite_pointer (h : ptr ≤ 6) :
    linkWrite ptr data s = linkData data ((withLink { s.net.link with ptr := ptr } s).emit (.linkAck true)) :=
  (if_neg (by simp [ha, hr, hv])).trans (if_neg h.not_gt)

omit ha hr in
/-- A byte at a place that cannot be written is not acknowledged. -/
theorem linkData_refused {b : Byte} (h : s.net.link.ptr < 2 ∨ s.net.link.ptr = 6) : linkData (b :: data) s = linkNack s := by
  rw [linkData]
  exact (if_neg (by simp [hv])).trans (if_neg (by omega))

omit ha hr in
/-- A byte of the mailbox is written at the pointer. -/
theorem linkData_one {b : Byte} (h : 2 ≤ s.net.link.ptr ∧ s.net.link.ptr ≤ 5) :
    linkData [b] s = (withLink { s.net.link with ptr := s.net.link.ptr + 1, bytes := s.net.link.bytes + 1 }
      (s.wr .NET_WLMBX 0 (putBits (s.rd .NET_WLMBX 0) (8 * (s.net.link.ptr - 2)) 8 b.toNat))).emit (.linkAck true) := by
  rw [linkData]
  exact (if_neg (by simp [hv])).trans (if_pos h)

end

/-- A read gives bytes from the pointer on. -/
theorem linkRead_bytes {n acked : Nat} {s : State} (ha : s.net.link.active = true) (hr : s.net.link.read = true) (hv : s.net.link.viol = false) :
    linkRead n acked s = (withLink { s.net.link with ptr := (s.net.link.ptr + n) % 7, bytes := s.net.link.bytes + min acked n } s).emit
      (.linkData ((List.range n).map fun i => linkByte ((s.net.link.ptr + i) % 7) s)) := if_neg (by simp [ha, hr, hv])

/-! ## A STOP of the link (R394, R400) -/

theorem State.short_wr (s : State) (r : Reg) (n : Nat) (w : Word) : (s.wr r n w).short = s.short := rfl
theorem State.short_setF (s : State) (f : Fld) (n v : Nat) : (s.setF f n v).short = s.short := rfl

/-- What a STOP writes into NET_WLSTAT. -/
def linkRecorded (s : State) : State :=
  (s.wr .NET_WLSTAT 0 (word (s.net.link.ptr + 0x100 * sat 15 s.net.link.bytes + 0x1000 * b01 s.net.link.read +
    0x2000 * b01 s.net.link.viol))).setF F.NET_WLSTAT_TRANS 0 (s.getF F.NET_WLSTAT_TRANS 0 + 1)

theorem linkRecorded_net (s : State) : (linkRecorded s).net = s.net := by rw [linkRecorded, State.setF_net, State.wr_net]
theorem linkRecorded_sent (s : State) : (linkRecorded s).sent = s.sent := by rw [linkRecorded, State.setF_sent, State.wr_sent]
theorem linkRecorded_mem (s : State) : (linkRecorded s).mem = s.mem := by rw [linkRecorded, State.setF_mem, State.wr_mem]
theorem linkRecorded_dom (s : State) : (linkRecorded s).dom = s.dom := by rw [linkRecorded, State.setF_dom, State.wr_dom]
theorem linkRecorded_short (s : State) : (linkRecorded s).short = s.short := (State.short_setF _ _ _ _).trans (State.short_wr s _ _ _)

/-- A STOP records the transaction, and forgets it but for the pointer. -/
def linkStopped (s : State) : State :=
  let t := withLink { ptr := s.net.link.ptr } ((linkRecorded s).applyHeld .NET_WLCFG 0)
  if t.dom.core then t.wr .NET_WLTS 0 (word t.short) else t

section

variable {s : State} (ha : s.net.link.active = true)

include ha

theorem linkStop_active : linkStop s = if 1 ≤ s.net.link.bytes then wakeConfirm 2 (linkStopped s) else linkStopped s := if_neg (by simp [ha])

end

section

variable {s : State} (hh : s.heldOf .NET_WLCFG 0 = none)

include hh

/-- With no configuration waiting, a STOP writes NET_WLSTAT, and NET_WLTS while a core runs. -/
theorem linkStopped_eq : linkStopped s = if s.dom.core then (withLink { ptr := s.net.link.ptr } (linkRecorded s)).wr .NET_WLTS 0 (word s.short)
    else withLink { ptr := s.net.link.ptr } (linkRecorded s) := by
  rw [linkStopped, State.applyHeld_none (linkRecorded s) hh, withLink_dom, withLink_short, linkRecorded_dom, linkRecorded_short]

theorem linkStopped_net : (linkStopped s).net = { s.net with link := { ptr := s.net.link.ptr } } := by
  rw [linkStopped_eq hh, apply_ite State.net, State.wr_net, ite_self, withLink_net, linkRecorded_net]

theorem linkStopped_sent : (linkStopped s).sent = s.sent := by
  rw [linkStopped_eq hh, apply_ite State.sent, State.wr_sent, ite_self, withLink_sent, linkRecorded_sent]

theorem linkStopped_mem : (linkStopped s).mem = s.mem := by
  rw [linkStopped_eq hh, apply_ite State.mem, State.wr_mem, ite_self, withLink_mem, linkRecorded_mem]

theorem linkStopped_regsBut : regsBut s (linkStopped s) [(.NET_WLSTAT, 0), (.NET_WLTS, 0)] := by
  have hrec : regsBut s (withLink { ptr := s.net.link.ptr } (linkRecorded s)) [(.NET_WLSTAT, 0), (.NET_WLTS, 0)] :=
    regsBut_of_regs (regsBut_setF _ (regsBut_wr _ (regsBut_refl s _) (by simp)) (by simp [F.NET_WLSTAT_TRANS])) rfl
  rw [linkStopped_eq hh]
  split
  · exact regsBut_wr _ hrec (by simp)
  · exact hrec

theorem linkStopped_trans : (linkStopped s).getF F.NET_WLSTAT_TRANS 0 = (s.getF F.NET_WLSTAT_TRANS 0 + 1) % 2 ^ F.NET_WLSTAT_TRANS.wd := by
  have hregs := withLink_regs (s := linkRecorded s) { ptr := s.net.link.ptr }
  have hrec : (linkRecorded s).getF F.NET_WLSTAT_TRANS 0 = (s.getF F.NET_WLSTAT_TRANS 0 + 1) % 2 ^ F.NET_WLSTAT_TRANS.wd :=
    State.getF_setF_eq _ (by decide)
  rw [linkStopped_eq hh]
  split
  · exact (State.getF_wr_ne _ (by decide)).trans ((State.getF_of_regs hregs _ 0).trans hrec)
  · exact (State.getF_of_regs hregs _ 0).trans hrec

theorem linkStopped_stamp : (linkStopped s).rd .NET_WLTS 0 = if s.dom.core then word s.short else s.rd .NET_WLTS 0 := by
  rw [linkStopped_eq hh]
  split
  · exact State.rd_wr_same _ _ _ _
  · have hregs := withLink_regs (s := linkRecorded s) { ptr := s.net.link.ptr }
    exact (State.rd_of_regs hregs _ 0).trans ((State.rd_setF_ne _ (by decide)).trans (State.rd_wr_ne _ (by decide)))

end

theorem wakeConfirm_closed {src : Nat} {s : State} (hw : s.net.windows = []) : wakeConfirm src s = s := if_pos (by simp [hw])

/-- The window of a wake that is confirmed closes. -/
def windowConfirmed (src : Nat) (s : State) : State :=
  (openFollow { s with net := { s.net with
    windows := s.net.windows.filter (· != src), run := tabSet 0 s.net.run src 0, confirmed := true } }).setB F.NET_WSRC_CONFIRMED 0 true

/-- With IGN low a confirmation starts the awake timer. -/
def confirmTimed (src : Nat) (s : State) : State :=
  if (windowConfirmed src s).ignHigh then windowConfirmed src s else awakeStart F.NET_AWAKE_REAWAKE (windowConfirmed src s)

theorem wakeConfirm_open {src : Nat} {s : State} (hw : src ∈ s.net.windows) :
    wakeConfirm src s = nmAwakeCheck (if (confirmTimed src s).net.disarmed then
      { confirmTimed src s with net := { (confirmTimed src s).net with disarmed := false } }.emcyObj 0xFF81 0 0x4600 6 else confirmTimed src s) := by
  have hopen : ¬ (! s.net.windows.contains src) = true := by simp [hw]
  rw [wakeConfirm, if_neg hopen]
  rfl

/-- What follows a confirmation leaves the windows: the awake timer, EMCY for a source that was disarmed, and the manager. -/
theorem wakeView_wakeConfirm {src : Nat} {s : State} (hw : src ∈ s.net.windows) : (wakeConfirm src s).wakeView = (windowConfirmed src s).wakeView := by
  have htimer : (confirmTimed src s).wakeView = (windowConfirmed src s).wakeView := by
    rw [confirmTimed, apply_ite State.wakeView, wakeView_awakeStart, ite_self]
  rw [wakeConfirm_open hw, wakeView_nmAwakeCheck, ← htimer, apply_ite State.wakeView, wakeView_emcyObj]
  exact ite_self _

/-- A wake that is confirmed as the only window leaves no window open. -/
theorem wakeConfirm_only {src : Nat} {s : State} (hw : s.net.windows = [src]) : (wakeConfirm src s).net.link = s.net.link ∧
    (wakeConfirm src s).net.windows = [] ∧ (wakeConfirm src s).net.confirmed = true ∧ (wakeConfirm src s).flag F.NET_WSRC_CONFIRMED 0 = true := by
  have hview := wakeView_wakeConfirm (src := src) (s := s) (by simp [hw])
  simp only [State.wakeView, Prod.mk.injEq] at hview
  obtain ⟨hlink, hwin, hconf, hrd⟩ := hview
  have hfilter : s.net.windows.filter (· != src) = [] := by simp [hw]
  have hflag : (windowConfirmed src s).flag F.NET_WSRC_CONFIRMED 0 = true := State.flag_setB_eq _ (by decide)
  refine ⟨hlink, hwin.trans hfilter, hconf, ?_⟩
  rw [← hflag]
  simp only [State.flag, State.getF]
  exact congrArg (fun w : Word => bitsOf w.toNat F.NET_WSRC_CONFIRMED.lo F.NET_WSRC_CONFIRMED.wd != 0) hrd

/-- Settles O40, clause by clause: sources and decoders, windows, the alarm, and the wake link. -/
theorem wakesAndWakeLink : Obligations.WakesAndWakeLink := by
  refine ⟨?recognised, ?eveOrEntry, ?noWakeFrame, ?falseWake, ?noWindow, ?alarmAwake, ?alarmAsleep, ?alarmClear, ?alarmSet, ?address, ?write, ?read,
    ?stop⟩
  case recognised =>
    intro src s u v c hc hs hn hp hw hu hv
    have hv : v = wakeOpened src s := by rw [hv, hu, wakeOpened]
    have hexec : ∀ t, recognise src s = t → exec c s = .next (finish s t) := by
      intro t ht
      rcases hc with rfl | ⟨n, f, rfl, hf, hsrc⟩ | ⟨n, rfl, hsrc⟩
      · exact ok_of_eq s ht
      · exact ok_of_eq s ((decoderMatch_asleep (by rintro _ ⟨⟩; exact hf) hs).trans (hsrc ▸ ht))
      · exact ok_of_eq s ((decoderMatch_asleep (by simp) hs).trans (hsrc ▸ ht))
    refine ⟨fun ha h1 => hexec v ?_, fun ha h1 => hexec _ ?_, fun ha => hexec s (recognise_disarmed ha)⟩
    · rw [recognise_asleep hs hn hp hw ha src.isLt, if_neg h1, hv]
    · rw [recognise_asleep hs hn hp hw ha src.isLt, if_pos h1, hv]
  case eveOrEntry =>
    rintro src s _ ha rfl
    exact ⟨fun he hn hf => ok_of_eq s (recognise_eve ha he hn hf), fun he hn => ok_of_eq s (recognise_entering ha he hn)⟩
  case noWakeFrame => exact fun n f s hf => ok_of_eq s (decoderMatch_no_wake_frame hf)
  case falseWake =>
    intro src s u hw hu
    have hlast := wakeFalse_last hw (v := windowLimited src (tabGet 0 s.net.run src + 1) u) (by rw [hu, windowEnded])
    refine ⟨fun hl hc => ok_of_eq s ?_, fun hl hc => ok_of_eq s ?_, fun h0 hl hc => ok_of_eq s ?_⟩
    · rw [hlast, if_pos hc, windowLimited, if_neg (by omega)]
    · rw [hlast, if_neg (by simp [hc]), windowLimited, if_neg (by omega)]
    · rw [hlast, if_pos hc, windowLimited, if_pos ⟨h0, hl⟩]
  case noWindow => exact fun src s hw => ok_of_eq s (if_pos (by simp [hw]))
  case alarmAwake => exact fun s h hk hp h0 hw hn => ok_of_eq s (alarmFire_awake h hk hp h0 hw hn)
  case alarmAsleep =>
    intro s u v h hk hs hn hp hw hu hv
    obtain ⟨-, hphase, hnm⟩ := alarmSpent_power (s := s)
    have hv : v = wakeOpened 1 (alarmSpent s) := by rw [hv, hu, wakeOpened, alarmSpent]
    refine ⟨fun ha => ok_of_eq s ?_, fun ha => ok_of_eq s ?_⟩
    · rw [alarmFire_asleep h hk hs, hv]
      exact recognise_asleep (src := 1) (alarmSpent_asleep.trans hs) (.inl (hnm.trans hn)) (hphase ▸ hp) hw (alarmSpent_sourceArmed.trans ha) (by decide)
    · rw [alarmFire_asleep h hk hs, recognise_disarmed (alarmSpent_sourceArmed.trans ha), alarmSpent]
  case alarmClear => exact fun s h => ok_of_eq s (alarmFire_clear h)
  case alarmSet =>
    rintro m w _ s hr rfl
    refine ⟨fun hon hs => ok_of_eq s (netAccess_eq (k := 0x10000 * Reg.addr .NET_RTCALM_HI 0) (item := 0) ?_ (Nat.zero_add _)),
      fun hoff => ok_of_eq s (netAccess_eq (k := 0x10000 * Reg.addr .NET_RTCALM_HI 0) (item := 0) ?_ (Nat.zero_add _)),
      fun hon hs => ok_of_eq s (netAccess_eq (k := Code.num .invalid + 0x10000 * Reg.addr .NET_RTCALM_HI 0) (item := 0) ?_ rfl)⟩
    · rw [netWrite_alarm hr, alarmWrite_on hr hon hs]
    · rw [netWrite_alarm hr, alarmWrite_off hr hoff]
    · rw [netWrite_alarm hr, alarmWrite_past hr hon hs]
  case address =>
    intro addr read s hk hp h0 hw hn hl
    refine ⟨fun h hm => ?_, fun h hm => ok_of_eq s (linkAddress_muted h hk hm), fun h => ok_of_eq s (linkAddress_other h)⟩
    refine ⟨_, ok_of_eq s (linkAddress_own h hk hm hl hp h0 hw hn), ?_, ?_, ?_, ?_, sends_finish rfl, regsSame_finish rfl, memSame_finish rfl⟩
    all_goals rw [finish_net]; rfl
  case write =>
    intro ptr b data s ha hr hv
    refine ⟨fun h2 h5 => ?_, fun h6 => ok_of_eq s (linkWrite_pointer ha hr hv h6), fun h => ok_of_eq s ?_,
      fun h => ok_of_eq s (linkWrite_beyond ha hr hv h)⟩
    · obtain ⟨u, hu⟩ : ∃ u, u = (withLink { s.net.link with ptr := ptr } s).emit (.linkAck true) := ⟨_, rfl⟩
      have hptr : u.net.link.ptr = ptr := hu ▸ rfl
      have hbytes : u.net.link.bytes = s.net.link.bytes := hu ▸ rfl
      have hviol : u.net.link.viol = false := hu ▸ hv
      have hregs : u.regs = s.regs := hu ▸ rfl
      have hsent : u.sent = .linkAck true :: s.sent := hu ▸ rfl
      have hmem : u.mem = s.mem := hu ▸ rfl
      have hbyte := linkWrite_pointer (data := [b]) ha hr hv (by omega : ptr ≤ 6)
      rw [← hu, linkData_one hviol (by omega)] at hbyte
      refine ⟨_, ok_of_eq s hbyte, ?_, ?_, ?_, sends_finish ?_, regsBut_finish ?_, memSame_finish hmem⟩
      · rw [finish_net, ← hptr]; rfl
      · rw [finish_net, ← hbytes]; rfl
      · rw [rd_finish, ← hptr, ← State.rd_of_regs hregs .NET_WLMBX 0]
        exact State.rd_wr_same u .NET_WLMBX 0 _
      · exact congrArg (.linkAck true :: ·) hsent
      · exact regsBut_of_regs (regsBut_wr (r := .NET_WLMBX) (n := 0) _ (regsBut_of_regs (regsBut_refl s _) hregs) (by simp)) rfl
    · exact (linkWrite_pointer ha hr hv (by omega)).trans
        (linkData_refused (s := (withLink { s.net.link with ptr := ptr } s).emit (.linkAck true)) hv h)
  case read =>
    intro n acked s ha hr hv
    refine ⟨_, ok_of_eq s (linkRead_bytes ha hr hv), ?_, ?_, sends_finish rfl, regsSame_finish rfl, memSame_finish rfl⟩
    all_goals rw [finish_net]; rfl
  case stop =>
    intro s ha hh
    refine ⟨fun hw => ?_, fun hw hb => ?_⟩
    · have hstop : linkStop s = linkStopped s := by
        rw [linkStop_active ha, wakeConfirm_closed (by rw [linkStopped_net hh]; exact hw), ite_self]
      refine ⟨_, ok_of_eq s hstop, ?_, ?_, ?_, fun hc => ?_, fun hc => ?_, sends_finish (linkStopped_sent hh), regsBut_finish (linkStopped_regsBut hh),
        memSame_finish (linkStopped_mem hh)⟩
      · rw [finish_net, linkStopped_net hh]
      · rw [finish_net, linkStopped_net hh]
      · rw [getF_finish, linkStopped_trans hh]
      · rw [rd_finish, linkStopped_stamp hh, if_pos hc]
      · rw [rd_finish, linkStopped_stamp hh, if_neg (by simp [hc])]
    · have hstop : linkStop s = wakeConfirm 2 (linkStopped s) := (linkStop_active ha).trans (if_pos hb)
      have hnet := linkStopped_net hh
      obtain ⟨hlink, hwin, hconf, hflag⟩ := wakeConfirm_only (src := 2) (s := linkStopped s) (by rw [hnet]; exact hw)
      refine ⟨_, ok_of_eq s hstop, ?_, ?_, ?_, ?_⟩
      · rw [finish_net, hlink, hnet]
      · rw [finish_net, hwin]
      · rw [finish_net, hconf]
      · rw [flag_finish, hflag]

end Sys2Proof.Machine

/-! # LIN commanders (11_can_lin.md, R352 to R357) -/

namespace Sys2Proof.Machine

theorem State.setLn_sent (s : State) (c : Nat) (x : Lin) : (s.setLn c x).sent = s.sent := rfl
theorem State.ln_of_lin {s t : State} (h : t.lin = s.lin) (c : Nat) : t.ln c = s.ln c := by rw [State.ln, State.ln, h]

theorem regsBut_answer {m : Master} {res : Reg} {code : Code} {item addr : Nat} {s t : State} {l : List (Reg × Nat)} (h : regsBut s t l)
    (hr : (res, bk m 0) ∈ l) : regsBut s (t.answer m res code item addr) l := regsBut_of_regs (regsBut_wr _ h hr) (State.emit_regs _ _)

section

variable (s : State) (m : Master) (res : Reg) (code : Code) (item addr : Nat)

theorem State.answer_lin : (s.answer m res code item addr).lin = s.lin := State.emit_lin _ _
theorem State.answer_sent : (s.answer m res code item addr).sent = .written m addr code :: s.sent := rfl

variable {m res code item addr}

theorem State.getF_answer_ne {f : Fld} {n : Nat} (h : f.reg ≠ res) : (s.answer m res code item addr).getF f n = s.getF f n := by
  rw [State.getF, State.rd_answer_ne s h, State.getF]

theorem State.flag_answer_ne {f : Fld} {n : Nat} (h : f.reg ≠ res) : (s.answer m res code item addr).flag f n = s.flag f n := by
  rw [State.flag, State.getF_answer_ne s h, State.flag]

end

theorem Fld.on_or_self {f : Fld} (hf : f.wd = 1 ∧ f.lo < 32) (w : Word) : f.on (w ||| word (2 ^ f.lo)) = true := by
  rw [Fld.on_or_bit hf, decide_eq_true rfl, Bool.or_true]

/-- A write that reaches a fitted channel's register has its effect, and its answer in LIN_RESULT. -/
theorem linAccess_fitted {m : Master} {r : Reg} {n : Nat} {w : Word} {s t : State} {code : Code} (hf : regFitted s.variant r n = true)
    (hr : reservedSet r w = false) (h : ¬ reservedSet r w = true → linWrite r n w s = (code, t)) :
    linAccess m r n w s = t.answer m .LIN_RESULT code (linChan r n) (r.addr n) := by
  simp only [linAccess, hf, if_true, h (by simp [hr])]

/-! ## LIN_CFG (R356) -/

/-- A write of LIN_CFG takes the rate and EN. -/
def linEnTaken (c : Nat) (w : Word) (s : State) : State := enTo c (F.LIN_CFG_EN.on w) (s.setF F.LIN_CFG_RATE c (F.LIN_CFG_RATE.of w))

section

variable {c : Nat} {w : Word} {s u : State} (hr : reservedSet .LIN_CFG w = false) (hlo : 1000 ≤ F.LIN_CFG_RATE.of w) (hhi : F.LIN_CFG_RATE.of w ≤ 20000)

include hr hlo hhi

/-- A rate that changes with EN set is refused. -/
theorem linWrite_cfg_refused (he : s.flag F.LIN_CFG_EN c = true) (hrate : F.LIN_CFG_RATE.of w ≠ s.getF F.LIN_CFG_RATE c) :
    linWrite .LIN_CFG c w s = (.state, s) := by
  refine (if_neg (by simp [hr])).trans ?_
  simp [linCfgWrite, firstCode, hr, hlo, hhi, he, hrate]

variable (hrate : s.flag F.LIN_CFG_EN c = false ∨ F.LIN_CFG_RATE.of w = s.getF F.LIN_CFG_RATE c)

include hrate

theorem linWrite_cfg_en (hs : F.LIN_CFG_SLEEP.on w = false) (hw : F.LIN_CFG_WAKE.on w = false) :
    linWrite .LIN_CFG c w s = (.accepted, linEnTaken c w s) := by
  refine (if_neg (by simp [hr])).trans ?_
  have hsame : (s.flag F.LIN_CFG_EN c && F.LIN_CFG_RATE.of w != s.getF F.LIN_CFG_RATE c) = false := by rcases hrate with h | h <;> simp [h]
  simp [linCfgWrite, firstCode, hr, hlo, hhi, hsame, hs, hw, linEnTaken]

variable (he : F.LIN_CFG_EN.on w = true)

include he

theorem linWrite_cfg_sleep (hs : F.LIN_CFG_SLEEP.on w = true) (hw : F.LIN_CFG_WAKE.on w = false) (hst : s.linState c = 1 ∨ s.linState c = 2) :
    linWrite .LIN_CFG c w s = (.accepted, sleepTo c (linEnTaken c w s)) := by
  refine (if_neg (by simp [hr])).trans ?_
  have hsame : (s.flag F.LIN_CFG_EN c && F.LIN_CFG_RATE.of w != s.getF F.LIN_CFG_RATE c) = false := by rcases hrate with h | h <;> simp [h]
  have hawake : (s.linState c != 1 && s.linState c != 2) = false := by rcases hst with h | h <;> simp [h]
  simp [linCfgWrite, firstCode, hr, hlo, hhi, hsame, hs, hw, he, hawake, linEnTaken]

theorem linWrite_cfg_wake (hs : F.LIN_CFG_SLEEP.on w = false) (hw : F.LIN_CFG_WAKE.on w = true) (hst : s.linState c = 3) :
    linWrite .LIN_CFG c w s = (.accepted, wakeTo c ((linEnTaken c w s).emit (.linPulse c))) := by
  refine (if_neg (by simp [hr])).trans ?_
  have hsame : (s.flag F.LIN_CFG_EN c && F.LIN_CFG_RATE.of w != s.getF F.LIN_CFG_RATE c) = false := by rcases hrate with h | h <;> simp [h]
  simp [linCfgWrite, firstCode, hr, hlo, hhi, hsame, hs, hw, he, hst, linEnTaken]

end

/-- EN and the rate in LIN_CFG. -/
def linCfgSet (c : Nat) (w : Word) (s : State) : State := (s.setF F.LIN_CFG_RATE c (F.LIN_CFG_RATE.of w)).setB F.LIN_CFG_EN c (F.LIN_CFG_EN.on w)

section

variable {c : Nat} {w : Word} {s : State}

theorem linState_rate (v : Nat) : (s.setF F.LIN_CFG_RATE c v).linState c = s.linState c := s.getF_setF_ne (by decide)

/-- EN takes an OFF channel to IDLE, or to RUN where the schedule is to run. -/
theorem linEnTaken_off (he : F.LIN_CFG_EN.on w = true) (hst : s.linState c = 0) :
    linEnTaken c w s = if s.flag F.LIN_SCH_RUN c then linStart c (linTo c 1 (linCfgSet c w s)) else linTo c 1 (linCfgSet c w s) := by
  have hon : (true && (s.setF F.LIN_CFG_RATE c (F.LIN_CFG_RATE.of w)).linState c == 0) = true := by simp [linState_rate, hst]
  have hrun : (linTo c 1 (linCfgSet c w s)).flag F.LIN_SCH_RUN c = s.flag F.LIN_SCH_RUN c :=
    (State.flag_setF_ne _ (by decide)).trans ((State.flag_setB_ne _ (by decide)).trans (State.flag_setF_ne _ (by decide)))
  rw [← hrun, linEnTaken, he]
  refine (if_pos hon).trans ?_
  rw [linCfgSet, he]

/-- EN keeps a channel that is on. -/
theorem linEnTaken_on (he : F.LIN_CFG_EN.on w = true) (hst : s.linState c ≠ 0) :
    linEnTaken c w s = (linCfgSet c w s).setLn c { s.ln c with offAsked := false } := by
  have hon : ¬ (true && (s.setF F.LIN_CFG_RATE c (F.LIN_CFG_RATE.of w)).linState c == 0) = true := by simp [linState_rate, hst]
  rw [linEnTaken, linCfgSet, he]
  exact (if_neg hon).trans (if_pos rfl)

/-- A channel goes OFF, at once or at the end of its frame. -/
theorem linEnTaken_clear (he : F.LIN_CFG_EN.on w = false) (hst : s.linState c ≠ 0) :
    linEnTaken c w s = if (s.ln c).inFrame then (linCfgSet c w s).setLn c { s.ln c with offAsked := true } else linOff c (linCfgSet c w s) := by
  have hon : ((s.setF F.LIN_CFG_RATE c (F.LIN_CFG_RATE.of w)).linState c != 0) = true := by simp [linState_rate, hst]
  rw [linEnTaken, linCfgSet, he]
  simp only [enTo, Bool.false_and, Bool.false_eq_true, if_false, if_pos hon]
  rfl

theorem linCfgSet_regsBut {l : List (Reg × Nat)} (h : (.LIN_CFG, c) ∈ l) : regsBut s (linCfgSet c w s) l :=
  regsBut_setB _ (regsBut_setF _ (regsBut_refl s l) h) h

end

/-! ## Going to sleep and waking (R356) -/

section

variable {c : Nat} {s : State}

theorem sleepTo_slot (h : (s.ln c).inSlot = true) : sleepTo c s = s.setLn c { s.ln c with sleepAsked := true, waking := false } := by
  have hslot : ((s.setLn c { s.ln c with sleepAsked := true, waking := false }).ln c).inSlot = true := by rw [State.ln_setLn_same]; exact h
  exact if_pos (by rw [hslot]; rfl)

theorem sleepTo_now (h : (s.ln c).inSlot = false) (hs : (s.ln c).sleeping = false) :
    sleepTo c s = goToSleep c (s.setLn c { s.ln c with sleepAsked := true, waking := false }) := by
  have hnone : ¬ (((s.setLn c { s.ln c with sleepAsked := true, waking := false }).ln c).inSlot ||
      ((s.setLn c { s.ln c with sleepAsked := true, waking := false }).ln c).sleeping) = true := by
    rw [State.ln_setLn_same]
    simp [h, hs]
  exact if_neg hnone

end

theorem goToSleep_frame (c : Nat) (s : State) : (goToSleep c s).ln c = { s.ln c with inFrame := true, sleeping := true } ∧
    (goToSleep c s).regs = s.regs ∧ (goToSleep c s).mem = s.mem ∧
    (goToSleep c s).sent = .linFrame c 0x3C (byte 0 :: List.replicate 7 (byte 0xFF)) :: s.sent :=
  ⟨State.ln_setLn_same s c _, rfl, rfl, rfl⟩

/-- A waking channel runs. -/
theorem wakeTo_frame (c : Nat) (s : State) : (wakeTo c s).linState c = 2 ∧ (wakeTo c s).flag F.LIN_SCH_RUN c = true ∧
    ((wakeTo c s).ln c).waking = true ∧ (wakeTo c s).mem = s.mem ∧ (wakeTo c s).sent = s.sent := by
  refine ⟨?_, ?_, ?_, rfl, rfl⟩
  · rw [wakeTo, State.linState, State.getF_setLn, State.getF_setB_ne _ (by decide)]
    exact State.getF_setF_eq s (by decide)
  · rw [wakeTo, State.flag_setLn]
    exact State.flag_setB_eq _ (by decide)
  · rw [wakeTo, State.ln_setLn_same]

theorem wakeTo_regsBut {c : Nat} {s t : State} {l : List (Reg × Nat)} (h : regsBut s t l) (hs : (.LIN_STAT, c) ∈ l) (hr : (.LIN_SCH, c) ∈ l) :
    regsBut s (wakeTo c t) l := regsBut_of_regs (regsBut_setB _ (regsBut_setF _ h hs) hr) rfl

/-! ## LIN_SCH (R353, R356, R357) -/

section

variable {c : Nat} {w : Word} {s : State} (hr : reservedSet .LIN_SCH w = false)

include hr

theorem linWrite_sch : linWrite .LIN_SCH c w s = linSchWrite c w s := if_neg (by simp [hr])

theorem linWrite_sch_refused (he : s.entering = true) (hrun : F.LIN_SCH_RUN.on w = true) : linWrite .LIN_SCH c w s = (.state, s) :=
  (linWrite_sch hr).trans ((if_neg (by simp [hr])).trans (if_pos (by simp [he, hrun])))

variable (he : s.entering = false)

include he

theorem linWrite_sch_waits (h : (s.ln c).inSlot = true ∨ (s.ln c).sleeping = true) : linWrite .LIN_SCH c w s = (.accepted, s.hold .LIN_SCH c w) :=
  (linWrite_sch hr).trans ((if_neg (by simp [hr])).trans ((if_neg (by simp [he])).trans (if_pos (by simpa using h))))

variable (hi : (s.ln c).inSlot = false) (hs : (s.ln c).sleeping = false)

include hi hs

theorem linWrite_sch_run (hrun : F.LIN_SCH_RUN.on w = true) (hst : (schApply c (s.hold .LIN_SCH c w)).linState c = 1) :
    linWrite .LIN_SCH c w s = (.accepted, linStart c (schApply c (s.hold .LIN_SCH c w))) := by
  refine (linWrite_sch hr).trans ?_
  simp [linSchWrite, hr, he, hi, hs, hrun, hst]

theorem linWrite_sch_stop (hrun : F.LIN_SCH_RUN.on w = false) (hst : (schApply c (s.hold .LIN_SCH c w)).linState c = 2) :
    linWrite .LIN_SCH c w s = (.accepted, linStop c (schApply c (s.hold .LIN_SCH c w))) := by
  refine (linWrite_sch hr).trans ?_
  simp [linSchWrite, hr, he, hi, hs, hrun, hst]

end

/-! ## Slots (R353) -/

/-- With nothing that waits for the slot's end, the schedule goes on with the slot at its position. -/
theorem slotTurn_begins {c i : Nat} {u : State} (hi : (u.ln c).inSlot = false) (hs : (u.ln c).sleepAsked = false) (hb : (u.ln c).back = [])
    (hh : u.heldOf .LIN_SCH c = none) (hd : ∀ j < 4, u.heldOf .LIN_TDEF (4 * c + j) = none) (hrun : u.flag F.LIN_SCH_RUN c = true)
    (hl : (u.ln c).idx < F.LIN_TDEF_LEN.of (u.linDef c (u.linTable c)))
    (hf : i = (F.LIN_TDEF_FIRST.of (u.linDef c (u.linTable c)) + (u.ln c).idx) % 64) (he : slotEn (u.linWord c i 0).toNat = true)
    (ho : slotOk (u.linWord c i 0).toNat = true) : slotTurn c u = slotBegin c i u := by
  have hadvance : advance c u = u := if_pos (by rw [hi]; rfl)
  have hdefs : tdefApply c u = u := foldl_unchanged (fun j hj => State.applyHeld_none u (hd j (List.mem_range.1 hj)))
  have hsch : schApply c u = u := by
    unfold schApply
    rw [State.applyHeld_none u hh]
    exact if_pos (.inr (by rw [hh]; rfl))
  have hnext : nextSlot 512 c u = slotBegin c i u := by
    refine (if_neg hl.not_ge).trans ?_
    simp only [← hf, he, ho]
    rfl
  simp [slotTurn, hadvance, hdefs, hh, hrun, hs, hb, hsch, hnext]

/-! ## The end of a frame (R354) -/

/-- What a good frame leaves in its slot: the result, and the data of a response. -/
def frameStored (c : Nat) (data : List Byte) (s : State) : State :=
  let x := s.ln c
  let t := slotResult c x.slot 0 false s
  if slotDir x.w0.toNat = false then
    linWordSet c x.slot 3 ((bytesWords 2 (data.take (slotLen x.w0.toNat))).getD 1 0)
      (linWordSet c x.slot 2 ((bytesWords 2 (data.take (slotLen x.w0.toNat))).getD 0 0) t)
  else t

/-- A good frame without a record, in a schedule without a failed slot. -/
theorem frameEnds_good {c : Nat} {data : List Byte} {s : State} (hf : (s.ln c).failed = []) (hr : slotRec (s.ln c).w0.toNat = false) :
    frameEnds c 0 data s = (frameStored c data s).setLn c { s.ln c with inFrame := false, stamp := none, failed := [], again := false, resolve := none } := by
  have hretry : linRetried (s.ln c).w0.toNat 0 = false := rfl
  have herr : ((0 : Nat) != 0 && ! (0 == 1 && slotType (s.ln c).w0.toNat == 1)) = false := rfl
  have hbytes : slotDir (s.ln c).w0.toNat = false → linBytes (s.ln c) data = data.take (slotLen (s.ln c).w0.toNat) := fun h => if_neg (by simp [h])
  simp only [frameEnds, hretry, hr, hf, herr, frameStored, Bool.false_and, Bool.and_false, Bool.or_false, Bool.false_eq_true, if_false, if_true,
    true_and, List.filter_nil, OfNat.zero_ne_ofNat, false_and]
  cases hd : slotDir (s.ln c).w0.toNat with
  | false => simp only [hbytes hd, Bool.not_false, if_true]
  | true => simp only [Bool.not_true, Bool.false_eq_true, if_false]; rfl

theorem linWord_linWordSet_same (c i k : Nat) (w : Word) (s : State) : (linWordSet c i k w s).linWord c i k = w := by
  simp [State.linWord, linWordSet]

theorem linWord_linWordSet_other {c i k j : Nat} (w : Word) (s : State) (h : j ≠ k) : (linWordSet c i k w s).linWord c i j = s.linWord c i j := by
  have hkey : linKey c i j ≠ linKey c i k := by
    unfold linKey
    omega
  exact tabGet_set_other 0 0 s.linSlots w hkey

theorem linWordSet_regs (c i k : Nat) (w : Word) (s : State) : (linWordSet c i k w s).regs = s.regs := rfl
theorem linWordSet_mem (c i k : Nat) (w : Word) (s : State) : (linWordSet c i k w s).mem = s.mem := rfl
theorem linWordSet_sent (c i k : Nat) (w : Word) (s : State) : (linWordSet c i k w s).sent = s.sent := rfl

theorem frameStored_frame (c : Nat) (data : List Byte) (s : State) :
    (frameStored c data s).regs = s.regs ∧ (frameStored c data s).mem = s.mem ∧ (frameStored c data s).sent = s.sent := by
  rw [frameStored]
  split <;> simp only [linWordSet_regs, linWordSet_mem, linWordSet_sent, slotResult, and_self]

theorem frameStored_result (c : Nat) (data : List Byte) (s : State) :
    (frameStored c data s).linWord c (s.ln c).slot 1 = word (0x100 * sat 255 (bitsOf (s.linWord c (s.ln c).slot 1).toNat 8 8)) := by
  have hres : (slotResult c (s.ln c).slot 0 false s).linWord c (s.ln c).slot 1 =
      word (0x100 * sat 255 (bitsOf (s.linWord c (s.ln c).slot 1).toNat 8 8)) := by
    rw [slotResult, linWord_linWordSet_same]
    simp [b01]
  unfold frameStored
  dsimp only
  split
  · rw [linWord_linWordSet_other _ _ (by decide), linWord_linWordSet_other _ _ (by decide), hres]
  · exact hres

theorem frameStored_data {c : Nat} {data : List Byte} {s : State} (h : slotDir (s.ln c).w0.toNat = false) :
    (frameStored c data s).linWord c (s.ln c).slot 2 = (bytesWords 2 (data.take (slotLen (s.ln c).w0.toNat))).getD 0 0 ∧
      (frameStored c data s).linWord c (s.ln c).slot 3 = (bytesWords 2 (data.take (slotLen (s.ln c).w0.toNat))).getD 1 0 := by
  rw [frameStored, if_pos h]
  exact ⟨(linWord_linWordSet_other _ _ (by decide)).trans (linWord_linWordSet_same _ _ _ _ _), linWord_linWordSet_same _ _ _ _ _⟩

/-- Settles O36, clause by clause: LIN_CFG and LIN_SCH, sleep and wake, slots, the end of a frame, and LIN_BRKTS. -/
theorem linCommanders : Obligations.LinCommanders := by
  refine ⟨?en, ?run, ?sleep, ?wake, ?busWake, ?slot, ?frameEnd, ?breakStamp⟩
  case en =>
    intro m c w s u hf hr hlo hhi hu
    have hu : u = linCfgSet c w s := hu
    refine ⟨fun hen hst hs hw he => ?_, fun hen hrate hst he hs hw => ?_, fun hen hrate => ok_of_eq s (linAccess_fitted hf hr fun _ =>
      linWrite_cfg_refused hr hlo hhi hen hrate)⟩
    · have hexec : ∀ t, linEnTaken c w s = t → exec (.linEn m c w) s = .next (finish s (t.answer m .LIN_RESULT .accepted c (Reg.addr .LIN_CFG c))) :=
        fun t ht => ok_of_eq s (linAccess_fitted hf hr fun _ => ht ▸ linWrite_cfg_en hr hlo hhi (.inl hen) hs hw)
      exact ⟨fun hrun => hexec _ (by rw [linEnTaken_off he hst, hrun, hu]; rfl), fun hrun => hexec _ (by rw [linEnTaken_off he hst, hrun, hu]; rfl)⟩
    · have hexec : ∀ t, linEnTaken c w s = t → exec (.linEn m c w) s = .next (finish s (t.answer m .LIN_RESULT .accepted c (Reg.addr .LIN_CFG c))) :=
        fun t ht => ok_of_eq s (linAccess_fitted hf hr fun _ => ht ▸ linWrite_cfg_en hr hlo hhi (.inr hrate) hs hw)
      exact ⟨fun hi => hexec _ (by rw [linEnTaken_clear he hst, hi, hu]; rfl), fun hi => hexec _ (by rw [linEnTaken_clear he hst, hi, hu]; rfl)⟩
  case run =>
    rintro m c w s _ hf hr rfl
    exact ⟨fun he hrun => ok_of_eq s (linAccess_fitted hf hr fun _ => linWrite_sch_refused hr he hrun),
      fun he h => ok_of_eq s (linAccess_fitted hf hr fun _ => linWrite_sch_waits hr he h),
      fun he hi hs hrun hst => ok_of_eq s (linAccess_fitted hf hr fun _ => linWrite_sch_run hr he hi hs hrun hst),
      fun he hi hs hrun hst => ok_of_eq s (linAccess_fitted hf hr fun _ => linWrite_sch_stop hr he hi hs hrun hst)⟩
  case sleep =>
    rintro m c w _ s hf rfl hr hlo hhi hrate he hw hst
    have hon : s.linState c ≠ 0 := by omega
    have hexec : ∀ t, sleepTo c ((linCfgSet c (w ||| word (2 ^ F.LIN_CFG_SLEEP.lo)) s).setLn c { s.ln c with offAsked := false }) = t →
        exec (.linSleep m c w) s = .next (finish s (t.answer m .LIN_RESULT .accepted c (Reg.addr .LIN_CFG c))) := fun t ht =>
      ok_of_eq s (linAccess_fitted hf hr fun _ => ht ▸ linEnTaken_on he hon ▸ linWrite_cfg_sleep hr hlo hhi (.inr hrate) he
        (Fld.on_or_self (by decide) w) hw hst)
    obtain ⟨u, hu⟩ : ∃ u, u = (linCfgSet c (w ||| word (2 ^ F.LIN_CFG_SLEEP.lo)) s).setLn c { s.ln c with offAsked := false } := ⟨_, rfl⟩
    rw [← hu] at hexec
    have hln : u.ln c = { s.ln c with offAsked := false } := hu ▸ State.ln_setLn_same _ _ _
    have hstate : u.linState c = s.linState c := by
      rw [hu, State.linState, State.getF_setLn, linCfgSet, State.getF_setB_ne _ (by decide), State.getF_setF_ne _ (by decide), State.linState]
    have hregs : regsBut s u [(.LIN_CFG, (c : Nat)), (.LIN_RESULT, bk m 0)] :=
      hu ▸ regsBut_of_regs (linCfgSet_regsBut (by simp)) (State.setLn_regs _ _ _)
    have hmem : u.mem = s.mem := hu ▸ rfl
    have hsent : u.sent = s.sent := hu ▸ rfl
    refine ⟨fun hi hsl => ?_, fun hi => ?_⟩
    · obtain ⟨hln', hregs', hmem', hsent'⟩ := goToSleep_frame c (u.setLn c { u.ln c with sleepAsked := true, waking := false })
      refine ⟨_, hexec _ (sleepTo_now (by rw [hln]; exact hi) (by rw [hln]; exact hsl)), ?_, ?_, ?_, sends_finish ?_,
        regsBut_finish (regsBut_answer (regsBut_of_regs hregs hregs') (by simp)), memSame_finish (hmem'.trans hmem)⟩
      · rw [State.ln_of_lin (finish_lin _ _), State.ln_of_lin (State.answer_lin _ _ _ _ _ _), hln']
      · rw [State.ln_of_lin (finish_lin _ _), State.ln_of_lin (State.answer_lin _ _ _ _ _ _), hln']
      · rw [State.linState, getF_finish, State.getF_answer_ne _ (by decide), State.getF_of_regs hregs', State.getF_setLn]
        exact hstate
      · rw [State.answer_sent, hsent', State.setLn_sent, hsent]
        rfl
    · refine ⟨_, hexec _ (sleepTo_slot (by rw [hln]; exact hi)), ?_, ?_, ?_, sends_finish ?_,
        regsBut_finish (regsBut_answer (regsBut_of_regs hregs (State.setLn_regs _ _ _)) (by simp)), memSame_finish hmem⟩
      · rw [State.ln_of_lin (finish_lin _ _), State.ln_of_lin (State.answer_lin _ _ _ _ _ _), State.ln_setLn_same]
      · rw [State.ln_of_lin (finish_lin _ _), State.ln_of_lin (State.answer_lin _ _ _ _ _ _), State.ln_setLn_same, hln]
        exact hi
      · rw [State.linState, getF_finish, State.getF_answer_ne _ (by decide), State.getF_setLn]
        exact hstate
      · rw [State.answer_sent, State.setLn_sent, hsent]
        rfl
  case wake =>
    rintro m c w _ s hf rfl hr hlo hhi hrate he hs hst
    have hon : s.linState c ≠ 0 := by omega
    have hwrite := linWrite_cfg_wake hr hlo hhi (.inr hrate) he hs (Fld.on_or_self (by decide) w) hst
    rw [linEnTaken_on he hon] at hwrite
    obtain ⟨u, hu⟩ : ∃ u, u = ((linCfgSet c (w ||| word (2 ^ F.LIN_CFG_WAKE.lo)) s).setLn c { s.ln c with offAsked := false }).emit (.linPulse c) :=
      ⟨_, rfl⟩
    have hregs : regsBut s u [(.LIN_CFG, (c : Nat)), (.LIN_STAT, (c : Nat)), (.LIN_SCH, (c : Nat)), (.LIN_RESULT, bk m 0)] :=
      hu ▸ regsBut_of_regs (linCfgSet_regsBut (by simp)) rfl
    have hmem : u.mem = s.mem := hu ▸ rfl
    have hsent : u.sent = .linPulse c :: s.sent := hu ▸ rfl
    rw [← hu] at hwrite
    obtain ⟨hstate, hrun, hwaking, hmem', hsent'⟩ := wakeTo_frame c u
    refine ⟨_, ok_of_eq s (linAccess_fitted hf hr fun _ => hwrite), ?_, ?_, ?_, sends_finish ?_, memSame_finish (hmem'.trans hmem),
      regsBut_finish (regsBut_answer (wakeTo_regsBut hregs (by simp) (by simp)) (by simp))⟩
    · rw [State.linState, getF_finish, State.getF_answer_ne _ (by decide)]
      exact hstate
    · rw [flag_finish, State.flag_answer_ne _ (by decide), hrun]
    · rw [State.ln_of_lin (finish_lin _ _), State.ln_of_lin (State.answer_lin _ _ _ _ _ _), hwaking]
    · rw [State.answer_sent, hsent', hsent]
      rfl
  case busWake => exact fun c s ho hst => ok_of_eq s (if_pos (by rw [ho, hst]; rfl))
  case slot =>
    rintro c i s u k ho hi hs hb hh hd hrun hl hf he hok (⟨rfl, hst, hfr, hwk, rfl⟩ | ⟨rfl, hwk, hu⟩)
    · exact ok_of_eq u ((if_pos (by simp [ho, hst, hfr, hwk])).trans (slotTurn_begins hi hs hb hh hd hrun hl hf he hok))
    · have hln : u.ln c = { s.ln c with waking := false } := hu ▸ State.ln_setLn_same s c _
      have htable : u.linTable c = s.linTable c := hu ▸ State.getF_setLn s _ _ _ _
      have hdef : u.linDef c (u.linTable c) = s.linDef c (s.linTable c) := by
        rw [htable, hu]
        exact State.rd_setLn _ _ _ _ _
      have hbegins : slotTurn c u = slotBegin c i u := by
        refine slotTurn_begins (by rw [hln]; exact hi) (by rw [hln]; exact hs) (by rw [hln]; exact hb) (hu ▸ hh) (hu ▸ hd) ?_ ?_ ?_ (hu ▸ he) (hu ▸ hok)
        · rw [hu, State.flag_setLn, hrun]
        · rw [hdef, hln]; exact hl
        · rw [hdef, hln]; exact hf
      exact ok_of_eq s ((if_pos (by simp [ho, hwk])).trans (hu ▸ hbegins))
  case frameEnd =>
    intro c res data s u ho hin hu
    have hon : ¬ (! s.linOn c || ! (s.ln c).inFrame) = true := by simp [ho, hin]
    have hend : (s.ln c).offAsked = false → exec (.linFrameEnd c res data) s = .next (finish s u) := fun h =>
      ok_of_eq s ((if_neg hon).trans ((if_neg (by simp [h])).trans hu.symm))
    refine ⟨hend, fun h => ok_of_eq s ((if_neg hon).trans ((if_pos h).trans (congrArg (linOff c) hu.symm))), fun hsl => ?_, fun h hsl h0 hfail hrec => ?_⟩
    · rw [hu, if_pos hsl, State.linState, State.getF_setLn]
      exact State.getF_setF_eq _ (by decide)
    · rw [if_neg (by simp [hsl]), h0, frameEnds_good hfail hrec] at hu
      obtain ⟨hregs, hmem, hsent⟩ := frameStored_frame c data s
      have hregs : u.regs = s.regs := hu ▸ hregs
      have hslots : u.linSlots = (frameStored c data s).linSlots := hu ▸ rfl
      have hword : ∀ k, (finish s u).linWord c (s.ln c).slot k = (frameStored c data s).linWord c (s.ln c).slot k := fun k => by
        rw [State.linWord, finish_linSlots, hslots, State.linWord]
      have hln : (finish s u).ln c = _ := (State.ln_of_lin (finish_lin s u) c).trans (hu ▸ State.ln_setLn_same (frameStored c data s) c _)
      refine ⟨_, hend h, by rw [hln], by rw [hln], regsSame_finish hregs, memSame_finish (hu ▸ hmem), sends_finish (hu ▸ hsent),
        (hword 1).trans (frameStored_result c data s), fun hd => ?_⟩
      rw [hword, hword]
      exact frameStored_data hd
  case breakStamp =>
    intro m c w s hf hr
    have hin : linWrite .LIN_BRKTS c w s =
        (.accepted, if (s.ln c).inFrame && ! (s.ln c).sleeping then s.setLn c { s.ln c with stamp := some w } else s) := if_neg (by simp [hr])
    exact ⟨fun h hsl => ok_of_eq s (linAccess_fitted hf hr fun _ => hin.trans (by rw [if_pos (by simp [h, hsl])])),
      fun h => ok_of_eq s (linAccess_fitted hf hr fun _ => hin.trans (by rw [if_neg (by rcases h with h | h <;> simp [h])]))⟩

end Sys2Proof.Machine

/-! # Entries and exits (14_power_states.md, R411 to R421) -/

namespace Sys2Proof.Machine

/-! ## Requests (R411, R414) -/

/-- A request's word names its target and says whether it is forced. -/
theorem requestWord_fields : ∀ target < 4, ∀ forced : Bool, F.PWR_REQ_TARGET.of (word (target % 4 + 4 * b01 forced)) = target ∧
    F.PWR_REQ_FORCE.on (word (target % 4 + 4 * b01 forced)) = forced ∧ reservedSet .PWR_REQ (word (target % 4 + 4 * b01 forced)) = false := by
  decide

section

variable {target : Nat} {forced : Bool} {s : State}

theorem pwrWrite_request (ht : target = 1 ∨ target = 2) :
    pwrWrite .PWR_REQ (word (target % 4 + 4 * b01 forced)) s = entryRequest target forced s := by
  obtain ⟨htarget, hforce, hres⟩ := requestWord_fields target (by omega) forced
  simp only [pwrWrite, htarget, hforce, hres]
  refine if_neg ?_
  rintro (h | h | h)
  · exact Bool.false_ne_true h
  all_goals omega

theorem pwrWrite_no_state (ht : target = 0 ∨ target = 3) :
    pwrWrite .PWR_REQ (word (target % 4 + 4 * b01 forced)) s = (.invalid, 0, s) := by
  obtain ⟨htarget, -, -⟩ := requestWord_fields target (by omega) forced
  simp only [pwrWrite, htarget]
  exact if_pos (.inr ht)

theorem entryRequest_taken (hp : s.pwrState < 2) (h0 : s.pwrPhase = 0) (hf : forced = true ∨ s.busyMask (target == 2) = 0) :
    entryRequest target forced s = (.accepted, 0, entryAccept target forced s) := by
  have hfree : ¬ (if forced then 0 else s.busyMask (target == 2)) ≠ 0 := by rcases hf with h | h <;> simp [h]
  exact (if_neg (not_or.2 ⟨hp.not_ge, not_not.2 h0⟩)).trans (if_neg hfree)

theorem entryRequest_busy (hp : s.pwrState < 2) (h0 : s.pwrPhase = 0) (hb : s.busyMask (target == 2) ≠ 0) :
    entryRequest target false s = (.state, s.busyMask (target == 2), countRefusers (s.busyMask (target == 2)) s) :=
  (if_neg (not_or.2 ⟨hp.not_ge, not_not.2 h0⟩)).trans (if_pos hb)

theorem entryRequest_in_progress (h : 2 ≤ s.pwrState ∨ s.pwrPhase ≠ 0) : entryRequest target forced s = (.state, 0, s) := if_pos h

variable {code : Code} {mask : Nat} {t : State} (h : pwrWrite .PWR_REQ (word (target % 4 + 4 * b01 forced)) s = (code, mask, t))

include h

theorem requestBy_core (c : Fin 4) : requestBy (.core c) target forced s =
    (t.wr .PWR_RESULT (bk (.core c) 0) (pwrResult code mask)).emit (.written (.core c) (Reg.addr .PWR_REQ 0) code) := by
  simp only [requestBy, pwrAccess, h]

theorem requestBy_dict (p : DPath) :
    requestBy (.dict p) target forced s = (t.wr .PWR_RESULT (pwrBank (.dict p)) (pwrResult code mask)).objDone p 0x2100 1 code := by
  simp only [requestBy, h]

end

theorem pwrResult_accepted : pwrResult .accepted 0 = 0 := by decide

/-- A write of PWR_SAVED ends SAVE. -/
theorem pwrAccess_saved {m : Master} {w : Word} {s t : State} (hr : reservedSet .PWR_SAVED w = false)
    (ht : t = if F.PWR_SAVED_SAVED.on w ∧ s.pwrPhase = 2 then hwPhase (firmwareSave s) else s) :
    pwrAccess m .PWR_SAVED 0 w s = (t.wr .PWR_RESULT (bk m 0) 0).emit (.written m (Reg.addr .PWR_SAVED 0) .accepted) := by
  have hwrite : pwrWrite .PWR_SAVED w s = (.accepted, 0, t) := by
    refine (if_neg (by simp [hr])).trans ?_
    rw [ht]
    split <;> rfl
  simp only [pwrAccess, hwrite, pwrResult_accepted]

/-! ## Loss of the Switch supply (R421) -/

/-- A register outside the units that are reset reads as before. -/
theorem rd_unitsReset {us : List IoUnit} {keep : Nat → Bool} {s : State} {r : Reg} {n : Nat}
    (h : (us.flatMap fun u => u.regs.map Reg.ctorIdx).contains (regKey r n % 512) = false) : (unitsReset us keep s).rd r n = s.rd r n := by
  refine (tabGet_filter_key (r.reset n) s.regs
    (fun k => ! (us.flatMap fun u => u.regs.map Reg.ctorIdx).contains (k % 512) || keep k) (regKey r n)).trans (if_pos ?_)
  rw [h]
  rfl

theorem queuesReset_frame (l : List QId) (s : State) :
    (queuesReset l s).regs = s.regs ∧ (queuesReset l s).mem = s.mem ∧ (queuesReset l s).pwr = s.pwr :=
  ⟨foldl_keeps State.regs _ (fun t i => State.setQ_regs t i {}) l s, foldl_keeps State.mem _ (fun t i => State.setQ_mem t i {}) l s,
    foldl_keeps State.pwr _ (fun t i => State.setQ_pwr t i {}) l s⟩

theorem fieldOff_frame (s : State) : (fieldOff s).rd .PWR_STAT 0 = s.rd .PWR_STAT 0 ∧ (fieldOff s).mem = s.mem ∧ (fieldOff s).pwr = s.pwr := by
  obtain ⟨hregs, hmem, hpwr⟩ := queuesReset_frame [.field] (unitsReset [.FIO] (fun _ => false) s)
  exact ⟨(State.rd_of_regs (t := fieldOff s) hregs _ _).trans (rd_unitsReset (by decide)), hmem, hpwr⟩

/-- What a loss of the Switch domain leaves of the registers. -/
def switchRegs (s : State) : State :=
  (queuesReset switchQueues (unitsReset switchUnits (fun k => k % 512 = Reg.ctorIdx .PWR_RCNT ∨ k % 512 = Reg.ctorIdx .FCRU_BOOTNX) s)).wr .PWR_STAT 0
    (s.rd .PWR_STAT 0 &&& word 0x1FF)

theorem switchLost_regs (s : State) : (switchLost s).regs = (switchRegs s).regs := by
  simp only [switchLost, switchRegs]

theorem switchLost_mem (s : State) : (switchLost s).mem = s.mem := by
  simp only [switchLost, State.wr_mem, (queuesReset_frame _ _).2.1]
  rfl

theorem switchLost_pwr (s : State) : (switchLost s).pwr = s.pwr := by
  simp only [switchLost, State.wr_pwr, (queuesReset_frame _ _).2.2]
  rfl

/-- Of the power state the Switch domain takes the lock of the PLLs with it. -/
theorem switchOff_frame (s : State) : (switchOff s).rd .PWR_STAT 0 = s.rd .PWR_STAT 0 &&& word 0x1FF ∧ (switchOff s).mem = s.mem ∧
    (switchOff s).pwr = { s.pwr with pll := false } := by
  have hregs : (switchOff s).regs = (switchRegs s).regs := by simp only [switchOff, switchLost_regs]
  refine ⟨?_, by simp only [switchOff, switchLost_mem], by simp only [switchOff, switchLost_pwr]⟩
  rw [State.rd_of_regs hregs, switchRegs, State.rd_wr_same]

/-- The low bits of PWR_STAT outlive the Switch domain. -/
theorem bitsOf_and_pwrStat (w : Word) : bitsOf (w &&& word 0x1FF).toNat 0 2 = bitsOf w.toNat 0 2 := by
  have hmask : (w &&& word 0x1FF).toNat = w.toNat % 2 ^ 9 := (BitVec.toNat_and ..).trans (Nat.and_two_pow_sub_one_eq_mod _ 9)
  simp only [bitsOf, hmask]
  omega

/-- DORMANT as the Field domain goes off in PARK. -/
theorem dormantFrom_frame (s : State) : (dormantFrom (fieldOff s)).rd .PWR_STAT 0 = s.rd .PWR_STAT 0 ∧ (dormantFrom (fieldOff s)).mem = s.mem ∧
    (dormantFrom (fieldOff s)).pwr.saved = s.pwr.saved := by
  obtain ⟨hrd, hmem, hpwr⟩ := fieldOff_frame s
  have hregs : (dormantFrom (fieldOff s)).regs = (fieldOff s).regs := by rw [dormantFrom]
  refine ⟨(State.rd_of_regs hregs _ 0).trans hrd, ?_, ?_⟩
  · rw [dormantFrom, hmem]
  · rw [dormantFrom, hpwr]

/-- In PARK the loss of the Switch supply is DORMANT, and what the entry saved stays. -/
theorem supplyLost_parked {s : State} (hp : s.pwrState = 2 ∧ s.pwrPhase = 0 ∧ s.dom.keep = true) : (supplyLost s).pwrState = 3 ∧
    (supplyLost s).pwr.loss = true ∧ (supplyLost s).pwr.saved = s.pwr.saved ∧ (supplyLost s).mem = s.mem := by
  obtain ⟨hstate, hphase, hkeep⟩ := hp
  have hparked : ¬ (s.pwrState ≠ 2 ∨ s.pwrPhase ≠ 0 ∨ (! s.dom.keep) = true) := by simp [hstate, hphase, hkeep]
  obtain ⟨hrd, hmem, hsaved⟩ := dormantFrom_frame (s.setF F.PWR_STAT_STATE 0 3)
  have hthree : bitsOf ((s.setF F.PWR_STAT_STATE 0 3).rd .PWR_STAT 0).toNat 0 2 = 3 := State.getF_setF_eq s (f := F.PWR_STAT_STATE) (by decide)
  rw [supplyLost, if_neg hparked]
  generalize dormantFrom (fieldOff (s.setF F.PWR_STAT_STATE 0 3)) = u at hrd hmem hsaved ⊢
  obtain ⟨hrd', hmem', hpwr'⟩ := switchOff_frame u
  generalize switchOff u = x at hrd' hmem' hpwr' ⊢
  refine ⟨?_, rfl, ?_, hmem'.trans hmem⟩
  · have hlow : bitsOf (x.rd .PWR_STAT 0).toNat 0 2 = 3 := by rw [hrd', bitsOf_and_pwrStat, hrd, hthree]
    exact hlow
  · dsimp only
    rw [hpwr', hsaved]
    rfl

/-! ## Exits (R417) -/

section

variable {pins : Nat} {s : State}

theorem pllsLock_idle (h : s.pwrPhase ≠ 5 ∨ s.pwr.pll = true) : pllsLock pins s = s := if_pos h

theorem domainsOn_idle (h : s.pwrPhase ≠ 5 ∨ s.pwr.pll = false ∨ s.supply.module.dark = true) : domainsOn pins s = s :=
  if_pos (by rcases h with h | h | h <;> simp [h])

variable (h : s.pwrPhase = 5)

include h

theorem pllsLock_on (hp : s.pwr.pll = false) (hs : s.dom.switch = true) :
    pllsLock pins s = inputsResume pins (almResume { s with pwr := { s.pwr with pll := true } }) := by
  have hlocks : ¬ (s.pwrPhase ≠ 5 ∨ s.pwr.pll = true) := by simp [h, hp]
  rw [pllsLock, if_neg hlocks]
  simp only [hs, if_true]

theorem pllsLock_off {v : State} (hp : s.pwr.pll = false) (hs : s.dom.switch = false)
    (hv : v = ((List.range 64).filter fun n => sinFitted (switchStart (dormantOver s)).variant n && (switchStart (dormantOver s)).sinMode n != 2).foldl
      (fun t n => t.setB F.SIN_STAT_LEVEL n ((t.si n).atEntry.1 != 0)) (switchStart (dormantOver s))) :
    pllsLock pins s = inputsResume pins (almResume { v with pwr := { v.pwr with pll := true } }) := by
  have hlocks : ¬ (s.pwrPhase ≠ 5 ∨ s.pwr.pll = true) := by simp [h, hp]
  rw [pllsLock, if_neg hlocks]
  simp only [hs, Bool.false_eq_true, if_false, ← hv]

theorem domainsOn_runs {u v : State} (hp : s.pwr.pll = true) (hd : s.supply.module.dark = false)
    (hu : u = firmwareConfigure (! s.dom.comms) (! s.dom.field)
      (((fieldOn pins (coreOn (commsOn s))).setF F.PWR_STAT_PHASE 0 0).setF F.PWR_STAT_STATE 0 0))
    (hv : (u.getF F.NET_WSRC_SOURCE 0 = 3 ∧ u.sinLevel (u.getF F.ACC_CFG_HANDSI 0) = true) ∧ v = accTrigger 0 u ∨
      (u.getF F.NET_WSRC_SOURCE 0 ≠ 3 ∨ u.sinLevel (u.getF F.ACC_CFG_HANDSI 0) = false) ∧ v = u) :
    domainsOn pins s = nmAwakeCheck v := by
  have hlocked : ¬ (s.pwrPhase ≠ 5 ∨ (! s.pwr.pll) = true ∨ s.supply.module.dark = true) := by simp [h, hp, hd]
  rw [domainsOn, if_neg hlocked]
  simp only [← hu]
  rcases hv with ⟨hdown, hv⟩ | ⟨hup, hv⟩
  · rw [if_pos hdown, hv]
  · rw [if_neg (by rcases hup with hup | hup <;> simp [hup]), hv]

end

/-- Settles O41, clause by clause: requests by a core and through the dictionary, the phases of an entry, DORMANT from PARK, and exits. -/
theorem entriesAndExits : Obligations.EntriesAndExits := by
  refine ⟨?core, ?dict, ?refused, ?notice, ?saved, ?saveTime, ?align, ?parked, ?notParked, ?exit, ?noExit⟩
  case core =>
    intro c target s ht hp h0
    have hexec : ∀ forced t, forced = true ∨ s.busyMask (target == 2) = 0 → entryAccept target forced s = t → requestBy (.core c) target forced s =
        (t.wr .PWR_RESULT (bk (.core c) 0) 0).emit (.written (.core c) (Reg.addr .PWR_REQ 0) .accepted) := by
      rintro forced _ hf rfl
      rw [requestBy_core ((pwrWrite_request ht).trans (entryRequest_taken hp h0 hf)) c, pwrResult_accepted]
    exact ⟨fun hb => ok_of_eq s (hexec false _ (.inr hb) rfl),
      fun hb => ok_of_eq s (requestBy_core ((pwrWrite_request ht).trans (entryRequest_busy hp h0 hb)) c), ok_of_eq s (hexec true _ (.inl rfl) rfl)⟩
  case dict =>
    intro p target s ht hp h0
    have hexec : ∀ forced t, forced = true ∨ s.busyMask (target == 2) = 0 → entryAccept target forced s = t → requestBy (.dict p) target forced s =
        (t.wr .PWR_RESULT (pwrBank (.dict p)) 0).objDone p 0x2100 1 .accepted := by
      rintro forced _ hf rfl
      rw [requestBy_dict ((pwrWrite_request ht).trans (entryRequest_taken hp h0 hf)) p, pwrResult_accepted]
    exact ⟨fun hb => ok_of_eq s (hexec false _ (.inr hb) rfl),
      fun hb => ok_of_eq s (requestBy_dict ((pwrWrite_request ht).trans (entryRequest_busy hp h0 hb)) p), ok_of_eq s (hexec true _ (.inl rfl) rfl)⟩
  case refused =>
    rintro c i target s (rfl | rfl)
    · exact ⟨fun ht h => ok_of_eq s (requestBy_core ((pwrWrite_request ht).trans (entryRequest_in_progress h)) c),
        fun ht => ok_of_eq s (requestBy_core (pwrWrite_no_state ht) c)⟩
    · exact ⟨fun ht h => ok_of_eq s (requestBy_core ((pwrWrite_request ht).trans (entryRequest_in_progress h)) c),
        fun ht => ok_of_eq s (requestBy_core (pwrWrite_no_state ht) c)⟩
  case notice => exact fun s => ⟨fun h => ok_of_eq s (if_pos h), fun h => ok_of_eq s (if_neg h)⟩
  case saved =>
    intro m w s hr hs
    exact ⟨fun h => ok_of_eq s (pwrAccess_saved hr (if_pos ⟨hs, h⟩).symm), fun h => ok_of_eq s (pwrAccess_saved hr (if_neg fun hc => h hc.2).symm)⟩
  case saveTime => exact fun s => ⟨fun h => ok_of_eq s (if_pos h), fun h => ok_of_eq s (if_neg h)⟩
  case align =>
    exact fun s => ⟨fun h ha => ok_of_eq s ((if_neg (not_not.2 h)).trans (if_neg (by simp [ha]))),
      fun h ha => ok_of_eq s ((if_neg (not_not.2 h)).trans (if_pos ha)), fun h => ok_of_eq s (if_pos h)⟩
  case parked =>
    intro s hp h0
    refine ⟨fun ha => ok_of_eq s (if_pos (by simp [ha])), fun ha hb => ok_of_eq s ((if_neg (by simp [hp, h0, ha])).trans (if_pos hb)),
      fun ha hb => ok_of_eq s ((if_neg (by simp [hp, h0, ha])).trans (if_neg (not_not.2 hb))), fun hk => ?_⟩
    obtain ⟨hstate, hloss, hsaved, hmem⟩ := supplyLost_parked ⟨hp, h0, hk⟩
    have hdom := supplyLost_dom ⟨hp, h0, hk⟩
    refine ⟨_, ok_of_eq s rfl, ?_, ?_, ?_, ?_, ?_, memSame_finish hmem⟩
    · rw [State.pwrState, getF_finish]; exact hstate
    · rw [finish_dom, hdom]
    · rw [finish_dom, hdom]
    · rw [finish_pwr, hloss]
    · rw [finish_pwr, hsaved]
  case notParked =>
    exact fun s h => ⟨ok_of_eq s (if_pos (by rcases h with h | h <;> simp [h])), ok_of_eq s (if_pos (by rcases h with h | h <;> simp [h]))⟩
  case exit =>
    intro pins s u v h
    refine ⟨fun hp hs => ok_of_eq s (pllsLock_on h hp hs), fun hp hs hu hv => ok_of_eq s (pllsLock_off h hp hs (hu ▸ hv)),
      fun hp hd hu hv => ok_of_eq s (domainsOn_runs h hp hd hu (by rwa [and_assoc])), fun hp => ok_of_eq s (pllsLock_idle (.inr hp)),
      fun hp => ok_of_eq s (domainsOn_idle (.inr hp))⟩
  case noExit => exact fun pins s h => ⟨ok_of_eq s (pllsLock_idle (.inl h)), ok_of_eq s (domainsOn_idle (.inl h))⟩

end Sys2Proof.Machine

/-! # How a logical core executes an instruction (15_flilis_core.md, R426, R430, R433, R448, R449) -/

namespace Sys2Proof.Machine

/-! ## The state of a core (R426) -/

theorem tabErase_idem {α : Type} (t : Tab α) (k : Nat) : tabErase (tabErase t k) k = tabErase t k := by
  induction t with
  | nil => rfl
  | cons p t ih =>
    obtain ⟨j, a⟩ := p
    by_cases h : j = k <;> simp [tabErase, h, ih]

theorem tabErase_tabInsert {α : Type} (t : Tab α) (k : Nat) (v : α) : tabErase (tabInsert t k v) k = tabErase t k := by
  induction t with
  | nil => simp [tabInsert, tabErase]
  | cons p t ih =>
    obtain ⟨j, a⟩ := p
    by_cases hlt : k < j
    · simp [tabInsert, tabErase, hlt]
    · by_cases h : j = k <;> simp [tabInsert, tabErase, hlt, h, ih]

/-- A second write of a key leaves the second value alone. -/
theorem tabSet_tabSet {α : Type} [DecidableEq α] (d : α) (t : Tab α) (k : Nat) (v w : α) : tabSet d (tabSet d t k v) k w = tabSet d t k w := by
  have herase : tabErase (tabSet d t k v) k = tabErase t k := by
    unfold tabSet
    split
    · exact tabErase_idem t k
    · rw [tabErase_tabInsert, tabErase_idem]
  conv_lhs => rw [tabSet]
  rw [herase, tabSet]

theorem State.setCo_setCo (s : State) (c : Nat) (x y : Core) : (s.setCo c x).setCo c y = s.setCo c y := by
  simp only [State.setCo, tabSet_tabSet]

section

variable {s : State} {c : Nat} {x : Core}

theorem retire_eq : retire c s = s.setCo c (s.co c).gone := rfl

theorem setG_eq {g : Nat} {w : Word} : setG c g w s = s.setCo c { s.co c with g := tabSet 0 (s.co c).g g w } := rfl

theorem retire_setCo : retire c (s.setCo c x) = s.setCo c x.gone := by
  rw [retire_eq, State.co_setCo_same, State.setCo_setCo]

/-- A general register takes a value, and PC goes on. -/
theorem retire_setG {g : Nat} {w : Word} : retire c (setG c g w s) = s.setCo c ((s.co c).took g w) := by
  rw [setG_eq, retire_setCo]
  rfl

theorem setPc_eq {pc : Nat} : setPc c pc s = s.setCo c { s.co c with pc := pc % 2 ^ 24 } := rfl

/-- A core that comes to another state changes nothing else. -/
theorem coreOnly_finish {u : State} (hu : u = s.setCo c x) : coreOnly s (finish s u) c x := by
  subst hu
  refine ⟨(co_finish _ _ _).trans (State.co_setCo_same _ _ _), fun d hd => (co_finish _ _ _).trans (State.co_setCo_other _ _ hd),
    regsSame_finish rfl, memSame_finish rfl, sends_finish rfl⟩

/-- A command that takes a core to another state. -/
theorem core_step {i : Instr} {u : State} (h : exec i s = ok s u) (hu : u = s.setCo c x) : ∃ t, exec i s = .next t ∧ coreOnly s t c x :=
  ⟨_, h, coreOnly_finish hu⟩

end

/-! ## Fetch, reserved fields and traps (R448, R449) -/

section

variable {s u : State} {c : Nat} {undef : Bool} {body : State → Except Trap State} (h : fetches s c)

include h

/-- A reserved field that is not 0 traps UNDEF. -/
theorem instr_undef (hu : undef = true) : instr c undef body s = takeTrap c (s.trapHere c 0x01) s := by
  obtain ⟨hruns, hfetch⟩ := h
  rw [instr, hruns, hfetch, hu]
  rfl

variable (hu : undef = false)

include hu

/-- An instruction has its effect. -/
theorem instr_ok (hb : body s = .ok u) : instr c undef body s = u := by
  obtain ⟨hruns, hfetch⟩ := h
  rw [instr, hruns, hfetch, hu]
  simp only [hb]
  rfl

/-- An instruction meets its own trap. -/
theorem instr_trap {t : Trap} (hb : body s = .error t) : instr c undef body s = takeTrap c t s := by
  obtain ⟨hruns, hfetch⟩ := h
  rw [instr, hruns, hfetch, hu]
  simp only [hb]
  rfl

omit hu in
theorem simple_undef {f : State → State} (hu : undef = true) : simple c undef f s = takeTrap c (s.trapHere c 0x01) s := by
  unfold simple
  exact instr_undef h hu

/-- An instruction that cannot trap goes on to the next. -/
theorem simple_retires {f : State → State} : simple c undef f s = retire c (f s) := instr_ok h hu rfl

end

/-! ## Fields of an instruction (R433) -/

theorem rsvA_eq_false {f : BitVec 24} (h : bitsOf f.toNat 0 12 = 0) : rsvA f = false := by simp [rsvA, h]
theorem rsvA_eq_true {f : BitVec 24} (h : bitsOf f.toNat 0 12 ≠ 0) : rsvA f = true := by simp [rsvA, h]
theorem rsvE_eq_false {f : BitVec 24} (h : bitsOf f.toNat 8 12 = 0) : rsvE f = false := by simp [rsvE, h]

theorem immZ_eq (f : BitVec 24) : immZ f = word (f.toNat % 2 ^ 16) := by simp [immZ, bitsOf]

/-- The code of a number, as a word, is the number modulo 2^32. -/
theorem word_codeOf (i : Int) : word (codeOf 32 i) = BitVec.ofInt 32 i := by
  apply BitVec.eq_of_toNat_eq
  have hnn : 0 ≤ i % 2 ^ 32 := Int.emod_nonneg _ (by decide)
  have hlt : i % 2 ^ 32 < 2 ^ 32 := Int.emod_lt_of_pos _ (by decide)
  simp only [word, codeOf, BitVec.toNat_ofNat, BitVec.toNat_ofInt]
  norm_cast at *
  omega

theorem signedOf_eq_toInt (wd n : Nat) (hw : 0 < wd) : signedOf wd n = (BitVec.ofNat wd n).toInt := by
  obtain ⟨k, rfl⟩ : ∃ k, wd = k + 1 := ⟨wd - 1, by omega⟩
  simp only [signedOf, BitVec.toInt, BitVec.toNat_ofNat, Nat.add_sub_cancel]
  have hpow : 2 ^ (k + 1) = 2 * 2 ^ k := by rw [Nat.pow_succ, Nat.mul_comm]
  simp only [hpow]
  by_cases hlt : n % (2 * 2 ^ k) < 2 ^ k
  · rw [if_pos hlt, if_pos (by omega)]
  · rw [if_neg hlt, if_neg (by omega)]

theorem immS_eq (f : BitVec 24) : immS f = (BitVec.ofNat 16 f.toNat).signExtend 32 := by
  rw [immS, word_codeOf, signedOf_eq_toInt 16 _ (by decide)]
  rfl

end Sys2Proof.Machine

/-! # Logic, arithmetic and shifts (15_flilis_core.md, R433, R434) -/

namespace Sys2Proof.Machine

section

variable {s : State} {c : Nat} {f : BitVec 24} {op : Word → Word → Word} (h : fetches s c)

include h

theorem aluReg_took (hr : bitsOf f.toNat 0 12 = 0) :
    aluReg c f op s = s.setCo c ((s.co c).took (opD f) (op (s.greg c (opA f)) (s.greg c (opB f)))) :=
  (simple_retires h (rsvA_eq_false hr)).trans retire_setG

theorem aluReg_undef (hr : bitsOf f.toNat 0 12 ≠ 0) : aluReg c f op s = takeTrap c (s.trapHere c 0x01) s := by
  unfold aluReg
  exact simple_undef h (rsvA_eq_true hr)

theorem aluImm_took {undef : Bool} {imm : Word} (hu : undef = false) :
    aluImm c f undef imm op s = s.setCo c ((s.co c).took (opD f) (op (s.greg c (opA f)) imm)) := (simple_retires h hu).trans retire_setG

theorem aluImm_undef {undef : Bool} {imm : Word} (hu : undef = true) : aluImm c f undef imm op s = takeTrap c (s.trapHere c 0x01) s := by
  unfold aluImm
  exact simple_undef h hu

end

theorem rsvShift_eq (f : BitVec 24) : rsvShift f = decide (bitsOf f.toNat 5 11 ≠ 0) := by simp [rsvShift, bne, BEq.beq]

/-- A shift by an immediate takes its low five bits. -/
theorem immZ_shift (f : BitVec 24) : (immZ f).toNat % 32 = f.toNat % 32 := by
  rw [immZ_eq, word_toNat]
  omega

/-- Settles O42, by the shape of the instruction: two registers, an immediate, or a shift by an immediate. -/
theorem coreArithmetic : Obligations.CoreArithmetic := by
  refine ⟨?registers, ?immediates, ?shifts, ?lui⟩
  case registers =>
    intro c f s i x y w h hx hy hi
    have hexec : ∃ op, exec i s = ok s (aluReg c f op s) ∧ w = op x y := by
      rcases hi with ⟨rfl, hw⟩ | ⟨rfl, hw⟩ | ⟨rfl, hw⟩ | ⟨rfl, hw⟩ | ⟨rfl, hw⟩ | ⟨rfl, hw⟩ | ⟨rfl, hw⟩ | ⟨rfl, hw⟩
      all_goals exact ⟨_, rfl, hw⟩
    obtain ⟨op, hexec, rfl⟩ := hexec
    subst hx hy
    exact ⟨fun hr => core_step hexec (aluReg_took h hr), fun hr => hexec.trans (ok_of_eq s (aluReg_undef h hr))⟩
  case immediates =>
    intro c f s i x w h hx hi
    subst hx
    rcases hi with ⟨rfl, rfl⟩ | ⟨rfl, rfl⟩ | ⟨rfl, rfl⟩ | ⟨rfl, rfl⟩ | ⟨rfl, ha, rfl⟩
    · exact core_step rfl (immS_eq f ▸ aluImm_took h rfl)
    · exact core_step rfl (immZ_eq f ▸ aluImm_took h rfl)
    · exact core_step rfl (immZ_eq f ▸ aluImm_took h rfl)
    · exact core_step rfl (immZ_eq f ▸ aluImm_took h rfl)
    · exact core_step rfl (immZ_eq f ▸ (simple_retires h (by simp [rsvGA, ha])).trans retire_setG)
  case shifts =>
    intro c f s i x w h hx hi
    have hexec : ∃ op, exec i s = ok s (aluImm c f (rsvShift f) (immZ f) op s) ∧ w = op x (immZ f) := by
      rw [← immZ_shift f] at hi
      rcases hi with ⟨rfl, hw⟩ | ⟨rfl, hw⟩ | ⟨rfl, hw⟩
      all_goals exact ⟨_, rfl, hw⟩
    obtain ⟨op, hexec, rfl⟩ := hexec
    subst hx
    exact ⟨fun hr => core_step hexec (aluImm_took h (by simp [rsvShift_eq, hr])),
      fun hr => hexec.trans (ok_of_eq s (aluImm_undef h (by simp [rsvShift_eq, hr])))⟩
  case lui => exact fun c f s h ha => ok_of_eq s (instr_undef h (by simp [rsvGA, ha]))

end Sys2Proof.Machine

/-! # Comparisons, multiplies and divides (15_flilis_core.md, R434, R435, R437, R438) -/

namespace Sys2Proof.Machine

/-! ## The flags in STAT (R428, R435) -/

section

variable (w : Word) (f : Flags)

theorem bitOf_toNat (i : Nat) : bitOf w.toNat i = w.getLsbD i := by rw [bitOf_eq_testBit]; rfl

theorem putFlags_bits : bitOf (putFlags w f).toNat 0 = f.z ∧ bitOf (putFlags w f).toNat 1 = f.n ∧ bitOf (putFlags w f).toNat 2 = f.c ∧
    bitOf (putFlags w f).toNat 3 = f.v := by
  obtain ⟨z, n, cy, v⟩ := f
  have hlow : ∀ i < 4, bitOf (putFlags w ⟨z, n, cy, v⟩).toNat i = (b01 z + 2 * b01 n + 4 * b01 cy + 8 * b01 v).testBit i := fun i hi => by
    rw [bitOf_toNat, putFlags, putBits_bit _ _ _ _ _ (by omega), if_pos (by omega)]
    rfl
  rw [hlow 0 (by decide), hlow 1 (by decide), hlow 2 (by decide), hlow 3 (by decide)]
  clear hlow
  revert z n cy v
  decide

/-- The rest of STAT stays. -/
theorem putFlags_rest : bitsOf (putFlags w f).toNat 4 28 = bitsOf w.toNat 4 28 := bitsOf_putBits_other _ _ _ _ _ _ (by decide) (by decide)

end

/-! ## Products, quotients and remainders (R437, R438) -/

theorem codeOf_of_emod {p : Nat} {i : Int} (h : (p : Int) = i % 2 ^ 64) : codeOf 64 i = p := by
  rw [codeOf]
  exact (congrArg Int.toNat h.symm).trans (Int.toNat_natCast p)

theorem divU_eq (x y : Word) : divU x y = (x / y, x % y) := by
  simp [divU, word, BitVec.udiv_def, BitVec.umod_def]

theorem divS_eq (x y : Word) : divS x y = (x.sdiv y, x.srem y) := by
  rw [divS, word_codeOf, word_codeOf, ← BitVec.toInt_srem, BitVec.ofInt_toInt]
  congr 1
  apply BitVec.eq_of_toInt_eq
  rw [BitVec.toInt_ofInt, BitVec.toInt_sdiv]

/-! ## Instructions -/

theorem rsvD_or_rsvA {f : BitVec 24} (hd : opD f = 0) (hr : bitsOf f.toNat 0 12 = 0) : (rsvD f || rsvA f) = false := by
  simp [rsvD, hd, rsvA_eq_false hr]

section

variable {s : State} {c : Nat} {f : BitVec 24} {op : Word → Word → Word × Word} (h : fetches s c) (hd : opD f = 0) (hr : bitsOf f.toNat 0 12 = 0)

include h hd hr

/-- A product joins those on their way. -/
theorem multiply_starts {p : Word × Word} (hm : (s.co c).muls.length < 3) (hp : op (s.greg c (opA f)) (s.greg c (opB f)) = p) :
    multiply c f op s = s.setCo c { (s.co c).gone with muls := (s.co c).muls ++ [p] } := by
  refine (simple_retires h (rsvD_or_rsvA hd hr)).trans ?_
  simp only [hm, if_true, hp]
  exact retire_setCo

theorem divide_starts {p : Word × Word} (hn : (s.co c).div = none) (hy : s.greg c (opB f) ≠ 0)
    (hp : op (s.greg c (opA f)) (s.greg c (opB f)) = p) : divide c f op s = s.setCo c { (s.co c).gone with div := some p } := by
  have hdone : divideComplete c s = s := by simp [divideComplete, hn]
  unfold divide
  refine instr_ok h (rsvD_or_rsvA hd hr) ((if_neg hy).trans ?_)
  simp only [hdone, hp]
  exact congrArg Except.ok retire_setCo

theorem divide_by_zero (hy : s.greg c (opB f) = 0) : divide c f op s = takeTrap c (s.trapHere c 0x09) s := by
  unfold divide
  exact instr_trap h (rsvD_or_rsvA hd hr) (if_pos hy)

end

/-- Settles O43, clause by clause: comparisons, TST, and the start and the completion of multiplies and divides. -/
theorem coreCompareMultiplyDivide : Obligations.CoreCompareMultiplyDivide := by
  refine ⟨?compare, ?test, ?multiply, ?multiplyComplete, ?divide, ?divideComplete⟩
  case compare =>
    intro c f s i x y h hd hx hi
    have hexec : exec i s = ok s (s.setCo c { (s.co c).gone with stat := putFlags (s.co c).stat (compareFlags x y) }) := by
      subst hx
      rcases hi with ⟨rfl, hr, rfl⟩ | ⟨rfl, rfl⟩
      · exact ok_of_eq s ((simple_retires h (rsvD_or_rsvA hd hr)).trans retire_setCo)
      · rw [← immS_eq f]
        exact ok_of_eq s ((simple_retires h (by simp [rsvD, hd])).trans retire_setCo)
    obtain ⟨t, ht, hcore⟩ := core_step hexec rfl
    have hstat : (t.co c).stat = putFlags (s.co c).stat (compareFlags x y) := by rw [hcore.1]
    obtain ⟨hz, hn, hc, hv⟩ := putFlags_bits (s.co c).stat (compareFlags x y)
    refine ⟨t, ht, ?_, ?_⟩
    · rw [hstat]
      exact hcore
    · rw [hstat]
      exact ⟨putFlags_rest _ _, hz, hn, hc, hv⟩
  case test =>
    intro c f s x h hd hr hx
    have hexec : exec (.tst c f) s = ok s (s.setCo c { (s.co c).gone with stat := putFlags (s.co c).stat (testFlags x) }) := by
      subst hx
      exact ok_of_eq s ((simple_retires h (rsvD_or_rsvA hd hr)).trans retire_setCo)
    obtain ⟨t, ht, hcore⟩ := core_step hexec rfl
    have hstat : (t.co c).stat = putFlags (s.co c).stat (testFlags x) := by rw [hcore.1]
    obtain ⟨hz, hn, hc, hv⟩ := putFlags_bits (s.co c).stat (testFlags x)
    have hrest := putFlags_rest (s.co c).stat (testFlags x)
    refine ⟨t, ht, ?_, ?_⟩
    · rw [hstat]
      exact hcore
    · rw [hstat]
      refine ⟨?_, hz, hn⟩
      have hc : bitOf (putFlags (s.co c).stat (testFlags x)).toNat 2 = false := hc
      have hv : bitOf (putFlags (s.co c).stat (testFlags x)).toNat 3 = false := hv
      simp only [bitOf, beq_eq_false_iff_ne] at hc hv
      simp only [bitsOf] at hrest ⊢
      omega
  case multiply =>
    intro c f s i p h hd hr hm hi
    rcases hi with ⟨rfl, rfl⟩ | ⟨rfl, hp⟩
    · exact core_step rfl (multiply_starts h hd hr hm rfl)
    · exact core_step rfl (multiply_starts h hd hr hm (by rw [mulS, codeOf_of_emod hp, productWords]))
  case multiplyComplete =>
    intro c x l r s hm
    exact core_step (ok_of_eq s rfl) (by simp only [multiplyComplete, hm])
  case divide =>
    intro c f s i x y q r h hd hr hx hy hi
    have hexec : ∃ op, exec i s = ok s (divide c f op s) ∧ op (s.greg c (opA f)) (s.greg c (opB f)) = (q, r) := by
      subst hx hy
      rcases hi with ⟨rfl, rfl, rfl⟩ | ⟨rfl, rfl, rfl⟩
      · exact ⟨_, rfl, divU_eq _ _⟩
      · exact ⟨_, rfl, divS_eq _ _⟩
    obtain ⟨op, hexec, hp⟩ := hexec
    exact ⟨fun h0 hn => core_step hexec (divide_starts h hd hr hn (hy ▸ h0) hp), fun h0 => hexec.trans (ok_of_eq s (divide_by_zero h hd hr (hy ▸ h0)))⟩
  case divideComplete =>
    intro c q r s hd
    exact core_step (ok_of_eq s rfl) (by simp only [divideComplete, hd])

end Sys2Proof.Machine

/-! # Data space as a core reaches it (15_flilis_core.md, R431, R448, R449) -/

namespace Sys2Proof.Machine

/-! ## Words of SRAM and retention RAM -/

section

variable {a : Nat} (ha : inSram a = true ∨ inRetention a = true)

include ha

theorem areaOf_ram : areaOf a = some .sram ∨ areaOf a = some .retention := by
  unfold areaOf
  cases hs : inSram a with
  | true => simp
  | false => simp [ha.resolve_left (by simp [hs])]

theorem dataCrossing_ram : dataCrossing a = none := by
  unfold dataCrossing
  rcases areaOf_ram ha with h | h <;> rw [h]

theorem dataRead_ram (s : State) : dataRead a s = (s.memWord a, s) := by
  have hopen : otpHidden a = false := by
    simp only [inSram, inRetention, decide_eq_true_eq] at ha
    simp only [otpHidden, decide_eq_false_iff_not]
    omega
  unfold dataRead
  rcases areaOf_ram ha with h | h <;> simp [h, hopen]

theorem dataLoad_ram (m : Master) (s : State) : dataLoad m a s = (s.memWord a, s) := by
  rw [dataLoad, dataCrossing_ram ha]
  exact dataRead_ram ha s

/-- A word stored. -/
theorem dataStore_ram (m : Master) (w : Word) (s : State) :
    dataStore m a w s = { (s.memWordSet a w) with ecc := tabSet false s.ecc a false } := by
  unfold dataStore dataWrite
  rw [dataCrossing_ram ha]
  rcases areaOf_ram ha with h | h <;> simp [h]

end

/-! ## The first trap of an access -/

section

variable {s : State} {c : Nat}

/-- Accesses that meet no cause do not trap. -/
theorem accessTrap_none {l : List Access} (h : ∀ k, ∀ x ∈ l, s.meets c x k = false) : s.accessTrap c l = none := by
  have hfind : ∀ k, (l.find? fun x => s.meets c x k) = none := fun k => List.find?_eq_none.2 fun x hx => by simp [h k x hx]
  simp [State.accessTrap, State.dataTrap, hfind]

theorem accessTrap_align {x : Access} (h : s.meets c x .align = true) : s.accessTrap c [x] = some { code := 0x05, addr := x.addr } := by
  simp [State.accessTrap, State.dataTrap, h, DataCause.code]

theorem accessTrap_address {x : Access} (h0 : s.meets c x .align = false) (h : s.meets c x .address = true) :
    s.accessTrap c [x] = some { code := 0x04, addr := x.addr } := by
  simp [State.accessTrap, State.dataTrap, h0, h, DataCause.code]

/-- An aligned access of SRAM or retention RAM in base mode meets no cause, but for an ECC error where it does not replace the whole word. -/
theorem meets_none {x : Access} (hb : (s.co c).app = false) (ha : inSram x.addr = true ∨ inRetention x.addr = true) (hx : x.addr % x.size = 0)
    (he : x.store = true ∧ x.size = 4 ∨ s.eccBad x.addr = false) (k : DataCause) : s.meets c x k = false := by
  have hword : wordOnly x.addr = false := by
    simp only [inSram, inRetention, decide_eq_true_eq] at ha
    simp only [wordOnly, decide_eq_false_iff_not]
    omega
  cases k with
  | align => simp [State.meets, hx, hword]
  | address => rcases areaOf_ram ha with h | h <;> simp [State.meets, h, Area.writable]
  | mpu => simp [State.meets, hb]
  | ecc => rcases he with ⟨hst, hsz⟩ | h
           · simp [State.meets, hst, hsz]
           · simp [State.meets, h]

end

/-! ## Parts of a word -/

/-- The word that an address of SRAM or retention RAM lies in does so too. -/
theorem ram_word {a : Nat} (ha : inSram a = true ∨ inRetention a = true) : inSram (a / 4 * 4) = true ∨ inRetention (a / 4 * 4) = true := by
  simp only [inSram, inRetention, decide_eq_true_eq] at ha ⊢
  omega

theorem memBytes_four (s : State) (a : Nat) : s.memBytes a 4 = [s.memByte a, s.memByte (a + 1), s.memByte (a + 2), s.memByte (a + 3)] := rfl

theorem memWord_toNat (s : State) (a : Nat) : (s.memWord a).toNat = leNat (s.memBytes a 4) := by
  have hb : ∀ i, (s.memByte i).toNat < 256 := fun i => (s.memByte i).isLt
  have h0 := hb a; have h1 := hb (a + 1); have h2 := hb (a + 2); have h3 := hb (a + 3)
  rw [State.memWord, word_toNat, memBytes_four]
  simp only [leNat]
  omega

/-- The bytes of an aligned part of a word. -/
theorem bitsOf_memWord (s : State) {a k : Nat} (hk : k = 1 ∨ k = 2 ∨ k = 4) (ha : a % k = 0) :
    bitsOf (s.memWord (a / 4 * 4)).toNat (8 * (a % 4)) (8 * k) = leNat (s.memBytes a k) := by
  obtain ⟨b, r, hr, rfl⟩ : ∃ b r, r < 4 ∧ a = 4 * b + r := ⟨a / 4, a % 4, Nat.mod_lt _ (by decide), by omega⟩
  have hbase : (4 * b + r) / 4 * 4 = 4 * b := by omega
  have hpart : (4 * b + r) % 4 = r := by omega
  have hb : ∀ i, (s.memByte i).toNat < 256 := fun i => (s.memByte i).isLt
  have h0 := hb (4 * b); have h1 := hb (4 * b + 1); have h2 := hb (4 * b + 2); have h3 := hb (4 * b + 3)
  rw [hbase, hpart, memWord_toNat, memBytes_four]
  rcases hk with rfl | rfl | rfl
  · have hone : s.memBytes (4 * b + r) 1 = [s.memByte (4 * b + r)] := rfl
    rw [hone]
    interval_cases r <;> simp [bitsOf, leNat] <;> omega
  · have htwo : s.memBytes (4 * b + r) 2 = [s.memByte (4 * b + r), s.memByte (4 * b + (r + 1))] := rfl
    rw [htwo]
    obtain rfl | rfl : r = 0 ∨ r = 2 := by omega
    · simp [bitsOf, leNat]
      omega
    · simp [bitsOf, leNat]
      omega
  · obtain rfl : r = 0 := by omega
    simp [bitsOf, leNat, memBytes_four]
    omega

/-! ## Loads (R434) -/

section

variable {s : State} {c : Nat} {f : BitVec 24} (h : fetches s c)

theorem dataAddr_eq : s.dataAddr c f = (s.greg c (opA f) + (BitVec.ofNat 16 f.toNat).signExtend 32).toNat := by rw [State.dataAddr, immS_eq]

/-- A load of an aligned part of a word. -/
theorem load_ram {a k : Nat} (hb : (s.co c).app = false) (ha : inSram a = true ∨ inRetention a = true) (hk : k = 1 ∨ k = 2 ∨ k = 4) (hx : a % k = 0)
    (he : s.eccBad a = false) : load c a k s = .ok (leNat (s.memBytes a k), s) := by
  have htrap : s.accessTrap c [{ addr := a, size := k, store := false }] = none :=
    accessTrap_none fun d x hx' => by
      rw [List.mem_singleton.1 hx']
      exact meets_none hb ha hx (.inr he) d
  have hbytes : loadBytes (coreMaster c) a k s = (leNat (s.memBytes a k), s) := by
    rw [loadBytes, dataLoad_ram (ram_word ha)]
    exact Prod.ext (bitsOf_memWord s hk hx) rfl
  rw [load, htrap, hbytes]

include h

theorem loadInstr_took {k n : Nat} {signed : Bool} (hl : load c (s.dataAddr c f) k s = .ok (n, s)) :
    loadInstr c f k signed s = s.setCo c ((s.co c).took (opD f) (if signed then word (codeOf 32 (signedOf (8 * k) n)) else word n)) := by
  unfold loadInstr
  refine instr_ok h rfl ?_
  simp only [hl]
  exact congrArg Except.ok retire_setG

theorem loadInstr_trap {k : Nat} {signed : Bool} {t : Trap} (ht : s.accessTrap c [{ addr := s.dataAddr c f, size := k, store := false }] = some t) :
    loadInstr c f k signed s = takeTrap c t s := by
  have hl : load c (s.dataAddr c f) k s = .error t := by rw [load, ht]
  unfold loadInstr
  refine instr_trap h rfl ?_
  simp only [hl]
  rfl

/-! ## Stores (R434) -/

theorem storeInstr_trap {k : Nat} {t : Trap} (ht : s.accessTrap c [{ addr := s.dataAddr c f, size := k, store := true }] = some t) :
    storeInstr c f k s = takeTrap c t s := by
  have hl : store c (s.dataAddr c f) k (s.greg c (opD f)).toNat s = .error t := by rw [store, ht]
  unfold storeInstr
  refine instr_trap h rfl ?_
  simp only [hl]
  rfl

end

/-- What a store leaves of the state beside memory. -/
structure StoreFrame (s u : State) : Prop where
  core : u.core = s.core
  regs : u.regs = s.regs
  sent : u.sent = s.sent

theorem StoreFrame.co {s u : State} (h : StoreFrame s u) (c : Nat) : u.co c = s.co c := by rw [State.co, State.co, h.core]

theorem memBytesSet_frame (l : List Byte) : ∀ (s : State) (a : Nat), StoreFrame s (s.memBytesSet a l) := by
  induction l with
  | nil => exact fun s a => ⟨rfl, rfl, rfl⟩
  | cons b l ih => exact fun s a => ⟨(ih _ _).core, (ih _ _).regs, (ih _ _).sent⟩

theorem leBytes_length (k v : Nat) : (leBytes k v).length = k := by
  induction k generalizing v with
  | zero => rfl
  | succ k ih => simp [leBytes, ih]

theorem memBytes_memBytesSet (s : State) (a : Nat) (l : List Byte) : (s.memBytesSet a l).memBytes a l.length = l := by
  refine List.ext_getElem (by simp [State.memBytes]) fun i h _ => ?_
  have hi : i < l.length := by simpa [State.memBytes] using h
  rw [← List.getD_eq_getElem l 0 hi, ← State.memByte_memBytesSet_inside l s a i hi]
  simp [State.memBytes]

/-- A store of an aligned part of a word sets its bytes. -/
theorem storeBytes_ram {m : Master} {a k : Nat} {s : State} (w : Word) (ha : inSram a = true ∨ inRetention a = true) :
    ∃ u, storeBytes m a k w.toNat s = u ∧ StoreFrame s u ∧ u.mem = (s.memBytesSet a (leBytes k w.toNat)).mem := by
  refine ⟨_, rfl, ?_⟩
  unfold storeBytes
  split
  · next hk =>
    have hw : word w.toNat = w := by simp [word]
    obtain ⟨hcore, hregs, hsent⟩ := memBytesSet_frame (leBytes 4 w.toNat) s a
    rw [hk, hw, dataStore_ram ha]
    exact ⟨⟨hcore, hregs, hsent⟩, rfl⟩
  · exact ⟨memBytesSet_frame _ s a, rfl⟩

/-- A core that stores goes on. -/
theorem storeInstr_stores {s u : State} {c k : Nat} {f : BitVec 24} (h : fetches s c)
    (ht : s.accessTrap c [{ addr := s.dataAddr c f, size := k, store := true }] = none)
    (hu : storeBytes (coreMaster c) (s.dataAddr c f) k (s.greg c (opD f)).toNat s = u) : storeInstr c f k s = retire c u := by
  have hl : store c (s.dataAddr c f) k (s.greg c (opD f)).toNat s = .ok u := by rw [store, ht, hu]
  unfold storeInstr
  refine instr_ok h rfl ?_
  simp only [hl]
  rfl

/-- What a core's own store leaves. -/
theorem storeFrame_retire {s u : State} {c : Nat} (h : StoreFrame s u) : (finish s (retire c u)).co c = (s.co c).gone ∧
    (∀ d, d ≠ c → (finish s (retire c u)).co d = s.co d) ∧ regsSame s (finish s (retire c u)) ∧ sends s (finish s (retire c u)) [] := by
  refine ⟨?_, fun d hd => ?_, regsSame_finish h.regs, sends_finish h.sent⟩
  · rw [co_finish, retire_eq, State.co_setCo_same, h.co]
  · rw [co_finish, retire_eq, State.co_setCo_other _ _ hd, h.co]

/-! ## TBL (R430, R451) -/

section

variable {s : State} {c : Nat} {f : BitVec 24} (h : fetches s c)

include h

theorem tblInstr_took {w : Word} (hw : tblRead c (s.dataAddr c f % 2 ^ 24) s = .ok w) : tblInstr c f s = s.setCo c ((s.co c).took (opD f) w) := by
  unfold tblInstr
  refine instr_ok h rfl ?_
  simp only [hw]
  exact congrArg Except.ok retire_setG

theorem tblInstr_trap {t : Trap} (ht : tblRead c (s.dataAddr c f % 2 ^ 24) s = .error t) : tblInstr c f s = takeTrap c t s := by
  unfold tblInstr
  refine instr_trap h rfl ?_
  simp only [ht]
  rfl

end

/-- Settles O44, clause by clause: loads, stores, TBL, and the traps of an address. -/
theorem loadsAndStores : Obligations.LoadsAndStores := by
  refine ⟨?load, ?store, ?tbl, ?traps⟩
  case load =>
    intro c f s i a k w h hb ha hram hx he hi
    rw [← dataAddr_eq] at ha
    subst ha
    have hexec : ∃ signed, exec i s = ok s (loadInstr c f k signed s) ∧ (k = 1 ∨ k = 2 ∨ k = 4) ∧
        w = if signed then word (codeOf 32 (signedOf (8 * k) (leNat (s.memBytes (s.dataAddr c f) k))))
          else word (leNat (s.memBytes (s.dataAddr c f) k)) := by
      rcases hi with ⟨rfl, rfl, rfl⟩ | ⟨rfl, rfl, rfl⟩ | ⟨rfl, rfl, rfl⟩ | ⟨rfl, rfl, rfl⟩ | ⟨rfl, rfl, rfl⟩
      · exact ⟨false, rfl, by decide, rfl⟩
      · exact ⟨false, rfl, by decide, rfl⟩
      · exact ⟨false, rfl, by decide, rfl⟩
      · exact ⟨true, rfl, by decide, by rw [if_pos rfl, word_codeOf, signedOf_eq_toInt _ _ (by decide)]; rfl⟩
      · exact ⟨true, rfl, by decide, by rw [if_pos rfl, word_codeOf, signedOf_eq_toInt _ _ (by decide)]; rfl⟩
    obtain ⟨signed, hexec, hk, rfl⟩ := hexec
    exact core_step hexec (loadInstr_took h (load_ram hb hram hk hx he))
  case store =>
    intro c f s i a k h hb ha hram hx hi
    rw [← dataAddr_eq] at ha
    subst ha
    have hexec : exec i s = ok s (storeInstr c f k s) ∧ (k = 4 ∨ s.eccBad (s.dataAddr c f) = false) := by
      rcases hi with ⟨rfl, rfl⟩ | ⟨rfl, rfl, he⟩ | ⟨rfl, rfl, he⟩
      · exact ⟨rfl, .inl rfl⟩
      · exact ⟨rfl, .inr he⟩
      · exact ⟨rfl, .inr he⟩
    obtain ⟨hexec, he⟩ := hexec
    have htrap : s.accessTrap c [{ addr := s.dataAddr c f, size := k, store := true }] = none :=
      accessTrap_none fun d x hx' => by
        rw [List.mem_singleton.1 hx']
        exact meets_none hb hram hx (he.imp_left fun hk => ⟨rfl, hk⟩) d
    obtain ⟨u, hu, hframe, hmem⟩ := storeBytes_ram (m := coreMaster c) (k := k) (s := s) (s.greg c (opD f)) hram
    rw [storeInstr_stores h htrap hu] at hexec
    obtain ⟨hco, hother, hregs, hsent⟩ := storeFrame_retire (c := c) hframe
    have hmem' : (finish s (retire c u)).mem = (s.memBytesSet (s.dataAddr c f) (leBytes k (s.greg c (opD f)).toNat)).mem := (finish_mem _ _).trans hmem
    have hlen := leBytes_length k (s.greg c (opD f)).toNat
    refine ⟨_, hexec, hco, hother, hregs, hsent, ?_, fun b hb => ?_, fun hwf => ?_⟩
    · have hbytes := memBytes_memBytesSet s (s.dataAddr c f) (leBytes k (s.greg c (opD f)).toNat)
      rw [hlen] at hbytes
      rw [← hbytes]
      exact List.map_congr_left fun j _ => State.memByte_of_mem hmem' _
    · rw [State.memByte_of_mem hmem']
      exact State.memByte_memBytesSet_outside _ s _ b (by rwa [hlen])
    · rw [memWf, hmem']
      exact State.memBytesSet_wf _ s _ hwf
  case tbl =>
    intro c f s a h hb ha
    rw [← dataAddr_eq] at ha
    subst ha
    refine ⟨fun hlt hf => core_step (ok_of_eq s (tblInstr_took h ?_)) rfl, fun hge => ok_of_eq s (tblInstr_trap h (if_pos hge)),
      fun hlt hf => ok_of_eq s (tblInstr_trap h ?_)⟩
    · exact (if_neg hlt.not_ge).trans ((if_neg (by simp [hb])).trans (if_neg (ne_true_of_eq_false hf)))
    · exact (if_neg hlt.not_ge).trans ((if_neg (by simp [hb])).trans (if_pos hf))
  case traps =>
    intro c f s i a k st h ha hi
    rw [← dataAddr_eq] at ha
    subst ha
    have hexec : ∀ t, s.accessTrap c [{ addr := s.dataAddr c f, size := k, store := st }] = some t →
        exec i s = .next (finish s (takeTrap c t s)) := by
      intro t ht
      rcases hi with ⟨rfl, rfl, rfl⟩ | ⟨rfl, rfl, rfl⟩ | ⟨rfl, rfl, rfl⟩ | ⟨rfl, rfl, rfl⟩ | ⟨rfl, rfl, rfl⟩ | ⟨rfl, rfl, rfl⟩ | ⟨rfl, rfl, rfl⟩ |
        ⟨rfl, rfl, rfl⟩
      iterate 5 exact ok_of_eq s (loadInstr_trap h ht)
      all_goals exact ok_of_eq s (storeInstr_trap h ht)
    refine ⟨fun hal => hexec _ (accessTrap_align ?_), fun hx hn hw => hexec _ (accessTrap_address ?_ ?_)⟩
    · rcases hal with hx | ⟨hst, hk, hlo, hhi⟩
      · simp [State.meets, hx]
      · simp [State.meets, hst, hk, wordOnly, hlo, hhi]
    · have hnarrow : (st && decide (k < 4) && wordOnly (s.dataAddr c f)) = false := by
        cases st with
        | false => rfl
        | true => rcases hw rfl with hk | hwo <;> simp [*]
      simp [State.meets, hx, hnarrow]
    · simp [State.meets, hn]

end Sys2Proof.Machine

/-! # String instructions (15_flilis_core.md, R439, R440) -/

namespace Sys2Proof.Machine

/-! ## Words stored -/

theorem leNat_leBytes (k n : Nat) : leNat (leBytes k n) = n % 256 ^ k := by
  induction k generalizing n with
  | zero => simp [leBytes, leNat, Nat.mod_one]
  | succ k ih => rw [leBytes, leNat, ih, byte, BitVec.toNat_ofNat, Nat.pow_succ' (n := k) (m := 256), Nat.mod_mul]

section

variable {m : Master} {a : Nat} (w : Word) (s : State) (ha : inSram a = true ∨ inRetention a = true)

include ha

theorem dataStore_frame : StoreFrame s (dataStore m a w s) := by
  obtain ⟨hcore, hregs, hsent⟩ := memBytesSet_frame (leBytes 4 w.toNat) s a
  rw [dataStore_ram ha]
  exact ⟨hcore, hregs, hsent⟩

theorem dataStore_mem : (dataStore m a w s).mem = (s.memBytesSet a (leBytes 4 w.toNat)).mem := by
  rw [dataStore_ram ha]
  rfl

theorem dataStore_word : (dataStore m a w s).memWord a = w := by
  have hbytes := memBytes_memBytesSet s a (leBytes 4 w.toNat)
  rw [leBytes_length] at hbytes
  have hread : (dataStore m a w s).memBytes a 4 = leBytes 4 w.toNat :=
    (List.map_congr_left fun j _ => State.memByte_of_mem (dataStore_mem w s ha) _).trans hbytes
  have hlt := w.isLt
  rw [State.memWord, hread, leNat_leBytes]
  apply BitVec.eq_of_toNat_eq
  rw [word_toNat]
  omega

theorem dataStore_outside {b : Nat} (hb : b < a ∨ a + 4 ≤ b) : (dataStore m a w s).memByte b = s.memByte b := by
  rw [State.memByte_of_mem (dataStore_mem w s ha)]
  exact State.memByte_memBytesSet_outside _ s a b (by rwa [leBytes_length])

end

/-! ## Elements (R439) -/

section

variable {s u : State} {c : Nat}

theorem element_made {accs : Core → List Access} {make : State → State} (h : s.accessTrap c (accs (s.co c)) = none) :
    element c accs make s = .ok (make s) := by rw [element, h]

theorem stepPtrs_eq (src dst back : Bool) : stepPtrs c src dst back s = s.setCo c { s.co c with
    sptr := if src then strStep back (s.co c).sptr else (s.co c).sptr, dptr := if dst then strStep back (s.co c).dptr else (s.co c).dptr } := rfl

/-- A word that an element may reach: aligned, in SRAM. -/
def inWords (p : Nat) : Prop := inSram p = true ∧ p % 4 = 0

variable (hb : (s.co c).app = false)

include hb

theorem meets_rdAcc {p : Word} (hp : inWords p.toNat) (he : s.eccBad p.toNat = false) (k : DataCause) : s.meets c (rdAcc p) k = false :=
  meets_none hb (.inl hp.1) hp.2 (.inr he) k

theorem meets_wrAcc {p : Word} (hp : inWords p.toNat) (k : DataCause) : s.meets c (wrAcc p) k = false :=
  meets_none hb (.inl hp.1) hp.2 (.inl ⟨rfl, rfl⟩) k

section

variable {back : Bool} (hp : inWords (s.co c).sptr.toNat) (he : s.eccBad (s.co c).sptr.toNat = false) (hq : inWords (s.co c).dptr.toNat)
  (hf : s.eccBad (s.co c).dptr.toNat = false)

include hq in
/-- A fill stores G at DPTR. -/
theorem elemFill_made (g : Nat) : elemFill c g back s =
    .ok ((dataStore (coreMaster c) (s.co c).dptr.toNat (s.greg c g) s).setCo c { s.co c with dptr := strStep back (s.co c).dptr }) := by
  have hnone : s.accessTrap c [wrAcc (s.co c).dptr] = none := accessTrap_none fun k x hx => by
    rw [List.mem_singleton.1 hx]
    exact meets_wrAcc hb hq k
  have hco := (dataStore_frame (m := coreMaster c) (s.greg c g) s (.inl hq.1)).co c
  unfold elemFill
  rw [element_made hnone, stepPtrs_eq, hco]
  rfl

include hp he hq in
/-- A copy stores the word at SPTR at DPTR. -/
theorem elemCopy_made : elemCopy c back s = .ok ((dataStore (coreMaster c) (s.co c).dptr.toNat (s.memWord (s.co c).sptr.toNat) s).setCo c
    { s.co c with sptr := strStep back (s.co c).sptr, dptr := strStep back (s.co c).dptr }) := by
  have hnone : s.accessTrap c [rdAcc (s.co c).sptr, wrAcc (s.co c).dptr] = none := accessTrap_none fun k x hx => by
    rcases List.mem_pair.1 hx with rfl | rfl
    · exact meets_rdAcc hb hp he k
    · exact meets_wrAcc hb hq k
  have hco := (dataStore_frame (m := coreMaster c) (s.memWord (s.co c).sptr.toNat) s (.inl hq.1)).co c
  unfold elemCopy
  rw [element_made hnone, dataLoad_ram (.inl hp.1), stepPtrs_eq, hco]
  rfl

include hp he in
/-- BGET loads G from SPTR. -/
theorem elemGet_made (g : Nat) : elemGet c g back s = .ok (s.setCo c { s.co c with
    g := tabSet 0 (s.co c).g g (s.memWord (s.co c).sptr.toNat), sptr := strStep back (s.co c).sptr }) := by
  have hnone : s.accessTrap c [rdAcc (s.co c).sptr] = none := accessTrap_none fun k x hx => by
    rw [List.mem_singleton.1 hx]
    exact meets_rdAcc hb hp he k
  unfold elemGet
  rw [element_made hnone, dataLoad_ram (.inl hp.1), stepPtrs_eq, setG_eq, State.co_setCo_same, State.setCo_setCo]
  rfl

include hp he hq hf in
/-- BCMP compares the words at SPTR and DPTR. -/
theorem elemCompare_made : elemCompare c back s = .ok (s.setCo c { s.co c with
    stat := putFlags (s.co c).stat (compareFlags (s.memWord (s.co c).sptr.toNat) (s.memWord (s.co c).dptr.toNat))
    sptr := strStep back (s.co c).sptr, dptr := strStep back (s.co c).dptr }) := by
  have hnone : s.accessTrap c [rdAcc (s.co c).sptr, rdAcc (s.co c).dptr] = none := accessTrap_none fun k x hx => by
    rcases List.mem_pair.1 hx with rfl | rfl
    · exact meets_rdAcc hb hp he k
    · exact meets_rdAcc hb hq hf k
  unfold elemCompare
  rw [element_made hnone]
  simp only [dataLoad_ram (.inl hp.1 : _ ∨ inRetention _ = true), dataLoad_ram (.inl hq.1 : _ ∨ inRetention _ = true), stepPtrs_eq, setFlags,
    State.co_setCo_same, State.setCo_setCo]
  rfl

include hq hf in
/-- BFND compares G with the word at DPTR. -/
theorem elemFind_made (g : Nat) : elemFind c g back s = .ok (s.setCo c { s.co c with
    stat := putFlags (s.co c).stat (compareFlags (s.greg c g) (s.memWord (s.co c).dptr.toNat)), dptr := strStep back (s.co c).dptr }) := by
  have hnone : s.accessTrap c [rdAcc (s.co c).dptr] = none := accessTrap_none fun k x hx => by
    rw [List.mem_singleton.1 hx]
    exact meets_rdAcc hb hq hf k
  unfold elemFind
  rw [element_made hnone]
  simp only [dataLoad_ram (.inl hq.1 : _ ∨ inRetention _ = true), stepPtrs_eq, setFlags, State.co_setCo_same, State.setCo_setCo]
  rfl

end

end

/-! ## One element, and runs (R439) -/

section

variable {s u : State} {c n : Nat} {f : BitVec 24} {undef : Bool} {elem : Bool → State → Except Trap State} (h : fetches s c) (hu : undef = false)

include h hu

/-- With REP 0 one element is made. -/
theorem strInstr_once (hrep : opSel f % 4 = 0) (he : elem (bitOf (opSel f) 2) s = .ok u) : strInstr c f undef n elem s = retire c u := by
  unfold strInstr
  refine instr_ok h hu ?_
  simp only [hrep, he]
  rfl

theorem strInstr_run (hrep : opSel f % 4 ≠ 0) :
    strInstr c f undef n elem s = strRun c (opSel f % 4) (elem (bitOf (opSel f) 2)) n s := by
  unfold strInstr
  refine instr_ok h hu ?_
  simp only [if_neg hrep]

/-- A run with CNT 0 makes no element. -/
theorem strInstr_none (hrep : opSel f % 4 = 1) (hc : (s.co c).cnt = 0) : strInstr c f undef n elem s = s.setCo c (s.co c).gone := by
  rw [strInstr_run h hu (by omega)]
  cases n with
  | zero => exact (if_pos hc).trans retire_eq
  | succ n => exact (if_pos hc).trans retire_eq

end

/-- What a string instruction that stores `k` words leaves. -/
structure Stored (s u : State) (c : Nat) (x : Core) (q k : Nat) (w : Word) : Prop where
  co : u.co c = x
  regs : u.regs = s.regs
  sent : u.sent = s.sent
  words : ∀ j < k, u.memWord (q + 4 * j) = w
  outside : ∀ b, b < q ∨ q + 4 * k ≤ b → u.memByte b = s.memByte b

/-- One word stored. -/
theorem stored_one {s : State} {c q : Nat} {x : Core} {m : Master} {w : Word} (hq : inSram q = true) :
    Stored s ((dataStore m q w s).setCo c x) c x q 1 w := by
  have hram : inSram q = true ∨ inRetention q = true := .inl hq
  have hframe := dataStore_frame (m := m) w s hram
  refine ⟨State.co_setCo_same _ _ _, hframe.regs, hframe.sent, fun j hj => ?_, fun b hb => dataStore_outside w s hram hb⟩
  obtain rfl : j = 0 := by omega
  exact dataStore_word w s hram

theorem memWord_congr {s t : State} {a : Nat} (h : ∀ i < 4, t.memByte (a + i) = s.memByte (a + i)) : t.memWord a = s.memWord a := by
  rw [State.memWord, State.memWord, memBytes_four, memBytes_four, h 1 (by decide), h 2 (by decide), h 3 (by decide)]
  exact congrArg (fun b : Byte => word (leNat [b, s.memByte (a + 1), s.memByte (a + 2), s.memByte (a + 3)])) (h 0 (by decide))

/-- A fill that has the time for its CNT words stores them all, by induction on CNT. -/
theorem fill_stored {c g : Nat} : ∀ (k n q : Nat) (s : State), (s.co c).app = false → (s.co c).dptr.toNat = q → (s.co c).cnt.toNat = k → k ≤ n →
    q % 4 = 0 → 0x20000000 ≤ q → q + 4 * k ≤ 0x20200000 →
    Stored s (strRun c 1 (elemFill c g false) n s) c { (s.co c).gone with cnt := 0, dptr := (s.co c).dptr + word (4 * k) } q k (s.greg c g) := by
  intro k
  induction k with
  | zero =>
    intro n q s _ _ hc _ _ _ _
    have hcnt : (s.co c).cnt = 0 := BitVec.eq_of_toNat_eq hc
    have hrun : strRun c 1 (elemFill c g false) n s = s.setCo c (s.co c).gone := by cases n <;> exact (if_pos hcnt).trans retire_eq
    have hdptr : (s.co c).dptr + word (4 * 0) = (s.co c).dptr := BitVec.add_zero _
    rw [hrun, hdptr, ← hcnt]
    exact ⟨State.co_setCo_same _ _ _, rfl, rfl, fun j hj => absurd hj (Nat.not_lt_zero j), fun b _ => rfl⟩
  | succ k ih =>
    intro n q s hb hq hc hn h4 hlo hhi
    obtain ⟨n, rfl⟩ : ∃ m, n = m + 1 := ⟨n - 1, by omega⟩
    have hcnt : (s.co c).cnt ≠ 0 := fun h0 => by simp [h0] at hc
    have hsram : inSram q = true := by simp only [inSram, decide_eq_true_eq]; omega
    obtain ⟨v, hv⟩ : ∃ v, v = (dataStore (coreMaster c) q (s.greg c g) s).setCo c
      { s.co c with dptr := (s.co c).dptr + 4, cnt := (s.co c).cnt - 1 } := ⟨_, rfl⟩
    have hone : Stored s v c { s.co c with dptr := (s.co c).dptr + 4, cnt := (s.co c).cnt - 1 } q 1 (s.greg c g) := hv ▸ stored_one hsram
    have hrun : strRun c 1 (elemFill c g false) (n + 1) s = strRun c 1 (elemFill c g false) n v := by
      refine (if_neg hcnt).trans ?_
      rw [elemFill_made hb (back := false) (by rw [hq]; exact ⟨hsram, h4⟩) g, hq]
      simp only [State.co_setCo_same, State.setCo_setCo]
      rw [if_neg (by omega), hv]
      rfl
    have hcnt' : (v.co c).cnt.toNat = k := by
      rw [hone.co, BitVec.toNat_sub]
      have hlt := (s.co c).cnt.isLt
      have hword : (1 : Word).toNat = 1 := rfl
      omega
    have hdptr' : (v.co c).dptr.toNat = q + 4 := by
      have hword : (4 : Word).toNat = 4 := rfl
      rw [hone.co, BitVec.toNat_add, hq]
      omega
    have hrest := ih n (q + 4) v (by rw [hone.co]; exact hb) hdptr' hcnt' (by omega) (by omega) (by omega) (by omega)
    have hreg : v.greg c g = s.greg c g := by rw [State.greg, hone.co, State.greg]
    rw [hreg] at hrest
    rw [hrun]
    refine ⟨hrest.co.trans ?_, hrest.regs.trans hone.regs, hrest.sent.trans hone.sent, fun j hj => ?_, fun b hbyte => ?_⟩
    · have hend : (s.co c).dptr + 4 + word (4 * k) = (s.co c).dptr + word (4 * (k + 1)) := by
        apply BitVec.eq_of_toNat_eq
        have hword : (4 : Word).toNat = 4 := rfl
        simp only [BitVec.toNat_add, word_toNat]
        omega
      rw [hone.co]
      simp only [hend, Core.gone]
    · cases j with
      | zero =>
        have hfirst := hone.words 0 (by decide)
        rw [← hfirst]
        exact memWord_congr fun i hi => hrest.outside _ (.inl (by omega))
      | succ j => exact (congrArg _ (by omega)).trans (hrest.words j (by omega))
    · exact (hrest.outside b (by omega)).trans (hone.outside b (by omega))

/-- A core goes on after its words are stored. -/
theorem stored_retire {s u : State} {c q k : Nat} {x : Core} {w : Word} (h : Stored s u c x q k w) : Stored s (retire c u) c x.gone q k w :=
  ⟨by rw [retire_eq, State.co_setCo_same, h.co], h.regs, h.sent, h.words, h.outside⟩

theorem strStep_eq {f : BitVec 24} (h : opSel f = 0 ∨ opSel f = 4) (p : Word) :
    strStep (bitOf (opSel f) 2) p = if opSel f = 0 then p + 4 else p - 4 := by
  rcases h with h | h <;> rw [h] <;> rfl

/-- Settles O45, clause by clause: BSET, one element, runs without an element, and the run of a fill by induction on its count. -/
theorem stringInstructions : Obligations.StringInstructions := by
  refine ⟨?bset, ?one, ?none, ?fill⟩
  case bset => exact fun c f s h hr => core_step rfl ((simple_retires h (rsvA_eq_false hr)).trans retire_setCo)
  case one =>
    rintro c f n _ _ s u v h hb hr hsel rfl rfl hps hqs hp4 hq4 he hf hu hv
    have hrep : opSel f % 4 = 0 := by rcases hsel with h | h <;> rw [h]
    have hundef : ∀ compares, rsvString f compares = false := fun compares => by
      rcases hsel with h | h <;> simp [rsvString, rsvE_eq_false hr, h]
    rw [← strStep_eq hsel] at hu hv
    subst hu hv
    have hstored : ∀ (i : Instr) {t : State} {x : Core} {w : Word}, exec i s = .next (finish s (retire c t)) → Stored s t c x (s.co c).dptr.toNat 1 w →
        ∃ t, exec i s = .next t ∧ t.co c = x.gone ∧ regsSame s t ∧ sends s t [] ∧ t.memWord (s.co c).dptr.toNat = w ∧
          ∀ b, b < (s.co c).dptr.toNat ∨ (s.co c).dptr.toNat + 4 ≤ b → t.memByte b = s.memByte b := by
      intro i t x w hexec hst
      obtain ⟨hco, hregs, hsent, hwords, hout⟩ := stored_retire hst
      have hmem : (finish s (retire c t)).mem = (retire c t).mem := finish_mem _ _
      refine ⟨_, hexec, (co_finish _ _ _).trans hco, regsSame_finish hregs, sends_finish hsent, ?_, fun b hb => ?_⟩
      · exact (memWord_congr fun i _ => State.memByte_of_mem hmem _).trans (hwords 0 (by decide))
      · exact (State.memByte_of_mem hmem b).trans (hout b hb)
    refine ⟨fun hd => ?_, ?_, ?_, fun hd => ?_, ?_⟩
    · exact hstored (.bcpy c f n) (ok_of_eq s (strInstr_once h (by rw [hundef, hd]; rfl) hrep (elemCopy_made hb ⟨hps, hp4⟩ he ⟨hqs, hq4⟩))) (stored_one hqs)
    · exact hstored (.bfil c f n) (ok_of_eq s (strInstr_once h (hundef _) hrep (elemFill_made hb ⟨hqs, hq4⟩ _))) (stored_one hqs)
    · exact core_step rfl ((strInstr_once h (hundef _) hrep (elemGet_made hb ⟨hps, hp4⟩ he _)).trans retire_setCo)
    · exact core_step rfl ((strInstr_once h (by rw [hundef, hd]; rfl) hrep (elemCompare_made hb ⟨hps, hp4⟩ he ⟨hqs, hq4⟩ hf)).trans retire_setCo)
    · exact core_step rfl ((strInstr_once h (hundef _) hrep (elemFind_made hb ⟨hqs, hq4⟩ hf _)).trans retire_setCo)
  case none =>
    intro c f n s i h hc hrep hundef hi
    have hcompare : rsvString f true = false := by
      simp only [rsvString, Bool.or_eq_false_iff] at hundef ⊢
      exact ⟨hundef.1, rfl⟩
    rcases hi with ⟨rfl, hd⟩ | rfl | rfl | ⟨rfl, hd⟩ | rfl
    · exact core_step rfl (strInstr_none h (by simp [hundef, hd]) hrep hc)
    · exact core_step rfl (strInstr_none h hundef hrep hc)
    · exact core_step rfl (strInstr_none h hundef hrep hc)
    · exact core_step rfl (strInstr_none h (by simp [hcompare, hd]) hrep hc)
    · exact core_step rfl (strInstr_none h hcompare hrep hc)
  case fill =>
    rintro c f n _ _ s h hb hr hsel rfl rfl hn h4 hq hhi
    have hundef : rsvString f false = false := by simp [rsvString, rsvE_eq_false hr, hsel]
    have hlo : 0x20000000 ≤ (s.co c).dptr.toNat := by simp only [inSram, decide_eq_true_eq] at hq; exact hq.1
    obtain ⟨hco, hregs, hsent, hwords, hout⟩ := fill_stored (g := opD f) _ n _ s hb rfl rfl hn h4 hlo hhi
    have hrun : strInstr c f (rsvString f false) n (elemFill c (opD f)) s = strRun c 1 (elemFill c (opD f) false) n s := by
      rw [strInstr_run h hundef (by rw [hsel]; decide), hsel]
      rfl
    have hmem := finish_mem s (strRun c 1 (elemFill c (opD f) false) n s)
    refine ⟨_, ok_of_eq s hrun, (co_finish _ _ _).trans hco, regsSame_finish hregs, sends_finish hsent, fun j hj => ?_, fun b hb => ?_⟩
    · exact (memWord_congr fun i _ => State.memByte_of_mem hmem _).trans (hwords j hj)
    · exact (State.memByte_of_mem hmem b).trans (hout b hb)

end Sys2Proof.Machine

/-! # I/O instructions, special registers and the return stack (15_flilis_core.md, R427, R434, R436, R444, R450) -/

namespace Sys2Proof.Machine

/-! ## I/O instructions (R436, R449) -/

section

variable {s : State} {c a : Nat}

theorem ioTrapOf_none (hp : (s.co c).app = false ∨ s.iopmPermits c a = true) (ha : (regAt a).isSome = true) : s.ioTrapOf c a = none := by
  have hopen : ¬ ((s.co c).app && ! s.iopmPermits c a) = true := by rcases hp with h | h <;> simp [h]
  exact (if_neg hopen).trans (if_neg (by simpa [Option.isSome_iff_ne_none] using ha))

theorem ioTrapOf_perm (hb : (s.co c).app = true) (hp : s.iopmPermits c a = false) : s.ioTrapOf c a = some { code := 0x03, addr := a } :=
  if_pos (by simp [hb, hp])

theorem ioTrapOf_addr (hp : (s.co c).app = false ∨ s.iopmPermits c a = true) (ha : regAt a = none) :
    s.ioTrapOf c a = some { code := 0x02, addr := a } := by
  have hopen : ¬ ((s.co c).app && ! s.iopmPermits c a) = true := by rcases hp with h | h <;> simp [h]
  exact (if_neg hopen).trans (if_pos (by rw [ha]; rfl))

end

section

variable {s : State} {c : Fin 4} {f : BitVec 24} {undef : Bool} {a : State → Nat} (h : fetches s c) (hu : undef = false)

include h hu

theorem inInstr_reads (ht : s.ioTrapOf c (a s) = none) :
    inInstr c f undef a s = retire c (setG c (opD f) (inRead (.core c) (a s) s).1 (inRead (.core c) (a s) s).2) := by
  unfold inInstr
  refine instr_ok h hu ?_
  simp only [ht]

theorem inInstr_trap {t : Trap} (ht : s.ioTrapOf c (a s) = some t) : inInstr c f undef a s = takeTrap c t s := by
  unfold inInstr
  refine instr_trap h hu ?_
  simp only [ht]

theorem outInstr_writes (ht : s.ioTrapOf c (a s) = none) :
    outInstr c f undef a s = retire c (crossWrite (.core c) (a s) (s.greg c (opD f)) s) := by
  unfold outInstr
  refine instr_ok h hu ?_
  simp only [ht]

theorem outInstr_trap {t : Trap} (ht : s.ioTrapOf c (a s) = some t) : outInstr c f undef a s = takeTrap c t s := by
  unfold outInstr
  refine instr_trap h hu ?_
  simp only [ht]

end

/-! ## Crossings (R24 to R26, R436) -/

section

variable {s : State} {m : Master} {a : Nat} {w : Word}

/-- A write enters a queue that has room. -/
theorem crossPush_room {e : Transit} (h : (s.crossingQ e.cross e.highway).length < crossingSize e.cross) :
    crossPush e s = { s with transit := s.transit ++ [e] } := by
  have hroom : crossRoom e.cross e.highway s = s := by
    unfold crossRoom
    split
    · next t l hq => exact if_pos (by rw [hq] at h; exact h)
    · rfl
  rw [crossPush, hroom]

theorem crossWrite_unit {k : Crossing} {r : Reg} {n : Nat} (hk : (unitOf a).bind crossingOf = some k) (hr : regAt a = some (r, n)) :
    crossWrite m a w s = crossPush { cross := k, highway := r.highway, master := m, addr := a, value := w } s := by rw [crossWrite, hk, hr]

/-- A write to a unit of the Core domain has its effect at once. -/
theorem crossWrite_core (hk : (unitOf a).bind crossingOf = none) : crossWrite m a w s = accInputs s (ioWrite m a w s) := by
  unfold crossWrite
  rw [hk]

/-- With nothing in a crossing there is nothing to wait for. -/
theorem drainAll_empty (h : s.transit = []) : drainAll m s = s := by
  have hempty : ∀ k b, s.crossingQ k b = [] := fun k b => by rw [State.crossingQ, h]; rfl
  have hdrain : ∀ k, crossingDrain k (fun e => e.master == m) s = s := fun k => by
    simp only [crossingDrain, hempty, ite_self]
    rfl
  exact foldl_unchanged fun k _ => hdrain k

end

/-- A core that goes on from a state in which only what is in the crossings changed. -/
theorem coreOnly_retire {s u : State} {c : Nat} (h : StoreFrame s u) (hm : u.mem = s.mem) : coreOnly s (finish s (retire c u)) c (s.co c).gone := by
  obtain ⟨hco, hother, hregs, hsent⟩ := storeFrame_retire (c := c) h
  exact ⟨hco, hother, hregs, memSame_finish hm, hsent⟩

/-! ## Special registers (R427, R450) -/

section

variable {s : State} {c : Nat} {f : BitVec 24} (h : fetches s c) (hr : bitsOf f.toNat 8 12 = 0)

include h hr

theorem mfsInstr_took {w : Word} (hw : specialRead c (opSel f) s = some (w, s)) : mfsInstr c f s = s.setCo c ((s.co c).took (opD f) w) := by
  unfold mfsInstr
  refine instr_ok h (rsvE_eq_false hr) ?_
  simp only [hw]
  exact congrArg Except.ok retire_setG

theorem mtsInstr_gone {x : Core} (h9 : opSel f ≤ 9) (hp : (s.co c).app = false) (hx : specialWrite c (opSel f) (s.greg c (opD f)) s = s.setCo c x) :
    mtsInstr c f s = s.setCo c x.gone := by
  unfold mtsInstr
  refine instr_ok h (by simp [rsvE_eq_false hr, h9]) ((if_neg (by simp [mtsPriv, hp])).trans ?_)
  rw [hx, retire_setCo]

theorem mtsInstr_priv (hp : (s.co c).app = true) (hs : opSel f = 8 ∨ opSel f = 9) : mtsInstr c f s = takeTrap c (s.trapHere c 0x0A) s := by
  unfold mtsInstr
  refine instr_trap h ?_ (if_pos ?_)
  · rcases hs with hs | hs <;> simp [rsvE_eq_false hr, hs]
  · rcases hs with hs | hs <;> simp [mtsPriv, hp, hs]

end

/-! ## The return stack (R444) -/

/-- A core whose return stack has taken a value. -/
def Core.pushed (x : Core) (v : Nat) : Core :=
  { x with stack := tabSet 0 x.stack x.sp (v % 2 ^ 24), sp := (x.sp + 1) % 16, depth := x.depth + 1 }

/-- A core whose return stack has given its top. -/
def Core.popped (x : Core) : Core := { x with sp := (x.sp + 15) % 16, depth := x.depth - 1 }

section

variable {s : State} {c : Nat}

theorem stackPush_room {v : Nat} (h : (s.co c).depth < 16) : stackPush c v s = .ok (s.setCo c ((s.co c).pushed v)) := if_pos h

theorem stackPush_full {v : Nat} (h : 16 ≤ (s.co c).depth) (ht : s.stackTraps c = true) : stackPush c v s = .error (s.trapHere c 0x08) :=
  (if_neg h.not_gt).trans (if_pos ht)

theorem stackPush_wraps {v : Nat} (h : 16 ≤ (s.co c).depth) (ht : s.stackTraps c = false) : stackPush c v s =
    .ok ((s.setCo c { s.co c with stack := tabSet 0 (s.co c).stack (s.co c).sp (v % 2 ^ 24), sp := ((s.co c).sp + 1) % 16 }).setB F.CORE_RSD_OVF
      (coreIx c 0) true) := (if_neg h.not_gt).trans (if_neg (by simp [ht]))

theorem stackPop_some (h : 0 < (s.co c).depth) :
    stackPop c s = .ok (tabGet 0 (s.co c).stack (((s.co c).sp + 15) % 16), s.setCo c (s.co c).popped) := if_pos h

theorem stackPop_empty (h : (s.co c).depth = 0) (ht : s.stackTraps c = true) : stackPop c s = .error (s.trapHere c 0x08) :=
  (if_neg (by omega)).trans (if_pos ht)

end

theorem rsvESel_eq_false {f : BitVec 24} (h : bitsOf f.toNat 0 20 = 0) : rsvESel f = false := by
  have hfields : bitsOf f.toNat 8 12 = 0 ∧ bitsOf f.toNat 0 8 = 0 := by
    simp only [bitsOf] at h ⊢
    omega
  simp [rsvESel, rsvE, opSel, hfields]

section

variable {s : State} {c : Fin 4} {f : BitVec 24} (h : fetches s c) (hr : bitsOf f.toNat 0 20 = 0)

include h hr

theorem exec_rspush_ok {u : State} (hp : stackPush c (s.greg c (opD f)).toNat s = .ok u) : exec (.rspush c f) s = .next (finish s (retire c u)) := by
  refine ok_of_eq s (instr_ok h (rsvESel_eq_false hr) ?_)
  simp only [hp]
  rfl

theorem exec_rspush_trap {t : Trap} (hp : stackPush c (s.greg c (opD f)).toNat s = .error t) :
    exec (.rspush c f) s = .next (finish s (takeTrap c t s)) := by
  refine ok_of_eq s (instr_trap h (rsvESel_eq_false hr) ?_)
  simp only [hp]
  rfl

theorem exec_rspop_ok {v : Nat} {u : State} (hp : stackPop c s = .ok (v, u)) :
    exec (.rspop c f) s = .next (finish s (retire c (setG c (opD f) (word v) u))) := by
  refine ok_of_eq s (instr_ok h (rsvESel_eq_false hr) ?_)
  simp only [hp]
  rfl

theorem exec_rspop_trap {t : Trap} (hp : stackPop c s = .error t) : exec (.rspop c f) s = .next (finish s (takeTrap c t s)) := by
  refine ok_of_eq s (instr_trap h (rsvESel_eq_false hr) ?_)
  simp only [hp]
  rfl

end

/-- Settles O46, clause by clause: I/O instructions and IOS, special registers, and the return stack. -/
theorem ioAndSpecialRegisters : Obligations.IoAndSpecialRegisters := by
  refine ⟨?io, ?ios, ?mfs, ?mts, ?priv, ?stack⟩
  case io =>
    intro c f s i o a h hi
    have hexec : ∃ (undef : Bool) (at_ : State → Nat), undef = false ∧ at_ s = a ∧ exec i s = ok s (inInstr c f undef at_ s) ∧
        exec o s = ok s (outInstr c f undef at_ s) := by
      rcases hi with ⟨rfl, rfl, ha, rfl⟩ | ⟨rfl, rfl, rfl⟩
      · refine ⟨rsvGA f, fun _ => (immZ f).toNat, by simp [rsvGA, ha], ?_, rfl, rfl⟩
        dsimp only
        rw [immZ_eq, word_toNat]
        omega
      · refine ⟨false, ioIndexed c f, rfl, ?_, rfl, rfl⟩
        rw [ioIndexed, immZ_eq, BitVec.toNat_add, word_toNat]
        omega
    obtain ⟨undef, at_, hu, rfl, hin, hout⟩ := hexec
    refine ⟨fun hp ha => ?_, fun hb hp => ?_, fun hp ha => ?_⟩
    · have htrap := ioTrapOf_none hp ha
      rw [inInstr_reads h hu htrap] at hin
      rw [outInstr_writes h hu htrap] at hout
      refine ⟨hin, fun r n k hr hk hroom => ?_, fun hk => ?_⟩
      · rw [crossWrite_unit hk hr, crossPush_room hroom] at hout
        exact ⟨_, hout, coreOnly_retire ⟨rfl, rfl, rfl⟩ rfl, finish_transit _ _⟩
      · rwa [crossWrite_core hk] at hout
    · have htrap := ioTrapOf_perm hb hp
      exact ⟨hin.trans (ok_of_eq s (inInstr_trap h hu htrap)), hout.trans (ok_of_eq s (outInstr_trap h hu htrap))⟩
    · have htrap := ioTrapOf_addr hp ha
      exact ⟨hin.trans (ok_of_eq s (inInstr_trap h hu htrap)), hout.trans (ok_of_eq s (outInstr_trap h hu htrap))⟩
  case ios =>
    intro c s h
    have hexec : exec (.ios c 0) s = .next (finish s (retire c (drainAll (.core c) s))) := ok_of_eq s (simple_retires h rfl)
    exact ⟨hexec, fun ht => core_step hexec (by rw [drainAll_empty ht, retire_eq])⟩
  case mfs =>
    intro c f s w h hr hw
    refine core_step rfl (mfsInstr_took h hr ?_)
    rcases hw with ⟨hs, rfl⟩ | ⟨hs, rfl⟩ | ⟨hs, rfl⟩ | ⟨hs, rfl⟩ | ⟨hs, rfl⟩ | ⟨hs, rfl⟩ | ⟨hs, rfl⟩ | ⟨hs, rfl⟩ | ⟨hs, rfl⟩ | ⟨hs, rfl⟩ | ⟨h1, h9, hw⟩
    iterate 10 (rw [hs]; rfl)
    have hset : shadowAt (s.co c).lvl = true := by simp [shadowAt, h1, h9]
    rcases hw with ⟨hs, rfl⟩ | ⟨hs, rfl⟩
    · rw [hs]
      simp only [specialRead, State.shadow, hset, if_true]
    · rw [hs]
      simp only [specialRead, State.shadow, hset, if_true]
  case mts =>
    intro c f s w x h hr hw hp hx
    subst hw
    have hspecial : opSel f ≤ 9 ∧ specialWrite c (opSel f) (s.greg c (opD f)) s = s.setCo c x := by
      rcases hx with ⟨hs, rfl⟩ | ⟨hs, rfl⟩ | ⟨hs, rfl⟩ | ⟨hs, rfl⟩ | ⟨hs, rfl⟩ | ⟨hs, rfl⟩ | ⟨hs, rfl⟩ | ⟨hs, rfl⟩
      all_goals exact ⟨by omega, by rw [hs]; rfl⟩
    exact core_step rfl (mtsInstr_gone h hr hspecial.1 hp hspecial.2)
  case priv => exact fun c f s h hr hp hs => ok_of_eq s (mtsInstr_priv h hr hp hs)
  case stack =>
    intro c f s h hr
    refine ⟨fun hd => core_step (exec_rspush_ok h hr (stackPush_room hd)) retire_setCo, fun hd => core_step (exec_rspop_ok h hr (stackPop_some hd)) ?_,
      fun hd ht => exec_rspush_trap h hr (stackPush_full hd ht), fun hd ht => exec_rspop_trap h hr (stackPop_empty hd ht), fun hd ht => ?_⟩
    · rw [retire_setG, State.co_setCo_same, State.setCo_setCo]
      rfl
    · have hexec := exec_rspush_ok h hr (stackPush_wraps hd ht)
      generalize hx : s.setCo c { s.co c with stack := tabSet 0 (s.co c).stack (s.co c).sp ((s.greg c (opD f)).toNat % 2 ^ 24), sp := ((s.co c).sp + 1) % 16 } = x
        at hexec
      have hregs : regsBut s (x.setB F.CORE_RSD_OVF (coreIx c 0) true) [(.CORE_RSD, coreIx c 0)] :=
        regsBut_setB _ (regsBut_of_regs (regsBut_refl s _) (hx ▸ rfl)) (by simp [F.CORE_RSD_OVF])
      have hdepth : (x.co c).depth = (s.co c).depth := by rw [← hx, State.co_setCo_same]
      have hco : (x.setB F.CORE_RSD_OVF (coreIx c 0) true).co c = x.co c := rfl
      refine ⟨_, hexec, ?_, ?_, regsBut_finish (regsBut_of_regs hregs rfl), memSame_finish (hx ▸ rfl)⟩
      · have hregs : (retire c (x.setB F.CORE_RSD_OVF (coreIx c 0) true)).regs = (x.setB F.CORE_RSD_OVF (coreIx c 0) true).regs := rfl
        rw [flag_finish, State.flag_of_regs hregs]
        exact State.flag_setB_eq _ (by decide)
      · rw [co_finish, retire_eq, State.co_setCo_same, Core.gone, hco, hdepth]

end Sys2Proof.Machine

/-! # Jumps, calls, returns and branches (15_flilis_core.md, R434, R435, R444) -/

namespace Sys2Proof.Machine

section

variable {s : State} {c : Nat} {undef : Bool} {target : State → Nat} (h : fetches s c) (hu : undef = false)

include h hu

theorem jump_goes : jump c undef target s = s.setCo c { s.co c with pc := target s % 2 ^ 24 } := instr_ok h hu rfl

theorem call_goes (hd : (s.co c).depth < 16) :
    call c undef target s = s.setCo c { (s.co c).pushed ((s.co c).pc + 1) with pc := target s % 2 ^ 24 } := by
  unfold call
  refine instr_ok h hu ?_
  simp only [stackPush_room hd]
  exact congrArg Except.ok (by rw [setPc_eq, State.co_setCo_same, State.setCo_setCo])

theorem call_traps (hd : 16 ≤ (s.co c).depth) (ht : s.stackTraps c = true) : call c undef target s = takeTrap c (s.trapHere c 0x08) s := by
  unfold call
  refine instr_trap h hu ?_
  simp only [stackPush_full hd ht]
  rfl

end

/-- A branch goes to its target where its condition holds, and on where not. -/
theorem branch_goes {s : State} {c : Nat} {f : BitVec 24} {taken : Bool} (h : fetches s c) (hc : condHolds (opCond f) (flagsOf (s.co c).stat) = some taken) :
    branch c f s = s.setCo c { s.co c with
      pc := if taken then ((((s.co c).pc : Int) + 1 + (BitVec.ofNat 20 f.toNat).toInt) % 2 ^ 24).toNat else ((s.co c).pc + 1) % 2 ^ 24 } := by
  have hoffset : opOffset f = (BitVec.ofNat 20 f.toNat).toInt := signedOf_eq_toInt 20 _ (by decide)
  have hcode : ∀ i : Int, codeOf 24 i % 2 ^ 24 = (i % 2 ^ 24).toNat := fun i => by
    have hnn : 0 ≤ i % 2 ^ 24 := Int.emod_nonneg _ (by decide)
    have hlt : i % 2 ^ 24 < 2 ^ 24 := Int.emod_lt_of_pos _ (by decide)
    rw [codeOf]
    push_cast
    omega
  unfold branch
  simp only [hc]
  rw [jump_goes h rfl, hoffset]
  cases taken with
  | false => rfl
  | true => simp only [if_true, hcode]

theorem branch_undef {s : State} {c : Nat} {f : BitVec 24} (h : fetches s c) (hc : condHolds (opCond f) (flagsOf (s.co c).stat) = none) :
    branch c f s = takeTrap c (s.trapHere c 0x01) s := by
  unfold branch
  simp only [hc]
  exact instr_undef h rfl

theorem condHolds_none {k : Nat} {x : Flags} (h : 9 ≤ k) : condHolds k x = none := by
  obtain ⟨j, rfl⟩ : ∃ j, k = j + 9 := ⟨k - 9, by omega⟩
  rfl

/-- Settles O47, clause by clause: jumps and calls, RET and NOP, and branches. -/
theorem controlFlow : Obligations.ControlFlow := by
  refine ⟨?jumps, ?returns, ?branches, ?noCondition⟩
  case jumps =>
    intro c f s i j a h hi
    have hexec : ∃ (undef : Bool) (target : State → Nat), undef = false ∧ target s % 2 ^ 24 = a ∧
        exec i s = ok s (jump c undef target s) ∧ exec j s = ok s (call c undef target s) := by
      rcases hi with ⟨rfl, rfl, rfl⟩ | ⟨rfl, rfl, hd, hr, rfl⟩
      · exact ⟨false, fun _ => f.toNat, rfl, Nat.mod_eq_of_lt f.isLt, rfl, rfl⟩
      · have hres : (rsvD f || opB f != 0 || rsvA f) = false := by
          have hfields : bitsOf f.toNat 0 12 = 0 ∧ bitsOf f.toNat 12 4 = 0 := by
            simp only [bitsOf] at hr ⊢
            omega
          simp [rsvD, hd, opB, rsvA, hfields]
        exact ⟨_, fun t => (t.greg c (opA f)).toNat, hres, rfl, rfl, rfl⟩
    obtain ⟨undef, target, hu, rfl, hjump, hcall⟩ := hexec
    exact ⟨core_step hjump (jump_goes h hu), fun hd => core_step hcall (call_goes h hu hd),
      fun hd ht => hcall.trans (ok_of_eq s (call_traps h hu hd ht))⟩
  case returns =>
    intro c s h
    refine ⟨fun hd => ?_, fun hd ht => ok_of_eq s (instr_trap h rfl ?_), core_step rfl (simple_retires h rfl)⟩
    · refine core_step rfl (instr_ok h rfl ?_)
      simp only [stackPop_some hd]
      exact congrArg Except.ok (by rw [setPc_eq, State.co_setCo_same, State.setCo_setCo]; rfl)
    · simp only [stackPop_empty hd ht]
      rfl
  case branches =>
    rintro c f s _ _ _ _ taken h rfl rfl rfl rfl hc
    refine core_step rfl (branch_goes (taken := taken) h ?_)
    rcases hc with ⟨hk, rfl⟩ | ⟨hk, rfl⟩ | ⟨hk, rfl⟩ | ⟨hk, rfl⟩ | ⟨hk, rfl⟩ | ⟨hk, rfl⟩ | ⟨hk, rfl⟩ | ⟨hk, rfl⟩ | ⟨hk, rfl⟩
    all_goals rw [hk]; rfl
  case noCondition => exact fun c f s h hk => ok_of_eq s (branch_undef h (condHolds_none hk))

end Sys2Proof.Machine

/-! # Traps, interrupt entries and returns (15_flilis_core.md, R444, R445, R446, R448, R449, R450) -/

namespace Sys2Proof.Machine

/-- A core comes to another state, and no register, byte of data space or frame with it. -/
theorem coreOnly_of {s u : State} {c : Nat} {x : Core} (hc : u.core = (s.setCo c x).core) (hr : u.regs = s.regs) (hm : u.mem = s.mem)
    (hs : u.sent = s.sent) : coreOnly s (finish s u) c x := by
  have hco : ∀ d, (finish s u).co d = (s.setCo c x).co d := fun d => by rw [co_finish, State.co, State.co, hc]
  exact ⟨(hco c).trans (State.co_setCo_same _ _ _), fun d hd => (hco d).trans (State.co_setCo_other _ _ hd), regsSame_finish hr, memSame_finish hm,
    sends_finish hs⟩

/-! ## Entry at a level (R445, R448) -/

/-- A core that enters a level at an address. -/
def Core.entered (x : Core) (lvl pc : Nat) : Core :=
  { x with
    epc := tabSet 0 x.epc lvl x.pc
    estat := tabSet 0 x.estat lvl x.statRead
    stat := putBits (putBits (putBits x.stat 6 4 lvl) 5 1 0) 10 1 0
    pc := pc }

section

variable {s : State} {c : Nat}

theorem enterLevel_eq (lvl vector : Nat) : enterLevel c lvl vector s = s.setCo c ((s.co c).entered lvl ((s.vbase c + vector) % 2 ^ 24)) := rfl

/-- A trap below level 9. -/
theorem takeTrap_enters {t : Trap} (h : (s.co c).lvl ≠ 9) : takeTrap c t s =
    s.setCo c { (s.co c).entered 9 ((s.vbase c + t.code) % 2 ^ 24) with ecause := t.cause, eaddr := word t.addr } := by
  refine (if_neg h).trans ?_
  simp only [enterLevel_eq, State.co_setCo_same, State.setCo_setCo]

/-- A double trap. -/
theorem takeTrap_stops {t : Trap} (h : (s.co c).lvl = 9) :
    takeTrap c t s = (s.setCo c { s.co c with run := .stopped }).raise (132 + c) t.cause.toNat := if_pos h

theorem Trap.cause_plain (code addr sel : Nat) : ({ code := code, addr := addr, sysc := sel } : Trap).cause = word (code + 0x100 * sel) := by
  simp [Trap.cause, b01]

/-- RETI below level 10 restores PC and STAT of its level. -/
theorem leaveLevel_eq (h1 : 1 ≤ (s.co c).lvl) (h9 : (s.co c).lvl ≤ 9) : leaveLevel c s = s.setCo c { s.co c with
    pc := tabGet 0 (s.co c).epc (s.co c).lvl % 2 ^ 24, stat := tabGet 0 (s.co c).estat (s.co c).lvl &&& 0x7EF,
    serving := tabSet 0 (s.co c).serving (s.co c).lvl 0 } := by
  have hset : shadowAt (s.co c).lvl = true := by simp [shadowAt, h1, h9]
  simp only [leaveLevel, State.shadow, hset, if_true, statMask]

/-! ## Interrupt entry (R445, R446) -/

theorem takeInterrupt_none (h : s.coreRuns c = false ∨ (s.co c).ie = false ∨ s.bestLine c = none) : takeInterrupt c s = s := by
  unfold takeInterrupt
  rcases h with h | h | h
  · exact if_pos (by simp [h])
  · exact if_pos (by simp [h])
  · simp only [h, ite_self]

theorem takeInterrupt_enters {i : Nat} (hr : s.coreRuns c = true) (hi : (s.co c).ie = true) (hb : s.bestLine c = some i) :
    takeInterrupt c s = if lineOfUnit i then
        s.setCo c { (s.co c).entered (s.lineLevel i) ((s.vbase c + (0x10 + i)) % 2 ^ 24) with serving := tabSet 0 (s.co c).serving (s.lineLevel i) (i + 1) }
      else (s.setCo c { (s.co c).entered (s.lineLevel i) ((s.vbase c + (0x10 + i)) % 2 ^ 24) with
        serving := tabSet 0 (s.co c).serving (s.lineLevel i) (i + 1) }).withdraw i := by
  have hruns : ¬ (! s.coreRuns c || ! (s.co c).ie) = true := by simp [hr, hi]
  unfold takeInterrupt
  rw [if_neg hruns, hb]
  simp only [enterLevel_eq, State.co_setCo_same, State.setCo_setCo]
  rfl

end

theorem rsvSysc_eq_false {f : BitVec 24} (h : bitsOf f.toNat 8 16 = 0) : (rsvD f || rsvE f) = false := by
  have hfields : bitsOf f.toNat 20 4 = 0 ∧ bitsOf f.toNat 8 12 = 0 := by
    simp only [bitsOf] at h ⊢
    omega
  simp [rsvD, opD, rsvE, hfields]

/-- Settles O48, clause by clause: SYSC and BRK, RETI, and the entry of a line. -/
theorem trapsAndReturns : Obligations.TrapsAndReturns := by
  refine ⟨?trap, ?held, ?reti, ?entry, ?noEntry⟩
  case trap =>
    intro c f s i code sel h hi
    have hexec : exec i s = ok s (takeTrap c { code := code, addr := (s.co c).pc, sysc := sel } s) := by
      rcases hi with ⟨rfl, hr, rfl, rfl⟩ | ⟨rfl, hd, rfl, rfl⟩
      · exact ok_of_eq s (instr_trap h (rsvSysc_eq_false hr) rfl)
      · exact ok_of_eq s (instr_trap h rfl (if_neg (by simp [hd])))
    refine ⟨fun hl => core_step hexec ?_, fun hl => ?_⟩
    · rw [takeTrap_enters hl, Trap.cause_plain]
      rfl
    · rw [takeTrap_stops hl, Trap.cause_plain] at hexec
      refine ⟨_, hexec, coreOnly_of rfl rfl rfl rfl, (finish_raised _ _).trans ?_⟩
      have hword : word (word (code + 0x100 * sel)).toNat = word (code + 0x100 * sel) := BitVec.ofNat_toNat _ _
      rw [State.raise, hword]
      rfl
  case held =>
    intro c s h hd
    exact core_step rfl ((instr_ok h rfl (if_pos hd)).trans retire_eq)
  case reti =>
    intro c s h
    have hundef : ∀ b, ((s.co c).lvl == 0) = b → (rsvAll 0 || (s.co c).lvl == 0) = b := fun b hb => by rw [hb]; cases b <;> rfl
    refine ⟨fun h1 h9 hb => core_step rfl ((instr_ok h (hundef false (by simp; omega)) (if_neg (by simp [hb]))).trans (leaveLevel_eq h1 h9)),
      fun h0 => ok_of_eq s (instr_undef h (hundef true (by simp [h0]))),
      fun h0 hb => ok_of_eq s (instr_trap h (hundef false (by simp [h0])) (if_pos hb))⟩
  case entry =>
    intro c i s hr hi hb
    have hentry := takeInterrupt_enters hr hi hb
    cases hl : lineOfUnit i with
    | true =>
      rw [hl, if_pos rfl] at hentry
      exact ⟨_, ok_of_eq s hentry, coreOnly_finish rfl, nofun, fun _ => finish_irq _ _⟩
    | false =>
      rw [hl, if_neg Bool.false_ne_true] at hentry
      refine ⟨_, ok_of_eq s hentry, coreOnly_of rfl rfl rfl rfl, fun _ => ?_, nofun⟩
      rw [finish_irq]
      exact tabGet_set_same false s.irq i false
  case noEntry => exact fun c s h => ok_of_eq s (takeInterrupt_none h)

end Sys2Proof.Machine

/-! # Events and timed waits (15_flilis_core.md, R441, R442, R443, R446) -/

namespace Sys2Proof.Machine

/-! ## WAITEV (R441) -/

section

variable {s : State} {c g sel : Nat}

theorem waitevRetire_eq : waitevRetire c g sel s =
    (s.setF F.CORE_EVT_EV (coreIx c 0) (s.getF F.CORE_EVT_EV (coreIx c 0) - (s.getF F.CORE_EVT_EV (coreIx c 0) &&& (s.conditions c &&& sel)))).setCo c
      { (s.co c).took g (word (s.conditions c &&& sel)) with wait := .none } := by
  have hco : ∀ v, (s.setF F.CORE_EVT_EV (coreIx c 0) v).co c = s.co c := fun _ => rfl
  unfold waitevRetire
  simp only [setG_eq, State.co_setCo_same, State.setCo_setCo, retire_setCo, hco]
  rfl

/-- What a WAITEV that retires leaves. -/
theorem waitevRetire_frame :
    (finish s (waitevRetire c g sel s)).co c = { (s.co c).took g (word (s.conditions c &&& sel)) with wait := .none } ∧
    (finish s (waitevRetire c g sel s)).getF F.CORE_EVT_EV (coreIx c 0) =
      s.getF F.CORE_EVT_EV (coreIx c 0) - (s.getF F.CORE_EVT_EV (coreIx c 0) &&& (s.conditions c &&& sel)) ∧
    regsBut s (finish s (waitevRetire c g sel s)) [(.CORE_EVT, coreIx c 0)] ∧ memSame s (finish s (waitevRetire c g sel s)) ∧
    sends s (finish s (waitevRetire c g sel s)) [] := by
  have hlt : s.getF F.CORE_EVT_EV (coreIx c 0) < 2 ^ F.CORE_EVT_EV.wd := Nat.mod_lt _ (by decide)
  rw [waitevRetire_eq]
  generalize hv : s.getF F.CORE_EVT_EV (coreIx c 0) - (s.getF F.CORE_EVT_EV (coreIx c 0) &&& (s.conditions c &&& sel)) = v
  refine ⟨?_, ?_, regsBut_finish (regsBut_of_regs (regsBut_setF (f := F.CORE_EVT_EV) v (regsBut_refl s _) (by simp [F.CORE_EVT_EV])) rfl), memSame_finish rfl,
    sends_finish rfl⟩
  · rw [co_finish, State.co_setCo_same]
  · have hregs : ∀ (t : State) x, (t.setCo c x).regs = t.regs := fun _ _ => rfl
    rw [getF_finish, State.getF_of_regs (hregs _ _), State.getF_setF_eq _ (by decide), Nat.mod_eq_of_lt (by omega)]

end

/-! ## SIGEV (R441) -/

/-- SIGNAL sets in the cores of a list that a test names. -/
def signalled (p : Nat → Prop) [DecidablePred p] (l : List Nat) (s : State) : State := l.foldl (fun u k => if p k then coreEvent k 0 u else u) s

theorem coreIx_inj {j k : Nat} (h : coreIx j 0 = coreIx k 0) : j = k := by
  unfold coreIx at h
  omega

theorem coreEvent_flag {j k : Nat} {s : State} (h : j = k ∨ s.flag ⟨.CORE_EVT, 0, 1⟩ (coreIx k 0) = true) :
    (coreEvent j 0 s).flag ⟨.CORE_EVT, 0, 1⟩ (coreIx k 0) = true := by
  by_cases hj : j = k
  · subst hj
    exact State.flag_setB_eq _ (f := ⟨.CORE_EVT, 0, 1⟩) (by decide)
  · refine (State.flag_setB_reg s ⟨.CORE_EVT, 0, 1⟩ _ _ _ true (.inr fun hk => hj (coreIx_inj hk).symm)).trans (h.resolve_left hj)

section

variable {p : Nat → Prop} [DecidablePred p]

theorem signalled_frame (l : List Nat) (s : State) :
    (signalled p l s).core = s.core ∧ (signalled p l s).mem = s.mem ∧ (signalled p l s).sent = s.sent :=
  ⟨foldl_keeps State.core _ (fun _ _ => by split <;> rfl) l s, foldl_keeps State.mem _ (fun _ _ => by split <;> rfl) l s,
    foldl_keeps State.sent _ (fun _ _ => by split <;> rfl) l s⟩

/-- A core that is not named keeps its event bits. -/
theorem signalled_rd {c : Nat} (hc : ¬ p c) (l : List Nat) (s : State) : (signalled p l s).rd .CORE_EVT (coreIx c 0) = s.rd .CORE_EVT (coreIx c 0) := by
  refine foldl_keeps (fun t : State => t.rd .CORE_EVT (coreIx c 0)) _ (fun u k => ?_) l s
  split
  · next hk =>
    refine State.rd_setB_but fun hix => hc ?_
    rw [coreIx_inj (Prod.ext_iff.1 hix).2]
    exact hk
  · rfl

/-- A SIGNAL stays set while others set. -/
theorem signalled_keeps {k : Nat} (l : List Nat) : ∀ s : State, s.flag ⟨.CORE_EVT, 0, 1⟩ (coreIx k 0) = true →
    (signalled p l s).flag ⟨.CORE_EVT, 0, 1⟩ (coreIx k 0) = true := by
  induction l with
  | nil => exact fun _ h => h
  | cons j l ih =>
    refine fun s h => ih _ ?_
    dsimp only
    split
    · exact coreEvent_flag (.inr h)
    · exact h

/-- Each core that is named has SIGNAL set. -/
theorem signalled_flag {k : Nat} (hp : p k) (l : List Nat) : ∀ s : State, k ∈ l → (signalled p l s).flag ⟨.CORE_EVT, 0, 1⟩ (coreIx k 0) = true := by
  induction l with
  | nil => exact fun _ h => absurd h List.not_mem_nil
  | cons j l ih =>
    intro s h
    rcases List.mem_cons.1 h with rfl | h
    · refine signalled_keeps l _ ?_
      dsimp only
      rw [if_pos hp]
      exact coreEvent_flag (.inl rfl)
    · exact ih _ h

end

/-! ## WTU (R442, R443) -/

section

variable {s : State} {c : Nat} {a : Word} {d : Option Nat}

theorem wtuEnd_reached (h : 0 ≤ (word s.short - a).toInt) : s.wtuEnd c a d = some 0 := if_pos (by simpa [State.reached] using h)

variable (h : (word s.short - a).toInt < 0)

include h

theorem wtuEnd_timeout {e : Nat} (he : d = some e ∧ e ≤ s.up) : s.wtuEnd c a d = some 1 := by
  have hnot : ¬ s.reached a = true := by simpa [State.reached] using h
  obtain ⟨rfl, hle⟩ := he
  exact (if_neg hnot).trans (if_pos (by simpa using hle))

theorem wtuEnd_waits (he : ∀ e, d = some e → s.up < e) : s.wtuEnd c a d = if s.coreInterrupted c then some 2 else none := by
  have hnot : ¬ s.reached a = true := by simpa [State.reached] using h
  refine (if_neg hnot).trans (if_neg ?_)
  cases d with
  | none => exact Bool.false_ne_true
  | some e => simpa using he e rfl

end

/-- A limit of 0 is no timeout. -/
theorem wtuDeadline_eq (b : Word) (up : Nat) : (if b = 0 then none else some (up + b.toNat)) = if b.toNat = 0 then none else some (up + b.toNat) := by
  by_cases hb : b = 0
  · rw [if_pos hb, if_pos (by rw [hb]; rfl)]
  · have hpos : ¬ b.toNat = 0 := fun h0 => hb (BitVec.eq_of_toNat_eq h0)
    rw [if_neg hb, if_neg hpos]

section

variable {s : State} {c g v : Nat}

theorem wtuRetire_eq : wtuRetire c g v s = s.setCo c { (s.co c).took g (word v) with wait := .none } := by
  unfold wtuRetire
  simp only [setG_eq, State.co_setCo_same, State.setCo_setCo, retire_setCo]
  rfl

variable {f : BitVec 24} {d : Option Nat} (hd : d = if s.greg c (opB f) = 0 then none else some (s.up + (s.greg c (opB f)).toNat))
  (h : fetches s c) (hr : bitsOf f.toNat 0 12 = 0)

include hd h hr

theorem wtu_ends (he : s.wtuEnd c (s.greg c (opA f)) d = some v) : wtu c f s = wtuRetire c (opD f) v s := by
  have hlimit := hd.trans (wtuDeadline_eq (s.greg c (opB f)) s.up)
  unfold wtu
  refine instr_ok h (rsvA_eq_false hr) ?_
  simp only [← hlimit, he]

theorem wtu_waits (he : s.wtuEnd c (s.greg c (opA f)) d = none) :
    wtu c f s = s.setCo c { s.co c with wait := .time (opD f) (s.greg c (opA f)) d } := by
  have hlimit := hd.trans (wtuDeadline_eq (s.greg c (opB f)) s.up)
  unfold wtu
  refine instr_ok h (rsvA_eq_false hr) ?_
  simp only [← hlimit, he]

omit hd h hr in
/-- The wait's end stands under its own name in the proof, so that the kernel never evaluates it. -/
theorem wtuWake_ends {a : Word} (hw : s.coreWaits c = true) (ht : (s.co c).wait = .time g a d) (he : s.wtuEnd c a d = some v) :
    wtuWake c s = wtuRetire c g v s := by
  obtain ⟨ending, hending⟩ : ∃ e, e = s.wtuEnd c := ⟨_, rfl⟩
  rw [← hending] at he
  unfold wtuWake
  rw [if_neg (by simp [hw]), ← hending]
  simp only [ht, he]

omit hd h hr in
theorem wtuWake_waits {a : Word} (hw : s.coreWaits c = true) (ht : (s.co c).wait = .time g a d) (he : s.wtuEnd c a d = none) : wtuWake c s = s := by
  obtain ⟨ending, hending⟩ : ∃ e, e = s.wtuEnd c := ⟨_, rfl⟩
  rw [← hending] at he
  unfold wtuWake
  rw [if_neg (by simp [hw]), ← hending]
  simp only [ht, he]

end

/-- CORE_SWSET requests its software line. -/
theorem coreWrite_swset {m : Master} {v : Word} {s : State} (h : v.toNat < 64) : coreWrite m .CORE_SWSET 0 v s = s.request (64 + v.toNat) := by
  have hres : ∀ n < 64, n &&& coreReserved .CORE_SWSET = 0 := by decide
  have hline : F.CORE_SWSET_LINE.of v = v.toNat := (congrArg (· % 64) (Nat.div_one _)).trans (Nat.mod_eq_of_lt h)
  exact (if_neg (not_not.2 (hres _ h))).trans (by rw [hline])

/-- Settles O49, clause by clause: WAITEV and its wake, SIGEV, WTU and its end, and CORE_SWSET. -/
theorem eventsAndWaits : Obligations.EventsAndWaits := by
  refine ⟨?waitev, ?waitevWake, ?sigev, ?wtu, ?wtuEnd, ?swset⟩
  case waitev =>
    rintro c f s _ sel h hr rfl hsel
    have hexec : exec (.waitev c f) s = ok s (if s.conditions c &&& sel = 0 then s.setCo c { s.co c with wait := .event (opD f) sel }
        else waitevRetire c (opD f) sel s) := by
      refine ok_of_eq s (instr_ok h (rsvESel_eq_false hr) ?_)
      simp only [← hsel]
      rfl
    refine ⟨fun h0 => core_step hexec (if_pos h0), fun h0 => ?_⟩
    rw [if_neg h0] at hexec
    exact ⟨_, hexec, waitevRetire_frame⟩
  case waitevWake =>
    intro c g sel s hw ht
    have hexec : exec (.waitevWake c) s = ok s (if s.conditions c &&& sel = 0 then s else waitevRetire c g sel s) := by
      refine ok_of_eq s ((if_neg (by simp [hw])).trans ?_)
      rw [ht]
      rfl
    refine ⟨fun h0 => by rw [hexec, if_pos h0]; rfl, fun h0 => ?_⟩
    rw [if_neg h0] at hexec
    obtain ⟨hco, -, hrest⟩ := waitevRetire_frame (s := s) (c := c) (g := g) (sel := sel)
    exact ⟨_, hexec, hco, hrest⟩
  case sigev =>
    intro c f s h hr
    have hexec : exec (.sigev c f) s = ok s (retire c
        (signalled (fun k => bitOf (s.greg c (opD f)).toNat k = true ∧ k ≠ c ∧ s.coreThere k = true) (List.range 4) s)) :=
      ok_of_eq s (simple_retires h (rsvESel_eq_false hr))
    generalize hu : signalled (fun k => bitOf (s.greg c (opD f)).toNat k = true ∧ k ≠ c ∧ s.coreThere k = true) (List.range 4) s = u at hexec
    obtain ⟨hcore, hmem, hsent⟩ := hu ▸ signalled_frame
      (p := fun k => bitOf (s.greg c (opD f)).toNat k = true ∧ k ≠ c ∧ s.coreThere k = true) (List.range 4) s
    have hregs : (finish s (retire c u)).regs = u.regs := finish_regs _ _
    refine ⟨_, hexec, ?_, fun k hk hbit hne hthere => ?_, ?_, memSame_finish hmem, sends_finish hsent⟩
    · rw [co_finish, retire_eq, State.co_setCo_same, State.co, hcore, State.co]
    · rw [State.flag_of_regs hregs, ← hu]
      exact signalled_flag ⟨hbit, hne, hthere⟩ _ s (List.mem_range.2 hk)
    · rw [State.rd_of_regs hregs, ← hu]
      exact signalled_rd (fun hp => hp.2.1 rfl) _ s
  case wtu =>
    rintro c f s _ _ h hr rfl rfl
    have hdeadline : ∀ e, (if s.greg c (opB f) = 0 then none else some (s.up + (s.greg c (opB f)).toNat)) = some e → s.up < e := by
      intro e he
      split at he
      · cases he
      · next hb =>
        have hpos : (s.greg c (opB f)).toNat ≠ 0 := fun h0 => hb (BitVec.eq_of_toNat_eq h0)
        obtain rfl := Option.some.inj he
        omega
    have hends : ∀ v, s.wtuEnd c (s.greg c (opA f)) (if s.greg c (opB f) = 0 then none else some (s.up + (s.greg c (opB f)).toNat)) = some v →
        wtu c f s = s.setCo c { (s.co c).took (opD f) (word v) with wait := .none } := fun v he => (wtu_ends rfl h hr he).trans wtuRetire_eq
    exact ⟨fun h0 => core_step rfl (hends 0 (wtuEnd_reached h0)),
      fun h0 hi => core_step rfl (hends 2 (by rw [wtuEnd_waits h0 hdeadline, if_pos hi])),
      fun h0 hi => core_step rfl (wtu_waits rfl h hr (by rw [wtuEnd_waits h0 hdeadline, if_neg (by simp [hi])]))⟩
  case wtuEnd =>
    intro c g a d s hw ht
    have hends : ∀ v, s.wtuEnd c a d = some v → wtuWake c s = s.setCo c { (s.co c).took g (word v) with wait := .none } :=
      fun v he => (wtuWake_ends hw ht he).trans wtuRetire_eq
    refine ⟨fun h0 => core_step rfl (hends 0 (wtuEnd_reached h0)), fun h0 he => ?_,
      fun h0 he hi => core_step rfl (hends 2 (by rw [wtuEnd_waits h0 he, if_pos hi])),
      fun h0 he hi => ok_of_eq s (wtuWake_waits hw ht (by rw [wtuEnd_waits h0 he, if_neg (by simp [hi])]))⟩
    obtain ⟨e, hde, hle⟩ := he
    exact core_step rfl (hends 1 (wtuEnd_timeout h0 ⟨hde, hle⟩))
  case swset =>
    intro m v s hv
    have hexec : coreAccess m .CORE_SWSET 0 v s = (s.request (64 + v.toNat)).emit (.written m (Reg.addr .CORE_SWSET 0) .accepted) := by
      rw [coreAccess, coreWrite_swset hv, State.answered]
    refine ⟨_, ok_of_eq s hexec, ?_, fun l hl => ?_, sends_finish rfl, regsSame_finish rfl, memSame_finish rfl⟩
    · rw [finish_irq]
      exact tabGet_set_same false s.irq _ true
    · rw [finish_irq]
      exact tabGet_set_other false false s.irq true hl

end Sys2Proof.Machine

/-! # The block transfer engine (15_flilis_core.md, R454 to R459) -/

namespace Sys2Proof.Machine

/-! ## The end of a transfer (R456) -/

section

variable {c code : Nat} {s : State}

theorem bteEnd_regs : (bteEnd c code s).regs = (s.setF F.BTE_STAT_STATE c code).regs := by unfold bteEnd; split <;> rfl
theorem bteEnd_mem : (bteEnd c code s).mem = s.mem := by unfold bteEnd; split <;> rfl
theorem bteEnd_sent : (bteEnd c code s).sent = s.sent := by unfold bteEnd; split <;> rfl

/-- A transfer whose IRQ is set requests the channel's line with its end. -/
theorem bteEnd_requests (hc : code ≠ 4) (h : s.flag F.BTE_CTRL_IRQ c = true) : tabGet false (bteEnd c code s).irq (38 + c) = true := by
  unfold bteEnd
  rw [if_pos ⟨hc, h⟩]
  exact tabGet_set_same false s.irq (38 + c) true

theorem bteEnd_quiet (h : s.flag F.BTE_CTRL_IRQ c = false) : (bteEnd c code s).irq = s.irq := by
  unfold bteEnd
  rw [if_neg (by simp [h])]
  rfl

theorem bteEnd_state (hc : code < 8) : (bteEnd c code s).bteState c = code := by
  rw [State.bteState, State.getF_of_regs bteEnd_regs]
  exact (State.getF_setF_eq _ (by decide)).trans (Nat.mod_eq_of_lt hc)

theorem rd_bteEnd {q : Reg} {n : Nat} (h : (q, n) ≠ (.BTE_STAT, c)) : (bteEnd c code s).rd q n = s.rd q n :=
  (State.rd_of_regs bteEnd_regs q n).trans (State.rd_wr_but h)

theorem regsBut_bteEnd {t : State} {l : List (Reg × Nat)} (h : regsBut t s l) (hl : (.BTE_STAT, c) ∈ l) : regsBut t (bteEnd c code s) l :=
  regsBut_of_regs (regsBut_setF _ h hl) bteEnd_regs

end

/-! ## START and ABORT (R455, R457) -/

/-- A write of BTE_CTRL has its effect, and its answer in BTE_RESULT. -/
theorem bteAccess_ctrl {m : Master} {c : Nat} {w : Word} {s t : State} {code : Code} (h : bteCtrlWrite m c w s = (code, t)) :
    bteAccess m .BTE_CTRL c w s = t.answer m .BTE_RESULT code c (Reg.addr .BTE_CTRL c) := by
  have hwrite : bteWrite m .BTE_CTRL c w s = (code, t) := h
  simp only [bteAccess, hwrite, reduceCtorEq, or_self, if_false]

section

variable {m : Master} {c : Nat} {w : Word} {s : State} (hr : reservedSet .BTE_CTRL w = false)

include hr

/-- START of a channel that is BUSY, or during a power entry. -/
theorem bteCtrlWrite_refused (hs : F.BTE_CTRL_START.on w = true) (ha : F.BTE_CTRL_ABORT.on w = false) (h : s.bteBusy c = true ∨ s.entering = true) :
    bteCtrlWrite m c w s = (.state, s) := by
  simp only [bteCtrlWrite, hr, hs, ha, Bool.and_false, Bool.or_false, Bool.false_eq_true, if_false, Bool.true_and]
  exact if_pos (by simpa using h)

/-- START of a channel that may begin is decided by its count and its range. -/
theorem bteCtrlWrite_start (hs : F.BTE_CTRL_START.on w = true) (ha : F.BTE_CTRL_ABORT.on w = false) (hb : s.bteBusy c = false) (he : s.entering = false)
    (hd : F.BTE_CTRL_DIR.of w ≠ 3) : bteCtrlWrite m c w s =
      if 2 ^ 24 ≤ s.getF F.BTE_CNT_COUNT c then (.invalid, s) else if s.getF F.BTE_CNT_COUNT c = 0 then (.accepted, s)
      else if ! bteRangeOk m w c (s.getF F.BTE_CNT_COUNT c) s then (.invalid, s)
      else (.accepted, bteBegin m c (s.getF F.BTE_CNT_COUNT c) (s.wrMasked .BTE_CTRL c w)) := by
  simp only [bteCtrlWrite, hr, hs, ha, hb, he, hd, Bool.and_false, Bool.or_false, Bool.false_eq_true, if_false, Bool.not_true, false_or]

/-- ABORT ends a BUSY channel. -/
theorem bteCtrlWrite_abort (hs : F.BTE_CTRL_START.on w = false) (ha : F.BTE_CTRL_ABORT.on w = true) :
    bteCtrlWrite m c w s = (.accepted, if s.bteBusy c then bteEnd c 3 s else s) := by
  simp only [bteCtrlWrite, hr, hs, ha, Bool.false_and, Bool.or_false, Bool.false_eq_true, if_false, if_true]

end

/-! ## A word moved (R454, R456, R459) -/

section

variable {c i : Nat} {s : State} (hd : s.getF F.BTE_CTRL_DIR c = 0) (hsf : s.flag F.BTE_CTRL_SFIX c = false) (hdf : s.flag F.BTE_CTRL_DFIX c = false)

include hd hsf hdf

/-- The two sides of a transfer inside data space whose addresses step. -/
theorem bteSides_data (src dst : Nat) : bteSides (F.BTE_CTRL_DIR.of (s.rd .BTE_CTRL c)) src dst (F.BTE_CTRL_SFIX.on (s.rd .BTE_CTRL c))
    (F.BTE_CTRL_DFIX.on (s.rd .BTE_CTRL c)) = ({ io := false, addr := src, fixed := false }, { io := false, addr := dst, fixed := false }) := by
  have hdir : F.BTE_CTRL_DIR.of (s.rd .BTE_CTRL c) = 0 := hd
  have hsfix : F.BTE_CTRL_SFIX.on (s.rd .BTE_CTRL c) = false := hsf
  have hdfix : F.BTE_CTRL_DFIX.on (s.rd .BTE_CTRL c) = false := hdf
  rw [hdir, hsfix, hdfix]
  rfl

variable (hi : i = s.getF F.BTE_CNT_COUNT c - s.getF F.BTE_RES_RESID c) {a b : Nat} (ha : a = (s.rd .BTE_SRC c).toNat + 4 * i)

include hi ha

theorem bteMove_data (hb : b = (s.rd .BTE_DST c).toNat + 4 * i) (hia : inSram a = true) (he : s.eccBad a = false) : bteMove c s = bteMoved c (dataStore .bte b (s.memWord a) s) := by
  have hsrc : bteSource { io := false, addr := (s.rd .BTE_SRC c).toNat, fixed := false } a s = .ok (s.memWord a, s) := by
    simp [bteSource, he, dataLoad_ram (.inl hia)]
  simp only [bteMove, bteSides_data hd hsf hdf, ← hi, Side.at_, Bool.false_eq_true, if_false, ← ha, ← hb, hsrc]

theorem bteMove_ecc (he : s.eccBad a = true) : bteMove c s = bteFailed c 0x0B a s := by
  have hsrc : bteSource { io := false, addr := (s.rd .BTE_SRC c).toNat, fixed := false } a s = .error 0x0B := by simp [bteSource, he]
  simp only [bteMove, bteSides_data hd hsf hdf, ← hi, Side.at_, Bool.false_eq_true, if_false, ← ha, hsrc]

end

section

variable {c : Nat} {s : State}

/-- A moved word is counted off; the last one ends the transfer. -/
theorem bteMoved_eq : ∃ u : State, u.regs = (s.wr .BTE_RES c (word (s.getF F.BTE_RES_RESID c - 1))).regs ∧ u.mem = s.mem ∧ u.sent = s.sent ∧
    bteMoved c s = if s.getF F.BTE_RES_RESID c - 1 = 0 then bteEnd c 2 u else u :=
  ⟨{ s.wr .BTE_RES c (word (s.getF F.BTE_RES_RESID c - 1)) with bteNext := (c + 1) % 8 }, rfl, rfl, rfl, rfl⟩

theorem bteMoved_spec : (bteMoved c s).mem = s.mem ∧ (bteMoved c s).sent = s.sent ∧
    (bteMoved c s).rd .BTE_RES c = word (s.getF F.BTE_RES_RESID c - 1) ∧
    (bteMoved c s).bteState c = (if s.getF F.BTE_RES_RESID c - 1 = 0 then 2 else s.bteState c) ∧
    regsBut s (bteMoved c s) [(.BTE_RES, c), (.BTE_STAT, c)] := by
  obtain ⟨u, hregs, hmem, hsent, heq⟩ := bteMoved_eq (c := c) (s := s)
  have hres : u.rd .BTE_RES c = word (s.getF F.BTE_RES_RESID c - 1) := (State.rd_of_regs hregs _ _).trans (State.rd_wr_same s _ _ _)
  have hstate : u.bteState c = s.bteState c := (State.getF_of_regs hregs F.BTE_STAT_STATE c).trans (State.getF_wr_ne _ (by decide))
  have hbut : regsBut s u [(.BTE_RES, c), (.BTE_STAT, c)] := regsBut_of_regs (regsBut_wr _ (regsBut_refl s _) (by simp)) hregs
  rw [heq]
  split
  · exact ⟨bteEnd_mem.trans hmem, bteEnd_sent.trans hsent, (rd_bteEnd (by simp)).trans hres, bteEnd_state (by decide), regsBut_bteEnd hbut (by simp)⟩
  · exact ⟨hmem, hsent, hres, hstate, hbut⟩

end

/-- A channel whose word failed: FAULT, the trap code and the address. -/
theorem bteFailed_spec {c code addr : Nat} {s : State} (hcode : code < 256) :
    (bteFailed c code addr s).bteState c = 5 ∧ (bteFailed c code addr s).getF F.BTE_STAT_FCAUSE c = code ∧
    (bteFailed c code addr s).rd .BTE_FADDR c = word addr ∧ (bteFailed c code addr s).mem = s.mem ∧ (bteFailed c code addr s).sent = s.sent ∧
    regsBut s (bteFailed c code addr s) [(.BTE_STAT, c), (.BTE_FADDR, c)] := by
  unfold bteFailed
  generalize hu : (s.setF F.BTE_STAT_FCAUSE c code).wr .BTE_FADDR c (word addr) = u
  have hbut : regsBut s u [(.BTE_STAT, c), (.BTE_FADDR, c)] := hu ▸ regsBut_wr _ (regsBut_setF _ (regsBut_refl s _) (by simp [F.BTE_STAT_FCAUSE])) (by simp)
  have hcause : u.getF F.BTE_STAT_FCAUSE c = code := by
    rw [← hu, State.getF_wr_ne _ (by decide), State.getF_setF_eq _ (by decide)]
    exact Nat.mod_eq_of_lt hcode
  have hmem : u.mem = s.mem := by rw [← hu]; rfl
  have hsent : u.sent = s.sent := by rw [← hu]; rfl
  refine ⟨bteEnd_state (by decide), ?_, ?_, bteEnd_mem.trans hmem, bteEnd_sent.trans hsent, regsBut_bteEnd (regsBut_of_regs hbut rfl) (by simp)⟩
  · exact (State.getF_of_regs bteEnd_regs _ _).trans ((State.getF_setF_apart _ (by decide)).trans hcause)
  · exact (rd_bteEnd (by simp)).trans (hu ▸ State.rd_wr_same _ _ _ _)

/-- Settles O50, clause by clause: START, ABORT, and a word of a transfer. -/
theorem blockTransfers : Obligations.BlockTransfers := by
  refine ⟨?start, ?abort, ?word, ?idle⟩
  case start =>
    rintro m c v _ s rfl hr ha
    have hs : F.BTE_CTRL_START.on (v ||| word (2 ^ F.BTE_CTRL_START.lo)) = true := Fld.on_or_self (by decide) v
    refine ⟨fun h => ok_of_eq s (bteAccess_ctrl (bteCtrlWrite_refused hr hs ha h)), fun hb he hd => ?_⟩
    have hdecided := bteCtrlWrite_start (m := m) hr hs ha hb he hd
    refine ⟨fun h0 => ok_of_eq s (bteAccess_ctrl ?_), fun hpos hlt hok => ok_of_eq s (bteAccess_ctrl ?_), fun hpos hbad => ok_of_eq s (bteAccess_ctrl ?_)⟩
    · rw [hdecided, if_neg (by omega), if_pos h0]
    · rw [hdecided, if_neg (by omega), if_neg (by omega), hok]
      rfl
    · rw [hdecided]
      split
      · rfl
      · rw [if_neg (by omega), hbad]
        rfl
  case abort =>
    rintro m c v _ s rfl hr hs
    have ha : F.BTE_CTRL_ABORT.on (v ||| word (2 ^ F.BTE_CTRL_ABORT.lo)) = true := Fld.on_or_self (by decide) v
    have haccess := bteAccess_ctrl (bteCtrlWrite_abort (m := m) (c := c) (s := s) hr hs ha)
    refine ⟨fun hb => ok_of_eq s (by rw [haccess, if_neg (by simp [hb])]), fun hb => ?_⟩
    rw [if_pos hb] at haccess
    refine ⟨_, ok_of_eq s haccess, ?_, fun hirq => ?_, fun hirq => ?_, sends_finish ?_, ?_, memSame_finish bteEnd_mem⟩
    · rw [State.bteState, getF_finish, State.getF_answer_ne _ (by decide)]
      exact bteEnd_state (by decide)
    · rw [finish_irq]
      exact bteEnd_requests (by decide) hirq
    · rw [finish_irq]
      exact bteEnd_quiet hirq
    · rw [State.answer_sent, bteEnd_sent]
      rfl
    · exact regsBut_finish (regsBut_answer (regsBut_bteEnd (regsBut_refl s _) (by simp)) (by simp))
  case word =>
    intro c i a b s hdom hturn hd hsf hdf hi ha hb hia hib _ _
    have hexec : exec .bteWord s = ok s (bteMove c s) := ok_of_eq s ((if_pos hdom).trans (by rw [hturn]))
    refine ⟨fun he => ?_, fun he => ?_⟩
    · rw [bteMove_data hd hsf hdf hi ha hb hia he] at hexec
      have hframe : StoreFrame s (dataStore .bte b (s.memWord a) s) := dataStore_frame _ s (.inl hib)
      obtain ⟨hmoved, hsent, hres, hstate, hbut⟩ := bteMoved_spec (c := c) (s := dataStore .bte b (s.memWord a) s)
      have hmem : ∀ x, (finish s (bteMoved c (dataStore .bte b (s.memWord a) s))).memByte x = (dataStore .bte b (s.memWord a) s).memByte x :=
        State.memByte_of_mem ((finish_mem _ _).trans hmoved)
      refine ⟨_, hexec, ?_, fun x hx => ?_, ?_, ?_, sends_finish (hsent.trans hframe.sent), ?_⟩
      · exact (memWord_congr fun i _ => hmem (b + i)).trans (dataStore_word _ s (.inl hib))
      · exact (hmem x).trans (dataStore_outside _ s (.inl hib) hx)
      · rw [rd_finish, hres, State.getF_of_regs hframe.regs]
      · rw [State.bteState, getF_finish, ← State.bteState, hstate, State.getF_of_regs hframe.regs, State.bteState, State.getF_of_regs hframe.regs,
          State.bteState]
      · exact regsBut_finish fun r n hn => (hbut r n hn).trans (State.rd_of_regs hframe.regs r n)
    · rw [bteMove_ecc hd hsf hdf hi ha he] at hexec
      obtain ⟨hstate, hcause, haddr, hmem, hsent, hbut⟩ := bteFailed_spec (c := c) (code := 0x0B) (addr := a) (s := s) (by decide)
      refine ⟨_, hexec, ?_, ?_, ?_, memSame_finish hmem, sends_finish hsent, regsBut_finish hbut⟩
      · rw [State.bteState, getF_finish]; exact hstate
      · rw [getF_finish, hcause]
      · rw [rd_finish, haddr]
  case idle =>
    intro s h
    refine ok_of_eq s ?_
    split
    · rw [h]
    · rfl

end Sys2Proof.Machine

/-! # Starts, the debugger and the pairs (15_flilis_core.md, R429; 16_redundancy_faults.md, R460 to R469) -/

namespace Sys2Proof.Machine

/-! ## The start of a core (R429) -/

/-- The keys of the registers that return to reset with core `c`. -/
def startsAfresh (c k : Nat) : Bool :=
  [Reg.CORE_CFG, .CORE_VBASE, .CORE_EVT, .CORE_RSD, .CORE_MPUB, .CORE_MPUL, .CORE_IOPM].any fun r => r.ctorIdx == k % 512 && decide (k / 512 / 1024 = c)

/-- A core that starts reads its vector base 0. -/
theorem rd_coreBankClear_vbase (c : Nat) (s : State) : (coreBankClear c s).rd .CORE_VBASE (coreIx c 0) = 0 := by
  have hown : startsAfresh c (regKey .CORE_VBASE (coreIx c 0)) = true := by
    have hidx : Reg.ctorIdx .CORE_VBASE < 512 := by decide
    have hlow : regKey .CORE_VBASE (coreIx c 0) % 512 = Reg.ctorIdx .CORE_VBASE := by
      unfold regKey
      omega
    have hhigh : regKey .CORE_VBASE (coreIx c 0) / 512 / 1024 = c := by
      unfold regKey coreIx
      omega
    unfold startsAfresh
    rw [hlow, hhigh]
    simp
  exact (tabGet_filter_key _ s.regs (fun k => ! startsAfresh c k) _).trans (if_neg (by simp [hown]))

/-- What the EMCYs of a start keep: a property that an EMCY, the module's service state and ODO_STAT do not touch. -/
theorem startEmcys_keeps {P : State → Prop} (hemcy : ∀ t a b c d, P t → P (t.emcyObj a b c d)) (hsvc : ∀ (t : State) x, P t → P { t with svc := x })
    (hodo : ∀ (t : State) f n b, f.reg = .ODO_STAT → P t → P (t.setB f n b)) {s : State} (h : P s) : P (startEmcys s) := by
  unfold startEmcys
  dsimp only
  have h1 : P (if s.fcru.resetCore = true then s.emcyObj 0xFFA4 0 0x4A00 4 else s) := by
    split
    · exact hemcy _ _ _ _ _ h
    · exact h
  generalize (if s.fcru.resetCore = true then s.emcyObj 0xFFA4 0 0x4A00 4 else s) = s1 at h1 ⊢
  have h2 : P (if s1.svc.reverted = true then { (s1.emcyObj 0xFFB1 0 0x4D00 8) with svc := { s1.svc with reverted := false } } else s1) := by
    split
    · exact hsvc _ _ (hemcy _ _ _ _ _ h1)
    · exact h1
  generalize (if s1.svc.reverted = true then { (s1.emcyObj 0xFFB1 0 0x4D00 8) with svc := { s1.svc with reverted := false } } else s1) = s2 at h2 ⊢
  have h3 := hodo _ F.ODO_STAT_KEEPLOSS 0 s2.svc.keepLoss rfl (hodo _ F.ODO_STAT_FRESH 0 (! s2.svc.copyA.valid && ! s2.svc.copyB.valid) rfl
    (hodo _ F.ODO_STAT_COPYLOSS 0 (s2.svc.copyA.valid != s2.svc.copyB.valid) rfl h2))
  generalize State.setB _ F.ODO_STAT_KEEPLOSS 0 _ = s3 at h3 ⊢
  have h4 : P (if s3.flag F.ODO_STAT_FRESH 0 = true then s3.emcyObj 0xFFB2 0 0x4C00 1 else s3) := by
    split
    · exact hemcy _ _ _ _ _ h3
    · exact h3
  generalize (if s3.flag F.ODO_STAT_FRESH 0 = true then s3.emcyObj 0xFFB2 0 0x4C00 1 else s3) = s4 at h4 ⊢
  split
  · exact hemcy _ _ _ _ _ h4
  · exact h4

theorem emcyObj_core (s : State) (a b c d : Nat) : (s.emcyObj a b c d).core = s.core := by
  obtain ⟨_, _, _, _, h⟩ := emcy_frame s { code := a, b3 := b, index := c, sub := d }
  rw [State.emcyObj, h]

/-- The effect of a core's start that the claims speak of. -/
def Started (s : State) (c : Nat) (t : State) : Prop :=
  t.core = (s.setCo c (coreFresh s.up)).core ∧ t.mem = s.mem ∧ t.rd .CORE_VBASE (coreIx c 0) = 0

theorem trialRun_frame (s : State) : (trialRun s).core = s.core ∧ (trialRun s).mem = s.mem ∧ (trialRun s).up = s.up := by
  unfold trialRun
  split <;> exact ⟨rfl, rfl, rfl⟩

theorem coreStart_started (c : Nat) (s : State) : Started s c (coreStart c s) := ⟨rfl, rfl, rd_coreBankClear_vbase c s⟩

theorem started_startEmcys {s t : State} {c : Nat} (h : Started s c t) : Started s c (startEmcys t) := by
  refine startEmcys_keeps (P := Started s c) (fun t a b c' d ⟨hco, hmem, hrd⟩ => ?_) (fun _ _ h => h) (fun t f n b hf ⟨hco, hmem, hrd⟩ => ?_) h
  · exact ⟨(emcyObj_core t a b c' d).trans hco, (emcyObj_mem t a b c' d).trans hmem, (rd_emcyObj t a b c' d _ _).trans hrd⟩
  · have hne : Reg.CORE_VBASE ≠ f.reg := by rw [hf]; decide
    exact ⟨hco, hmem, (State.rd_wr_ne _ hne).trans hrd⟩

/-- The start of a ready core. -/
theorem coreBegin_ready {c : Nat} {s : State} (hd : s.dom.core = true) (hr : (s.co c).run = .ready) :
    Started s c (coreBegin c s) ∧ (coreBegin c s).fcru.restarting = false := by
  have hgo : ¬ ((s.co c).run != .ready || ! s.dom.core) = true := by simp [hd, hr]
  have hrun : Started s c (coreStart c (if c = 0 then trialRun s else s)) := by
    split
    · obtain ⟨hcore, hmem, hup⟩ := trialRun_frame s
      obtain ⟨h1, h2, h3⟩ := coreStart_started c (trialRun s)
      refine ⟨h1.trans ?_, h2.trans hmem, h3⟩
      rw [hup, State.setCo, State.setCo, hcore]
    · exact coreStart_started c s
  unfold coreBegin
  rw [if_neg hgo]
  dsimp only
  generalize coreStart c (if c = 0 then trialRun s else s) = s1 at hrun ⊢
  have hemcys : Started s c (if s1.fcru.restarting = true then startEmcys s1 else s1) := by
    split
    · exact started_startEmcys hrun
    · exact hrun
  generalize (if s1.fcru.restarting = true then startEmcys s1 else s1) = s2 at hemcys ⊢
  exact ⟨hemcys, rfl⟩

/-! ## The debugger (R469) -/

theorem accInputs_regs {s u : State} (h : u.regs = s.regs) : accInputs s u = u := accInputs_same fun n => State.flag_of_regs h F.SIN_STAT_LEVEL n

/-- A debugger's access to a core that it holds. -/
theorem exec_debugAccess {c : Fin 4} {a : DebugAccess} {s u : State} (ho : s.debugOn c = true) (hr : (s.co c).run = .halted)
    (h : debugAccess c a s = u) (hu : u.regs = s.regs) : exec (.debugAccess c a) s = ok s u := by
  have hheld : (s.debugOn c && (s.co c).run == .halted) = true := by simp [ho, hr]
  exact ok_of_eq s ((if_pos hheld).trans (by rw [h, accInputs_regs hu]))

theorem dataWrite_sram {a : Nat} (v : Word) (s : State) (ha : inSram a = true) : dataWrite a v s = dataStore .bte a v s := by
  rw [dataStore, dataCrossing_ram (.inl ha)]

theorem debugReach_sram {a : Nat} {store : Bool} (ha : inSram a = true) (h4 : a % 4 = 0) : debugReach a store = true := by
  have harea : areaOf a = some .sram := if_pos ha
  unfold debugReach
  rw [harea, h4]
  exact (Bool.or_true _)

/-! ## Miscompares (R464, R465) -/

theorem pairIn_congr {s u : State} {p : Nat} (hr : ∀ f : Fld, f.reg = .FCRU_PSTAT → u.flag f 0 = s.flag f 0) (hv : u.ident = s.ident) :
    u.pairIn p = s.pairIn p := by
  unfold State.pairIn State.variant
  rw [hr _ rfl, hr _ rfl, hv]

/-- A miscompare noted in FCRU_MISC. -/
def miscNoted (pair lane : Nat) (s : State) : State :=
  (((s.setF F.FCRU_MISC_LANE 0 lane).setB F.FCRU_MISC_PAIR 0 (pair == 1)).setB F.FCRU_MISC_SPARE 0 (s.bootMode == 0 && s.activePair != pair)).countF
    F.FCRU_MISC_COUNT 0

theorem pairIn_miscNoted {pair lane p : Nat} {s : State} : (miscNoted pair lane s).pairIn p = s.pairIn p := by
  refine pairIn_congr (fun f hf => ?_) rfl
  have hne : f.reg ≠ .FCRU_MISC := by rw [hf]; decide
  unfold miscNoted
  exact (State.flag_setF_ne _ hne).trans ((State.flag_setF_ne _ hne).trans ((State.flag_setF_ne _ hne).trans (State.flag_setF_ne _ hne)))

section

variable {pair lane : Nat} {s : State} (hd : s.dom.core = true) (hin : s.pairIn pair = true)

include hd hin

theorem miscompare_dual (hm : s.bootMode = 1) : miscompare pair lane s = coreStop pair ((miscNoted pair lane s).raise (128 + pair) lane) := by
  refine (if_neg (by simp [hd, hin, hm])).trans ?_
  exact if_pos hm

theorem miscompare_spare (hm : s.bootMode = 0) (ha : s.activePair ≠ pair) :
    miscompare pair lane s = pairOut pair ((miscNoted pair lane s).raise (128 + pair) lane) := by
  refine (if_neg (by simp [hd, hin, hm])).trans ((if_neg (by simp [hm])).trans ?_)
  exact if_pos (by simp [hm, ha])

theorem miscompare_over (hm : s.bootMode = 0) (ha : s.activePair = pair) (ho : s.pairIn (1 - pair) = true) : miscompare pair lane s =
    ((((pairOut pair (miscNoted pair lane s)).setF F.FCRU_PSTAT_ACTIVE 0 (1 - pair)).countF F.FCRU_PSTAT_SWOVERS 0).raise (128 + pair) lane).emcyObj
      0xFFA2 0 0x4B00 1 := by
  refine (if_neg (by simp [hd, hin, hm])).trans ((if_neg (by simp [hm])).trans ((if_neg (by simp [ha])).trans ?_))
  exact if_pos ho

theorem miscompare_alone (hm : s.bootMode = 0) (ha : s.activePair = pair) (ho : s.pairIn (1 - pair) = false) :
    miscompare pair lane s = coreStop 0 ((miscNoted pair lane s).raise 130 lane) := by
  refine (if_neg (by simp [hd, hin, hm])).trans ((if_neg (by simp [hm])).trans ((if_neg (by simp [ha])).trans ?_))
  exact if_neg (by simp [ho])

end

/-! ## Resync (R466, R467) -/

/-- A write that reaches FCRU_RSYNC asks for a resync. -/
theorem fcruAccess_rsync {m : Master} {v : Word} {s t : State} {code : Code} (hr : reservedSet .FCRU_RSYNC v = false) (hv : v ≠ 0)
    (h : resyncStart s = (code, t)) : fcruAccess m .FCRU_RSYNC 0 v s =
      (t.wr .FCRU_RESULT (bk m 0) (word (code.num + 0x10000 * Reg.addr .FCRU_RSYNC 0))).emit (.written m (Reg.addr .FCRU_RSYNC 0) code) := by
  have hwrite : fcruWrite m .FCRU_RSYNC 0 v s = (code, 0, t) := by
    refine (if_neg (by simp [hr])).trans ((if_neg hv).trans ?_)
    rw [h]
  simp only [fcruAccess, hwrite, Nat.mul_zero, Nat.add_zero]

/-- The cases in which a resync is refused with STATE. -/
theorem resyncStart_refused {s : State} (hb : pairBFitted s.variant = true)
    (h : s.bootMode ≠ 0 ∨ (s.pairIn 0 = true ∧ s.pairIn 1 = true) ∨ s.getF F.FCRU_PSTAT_RSYNC 0 = 1 ∨ s.entering = true) : resyncStart s = (.state, s) :=
  (if_neg (by simp [hb])).trans (if_pos h)

theorem resyncStart_absent {s : State} (h : s.variant = .px48) : resyncStart s = (.absent, s) := if_pos (by rw [h]; decide)

/-- A resync of a running core begins with its stall. -/
theorem resyncStart_begins {s : State} (hb : pairBFitted s.variant = true) (hm : s.bootMode = 0) (h1 : s.pairIn 1 = false)
    (hn : s.getF F.FCRU_PSTAT_RSYNC 0 ≠ 1) (he : s.entering = false) (hr : (s.co 0).run = .running) :
    resyncStart s = (.accepted, (s.setF F.FCRU_PSTAT_RSYNC 0 1).setCo 0 { s.co 0 with run := .stalled }) := by
  refine (if_neg (by simp [hb])).trans ((if_neg (by simp [hm, h1, hn, he])).trans ?_)
  exact congrArg _ (if_pos hr)

section

variable {s u : State} (hr : s.getF F.FCRU_PSTAT_RSYNC 0 = 1) (h0 : s.pairIn 0 = true) (hd : (s.co 0).div = none) (hs : (s.co 0).run = .stalled)
  (hu : u = s.setCo 0 { s.co 0 with run := .running })

include hr h0 hd hs hu

/-- A resync that succeeds brings pair B back, with pair A active. -/
theorem resyncEnd_back : resyncEnd none s =
    ((((u.setB F.FCRU_PSTAT_BIN 0 true).setB F.FCRU_PSTAT_BFAIL 0 false).setF F.FCRU_PSTAT_ACTIVE 0 0).setF F.FCRU_PSTAT_RSYNC 0 2).emcyObj 0xFFA3 0 0x4B00 1 := by
  have hdone : divideComplete 0 s = s := by unfold divideComplete; rw [hd]
  unfold resyncEnd
  simp only [hr, ne_eq, not_true, if_false, h0, if_true, hdone, hs, ← hu, Nat.one_ne_zero]

/-- One that fails leaves it out, with the lane that failed. -/
theorem resyncEnd_failed (l : Nat) : resyncEnd (some l) s =
    (((u.setB F.FCRU_PSTAT_BFAIL 0 true).setF F.FCRU_PSTAT_RSYNC 0 3).raise 131 (0x10000 + l)).emcyObj 0xFFA3 0 0x4B00 1 := by
  have hdone : divideComplete 0 s = s := by unfold divideComplete; rw [hd]
  unfold resyncEnd
  simp only [hr, ne_eq, not_true, if_false, h0, if_true, hdone, hs, ← hu, Nat.one_ne_zero, Nat.mul_one]

end

/-! ## The comparator test (R468) -/

theorem testResult_passed (pair : Nat) (s : State) : testResult pair none s =
    if pair = 0 then (s.setB F.FCRU_PSTAT_AIN 0 true).setB F.FCRU_PSTAT_AFAIL 0 false
    else (s.setB F.FCRU_PSTAT_BIN 0 true).setB F.FCRU_PSTAT_BFAIL 0 false := rfl

/-- Both pairs in service after a comparator test that they passed. -/
def bothPassed (s : State) : State := testResult 1 none (testResult 0 none s)

theorem bothPassed_in (s : State) (h : pairBFitted s.variant = true) : (bothPassed s).pairIn 0 = true ∧ (bothPassed s).pairIn 1 = true := by
  have hflag : ∀ {f : Fld} (t : State), f.lo + f.wd ≤ 32 ∧ f.wd = 1 → (t.setB f 0 true).flag f 0 = true := fun t hf => State.flag_setB_eq t hf
  unfold bothPassed
  rw [testResult_passed, testResult_passed, if_pos rfl, if_neg Nat.one_ne_zero]
  refine ⟨?_, ?_⟩
  · refine (if_pos rfl).trans ?_
    rw [State.flag_setB_apart _ (by decide), State.flag_setB_apart _ (by decide), State.flag_setB_apart _ (by decide)]
    exact hflag _ (by decide)
  · refine (if_neg Nat.one_ne_zero).trans ?_
    rw [State.flag_setB_apart _ (by decide), hflag _ (by decide)]
    exact h

/-- The comparator test is over. -/
def testOver (s : State) : State := { s with fcru := { s.fcru with testing := false } }

/-- The start that a boot mode makes of the pairs in service after a test. -/
def testedStart (mode : Nat) (pairs : List Nat) (s : State) : State :=
  let okA := s.pairIn 0
  let okB := s.pairIn 1 && pairs.contains 1
  let u := s.setB F.FCRU_PSTAT_ACTIVE 0 (! okA && okB)
  if ! okA && ! okB then u
  else if mode = 1 then (u.setCo 0 { u.co 0 with run := if okA then .ready else .stopped }).setCo 1 { u.co 1 with run := if okB then .ready else .stopped }
  else u.setCo 0 { u.co 0 with run := .ready }

/-- Logical core 0 is ready to start, with pair A active. -/
def coreReady0 (s : State) : State := (s.setB F.FCRU_PSTAT_ACTIVE 0 false).setCo 0 { (s.setB F.FCRU_PSTAT_ACTIVE 0 false).co 0 with run := .ready }

theorem bothPassed_frame (s : State) : (bothPassed s).mem = s.mem ∧ (bothPassed s).sent = s.sent ∧ (bothPassed s).ident = s.ident := by
  unfold bothPassed
  rw [testResult_passed, testResult_passed, if_pos rfl, if_neg Nat.one_ne_zero]
  exact ⟨rfl, rfl, rfl⟩

theorem testComplete_eq {a b : Option Nat} {s : State} (ht : s.fcru.testing = true) : testComplete a b s =
    testedStart s.bootMode (testedPairs s.variant s.bootMode) (testOver ((testedPairs s.variant s.bootMode).foldl (fun t p => testResult p (if p = 0 then a else b) t) s)) := by
  unfold testComplete
  rw [if_neg (by simp [ht])]
  rfl

/-- A comparator test that both pairs pass in SAFE. -/
theorem testComplete_passed {s : State} (ht : s.fcru.testing = true) (hm : s.bootMode = 0) (hb : pairBFitted s.variant = true) :
    testComplete none none s = coreReady0 (testOver (bothPassed s)) := by
  obtain ⟨h0, h1⟩ := bothPassed_in s hb
  have hpairs : testedPairs s.variant s.bootMode = [0, 1] := by simp [testedPairs, hm, hb]
  have hfold : [0, 1].foldl (fun t p => testResult p (if p = 0 then none else none) t) s = bothPassed s := by
    simp only [List.foldl_cons, List.foldl_nil, ite_self, bothPassed]
  have hin : ∀ p, (testOver (bothPassed s)).pairIn p = (bothPassed s).pairIn p := fun _ => rfl
  have hcontains : [0, 1].contains 1 = true := by decide
  rw [testComplete_eq ht, hpairs, hfold]
  generalize testOver (bothPassed s) = u at hin ⊢
  unfold testedStart
  rw [hin 0, h0, hin 1, h1, hcontains, if_neg (by decide), if_neg (by simp [hm]), Bool.not_true, Bool.false_and]
  rfl

/-- Settles O57: GO in the cases of R467, and on the PX-48. -/
theorem resyncRefusals : Obligations.ResyncRefusals := by
  have hgo : reservedSet .FCRU_RSYNC 1 = false := by decide
  refine ⟨?state, ?absent⟩
  case state => exact fun m s hb h => ok_of_eq s (fcruAccess_rsync (code := .state) hgo (by decide) (resyncStart_refused hb h))
  case absent => exact fun m s h => ok_of_eq s (fcruAccess_rsync (code := .absent) hgo (by decide) (resyncStart_absent h))

/-- Settles O51, clause by clause: a core's start, the debugger, a miscompare, a resync and the comparator test. -/
theorem startsAndPairs : Obligations.StartsAndPairs := by
  refine ⟨?start, ?startNot, ?halt, ?resume, ?resumeNot, ?haltNot, ?access, ?miscompare, ?resync, ?resyncEnd, ?test, ?retry⟩
  case start =>
    intro c s hd hr
    obtain ⟨⟨hcore, hmem, hbase⟩, hdone⟩ := coreBegin_ready hd hr
    refine ⟨_, ok_of_eq s rfl, ?_, fun d hne => ?_, ?_, ?_, memSame_finish hmem⟩
    · rw [co_finish, State.co, hcore]
      exact State.co_setCo_same s _ _
    · rw [co_finish, State.co, hcore]
      exact State.co_setCo_other s _ hne
    · rw [rd_finish]
      exact hbase
    · rw [finish_fcru]
      exact hdone
  case startNot => exact fun c s h => ok_of_eq s (if_pos (by rcases h with h | h <;> simp [h]))
  case halt => exact fun c s ho hr => core_step (ok_of_eq s (if_pos (by simp [ho, hr]))) rfl
  case resume => exact fun c s hr => core_step (ok_of_eq s (if_pos hr)) rfl
  case resumeNot => exact fun c s hr => ok_of_eq s (if_neg hr)
  case haltNot => exact fun c s h => ok_of_eq s (if_neg (by rcases h with h | h <;> simp [h]))
  case access =>
    intro c g v s ho hr
    refine ⟨exec_debugAccess ho hr rfl rfl, core_step (exec_debugAccess ho hr rfl rfl) rfl, fun a h4 ha => ⟨?_, ?_⟩⟩
    · refine exec_debugAccess ho hr ?_ rfl
      rw [debugAccess, if_pos (debugReach_sram ha h4), dataRead_ram (.inl ha)]
      rfl
    · have hframe : StoreFrame s (dataStore .bte a.toNat v s) := dataStore_frame _ s (.inl ha)
      have hmem := State.memByte_of_mem (finish_mem s (dataStore .bte a.toNat v s))
      have hstore : debugAccess c (.store a v) s = dataStore .bte a.toNat v s := by
        rw [debugAccess, if_pos (debugReach_sram ha h4), dataWrite_sram _ _ ha]
      refine ⟨_, exec_debugAccess ho hr hstore hframe.regs, ?_, fun x hx => ?_, regsSame_finish hframe.regs, sends_finish hframe.sent⟩
      · exact (memWord_congr fun i _ => hmem _).trans (dataStore_word _ s (.inl ha))
      · exact (hmem x).trans (dataStore_outside _ s (.inl ha) hx)
  case miscompare =>
    intro p l s u hd hin hu
    have hnoted : u = miscNoted p l s := hu
    have hother : u.pairIn (1 - p) = s.pairIn (1 - p) := by rw [hnoted, pairIn_miscNoted]
    rw [hother, hnoted]
    exact ⟨fun hm => ok_of_eq s (miscompare_dual hd hin hm), fun hm ha => ok_of_eq s (miscompare_spare hd hin hm ha),
      fun hm ha ho => ok_of_eq s (miscompare_over hd hin hm ha ho), fun hm ha ho => ok_of_eq s (miscompare_alone hd hin hm ha ho)⟩
  case resync =>
    intro m v s hb hr hv
    refine ⟨fun hm _ h1 hn he hrun => ?_, fun hm => ?_⟩
    · have haccess := fcruAccess_rsync (m := m) hr hv (resyncStart_begins hb hm h1 hn he hrun)
      refine ⟨_, ok_of_eq s haccess, ?_, ?_, sends_finish rfl, memSame_finish rfl⟩
      · rw [getF_finish]
        exact (State.getF_of_regs (State.emit_regs _ _) _ _).trans ((State.getF_wr_ne _ (by decide)).trans (State.getF_setF_eq s (by decide)))
      · rw [co_finish, State.co, State.emit_core]
        exact State.co_setCo_same (s.setF F.FCRU_PSTAT_RSYNC 0 1) 0 { s.co 0 with run := .stalled }
    · exact ⟨_, ok_of_eq s (fcruAccess_rsync (m := m) hr hv (resyncStart_refused hb (.inl hm))), sends_finish rfl,
        regsBut_finish (regsBut_of_regs (regsBut_wr _ (regsBut_refl s _) (by simp)) (State.emit_regs _ _)), memSame_finish rfl⟩
  case resyncEnd =>
    intro s u hr h0 hd hs hu
    exact ⟨ok_of_eq s (resyncEnd_back hr h0 hd hs hu), fun l => ok_of_eq s (resyncEnd_failed hr h0 hd hs hu l)⟩
  case test =>
    intro s ht hm hb
    obtain ⟨hA, hB⟩ := bothPassed_in s hb
    obtain ⟨hmem, hsent, hident⟩ := bothPassed_frame s
    have hexec : exec (.comparatorTestComplete none none) s = ok s _ := ok_of_eq s (testComplete_passed ht hm hb)
    generalize bothPassed s = v at hA hB hmem hsent hident hexec
    have hregs : (finish s (coreReady0 (testOver v))).regs = (v.setB F.FCRU_PSTAT_ACTIVE 0 false).regs := finish_regs _ _
    have hready : ∀ p, (finish s (coreReady0 (testOver v))).pairIn p = v.pairIn p := by
      intro p
      have hflag : ∀ f : Fld, f.reg = .FCRU_PSTAT ∧ f.lo + f.wd ≤ 32 ∧ 1 ≤ f.lo → (finish s (coreReady0 (testOver v))).flag f 0 = v.flag f 0 := by
        intro f ⟨hreg, hlen, hlo⟩
        exact (State.flag_of_regs hregs f 0).trans (State.flag_setB_apart v ⟨hreg, hlen, .inr hlo⟩)
      have hvariant : (finish s (coreReady0 (testOver v))).variant = v.variant := by rw [State.variant, State.variant, finish_ident, hident]
      unfold State.pairIn
      rw [hflag _ (by decide), hflag _ (by decide), hvariant]
    refine ⟨_, hexec, (hready 0).trans hA, (hready 1).trans hB, ?_, ?_, ?_, memSame_finish hmem, sends_finish hsent⟩
    · exact (State.flag_of_regs hregs _ 0).trans (State.flag_setB_eq v (by decide))
    · rw [finish_fcru]
      rfl
    · rw [co_finish, coreReady0, State.co_setCo_same]
  case retry =>
    intro s hr hm
    exact ⟨_, ok_of_eq s (if_pos ⟨hr, hm⟩), by rw [finish_fcru], regsSame_finish rfl, memSame_finish rfl⟩

end Sys2Proof.Machine

/-! # The fault collection unit (16_redundancy_faults.md, R470 to R474, R481, R484) -/

namespace Sys2Proof.Machine

/-! ## Events of a source (R471, R473) -/

section

variable (i : Nat) (s : State)

/-- The count of a source with its next event. -/
def eventCount : Nat := if (s.fsrc i).winEnd.isSome then sat 255 ((s.fsrc i).count + 1) else 1

/-- The end of the window that its next event falls in. -/
def eventWindow : Option Nat := if (s.fsrc i).winEnd.isSome then (s.fsrc i).winEnd else some (s.up + s.srcWin i * 1000000)

/-- The reactions that an event of a class brings. -/
def eventReactions (sev : Bool) : Nat := actingReactions s (if sev then s.srcSevere i else s.srcMinor i)

/-- The source with an event noted, its pending bit set. -/
def eventNoted (sev : Bool) (info : Word) (u : State) : State :=
  (u.setFsrc i { s.fsrc i with
    count := eventCount i s, severe := sev, busy := eventReactions i s sev != 0, events := sat 0xFFFFFFFF ((s.fsrc i).events + 1), info := info,
    winEnd := eventWindow i s }).setB ⟨.FCRU_PEND, i % 32, 1⟩ (i / 32) true

end

section

variable {i : Nat} {info : Word} {s : State}

/-- An event is lost on a source that is not fitted, and while a reaction is in progress. -/
theorem fcruEvent_lost (h : srcFitted s.variant i = false ∨ (s.fsrc i).busy = true) : fcruEvent i info s = s := if_pos (by rcases h with h | h <;> simp [h])

variable (hf : srcFitted s.variant i = true) (hb : (s.fsrc i).busy = false)

include hf hb

theorem fcruEvent_minor (hs : decide (s.srcN i ≤ eventCount i s) = false) : fcruEvent i info s =
    react i 0 (eventReactions i s false) (eventCount i s) info (((eventNoted i s false info s).countF F.FCRU_STAT_EVENTS 0).odoCount 10 i 0 1) := by
  have hgo : ¬ (! srcFitted s.variant i || (s.fsrc i).busy) = true := by simp [hf, hb]
  unfold eventCount at hs
  unfold fcruEvent
  rw [if_neg hgo]
  dsimp only
  rw [hs, if_neg Bool.false_ne_true, if_neg Bool.false_ne_true]
  rfl

theorem fcruEvent_severe (hs : decide (s.srcN i ≤ eventCount i s) = true) : fcruEvent i info s =
    (react i 1 (eventReactions i s true) (eventCount i s) info
      ((((eventNoted i s true info s).setB ⟨.FCRU_SEV, i % 32, 1⟩ (i / 32) true).countF F.FCRU_STAT_EVENTS 0).odoCount 10 i 0 1)).emcyObj
      0xFFA0 0 0x4A00 (0x40 + i) := by
  have hgo : ¬ (! srcFitted s.variant i || (s.fsrc i).busy) = true := by simp [hf, hb]
  unfold eventCount at hs
  unfold fcruEvent
  rw [if_neg hgo]
  dsimp only
  rw [hs, if_pos rfl, if_pos rfl]
  rfl

end

/-- The oldest raised source is taken. -/
theorem fcruTake_eq {i : Nat} {info : Word} {l : List (Nat × Word)} {s : State} (h : s.raised = (i, info) :: l) :
    fcruTake s = fcruEvent i info { s with raised := l } := by
  unfold fcruTake
  rw [h]

/-- The reactions of a class, by their bits: none, LOG, LOG with IRQ, and both with SAFE. -/
theorem react_cases (i sev n : Nat) (info : Word) (u : State) :
    react i sev 0 n info u = u ∧ react i sev 1 n info u = faultRecord i sev 1 n info u ∧
    react i sev 3 n info u = (faultRecord i sev 3 n info u).request 37 ∧
    react i sev 0x13 n info u = (faultRecord i sev 0x13 n info (safeReact i u)).request 37 := ⟨rfl, rfl, rfl, rfl⟩

/-! ## The settings of a source (R472) -/

theorem fsrc_setFsrc_other {s : State} {i j : Nat} (x : FcruSrc) (h : j ≠ i) : (s.setFsrc i x).fsrc j = s.fsrc j :=
  tabGet_set_other ({} : FcruSrc) {} s.fcru.srcs x h

theorem fsrc_finish (s u : State) (i : Nat) : (finish s u).fsrc i = u.fsrc i := by rw [State.fsrc, State.fsrc, finish_fcru]

theorem srcCfg_of_fsrc {s t : State} {i : Nat} (h : t.fsrc i = s.fsrc i) : t.srcCfg i = s.srcCfg i := by rw [State.srcCfg, State.srcCfg, h]

theorem srcCfg_setFsrc_same (s : State) (i n : Nat) : (s.setFsrc i { s.fsrc i with cfg := some n }).srcCfg i = n := by
  rw [State.srcCfg, State.fsrc_setFsrc_same]
  rfl

/-! ## A partner's mute (R481) -/

/-- A partner whose mute ends. -/
def muteEnded (iface who : Nat) (p : Partner) : Partner := if p.iface == iface && p.who == who && p.muted then { p with muted := false, times := [] } else p

theorem muteEnded_same (iface who : Nat) (p : Partner) :
    ((muteEnded iface who p).iface == iface && (muteEnded iface who p).who == who && (muteEnded iface who p).muted) = false := by
  unfold muteEnded
  split
  · exact Bool.and_false _
  · next h => simpa using h

theorem muteEnded_other {iface who i w : Nat} (h : (i, w) ≠ (iface, who)) (p : Partner) :
    ((muteEnded iface who p).iface == i && (muteEnded iface who p).who == w && (muteEnded iface who p).muted) =
      (p.iface == i && p.who == w && p.muted) := by
  unfold muteEnded
  split
  · next hp =>
    simp only [Bool.and_eq_true, beq_iff_eq] at hp
    obtain ⟨⟨rfl, rfl⟩, -⟩ := hp
    have hne : (p.iface == i && p.who == w) = false := by
      rw [Bool.and_eq_false_iff]
      by_contra hboth
      simp only [not_or, Bool.not_eq_false, beq_iff_eq] at hboth
      exact h (by rw [hboth.1, hboth.2])
    rw [hne]
    rfl
  · rfl

/-! ## The registers (R470, R474, R484) -/

/-- A write of an FCRU register has its effect, and its answer in FCRU_RESULT. -/
theorem fcruAccess_eq {m : Master} {r : Reg} {n item : Nat} {v : Word} {s t : State} {code : Code} (h : fcruWrite m r n v s = (code, item, t)) :
    fcruAccess m r n v s = (t.wr .FCRU_RESULT (bk m 0) (word (code.num + 0x100 * item + 0x10000 * r.addr n))).emit (.written m (r.addr n) code) := by
  rw [fcruAccess, h]

/-- The result of an accepted write that concerns no item. -/
theorem accepted_item (a : Nat) : Code.num .accepted + 0x100 * 0 + 0x10000 * a = 0x10000 * a := by
  rw [Nat.mul_zero, Nat.add_zero]
  exact Nat.zero_add _

/-- What such a write leaves, beside what its effect does. -/
theorem fcruAccess_frame {m : Master} {r : Reg} {n item : Nat} {v : Word} {s t : State} {code : Code} (h : fcruWrite m r n v s = (code, item, t))
    (hmem : t.mem = s.mem) (hsent : t.sent = s.sent) : sends s (finish s (fcruAccess m r n v s)) [.written m (r.addr n) code] ∧
      memSame s (finish s (fcruAccess m r n v s)) ∧ (finish s (fcruAccess m r n v s)).fcru = t.fcru ∧ (finish s (fcruAccess m r n v s)).raised = t.raised := by
  rw [fcruAccess_eq h]
  refine ⟨sends_finish (congrArg _ hsent), memSame_finish hmem, ?_, ?_⟩
  · rw [finish_fcru]
    rfl
  · rw [finish_raised]
    rfl

theorem regsBut_fcruAccess {m : Master} {r : Reg} {n item : Nat} {v : Word} {s t : State} {code : Code} {l : List (Reg × Nat)}
    (h : fcruWrite m r n v s = (code, item, t)) (ht : regsBut s t l) (hl : (.FCRU_RESULT, bk m 0) ∈ l) : regsBut s (finish s (fcruAccess m r n v s)) l := by
  rw [fcruAccess_eq h]
  exact regsBut_finish (regsBut_of_regs (regsBut_wr _ ht hl) (State.emit_regs _ _))

/-! ## Acknowledgement (R470) -/

section

variable (i : Nat) (s : State)

theorem acknowledge_frame : (acknowledge i s).regs = (s.setB ⟨.FCRU_PEND, i % 32, 1⟩ (i / 32) false).regs ∧ (acknowledge i s).mem = s.mem ∧
    (acknowledge i s).sent = s.sent := by
  unfold acknowledge
  dsimp only
  split
  · exact ⟨rfl, rfl, rfl⟩
  · split
    · exact ⟨rfl, rfl, rfl⟩
    · split <;> exact ⟨rfl, rfl, rfl⟩

/-- The source acknowledged is not pending. -/
theorem acknowledge_same : (acknowledge i s).srcPending i = false := by
  obtain ⟨hregs, -, -⟩ := acknowledge_frame i s
  have hbit : i % 32 + 1 ≤ 32 := Nat.mod_lt _ (by decide)
  exact (State.flag_of_regs hregs _ _).trans (State.flag_setB_eq s ⟨hbit, rfl⟩)

/-- Every other source stays as it is. -/
theorem acknowledge_other {j : Nat} (h : j ≠ i) : (acknowledge i s).srcPending j = s.srcPending j := by
  obtain ⟨hregs, -, -⟩ := acknowledge_frame i s
  have hbit : j % 32 + 1 ≤ 32 := Nat.mod_lt _ (by decide)
  refine (State.flag_of_regs hregs _ _).trans ?_
  by_cases hw : j / 32 = i / 32
  · rw [State.srcPending, hw]
    have happart : j % 32 + 1 ≤ i % 32 ∨ i % 32 + 1 ≤ j % 32 := by omega
    exact State.flag_setB_apart (f := ⟨.FCRU_PEND, i % 32, 1⟩) (g := ⟨.FCRU_PEND, j % 32, 1⟩) s ⟨rfl, hbit, happart⟩
  · exact State.flag_setB_reg s _ _ _ _ _ (.inr hw)

theorem acknowledge_fieldOff : (acknowledge 168 s).fioForced = false := rfl
theorem acknowledge_boost : (acknowledge 170 s).boostCut = false := rfl

end

/-- A word of one bit names its place. -/
theorem onesUpTo_bit : ∀ b : Fin 32, onesUpTo 32 (word (2 ^ (b : Nat))).toNat = [(b : Nat)] := by decide

theorem pendClear_bit (w : Nat) (b : Fin 32) (s : State) : pendClear w (word (2 ^ (b : Nat))) s = acknowledge (32 * w + b) s := by
  rw [pendClear, onesUpTo_bit]
  rfl

/-! ## SAFE cleared (R474) -/

/-- SAFE cleared, with no source that raised it. -/
def safeOff (s : State) : State := (({ s with fcru := { s.fcru with safeBy := [] } } : State).setB F.FCRU_STAT_SAFE 0 false).setF F.FCRU_STAT_SAFESRC 0 0

theorem fcruWrite_safeclr {m : Master} {v : Word} {s t : State} {code : Code} (hr : reservedSet .FCRU_CTRL v = false) (hv : v ≠ 0)
    (h : safeClear s = (code, t)) : fcruWrite m .FCRU_CTRL 0 v s = (code, 0, t) := by
  refine (if_neg (by simp [hr])).trans ((if_neg hv).trans ?_)
  rw [h]

theorem safeClear_refused {s : State} (h : s.fcru.safeBy.any s.srcPending = true) : safeClear s = (.state, s) := if_pos h

theorem safeClear_done {s : State} (h : s.fcru.safeBy.any s.srcPending = false) :
    safeClear s = (.accepted, if s.flag F.FCRU_STAT_SAFE 0 then safeClearAll (safeOff s) else safeOff s) := if_neg (by rw [h]; decide)

/-- Settles O52, clause by clause: events and their reactions, windows, raises, mutes, and the unit's controls. -/
theorem faultUnit : Obligations.FaultUnit := by
  refine ⟨?event, ?reactions, ?none, ?outside, ?window, ?raise, ?mute, ?safeclr, ?pend, ?scfg⟩
  case event =>
    intro i info l s u hraised hu
    have hexec : exec (.fcruSourceEvent none) s = ok s (fcruEvent i info u) := ok_of_eq s (by rw [fcruTake_eq hraised, hu])
    have hsrc : u.fsrc i = s.fsrc i := by rw [hu]; rfl
    have hvariant : u.variant = s.variant := by rw [hu]; rfl
    have hcount : eventCount i u = eventCount i s := by rw [hu]; rfl
    have hn : u.srcN i = s.srcN i := by rw [hu]; rfl
    have hreact : eventReactions i u = eventReactions i s := by rw [hu]; rfl
    have hnoted : ∀ sev, eventNoted i u sev info u = eventNoted i s sev info u := by
      intro sev
      have hwin : eventWindow i u = eventWindow i s := by rw [hu]; rfl
      rw [eventNoted, eventNoted, hsrc, hcount, hreact, hwin]
    refine ⟨fun h => ?_, ?_⟩
    · rw [hexec, fcruEvent_lost (by rw [hvariant, hsrc]; exact h)]
      rfl
    · rintro _ _ sev _ _ hf hb rfl hsev rfl rfl rfl
      rw [hexec]
      have hfu : srcFitted u.variant i = true := hvariant ▸ hf
      have hbu : (u.fsrc i).busy = false := hsrc ▸ hb
      refine ⟨fun h0 => ?_, fun h1 => ?_⟩
      · have hclass : decide (u.srcN i ≤ eventCount i u) = false := by rw [hn, hcount, ← h0, hsev]; rfl
        rw [fcruEvent_minor hfu hbu hclass, hcount, hreact, hnoted, h0]
        rfl
      · have hclass : decide (u.srcN i ≤ eventCount i u) = true := by rw [hn, hcount, ← h1, hsev]; rfl
        rw [fcruEvent_severe hfu hbu hclass, hcount, hreact, hnoted, h1]
        rfl
  case reactions => exact fun i sev n info u => react_cases i sev n info u
  case none => exact fun s h => ok_of_eq s (by rw [fcruTake, h])
  case outside => exact fun i info s => ⟨fun h => ok_of_eq s (if_pos h), fun h => ok_of_eq s (if_neg (by rw [h]; decide))⟩
  case window =>
    intro i s
    refine ⟨fun e he => ?_, fun hn => ok_of_eq s (if_neg (by rw [hn]; decide)), ?_⟩
    · refine ⟨_, ok_of_eq s (if_pos (by rw [he]; rfl)), ?_, fun j hj => ?_, regsSame_finish rfl, memSame_finish rfl⟩
      · rw [fsrc_finish, State.fsrc_setFsrc_same]
      · rw [fsrc_finish, fsrc_setFsrc_other _ hj]
    · refine ⟨_, ok_of_eq s rfl, ?_, fun j hj => ?_, regsSame_finish rfl, memSame_finish rfl, sends_finish rfl⟩
      · rw [fsrc_finish, State.fsrc_setFsrc_same]
      · rw [fsrc_finish, fsrc_setFsrc_other _ hj]
  case raise =>
    intro m v s hr
    have hwrite : fcruWrite m .FCRU_RAISE 0 v s =
        (.accepted, 176 + F.FCRU_RAISE_SRC.of v, s.raise (176 + F.FCRU_RAISE_SRC.of v) (F.FCRU_RAISE_INFO.of v)) := if_neg (by rw [hr]; decide)
    obtain ⟨hsends, hmem, -, hraised⟩ := fcruAccess_frame hwrite rfl rfl
    exact ⟨_, ok_of_eq s rfl, hraised, hsends, regsBut_fcruAccess hwrite (fun _ _ _ => rfl) (by simp), hmem⟩
  case mute =>
    intro iface who s
    have hmuted : ∀ i w, (finish s { s with fcru := { s.fcru with partners := s.fcru.partners.map (muteEnded iface who) } }).mutedPartner i w =
        s.fcru.partners.any fun p => (muteEnded iface who p).iface == i && (muteEnded iface who p).who == w && (muteEnded iface who p).muted := by
      intro i w
      rw [State.mutedPartner, finish_fcru]
      exact List.any_map
    refine ⟨_, ok_of_eq s rfl, ?_, fun i w h => ?_, regsSame_finish rfl, memSame_finish rfl, sends_finish rfl⟩
    · refine (hmuted iface who).trans ?_
      simp only [muteEnded_same, List.any_eq_false]
      exact fun _ _ => Bool.false_ne_true
    · refine (hmuted i w).trans ?_
      simp only [muteEnded_other h]
      rfl
  case safeclr =>
    rintro m v s _ hr hv rfl
    refine ⟨fun h => ok_of_eq s ?_, fun h => ok_of_eq s ?_⟩
    · have haccess := fcruAccess_eq (fcruWrite_safeclr (m := m) hr hv (safeClear_refused h))
      rw [Nat.mul_zero, Nat.add_zero] at haccess
      exact haccess
    · have hwrite := fcruWrite_safeclr (m := m) hr hv (safeClear_done h)
      have haccess := fcruAccess_eq hwrite
      rw [accepted_item] at haccess
      exact haccess
  case pend =>
    intro m w b s
    have hwrite : fcruWrite m .FCRU_PEND w (word (2 ^ (b : Nat))) s = (.accepted, 0, acknowledge (32 * w + b) s) := by
      rw [← pendClear_bit]
      rfl
    obtain ⟨hregs, hmem, hsent⟩ := acknowledge_frame (32 * w + b) s
    have hword : (32 * (w : Nat) + b) / 32 = w := by omega
    rw [hword] at hregs
    have hbut : regsBut s (acknowledge (32 * w + b) s) [(.FCRU_PEND, (w : Nat)), (.FCRU_RESULT, bk m 0)] :=
      regsBut_of_regs (regsBut_setB _ (regsBut_refl s _) (by simp)) hregs
    obtain ⟨hsends, hmemSame, -, -⟩ := fcruAccess_frame hwrite hmem hsent
    have hpend : ∀ i, (finish s (fcruAccess m .FCRU_PEND w (word (2 ^ (b : Nat))) s)).srcPending i = (acknowledge (32 * w + b) s).srcPending i := by
      intro i
      rw [fcruAccess_eq hwrite, State.srcPending, flag_finish]
      exact (State.flag_of_regs (State.emit_regs _ _) _ _).trans (State.flag_wr_ne _ (show Reg.FCRU_PEND ≠ .FCRU_RESULT by decide))
    refine ⟨_, ok_of_eq s rfl, (hpend _).trans (acknowledge_same _ s), fun i hi => (hpend i).trans (acknowledge_other _ s hi), hsends,
      regsBut_fcruAccess hwrite hbut (by simp), hmemSame, fun h => ?_, fun h => ?_⟩
    · rw [fcruAccess_eq hwrite, finish_fioForced, h]
      rfl
    · rw [fcruAccess_eq hwrite, finish_boostCut, h]
      rfl
  case scfg =>
    rintro m v i s rfl hf hr
    refine ⟨fun hok => ?_, fun hbad => ?_⟩
    · have hwrite : fcruWrite m .FCRU_SCFG 0 v s = (.accepted, s.fcruSel m, s.setFsrc (s.fcruSel m) { s.fsrc (s.fcruSel m) with cfg := some v.toNat }) := by
        simp [fcruWrite, scfgWrite, hf, hr, hok]
      obtain ⟨hsends, hmem, hfcru, -⟩ := fcruAccess_frame hwrite rfl rfl
      have hsrc : ∀ j, (finish s (fcruAccess m .FCRU_SCFG 0 v s)).fsrc j =
          (s.setFsrc (s.fcruSel m) { s.fsrc (s.fcruSel m) with cfg := some v.toNat }).fsrc j := fun j => by rw [State.fsrc, State.fsrc, hfcru]
      refine ⟨_, ok_of_eq s rfl, ?_, fun j hj => ?_, hsends, regsBut_fcruAccess hwrite (fun _ _ _ => rfl) (by simp), hmem⟩
      · exact (srcCfg_of_fsrc (hsrc _)).trans (srcCfg_setFsrc_same s _ _)
      · exact srcCfg_of_fsrc ((hsrc j).trans (fsrc_setFsrc_other _ hj))
    · have hwrite : fcruWrite m .FCRU_SCFG 0 v s = (.invalid, s.fcruSel m, s) := by simp [fcruWrite, scfgWrite, hf, hr, hbad]
      obtain ⟨hsends, hmem, hfcru, -⟩ := fcruAccess_frame hwrite rfl rfl
      exact ⟨_, ok_of_eq s rfl, srcCfg_of_fsrc (by rw [State.fsrc, State.fsrc, hfcru]), hsends,
        regsBut_fcruAccess hwrite (regsBut_refl s _) (by simp), hmem⟩

end Sys2Proof.Machine

/-! # Attempts and rounds of cab access (17_cab_access.md, R491 to R499, R503, R506) -/

namespace Sys2Proof.Machine

/-! ## Writes of ACC_CTRL (R507) -/

/-- A write that reaches ACC_CTRL has its effect, and its answer in ACC_RESULT. -/
theorem accAccess_ctrl {m : Master} {v : Word} {s t : State} {code : Code} (hf : accFitted s.variant = true) (h : accCtrl v s = (code, t)) :
    accAccess m .ACC_CTRL 0 v s =
      (t.wr .ACC_RESULT (bk m 0) (word (code.num + 0x10000 * Reg.addr .ACC_CTRL 0))).emit (.written m (Reg.addr .ACC_CTRL 0) code) := by
  have hwrite : accWrite m .ACC_CTRL 0 v s = (code, 0, t) := by
    rw [accWrite, h]
  unfold accAccess
  rw [if_neg (by simp [hf]), hwrite]
  dsimp only
  rw [Nat.mul_zero, Nat.add_zero]

section

variable {v : Word} {s : State} (hr : reservedSet .ACC_CTRL v = false) (hend : F.ACC_CTRL_END.on v = false)

include hr hend

/-- POLL alone starts an attempt where one may start. -/
theorem accCtrl_poll (hp : F.ACC_CTRL_POLL.on v = true) (hc : F.ACC_CTRL_CALREQ.on v = false) (ho : s.attemptOk = true) :
    accCtrl v s = (.accepted, trainStart 1 (F.ACC_CTRL_ANT.of v) s) := by
  simp only [accCtrl, hr, hend, hp, hc, ho, Bool.not_true, Bool.or_false, Bool.and_false, Bool.false_and, Bool.false_eq_true, if_false, if_true]

theorem accCtrl_poll_refused (hp : F.ACC_CTRL_POLL.on v = true) (ho : s.attemptOk = false) : accCtrl v s = (.state, s) := by
  simp only [accCtrl, hr, hend, hp, ho, Bool.not_false, Bool.true_or, Bool.and_true, Bool.false_eq_true, if_false, if_true]

variable (hp : F.ACC_CTRL_POLL.on v = false) (hc : F.ACC_CTRL_CALREQ.on v = true)

include hp hc

/-- CALREQ alone starts a calibration of an idle unit in service mode. -/
theorem accCtrl_cal (ho : s.accOn = true) (he : s.entering = false) (h0 : s.accState = 0) (hm : s.flag F.SVC_STAT_MODE 0 = true)
    (hlo : 30 ≤ F.ACC_CTRL_CALDIST.of v) (hhi : F.ACC_CTRL_CALDIST.of v ≤ 300) : ∃ t, accCtrl v s = (.accepted, t) ∧
      t.acc = { (trainStart 4 (F.ACC_CTRL_CALANT.of v) s).acc with calDist := F.ACC_CTRL_CALDIST.of v } ∧
      t.regs = (trainStart 4 (F.ACC_CTRL_CALANT.of v) s).regs ∧ t.sent = (trainStart 4 (F.ACC_CTRL_CALANT.of v) s).sent ∧ t.mem = s.mem := by
  have hidle : (s.accState != 0) = false := by simp [h0]
  have hdist : decide (30 ≤ F.ACC_CTRL_CALDIST.of v ∧ F.ACC_CTRL_CALDIST.of v ≤ 300) = true := by simp [hlo, hhi]
  refine ⟨{ (trainStart 4 (F.ACC_CTRL_CALANT.of v) s) with acc := { (trainStart 4 (F.ACC_CTRL_CALANT.of v) s).acc with calDist := F.ACC_CTRL_CALDIST.of v } },
    ?_, rfl, rfl, rfl, rfl⟩
  simp only [accCtrl, hr, hend, hp, hc, ho, he, hm, hidle, hdist, Bool.not_true, Bool.or_false, Bool.and_false, Bool.false_and, Bool.false_eq_true,
    if_false, if_true]

theorem accCtrl_cal_refused (hm : s.flag F.SVC_STAT_MODE 0 = false) : accCtrl v s = (.state, s) := by
  simp only [accCtrl, hr, hend, hp, hc, hm, Bool.not_false, Bool.or_true, Bool.and_true, Bool.false_eq_true, if_false, if_true]

end

/-! ## Attempts and rounds (R491, R492) -/

/-- What a wake train starts from. -/
theorem trainStart_spec (st ant : Nat) (s : State) (hst : st < 8) : (trainStart st ant s).accState = st ∧ (trainStart st ant s).acc.train = true ∧
    (trainStart st ant s).acc.ant = ant ∧ (trainStart st ant s).acc.rounds = 0 ∧ (trainStart st ant s).sent = .uwbTrain ant :: s.sent ∧
    (trainStart st ant s).regs = (s.setF F.ACC_STAT_STATE 0 st).regs ∧ (trainStart st ant s).mem = s.mem := by
  have hregs : (trainStart st ant s).regs = (s.setF F.ACC_STAT_STATE 0 st).regs := rfl
  refine ⟨?_, rfl, rfl, rfl, rfl, hregs, rfl⟩
  rw [State.accState, State.getF_of_regs hregs, State.getF_setF_eq s (by decide)]
  exact Nat.mod_eq_of_lt hst

/-- The nonce of the next round. -/
def nextNonce (s : State) : List Byte := (List.range 16).map fun i => Config.randomByte (16 * s.fresh + i)

/-- A round begun from a state of the same clock. -/
theorem roundStart_spec (s : State) : (roundStart s).acc = { s.acc with
      train := false, due := false, inRound := true, rounds := s.acc.rounds + 1, slots := [], nonce := nextNonce s } ∧
    (roundStart s).sent = .uwbPoll s.acc.ant (nextNonce s) :: s.sent ∧ (roundStart s).mem = s.mem ∧ (roundStart s).regs = s.regs := ⟨rfl, rfl, rfl, rfl⟩

/-- The train's end starts the first round of an attempt. -/
theorem wakeTrainEnd_round {s : State} (h : s.acc.train = true) :
    exec .wakeTrainEnd s = ok s (roundStart (if s.accState = 1 then accTo 2 s else s)) := ok_of_eq s (if_pos h)

theorem nextRound_round {s : State} (h : s.acc.due = true) : exec .nextRound s = ok s (roundStart s) := ok_of_eq s (if_pos h)

/-! ## The end of a round (R494 to R497) -/

/-- A slot that nothing filled is judged absent, and nothing changes. -/
theorem judge_empty {k : Nat} {s : State} (h : s.acc.slots = []) : judge k s = (.absent, none, s) := by
  have hslot : s.accSlot k = {} := by rw [State.accSlot, h]; rfl
  unfold judge
  rw [hslot]
  rfl

theorem judgeAll_empty {s : State} (h : s.acc.slots = []) : ∀ l : List Nat, judgeAll l s = (l.map fun _ => Verdict.absent, [], s) := by
  intro l
  induction l with
  | nil => rfl
  | cons k l ih =>
    simp only [judgeAll, judge_empty h, ih]
    rfl

/-- A round outside a calibration ends as its judgement decides. -/
theorem roundJudge_attempt {s u : State} {vs : List Verdict} {seen : List Nat} (hr : s.acc.inRound = true) (h4 : s.accState ≠ 4)
    (hj : judgeAll (List.range 8) s = (vs, seen, u)) : roundJudge s =
      roundOutcome vs ((List.range 16).filter fun t => s.flag F.ACC_TOK_RESYNC t && (s.accCand t).isSome) seen
        { u with acc := { u.acc with inRound := false, slots := [], calTof := [] } } := by
  unfold roundJudge
  rw [if_neg (by simp [hr])]
  dsimp only
  rw [hj, if_neg h4]

theorem roundOutcome_granted {vs : List Verdict} {before seen : List Nat} {s : State} {tok : Nat} {f : Int × Nat} (h : winner vs = some (tok, f)) :
    roundOutcome vs before seen s = grant tok f s := by
  unfold roundOutcome
  rw [h]

/-- A round in which no slot was filled ends its attempt. -/
theorem roundOutcome_empty (s : State) (seen : List Nat) : roundOutcome ((List.range 8).map fun _ => Verdict.absent) [] seen s = attemptEnd 1 s := by
  have hwinner : winner ((List.range 8).map fun _ => Verdict.absent) = none := by decide
  have hcode : lastCode ((List.range 8).map fun _ => Verdict.absent) = 1 := by decide
  have hcollision : ((List.range 8).map fun _ => Verdict.absent).contains .collision = false := by decide
  have hresync : ((List.range 8).map fun _ => Verdict.absent).contains .resync = false := by decide
  unfold roundOutcome
  rw [hwinner]
  simp only [hcollision, hresync, hcode, Bool.false_eq_true, if_false, false_and, List.any_nil]

/-- What a command that waits for a round does outside one. -/
theorem accRound_idle {s : State} (h : s.acc.inRound = false) (k : Fin 8) (col : Bool) (tok : Option (Fin 16)) (ra rb db ctr : Nat) (tag : List Byte) :
    exec .roundEnd s = ok s s ∧ exec .accFinal s = ok s s ∧ exec (.accResp k col tok ra) s = ok s s ∧ exec (.accReport k col rb db ctr tag) s = ok s s := by
  have hnot : ¬ s.acc.inRound = true := by simp [h]
  exact ⟨ok_of_eq s (if_pos (by simp [h])), ok_of_eq s (if_neg hnot), ok_of_eq s (if_neg hnot), ok_of_eq s (if_neg hnot)⟩

/-- Settles O53, clause by clause: the triggers, the wake train, the rounds, and their ends. -/
theorem cabAccessRounds : Obligations.CabAccessRounds := by
  refine ⟨?schedule, ?scheduleNot, ?poll, ?cal, ?round, ?slots, ?empty, ?granted, ?idle⟩
  case schedule =>
    intro s ho hsched hign
    refine ⟨fun hd => ok_of_eq s ((if_pos (by simp [hsched, hign, hd])).trans (if_pos ho)), fun hd => ok_of_eq s (if_neg (by simp [hd]))⟩
  case scheduleNot =>
    intro s h
    refine ok_of_eq s ?_
    split
    · next hgo =>
      have hok : ¬ s.attemptOk = true := by
        simp only [Bool.and_eq_true, bne_iff_ne] at hgo
        rcases h with h | h | h
        · simp [h]
        · exact absurd h hgo.1.1
        · exact absurd hgo.1.2 (by simp [h])
      exact if_neg hok
    · rfl
  case poll =>
    rintro m w _ s hf rfl hr hend hc
    have hp : F.ACC_CTRL_POLL.on (w ||| word (2 ^ F.ACC_CTRL_POLL.lo)) = true := Fld.on_or_self (by decide) w
    refine ⟨fun ho => ?_, fun ho => ok_of_eq s (accAccess_ctrl hf (accCtrl_poll_refused hr hend hp ho))⟩
    have haccess := accAccess_ctrl (m := m) hf (accCtrl_poll hr hend hp hc ho)
    obtain ⟨hstate, htrain, hant, hrounds, hsent, hregs, hmem⟩ := trainStart_spec 1 (F.ACC_CTRL_ANT.of (w ||| word (2 ^ F.ACC_CTRL_POLL.lo))) s (by decide)
    generalize trainStart 1 (F.ACC_CTRL_ANT.of (w ||| word (2 ^ F.ACC_CTRL_POLL.lo))) s = u at haccess hstate htrain hant hrounds hsent hregs hmem
    have hacc : (finish s (accAccess m .ACC_CTRL 0 (w ||| word (2 ^ F.ACC_CTRL_POLL.lo)) s)).acc = u.acc := by
      rw [haccess, finish_acc]
      rfl
    refine ⟨_, ok_of_eq s rfl, ?_, hacc ▸ htrain, hacc ▸ hant, hacc ▸ hrounds, ?_, ?_, ?_⟩
    · rw [haccess, State.accState, getF_finish]
      exact (State.getF_of_regs (State.emit_regs _ _) _ _).trans ((State.getF_wr_ne u (by decide)).trans hstate)
    · rw [haccess]
      exact sends_finish (congrArg _ hsent)
    · rw [haccess]
      exact regsBut_finish (regsBut_of_regs (regsBut_wr _ (regsBut_of_regs (regsBut_setF _ (regsBut_refl s _) (by simp [F.ACC_STAT_STATE])) hregs) (by simp))
        (State.emit_regs _ _))
    · rw [haccess]
      exact memSame_finish hmem
  case cal =>
    rintro m w _ s ho rfl hr hend hp he
    have hf : accFitted s.variant = true := (Bool.and_eq_true _ _ ▸ ho : _ ∧ _).1
    have hc : F.ACC_CTRL_CALREQ.on (w ||| word (2 ^ F.ACC_CTRL_CALREQ.lo)) = true := Fld.on_or_self (by decide) w
    refine ⟨fun h0 hm hlo hhi => ?_, fun hm => ok_of_eq s (accAccess_ctrl hf (accCtrl_cal_refused hr hend hp hc hm))⟩
    obtain ⟨u, hctrl, hacc, hregs, hsent, hmem⟩ := accCtrl_cal hr hend hp hc ho he h0 hm hlo hhi
    have haccess := accAccess_ctrl (m := m) hf hctrl
    obtain ⟨hstate, htrain, hant, -, htsent, -, -⟩ := trainStart_spec 4 (F.ACC_CTRL_CALANT.of (w ||| word (2 ^ F.ACC_CTRL_CALREQ.lo))) s (by decide)
    generalize trainStart 4 (F.ACC_CTRL_CALANT.of (w ||| word (2 ^ F.ACC_CTRL_CALREQ.lo))) s = v at hacc hregs hsent hstate htrain hant htsent
    have hfinal : (finish s (accAccess m .ACC_CTRL 0 (w ||| word (2 ^ F.ACC_CTRL_CALREQ.lo)) s)).acc =
        { v.acc with calDist := F.ACC_CTRL_CALDIST.of (w ||| word (2 ^ F.ACC_CTRL_CALREQ.lo)) } := by
      rw [haccess, finish_acc]
      exact hacc
    refine ⟨_, ok_of_eq s rfl, ?_, ?_, ?_, ?_, ?_, ?_⟩
    · rw [haccess, State.accState, getF_finish]
      exact (State.getF_of_regs (State.emit_regs _ _) _ _).trans ((State.getF_wr_ne u (by decide)).trans ((State.getF_of_regs hregs _ _).trans hstate))
    · rw [hfinal]
      exact htrain
    · rw [hfinal]
      exact hant
    · rw [hfinal]
    · rw [haccess]
      exact sends_finish (congrArg _ (hsent.trans htsent))
    · rw [haccess]
      exact memSame_finish hmem
  case round =>
    have hbegun : ∀ s u : State, u.acc = s.acc → u.fresh = s.fresh → u.sent = s.sent → u.mem = s.mem →
        (finish s (roundStart u)).acc.nonce = nextNonce s ∧ (finish s (roundStart u)).acc.inRound = true ∧ (finish s (roundStart u)).acc.train = false ∧
        (finish s (roundStart u)).acc.due = false ∧ (finish s (roundStart u)).acc.rounds = s.acc.rounds + 1 ∧ (finish s (roundStart u)).acc.slots = [] ∧
        sends s (finish s (roundStart u)) [.uwbPoll s.acc.ant (nextNonce s)] ∧ memSame s (finish s (roundStart u)) := by
      intro s u hacc hfresh hsent hmem
      obtain ⟨hracc, hrsent, hrmem, -⟩ := roundStart_spec u
      have hnonce : nextNonce u = nextNonce s := by rw [nextNonce, nextNonce, hfresh]
      rw [finish_acc, hracc, hacc, hnonce]
      rw [hacc, hnonce, hsent] at hrsent
      exact ⟨rfl, rfl, rfl, rfl, rfl, rfl, sends_finish hrsent, memSame_finish (hrmem.trans hmem)⟩
    rintro s c (⟨rfl, htrain⟩ | ⟨rfl, hdue⟩)
    · have hacc : (if s.accState = 1 then accTo 2 s else s).acc = s.acc ∧ (if s.accState = 1 then accTo 2 s else s).fresh = s.fresh ∧
          (if s.accState = 1 then accTo 2 s else s).sent = s.sent ∧ (if s.accState = 1 then accTo 2 s else s).mem = s.mem := by
        split <;> exact ⟨rfl, rfl, rfl, rfl⟩
      obtain ⟨hacc, hfresh, hsent, hmem⟩ := hacc
      obtain ⟨hnonce, hin, htr, hdue, hrounds, hslots, hsends, hsame⟩ := hbegun s _ hacc hfresh hsent hmem
      refine ⟨_, _, wakeTrainEnd_round htrain, rfl, hnonce, hin, htr, hdue, hrounds, hslots, hsends, hsame, fun _ h1 => ?_⟩
      obtain ⟨-, -, -, hregs⟩ := roundStart_spec (if s.accState = 1 then accTo 2 s else s)
      rw [State.accState, getF_finish, State.getF_of_regs hregs, if_pos h1]
      exact State.getF_setF_eq s (by decide)
    · obtain ⟨hnonce, hin, htr, hd, hrounds, hslots, hsends, hsame⟩ := hbegun s s rfl rfl rfl rfl
      exact ⟨_, _, nextRound_round hdue, rfl, hnonce, hin, htr, hd, hrounds, hslots, hsends, hsame, fun h => by cases h⟩
  case slots =>
    rintro k col tok ra rb db ctr tag s _ _ hin rfl rfl
    exact ⟨ok_of_eq s (if_pos hin), ok_of_eq s (if_pos hin), ok_of_eq s (if_pos hin)⟩
  case empty =>
    intro s hin h2 hslots hresync
    have hbefore : ((List.range 16).filter fun t => s.flag F.ACC_TOK_RESYNC t && (s.accCand t).isSome) = [] := by
      refine List.filter_eq_nil_iff.2 fun t ht => ?_
      rw [hresync t (List.mem_range.1 ht)]
      exact Bool.false_ne_true
    refine ok_of_eq s ((roundJudge_attempt hin (by simp [h2]) (judgeAll_empty hslots _)).trans ?_)
    rw [hbefore, roundOutcome_empty]
  case granted =>
    intro s u vs seen tok f hin h4 hj hw
    exact ok_of_eq s ((roundJudge_attempt hin h4 hj).trans (roundOutcome_granted hw))
  case idle => exact fun k col tok ra rb db ctr tag s h => accRound_idle h k col tok ra rb db ctr tag

end Sys2Proof.Machine

/-! # Sessions, drive enable and enrolment of cab access (17_cab_access.md, R489, R499, R501, R502) -/

namespace Sys2Proof.Machine

/-! ## The end of a session (R499) -/

theorem sessionEnd_open {code : Nat} {s : State} (h : s.accState = 3) :
    sessionEnd code s = accTo 0 (accRecord 1 code (lockWithdraw { s with acc := { s.acc with lockna := false } })) := if_neg (by simp [h])

theorem sessionEnd_none {code : Nat} {s : State} (h : s.accState ≠ 3) : sessionEnd code s = s := if_pos h

/-- END alone ends a session. -/
theorem accCtrl_end {v : Word} {s : State} (hr : reservedSet .ACC_CTRL v = false) (hend : F.ACC_CTRL_END.on v = true) (hp : F.ACC_CTRL_POLL.on v = false)
    (hc : F.ACC_CTRL_CALREQ.on v = false) : accCtrl v s = (.accepted, sessionEnd 2 s) := by
  simp only [accCtrl, hr, hend, hp, hc, Bool.false_and, Bool.false_eq_true, if_false, if_true]

/-! ## Drive enable (R501, R502) -/

/-- The bytes of a drive-enable frame. -/
def driveData (enabled : Bool) (s : State) : List Byte := (leBytes 4 s.acc.deCount).reverse ++ [byte (b01 enabled), byte s.acc.deToken, 0, 0]

/-- A drive-enable frame of a channel that can send takes the next value of the rolling counter. -/
theorem driveFrame_sent {enabled : Bool} {s : State} (ho : s.canOn s.deCh = true) (hs : s.canSends s.deCh = true) :
    driveFrame enabled s = ({ s with acc := { s.acc with deCount := (s.acc.deCount + 1) % 2 ^ 32 } } : State).emit (.canFdFrame s.deCh (s.getF F.ACC_DE_DEID 0)
      (driveData enabled s ++ Config.driveTag s.svc.driveKey (s.getF F.ACC_DE_DEID 0) (driveData enabled s))) := if_neg (by simp [ho, hs])

theorem driveFrame_none {enabled : Bool} {s : State} (h : s.canOn s.deCh = false ∨ s.canSends s.deCh = false) : driveFrame enabled s = s :=
  if_pos (by rcases h with h | h <;> simp [h])

/-! ## Enrolment (R489) -/

section

variable {i : Nat} {d : List Byte} {s : State} (hf : accFitted s.variant = true)

include hf

/-- An enrolment of its length is taken from the service session while the unit is idle. -/
theorem enrolWrite_taken (hd : d.length = 28) (h0 : s.accState = 0) :
    enrolWrite .service i d s = (enrol i d s).emit (.objWritten .service 0x4800 (0x20 + i) .accepted) := by
  simp [enrolWrite, hf, hd, h0]

theorem enrolWrite_busy (hd : d.length = 28) (h0 : s.accState ≠ 0) :
    enrolWrite .service i d s = s.objAborted .service 0x4800 (0x20 + i) 0x08000022 := by
  simp [enrolWrite, hf, hd, h0]

theorem enrolWrite_other {p : DPath} (hp : p ≠ .service) : enrolWrite p i d s = s.objAborted p 0x4800 (0x20 + i) 0x08000022 := by
  simp [enrolWrite, hf, hp]

end

/-- What an enrolment changes: the token, its last counter and its RESYNC. -/
theorem enrol_spec (i : Nat) (d : List Byte) (s : State) :
    (enrol i d s).token i = (if d.all (· == 0) then none else some { id := d.take 8, key := (d.drop 8).take 16 }) ∧
    (enrol i d s).getF F.ACC_LAST_LAST i = leNat (d.drop 24) % 2 ^ F.ACC_LAST_LAST.wd ∧ (enrol i d s).flag F.ACC_TOK_RESYNC i = false ∧
    regsBut s (enrol i d s) [(.ACC_LAST, i), (.ACC_TOK, i)] ∧ (enrol i d s).mem = s.mem ∧ (enrol i d s).sent = s.sent := by
  have hregs : (enrol i d s).regs = ((s.setF F.ACC_LAST_LAST i (leNat (d.drop 24))).setB F.ACC_TOK_RESYNC i false).regs := rfl
  refine ⟨tabGet_set_same none s.acc.tokens i _, ?_, ?_, ?_, rfl, rfl⟩
  · exact (State.getF_of_regs hregs _ _).trans ((State.getF_setB_ne _ (by decide)).trans (State.getF_setF_eq s (by decide)))
  · exact (State.flag_of_regs hregs _ _).trans (State.flag_setB_eq _ (by decide))
  · exact regsBut_of_regs (regsBut_setB _ (regsBut_setF _ (regsBut_refl s _) (by simp [F.ACC_LAST_LAST])) (by simp [F.ACC_TOK_RESYNC])) hregs

/-- Settles O54, clause by clause: sessions and their end, drive-enable frames, the wait for IGN, and enrolments. -/
theorem cabAccessSessions : Obligations.CabAccessSessions := by
  refine ⟨?timeout, ?endNow, ?timeoutNot, ?frame, ?frameNot, ?dewait, ?withdrawn, ?neither, ?enrolment, ?sdo⟩
  case timeout => exact fun s u h hu => ok_of_eq s ((sessionEnd_open h).trans hu.symm)
  case endNow =>
    rintro m w _ s hf rfl hr hp hc
    have hend : F.ACC_CTRL_END.on (w ||| word (2 ^ F.ACC_CTRL_END.lo)) = true := Fld.on_or_self (by decide) w
    have haccess := accAccess_ctrl (m := m) hf (accCtrl_end (s := s) hr hend hp hc)
    have hresult : Code.num .accepted + 0x10000 * Reg.addr .ACC_CTRL 0 = 0x10000 * Reg.addr .ACC_CTRL 0 := Nat.zero_add _
    rw [hresult] at haccess
    refine ⟨fun h => ok_of_eq s ?_, fun h => ok_of_eq s ?_⟩
    · rw [haccess, sessionEnd_open h]
    · rw [haccess, sessionEnd_none h]
  case timeoutNot => exact fun s h => ok_of_eq s (sessionEnd_none h)
  case frame =>
    rintro s _ hd ho hs rfl
    exact ⟨_, ok_of_eq s ((if_pos hd).trans (driveFrame_sent ho hs)), finish_acc _ _, regsSame_finish rfl, memSame_finish rfl, sends_finish rfl⟩
  case frameNot =>
    intro s h
    refine ok_of_eq s ?_
    split
    · next hd => exact driveFrame_none (h.resolve_left (by simp [hd]))
    · rfl
  case dewait =>
    intro s hw
    have hwaits : ¬ (! s.acc.deWait) = true := by simp [hw]
    refine ⟨fun hi => ?_, fun hi hd => ?_⟩
    · exact ⟨_, ok_of_eq s ((if_neg hwaits).trans (if_pos hi)), finish_acc _ _, regsSame_finish rfl, memSame_finish rfl⟩
    · have hclear : driveClear { s with acc := { s.acc with deWait := false } } =
          ({ s with acc := { s.acc with deWait := false, withdraw := 3 } } : State).setB F.ACC_STAT_DE 0 false := if_pos hd
      have hexec : exec .dewait s = ok s (({ s with acc := { s.acc with deWait := false, withdraw := 3 } } : State).setB F.ACC_STAT_DE 0 false) :=
        ok_of_eq s ((if_neg hwaits).trans ((if_neg (by simp [hi])).trans hclear))
      have hbut : regsBut s (s.setB F.ACC_STAT_DE 0 false) [(.ACC_STAT, 0)] := regsBut_setB _ (regsBut_refl s _) (by simp [F.ACC_STAT_DE])
      refine ⟨_, hexec, ?_, finish_acc _ _, regsBut_finish (regsBut_of_regs hbut rfl), memSame_finish rfl, sends_finish rfl⟩
      rw [State.driveEnabled, flag_finish]
      exact State.flag_setB_eq _ (by decide)
  case withdrawn =>
    rintro s _ hpos ho hs rfl
    have hframe := driveFrame_sent (enabled := false) (s := { s with acc := { s.acc with withdraw := s.acc.withdraw - 1 } }) ho hs
    exact ⟨_, ok_of_eq s ((if_neg (by omega)).trans hframe), finish_acc _ _, regsSame_finish rfl, memSame_finish rfl, sends_finish rfl⟩
  case neither => exact fun s => ⟨fun h => ok_of_eq s (if_pos (by simp [h])), fun h => ok_of_eq s (if_pos h)⟩
  case enrolment =>
    intro i d s hf hd
    refine ⟨fun h0 => ?_, fun h0 => ok_of_eq s (enrolWrite_busy hf hd h0)⟩
    obtain ⟨htoken, hlast, hresync, hbut, hmem, hsent⟩ := enrol_spec i d s
    refine ⟨_, ok_of_eq s (enrolWrite_taken hf hd h0), ?_, ?_, ?_, sends_finish (congrArg _ hsent),
      regsBut_finish (regsBut_of_regs hbut rfl), memSame_finish hmem⟩
    · rw [State.token, finish_acc]
      exact htoken
    · rw [getF_finish]
      exact hlast
    · rw [flag_finish]
      exact hresync
  case sdo => exact fun k i h hk d s hf => ok_of_eq s (enrolWrite_other hf (by simp))

end Sys2Proof.Machine

/-! # Firmware update (18_service_update_odometer.md, R513 to R517) -/

namespace Sys2Proof.Machine

/-! ## The update commands (R514, R530) -/

/-- A command from the service session is answered as an access to 0x4D00:01. -/
theorem updMaster_service {cmd : Nat} {s t : State} (h : updCommand cmd true false s = (.accepted, t)) :
    updMaster (.dict .service) cmd s = t.emit (.objWritten .service 0x4D00 1 .accepted) := by
  have hdone : updMaster (.dict .service) cmd s =
      (updCommand cmd true false s).2.objDone .service 0x4D00 1 (updCommand cmd true false s).1 := by
    simp only [updMaster, ne_eq, not_true_eq_false, if_false]
  rw [hdone, h]
  exact if_pos rfl

/-- A command from a core is answered as a write of SVC_UCMD. -/
theorem updMaster_core {cmd : Nat} {c : Fin 4} {s t : State} {code : Code} (hcmd : cmd ≤ 4)
    (h : updCommand cmd false (s.appMaster (.core c)) s = (code, t)) : updMaster (.core c) cmd s =
      (t.wr .SVC_RESULT (bk (.core c) 0) (word code.num)).emit (.written (.core c) (Reg.addr .SVC_UCMD 0) code) := by
  have hword : ∀ k ≤ 4, reservedSet .SVC_UCMD (word k) = false ∧ F.SVC_UCMD_CMD.of (word k) = k := by decide
  obtain ⟨hres, hfield⟩ := hword cmd hcmd
  have hwrite : svcWrite (.core c) .SVC_UCMD (word cmd) s = (code, t) := (if_neg (by rw [hres]; decide)).trans (by rw [hfield, h])
  have hsvc : isSvc .SVC_UCMD = true := by decide
  refine (?_ : svcAccess (.core c) .SVC_UCMD 0 (word cmd) s = _)
  unfold svcAccess
  rw [hwrite, hsvc]
  rfl

/-- An accepted command from a core. -/
theorem updMaster_core_accepted {cmd : Nat} {c : Fin 4} {s t : State} (hcmd : cmd ≤ 4)
    (h : updCommand cmd false (s.appMaster (.core c)) s = (.accepted, t)) : updMaster (.core c) cmd s =
      (t.wr .SVC_RESULT (bk (.core c) 0) 0).emit (.written (.core c) (Reg.addr .SVC_UCMD 0) .accepted) := updMaster_core hcmd h

/-- BEGIN and ABANDON are not for application firmware. -/
theorem updCommand_app {cmd : Nat} {s : State} (hcmd : cmd = 1 ∨ cmd = 2) : updCommand cmd false true s = (.state, s) := by
  rcases hcmd with rfl | rfl <;> rfl

theorem updBegin_taken {s : State} (h : s.updState = 0 ∨ s.updState = 5 ∨ s.updState = 6) (he : s.entering = false) :
    updBegin s = (.accepted, updTo 1 (journalAdd 1 0 (bankEmptied s))) := if_neg (by simp [h, he])

theorem updBegin_refused {s : State} (h : s.updState = 2) : updBegin s = (.state, s) := if_pos (by simp [h])

theorem updAbandon_taken {s : State} (h0 : 0 < s.updState) (h6 : s.updState ≤ 6) :
    updAbandon s = (.accepted, updTo 0 (bankEmptied (journalAdd 10 0 s))) := if_neg (by omega)

theorem updAbandon_refused {s : State} (h : s.updState = 0) : updAbandon s = (.state, s) := if_pos (.inl h)

theorem updRestart_taken {s : State} (h : s.updState = 5) (he : s.entering = false) :
    updRestart s = (.accepted, coresReset (updTo 7 (banksSwap { (journalAdd 6 0 (odoSave (calSave s))) with svc :=
      { (journalAdd 6 0 (odoSave (calSave s))).svc with
        migrated := ! decide ((journalAdd 6 0 (odoSave (calSave s))).svc.setFmt < hdrSetfmt (journalAdd 6 0 (odoSave (calSave s))).svc.header)
        oldSet := none, trialNs := 0, trialFrom := none, trialSaved := 0 } }))) := if_neg (by simp [h, he])

/-- What confirms a trial whose settings have been migrated. -/
theorem updConfirm_taken {s : State} (h : s.updState = 7) (hm : s.svc.migrated = true) :
    updConfirm s = (.accepted, updTo 0 { (journalAdd 8 0 (arbRaise (hdrSecver s.activeHeader) s)) with svc :=
      { (journalAdd 8 0 (arbRaise (hdrSecver s.activeHeader) s)).svc with oldSet := none, trialNs := 0, trialFrom := none, migrated := false } }) :=
  if_neg (by simp [h, hm])

theorem updConfirm_refused {s : State} (h : s.updState ≠ 7) : updConfirm s = (.state, s) := if_pos (.inl h)

/-! ## The erased bank and the image (R513, R514) -/

theorem updState_updTo (st : Nat) (s : State) (h : st < 8) : (updTo st s).updState = st := by
  have hregs : (updTo st s).regs = (s.setF F.SVC_USTAT_STATE 0 st).regs := rfl
  rw [State.updState, State.getF_of_regs hregs]
  exact (State.getF_setF_eq s (by decide)).trans (Nat.mod_eq_of_lt h)

/-- The engine's state apart, a field of SVC_USTAT stays. -/
theorem getF_updTo {st : Nat} {s : State} {f : Fld} (h : f.reg = .SVC_USTAT ∧ f.lo + f.wd ≤ 32 ∧ 3 ≤ f.lo) : (updTo st s).getF f 0 = s.getF f 0 := by
  obtain ⟨hreg, hlen, hlo⟩ := h
  have hregs : (updTo st s).regs = (s.setF F.SVC_USTAT_STATE 0 st).regs := rfl
  exact (State.getF_of_regs hregs _ _).trans (State.getF_setF_apart s ⟨hreg, hlen, .inr hlo⟩)

/-- A segment in its place: while the image arrives. -/
theorem imageSegment_next {data : List Byte} {last : Bool} {s : State} (h : s.updState = 2) (hlen : s.svc.received + data.length ≤ 4190720) :
    imageSegment s.svc.received data last s =
      if ! last then (0, updTo 2 (imageBytes data s))
      else (0, updTo 4 (bankProgram (2 ^ 20 - 128)
        (bankProgram (1024 * (updTo 2 (imageBytes data s)).getF F.SVC_USTAT_PAGES 0) (updTo 2 (imageBytes data s)).svc.part (updTo 2 (imageBytes data s))).svc.header
        (bankProgram (1024 * (updTo 2 (imageBytes data s)).getF F.SVC_USTAT_PAGES 0) (updTo 2 (imageBytes data s)).svc.part (updTo 2 (imageBytes data s))))) := by
  have h3 : ¬ s.updState = 3 := by simp [h]
  refine (if_neg (by simp [h])).trans ((if_neg (by rw [if_neg h3]; exact not_not.2 rfl)).trans ((if_neg (by omega)).trans ?_))
  rw [if_neg h3]

/-- A segment that is not the next one. -/
theorem imageSegment_outOfOrder {o : Nat} {data : List Byte} {last : Bool} {s : State} (h : s.updState = 2) (ho : o ≠ s.svc.received) :
    imageSegment o data last s = (0x08000020, s) := by
  have h3 : ¬ s.updState = 3 := by simp [h]
  exact (if_neg (by simp [h])).trans (if_pos (by rw [if_neg h3]; exact ho))

/-- After an interruption the image goes on from the page that was not complete. -/
theorem imageSegment_resumed {o : Nat} {data : List Byte} {s : State} (h : s.updState = 3) (ho : o = 512 + 4096 * s.getF F.SVC_USTAT_PAGES 0)
    (hlen : o + data.length ≤ 4190720) :
    imageSegment o data false s = (0, updTo 2 (imageBytes data { s with svc := { s.svc with part := [], received := o } })) := by
  refine (if_neg (by simp [h])).trans ((if_neg (by rw [if_pos h]; exact not_not.2 ho)).trans ((if_neg (by omega)).trans ?_))
  rw [if_pos h, ← ho]
  rfl

section

variable {o : Nat} {data : List Byte} {last : Bool} {s t : State} (hm : s.flag F.SVC_STAT_MODE 0 = true)

include hm

theorem imageObj_taken (h : imageSegment o data last s = (0, t)) :
    imageObj o data last s = if last then t else t.emit (.objWritten .service 0x4D00 2 .accepted) := by
  refine (if_neg (by simp [hm])).trans ?_
  rw [h]
  exact if_neg (not_not.2 rfl)

theorem imageObj_refused {a : Nat} (ha : a ≠ 0) (h : imageSegment o data last s = (a, t)) :
    imageObj o data last s = t.objAborted .service 0x4D00 2 a := by
  refine (if_neg (by simp [hm])).trans ?_
  rw [h]
  exact if_pos ha

end

/-! ## The checks of the image (R513) -/

theorem updVerified_good {s : State} (h4 : s.updState = 4) (h : imageCode s = 0) :
    updVerified s = updTo 5 { (journalAdd 4 0 s) with svc := { (journalAdd 4 0 s).svc with bankEmpty := false } } :=
  (if_neg (by simp [h4])).trans (if_pos h)

theorem updVerified_bad {s : State} (h4 : s.updState = 4) (h : imageCode s ≠ 0) : updVerified s = updTo 6 (journalAdd 5 (imageCode s) s) :=
  (if_neg (by simp [h4])).trans (if_neg h)

/-- What the end of the checks answers: nothing outside a service session, and in one what 0x4D00:02 was answered. -/
theorem exec_verifyComplete_silent {s u : State} (h : imageVerified s = u) (hu : u.sent = s.sent) : exec .verifyComplete s = ok s u := by
  have hnone : objAnswer .service 0x4D00 2 s u = none := by rw [objAnswer, hu, Nat.sub_self, List.take_zero]; rfl
  refine ok_of_eq s ?_
  rw [h, hnone]

theorem exec_verifyComplete_answered {s u : State} {e : Sent} {a : ObjAnswer} (h : imageVerified s = u) (hu : u.sent = e :: s.sent)
    (ha : answerOf .service 0x4D00 2 e = some a) : exec .verifyComplete s = ok s (sessAnswered 3 0x4D00 2 a u) := by
  have hsome : objAnswer .service 0x4D00 2 s u = some a := by
    rw [objAnswer, hu, List.length_cons, Nat.add_sub_cancel_left, List.take_succ_cons, List.take_zero, List.findSome?_cons, ha]
  refine ok_of_eq s ?_
  rw [h, hsome]

section

variable {s u : State} (h4 : s.updState = 4) (h : updVerified s = u)

include h4 h

theorem imageVerified_silent (hm : u.flag F.SVC_STAT_MODE 0 = false) : imageVerified s = u := by
  refine (if_neg (by simp [h4])).trans ?_
  rw [h]
  exact if_pos (by simp [hm])

theorem imageVerified_good (hm : u.flag F.SVC_STAT_MODE 0 = true) (h5 : u.updState = 5) :
    imageVerified s = u.emit (.objWritten .service 0x4D00 2 .accepted) := by
  refine (if_neg (by simp [h4])).trans ?_
  rw [h]
  exact (if_neg (by simp [hm])).trans (if_pos h5)

theorem imageVerified_bad (hm : u.flag F.SVC_STAT_MODE 0 = true) (h5 : u.updState ≠ 5) :
    imageVerified s = u.objAborted .service 0x4D00 2 (if u.getF F.SVC_USTAT_CODE 0 = 6 then 0x06060000 else 0x06090030) := by
  refine (if_neg (by simp [h4])).trans ?_
  rw [h]
  exact (if_neg (by simp [hm])).trans (if_neg h5)

end

/-- A journal entry changes no register but SVC_USTAT, whose CODE it is. -/
theorem journalAdd_regs (ev code : Nat) (s : State) : (journalAdd ev code s).regs = (s.setF F.SVC_USTAT_CODE 0 code).regs := rfl

theorem imageCode_lt (s : State) : imageCode s < 16 := by
  unfold imageCode
  dsimp only
  split_ifs <;> decide

/-- Settles O58, clause by clause: the commands, the image, its checks, and the trial. -/
theorem updates : Obligations.Updates := by
  refine ⟨?begin, ?abandon, ?refused, ?erase, ?segment, ?resumed, ?verify, ?restart, ?migration, ?confirm, ?trial⟩
  case begin =>
    intro c s h he
    refine ⟨ok_of_eq s (updMaster_service (updBegin_taken h he)), fun ha => ok_of_eq s (updMaster_core_accepted (by decide) ?_)⟩
    rw [ha]
    exact updBegin_taken h he
  case abandon =>
    intro c s h0 h6
    refine ⟨ok_of_eq s (updMaster_service (updAbandon_taken h0 h6)), fun ha => ok_of_eq s (updMaster_core_accepted (by decide) ?_)⟩
    rw [ha]
    exact updAbandon_taken h0 h6
  case refused =>
    rintro c i s (⟨rfl, h⟩ | ⟨rfl, h⟩ | rfl | ⟨rfl, h⟩ | ⟨rfl | rfl, ha⟩)
    · refine ok_of_eq s (updMaster_core (by decide) ?_)
      cases s.appMaster (.core c) with
      | true => exact updCommand_app (.inr rfl)
      | false => exact updAbandon_refused h
    · refine ok_of_eq s (updMaster_core (by decide) ?_)
      cases s.appMaster (.core c) with
      | true => exact updCommand_app (.inl rfl)
      | false => exact updBegin_refused h
    · exact ok_of_eq s (updMaster_core (by decide) rfl)
    · exact ok_of_eq s (updMaster_core (by decide) (updConfirm_refused (by simp [h])))
    · exact ok_of_eq s (updMaster_core (by decide) (by rw [ha]; exact updCommand_app (.inr rfl)))
    · exact ok_of_eq s (updMaster_core (by decide) (by rw [ha]; exact updCommand_app (.inl rfl)))
  case erase =>
    intro s h1
    have hflash : ∀ a, tabGet flashBlank (finish s (updTo 2 (journalAdd 2 0 { s with flash := s.flash.filter fun p => p.1 / 2 ^ 20 != 1 - s.flashBank }))).flash a =
        if (a / 2 ^ 20 != 1 - s.flashBank) = true then tabGet flashBlank s.flash a else flashBlank := by
      intro a
      rw [finish_flash]
      exact tabGet_filter_key flashBlank s.flash (fun k => k / 2 ^ 20 != 1 - s.flashBank) a
    refine ⟨_, ok_of_eq s (if_neg (not_not.2 h1)), ?_, memSame_finish rfl, fun a ha => ?_, fun a ha => ?_⟩
    · rw [State.updState, getF_finish]
      exact updState_updTo 2 _ (by decide)
    · rw [hflash, ha, if_neg (by simp)]
    · rw [hflash, if_pos (by simpa using ha)]
  case segment =>
    rintro data s _ hm h2 hlen rfl
    refine ⟨ok_of_eq s (imageObj_taken hm (imageSegment_next h2 hlen)), ok_of_eq s (imageObj_taken hm (imageSegment_next h2 hlen)), fun o ho => ?_⟩
    exact ok_of_eq s (imageObj_refused hm (by decide) (imageSegment_outOfOrder h2 ho))
  case resumed => exact fun o data s hm h3 ho hlen => ok_of_eq s (imageObj_taken hm (imageSegment_resumed h3 ho hlen))
  case verify =>
    intro s u h4
    refine ⟨fun hc hu => ?_, fun c hc hu hcode => ?_⟩
    · have hdone : updVerified s = u := (updVerified_good h4 hc).trans hu.symm
      have hmode : u.flag F.SVC_STAT_MODE 0 = s.flag F.SVC_STAT_MODE 0 := by
        have hregs : u.regs = ((s.setF F.SVC_USTAT_CODE 0 0).setF F.SVC_USTAT_STATE 0 5).regs := by rw [hu]; rfl
        exact (State.flag_of_regs hregs _ _).trans ((State.flag_setF_ne _ (by decide)).trans (State.flag_setF_ne s (by decide)))
      have h5 : u.updState = 5 := by rw [hu]; exact updState_updTo 5 _ (by decide)
      have hsent : u.sent = s.sent := by rw [hu]; rfl
      refine ⟨fun hm => exec_verifyComplete_silent (imageVerified_silent h4 hdone (hmode.trans hm)) hsent, fun hm => ?_⟩
      exact exec_verifyComplete_answered (imageVerified_good h4 hdone (hmode.trans hm) h5) (congrArg _ hsent) (by simp [answerOf])
    · have hdone : updVerified s = u := (updVerified_bad h4 hc).trans hu.symm
      have hregs : u.regs = ((s.setF F.SVC_USTAT_CODE 0 (imageCode s)).setF F.SVC_USTAT_STATE 0 6).regs := by rw [hu]; rfl
      have hmode : u.flag F.SVC_STAT_MODE 0 = s.flag F.SVC_STAT_MODE 0 :=
        (State.flag_of_regs hregs _ _).trans ((State.flag_setF_ne _ (by decide)).trans (State.flag_setF_ne s (by decide)))
      have h6 : u.updState ≠ 5 := by rw [hu, updState_updTo 6 _ (by decide)]; decide
      have hshown : u.getF F.SVC_USTAT_CODE 0 = imageCode s :=
        (State.getF_of_regs hregs _ _).trans ((State.getF_setF_apart _ (by decide)).trans
          ((State.getF_setF_eq s (by decide)).trans (Nat.mod_eq_of_lt (imageCode_lt s))))
      have hsent : u.sent = s.sent := by rw [hu]; rfl
      refine ⟨fun hm => exec_verifyComplete_silent (imageVerified_silent h4 hdone (hmode.trans hm)) hsent, fun hm => ?_⟩
      have hbad := imageVerified_bad h4 hdone (hmode.trans hm) h6
      rw [hshown, ← hcode] at hbad
      have hnot : c ≠ 0x08000022 ∧ c ≠ 0x08000020 := by rw [hcode]; split <;> decide
      have haborted : (u.objAborted .service 0x4D00 2 c).sent = .objAbort .service 0x4D00 2 c :: s.sent := by
        rw [State.objAborted, if_neg hnot.1, if_neg hnot.2]
        exact congrArg _ hsent
      exact exec_verifyComplete_answered hbad haborted (by simp [answerOf])
  case restart =>
    rintro s _ h5 he rfl
    exact ok_of_eq s (updMaster_service (updRestart_taken h5 he))
  case migration =>
    intro s h7 hm
    have hgo : ¬ (s.updState ≠ 7 ∨ s.svc.migrated = true) := by simp [h7, hm]
    exact ⟨ok_of_eq s ((if_neg hgo).trans (if_pos rfl)), ok_of_eq s ((if_neg hgo).trans (if_neg Bool.false_ne_true))⟩
  case confirm =>
    rintro c s _ _ h7 hm rfl rfl
    have htaken := updConfirm_taken h7 hm
    refine ⟨fun ha => ok_of_eq s ((if_pos ⟨h7, ha⟩).trans (by rw [htaken])), fun ha => ok_of_eq s (if_neg (by simp [ha])),
      ok_of_eq s (updMaster_service htaken), ok_of_eq s (updMaster_core_accepted (by decide) htaken)⟩
  case trial =>
    intro b s
    refine ⟨fun h => ok_of_eq s (if_pos h), fun h => ok_of_eq s (if_pos h), fun h => ⟨ok_of_eq s (if_neg h), ok_of_eq s (if_neg h), ?_, ?_⟩⟩
    · exact ok_of_eq s (if_neg fun hboth => h hboth.1)
    · exact ok_of_eq s (if_pos (.inl h))

end Sys2Proof.Machine

/-! # Pairing (18_service_update_odometer.md, R520 to R524, R530) -/

namespace Sys2Proof.Machine

/-! ## Records and the check at a start (R521, R522) -/

theorem pairTo_spec (cause : Nat) (b : Bool) (s : State) (hc : cause < 8) : (pairTo cause b s).paired = b ∧ (pairTo cause b s).getF F.SVC_STAT_CAUSE 0 = cause ∧
    regsBut s (pairTo cause b s) [(.SVC_STAT, 0)] := by
  refine ⟨State.flag_setB_eq _ (by decide), ?_, ?_⟩
  · exact (State.getF_setB_apart _ (by decide)).trans ((State.getF_setF_eq s (by decide)).trans (Nat.mod_eq_of_lt hc))
  · exact regsBut_setB _ (regsBut_setF _ (regsBut_refl s _) (by simp [F.SVC_STAT_CAUSE])) (by simp [F.SVC_STAT_PAIRED])

/-- A record that passes every check is stored, where the key field of OTP is written already. -/
theorem pairWrite_stored {d : List Byte} {s : State} (hc : pairCause d true s = 0) (ho : s.otpWritten 0xA8 = true) :
    pairWrite d s = (true, pairTo 0 true { s with svc := { s.svc with record := d, driveKey := (s.unwrapDrive d).getD [] } }) := by
  refine (if_neg (not_not.2 hc)).trans ?_
  rw [if_pos ho]

theorem pairWrite_refused {d : List Byte} {s : State} (hc : pairCause d true s ≠ 0) :
    pairWrite d s = (false, s.setF F.SVC_STAT_CAUSE 0 (pairCause d true s)) := if_pos hc

/-- A record of its length from the service session is written, or refused. -/
theorem pairingObj_service {d : List Byte} {s t : State} {b : Bool} (hd : d.length = 184) (h : pairWrite d s = (b, t)) :
    pairingObj .service d s = if b then t.emit (.objWritten .service 0x4D00 9 .accepted) else t.objAborted .service 0x4D00 9 0x06090030 := by
  refine (if_neg (not_not.2 rfl)).trans ((if_neg (by omega)).trans ((if_neg (by omega)).trans ?_))
  rw [h]

/-- The check at a start of the cores. -/
theorem pairStartCheck_eq {s : State} (h : s.svc.checking = true) : pairStartCheck s =
    if pairCause s.svc.record false s = 0 then
      pairTo (pairCause s.svc.record false s) (pairCause s.svc.record false s == 0)
        { s with svc := { s.svc with checking := false, driveKey := (s.unwrapDrive s.svc.record).getD [] } }
    else (pairTo (pairCause s.svc.record false s) (pairCause s.svc.record false s == 0)
        { s with svc := { s.svc with checking := false, driveKey := (s.unwrapDrive s.svc.record).getD [] } }).emcyObj 0xFFB0 0 0x4D00 0x0A :=
  if_neg (by simp [h])

/-! ## The integrator image key (R530) -/

section

variable {d : List Byte} {s : State} (hd : d.length = 64)

include hd

theorem imageKeyObj_written (ho : s.otpWritten 0x68 = false) :
    imageKeyObj .service d s = (s.memBytesSet 0x48000068 d).emit (.objWritten .service 0x4D00 0x0E .accepted) :=
  (if_neg (not_not.2 rfl)).trans ((if_neg (by omega)).trans ((if_neg (by omega)).trans (if_neg (by simp [ho]))))

theorem imageKeyObj_refused (ho : s.otpWritten 0x68 = true) : imageKeyObj .service d s = s.objAborted .service 0x4D00 0x0E 0x08000022 :=
  (if_neg (not_not.2 rfl)).trans ((if_neg (by omega)).trans ((if_neg (by omega)).trans (if_pos ho)))

end

/-- Settles O59, clause by clause: records, the start check, the frames, and the integrator image key. -/
theorem pairing : Obligations.Pairing := by
  refine ⟨?record, ?sdo, ?check, ?unpaired, ?challenge, ?key⟩
  case record =>
    intro d s hd
    refine ⟨fun hc ho => ?_, fun hc => ok_of_eq s (pairingObj_service hd (pairWrite_refused hc))⟩
    have hobj := pairingObj_service hd (pairWrite_stored hc ho)
    obtain ⟨hpaired, hcause, hbut⟩ := pairTo_spec 0 true { s with svc := { s.svc with record := d, driveKey := (s.unwrapDrive d).getD [] } } (by decide)
    refine ⟨_, ok_of_eq s hobj, ?_, ?_, ?_, sends_finish rfl, regsBut_finish hbut, memSame_finish rfl⟩
    · rw [finish_svc]
      rfl
    · rw [State.paired, flag_finish]
      exact hpaired
    · rw [getF_finish]
      exact hcause
  case sdo =>
    intro k d s
    exact ⟨ok_of_eq s (if_pos (by simp)), ok_of_eq s (if_pos (by simp))⟩
  case check =>
    rintro s _ hcheck rfl
    have heq := pairStartCheck_eq hcheck
    refine ⟨fun hc => ok_of_eq s (heq.trans ((if_pos hc).trans ?_)), fun hc => ok_of_eq s (heq.trans ((if_neg hc).trans ?_))⟩
    · rw [hc]
      rfl
    · rw [beq_eq_false_iff_ne.2 hc]
      rfl
  case unpaired =>
    exact fun s => ⟨fun hp ho hs => ok_of_eq s (if_neg (by simp [hp, ho, hs])), fun hp => ok_of_eq s (if_pos (by simp [hp]))⟩
  case challenge => exact fun n s hn ho hs => ok_of_eq s (if_neg (by simp [hn, ho, hs]))
  case key =>
    intro d s hd
    refine ⟨fun ho => ?_, fun ho => ok_of_eq s (imageKeyObj_refused hd ho)⟩
    obtain ⟨-, hregs, hsent⟩ := memBytesSet_frame d s 0x48000068
    have hmem := State.memByte_of_mem (finish_mem s ((s.memBytesSet 0x48000068 d).emit (.objWritten .service 0x4D00 0x0E .accepted)))
    have hbyte : ∀ a, ((s.memBytesSet 0x48000068 d).emit (.objWritten .service 0x4D00 0x0E .accepted)).memByte a = (s.memBytesSet 0x48000068 d).memByte a :=
      State.memByte_of_mem rfl
    refine ⟨_, ok_of_eq s (imageKeyObj_written hd ho), ?_, fun a ha => ?_, fun hwf => ?_, sends_finish (congrArg _ hsent), regsSame_finish hregs⟩
    · have hbytes : (s.memBytesSet 0x48000068 d).memBytes 0x48000068 64 = d := hd ▸ memBytes_memBytesSet s 0x48000068 d
      refine Eq.trans ?_ hbytes
      exact List.map_congr_left fun i _ => (hmem _).trans (hbyte _)
    · exact (hmem a).trans ((hbyte a).trans (State.memByte_memBytesSet_outside d s _ a (by omega)))
    · rw [memWf, finish_mem]
      exact State.memBytesSet_wf d s _ hwf

end Sys2Proof.Machine

/-! # The Odometer (18_service_update_odometer.md, R525, R526, R528, R529) -/

namespace Sys2Proof.Machine

/-! ## Saves (R526, R529) -/

/-- Copy A is the newer one of two. -/
def newerA (s : State) : Bool := s.svc.copyA.valid && (! s.svc.copyB.valid || decide (s.svc.copyB.seq < s.svc.copyA.seq))

/-- A save writes the older copy from the newer one and what was counted. -/
theorem odoSave_svc (s : State) : (odoSave s).svc =
    if newerA s then
      { s.svc with copyB := { seq := s.odoCopy.seq + 1, valid := true, counts := foldCounts s.odoCopy.counts s.odoAcc }, savedAt := s.rtcNow.1 }
    else { s.svc with copyA := { seq := s.odoCopy.seq + 1, valid := true, counts := foldCounts s.odoCopy.counts s.odoAcc }, savedAt := s.rtcNow.1 } := rfl

theorem odoSave_newerA {s : State} (hA : s.svc.copyA.valid = true) (h : s.svc.copyB.seq < s.svc.copyA.seq) : (odoSave s).svc = { s.svc with
      copyB := { seq := s.svc.copyA.seq + 1, valid := true, counts := foldCounts s.svc.copyA.counts s.odoAcc }, savedAt := s.rtcNow.1 } := by
  have hnewer : newerA s = true := by simp [newerA, hA, h]
  have hcopy : s.odoCopy = s.svc.copyA := if_pos hnewer
  rw [odoSave_svc, if_pos hnewer, hcopy]

theorem odoSave_newerB {s : State} (hB : s.svc.copyB.valid = true) (h : s.svc.copyA.seq ≤ s.svc.copyB.seq) : (odoSave s).svc = { s.svc with
      copyA := { seq := s.svc.copyB.seq + 1, valid := true, counts := foldCounts s.svc.copyB.counts s.odoAcc }, savedAt := s.rtcNow.1 } := by
  have hnewer : ¬ newerA s = true := by simp [newerA, hB, h]
  have hcopy : s.odoCopy = s.svc.copyB := (if_neg hnewer).trans (if_pos hB)
  rw [odoSave_svc, if_neg hnewer, hcopy]

/-- What every save leaves, and its line. -/
theorem odoSave_frame (s : State) : (odoSave s).odoAcc = [] ∧ (odoSave s).acc = { s.acc with deSaved := s.acc.deCount } ∧
    tabGet false (odoSave s).irq 36 = true ∧ (odoSave s).regs = s.regs ∧ (odoSave s).mem = s.mem ∧ (odoSave s).sent = s.sent :=
  ⟨rfl, rfl, tabGet_set_same false s.irq 36 true, rfl, rfl, rfl⟩

/-- A write that reaches an Odometer register has its effect, and is answered. -/
theorem svcAccess_odo {m : Master} {r : Reg} {w : Word} {s t : State} {code : Code} (hr : isSvc r = false) (h : svcWrite m r w s = (code, t)) :
    svcAccess m r 0 w s = t.emit (.written m (r.addr 0) code) := by
  unfold svcAccess
  rw [h, hr]
  rfl

theorem svcWrite_save {m : Master} {w : Word} {s : State} (hr : reservedSet .ODO_CTRL w = false) (hs : F.ODO_CTRL_SAVE.on w = true) :
    svcWrite m .ODO_CTRL w s = (.accepted, odoSave s) := (if_neg (by simp [hr])).trans (by rw [if_pos hs])

/-! ## A second's sample (R525) -/

section

variable {s : State} {g i f n : Nat}

theorem odoCount_same : tabGet 0 (s.odoCount g i f n).odoAcc (odoKey g i f) = sat (2 ^ 32 - 1) (tabGet 0 s.odoAcc (odoKey g i f) + n) :=
  tabGet_set_same 0 s.odoAcc _ _

theorem odoCount_other {k : Nat} (h : k ≠ odoKey g i f) : tabGet 0 (s.odoCount g i f n).odoAcc k = tabGet 0 s.odoAcc k :=
  tabGet_set_other 0 0 s.odoAcc _ h

/-- The group of a key. -/
theorem odoKey_group (h : f < 8192) : odoKey g 0 f / 8192 = g := by
  unfold odoKey
  omega

end

/-- The feeds' samples: class `x` of each fitted feed counts. -/
def feedsSampled (fitted : Nat → Bool) (x : Nat → Nat) (l : List Nat) (s : State) : State :=
  l.foldl (fun t k => if fitted k then t.odoCount 2 k (x k) 1 else t) s

section

variable {fitted : Nat → Bool} {x : Nat → Nat}

/-- A key that is no sampled feed's keeps its count. -/
theorem feedsSampled_other {key : Nat} (l : List Nat) (h : ∀ k ∈ l, key ≠ odoKey 2 k (x k)) : ∀ s : State,
    tabGet 0 (feedsSampled fitted x l s).odoAcc key = tabGet 0 s.odoAcc key := by
  induction l with
  | nil => exact fun _ => rfl
  | cons j l ih =>
    intro s
    refine (ih (fun k hk => h k (List.mem_cons_of_mem _ hk)) _).trans ?_
    dsimp only
    split
    · exact odoCount_other (h j List.mem_cons_self)
    · rfl

/-- A fitted feed's class counts once. -/
theorem feedsSampled_same {f : Nat} (hf : fitted f = true) (hx : ∀ k, x k < 32) (l : List Nat) (hl : l.Nodup) (hin : f ∈ l) : ∀ s : State,
    tabGet 0 (feedsSampled fitted x l s).odoAcc (odoKey 2 f (x f)) = sat (2 ^ 32 - 1) (tabGet 0 s.odoAcc (odoKey 2 f (x f)) + 1) := by
  have hkey : ∀ {j k : Nat}, j ≠ k → odoKey 2 j (x j) ≠ odoKey 2 k (x k) := by
    intro j k hne heq
    have hj := hx j
    have hk := hx k
    unfold odoKey at heq
    omega
  induction l with
  | nil => exact absurd hin List.not_mem_nil
  | cons j l ih =>
    intro s
    obtain ⟨hj, hl⟩ := List.nodup_cons.1 hl
    rcases List.mem_cons.1 hin with rfl | hin
    · refine (feedsSampled_other l (fun k hk => hkey fun e => hj (by rw [e]; exact hk)) _).trans ?_
      dsimp only
      rw [if_pos hf]
      exact odoCount_same
    · refine (ih hl hin _).trans ?_
      have hne : f ≠ j := fun e => hj (e ▸ hin)
      dsimp only
      split
      · rw [odoCount_other (hkey hne)]
      · rfl

theorem feedsSampled_frame (l : List Nat) (s : State) : (feedsSampled fitted x l s).regs = s.regs ∧ (feedsSampled fitted x l s).mem = s.mem ∧
    (feedsSampled fitted x l s).sent = s.sent := by
  refine ⟨foldl_keeps State.regs _ (fun t k => ?_) l s, foldl_keeps State.mem _ (fun t k => ?_) l s, foldl_keeps State.sent _ (fun t k => ?_) l s⟩ <;>
    split <;> rfl

end

/-- The class of a feed's current. -/
def feedClass (s : State) (k : Nat) : Nat := sat 15 ((s.tf k).cur / 10000).toNat

/-- A sample outside DORMANT: the feeds, the plate's temperature, the supply's voltage and the power state. -/
theorem secondSample_eq {plate : Int} {volt : Nat} {s : State} (h : s.pwrState ≠ 3) : secondSample plate volt s =
    (((feedsSampled (feedFitted s.variant) (feedClass s) (List.range 4) s).odoCount 3 0 (clampInt 0 15 ((plate + 400) / 100)).toNat 1).odoCount 4 0
      (if volt < 8000 then 0 else sat 15 ((volt - 6000) / 2000)) 1).odoCount 11 0 (if s.powerState = 1 then 1 else s.pwrState) 1 := if_neg h

/-- The counts that four samples of different groups leave. -/
theorem sampled_counts {u : State} {p v e : Nat} (hp : p < 8192) (hv : v < 8192) (he : e < 8192) :
    tabGet 0 (((u.odoCount 3 0 p 1).odoCount 4 0 v 1).odoCount 11 0 e 1).odoAcc (odoKey 3 0 p) = sat (2 ^ 32 - 1) (tabGet 0 u.odoAcc (odoKey 3 0 p) + 1) ∧
    tabGet 0 (((u.odoCount 3 0 p 1).odoCount 4 0 v 1).odoCount 11 0 e 1).odoAcc (odoKey 11 0 e) = sat (2 ^ 32 - 1) (tabGet 0 u.odoAcc (odoKey 11 0 e) + 1) ∧
    tabGet 0 (((u.odoCount 3 0 p 1).odoCount 4 0 v 1).odoCount 11 0 e 1).odoAcc (odoKey 4 0 v) = sat (2 ^ 32 - 1) (tabGet 0 u.odoAcc (odoKey 4 0 v) + 1) ∧
    ∀ k, k / 8192 ≠ 3 → k / 8192 ≠ 4 → k / 8192 ≠ 11 →
      tabGet 0 (((u.odoCount 3 0 p 1).odoCount 4 0 v 1).odoCount 11 0 e 1).odoAcc k = tabGet 0 u.odoAcc k := by
  have hne : ∀ {g k f}, f < 8192 → k / 8192 ≠ g → k ≠ odoKey g 0 f := fun hf hk e => hk (e ▸ odoKey_group hf)
  have h3 := odoKey_group (g := 3) hp
  have h4 := odoKey_group (g := 4) hv
  have h11 := odoKey_group (g := 11) he
  refine ⟨?_, ?_, ?_, fun k hk3 hk4 hk11 => ?_⟩
  · rw [odoCount_other (hne he (by omega)), odoCount_other (hne hv (by omega)), odoCount_same]
  · rw [odoCount_same, odoCount_other (hne hv (by omega)), odoCount_other (hne hp (by omega))]
  · rw [odoCount_other (hne he (by omega)), odoCount_same, odoCount_other (hne hp (by omega))]
  · rw [odoCount_other (hne he hk11), odoCount_other (hne hv hk4), odoCount_other (hne hp hk3)]

theorem sampled_frame {u : State} {p v e : Nat} : (((u.odoCount 3 0 p 1).odoCount 4 0 v 1).odoCount 11 0 e 1).regs = u.regs ∧
    (((u.odoCount 3 0 p 1).odoCount 4 0 v 1).odoCount 11 0 e 1).mem = u.mem ∧
    (((u.odoCount 3 0 p 1).odoCount 4 0 v 1).odoCount 11 0 e 1).sent = u.sent := by
  have hframe : ∀ (t : State) g i f n, (t.odoCount g i f n).regs = t.regs ∧ (t.odoCount g i f n).mem = t.mem ∧ (t.odoCount g i f n).sent = t.sent :=
    fun _ _ _ _ _ => ⟨rfl, rfl, rfl⟩
  obtain ⟨hr1, hm1, hs1⟩ := hframe u 3 0 p 1
  obtain ⟨hr2, hm2, hs2⟩ := hframe (u.odoCount 3 0 p 1) 4 0 v 1
  obtain ⟨hr3, hm3, hs3⟩ := hframe ((u.odoCount 3 0 p 1).odoCount 4 0 v 1) 11 0 e 1
  exact ⟨hr3.trans (hr2.trans hr1), hm3.trans (hm2.trans hm1), hs3.trans (hs2.trans hs1)⟩

/-! ## The window (R528, R529) -/

/-- The words latched into a master's window. -/
def windowLatched (m : Master) (x : Nat → Word) (l : List Nat) (s : State) : State := l.foldl (fun t k => t.wr .ODO_W (bk m k) (x k)) s

section

variable {m : Master} {x : Nat → Word}

theorem rd_windowLatched_other {r : Reg} {n : Nat} (l : List Nat) (h : ∀ k ∈ l, (r, n) ≠ (.ODO_W, bk m k)) : ∀ s : State,
    (windowLatched m x l s).rd r n = s.rd r n := by
  induction l with
  | nil => exact fun _ => rfl
  | cons j l ih => exact fun s => (ih (fun k hk => h k (List.mem_cons_of_mem _ hk)) _).trans (State.rd_wr_but (h j List.mem_cons_self))

theorem rd_windowLatched_same {k : Nat} (l : List Nat) (hl : l.Nodup) (hin : k ∈ l) : ∀ s : State, (windowLatched m x l s).rd .ODO_W (bk m k) = x k := by
  induction l with
  | nil => exact absurd hin List.not_mem_nil
  | cons j l ih =>
    intro s
    obtain ⟨hj, hl⟩ := List.nodup_cons.1 hl
    rcases List.mem_cons.1 hin with rfl | hin
    · refine (rd_windowLatched_other l (fun i hi e => ?_) _).trans (State.rd_wr_same s _ _ _)
      have hbank : bk m k = bk m i := (Prod.ext_iff.1 e).2
      exact hj (by rwa [Nat.add_right_cancel hbank])
    · exact ih hl hin _

theorem windowLatched_frame (l : List Nat) (s : State) : (windowLatched m x l s).mem = s.mem ∧ (windowLatched m x l s).sent = s.sent :=
  ⟨foldl_keeps State.mem (fun t k => t.wr .ODO_W (bk m k) (x k)) (fun _ _ => rfl) l s,
    foldl_keeps State.sent (fun t k => t.wr .ODO_W (bk m k) (x k)) (fun _ _ => rfl) l s⟩

end

theorem odoLatch_taken {m : Master} {w : Word} {s : State} (hr : reservedSet .ODO_SEL w = false)
    (h : F.ODO_SEL_ITEM.of w < (odoShape (F.ODO_SEL_GROUP.of w)).1) : odoLatch m w s = (.accepted,
      windowLatched m (fun k => word (s.odoWord (F.ODO_SEL_GROUP.of w) (F.ODO_SEL_ITEM.of w) k)) (List.range 17) (s.wr .ODO_SEL (bk m 0) w)) :=
  if_neg (by simp [hr, h])

theorem odoLatch_refused {m : Master} {w : Word} {s : State} (h : (odoShape (F.ODO_SEL_GROUP.of w)).1 ≤ F.ODO_SEL_ITEM.of w) :
    odoLatch m w s = (.invalid, s) := if_pos (.inr h)

/-- Settles O60, clause by clause: the saves, the second's sample, and ODO_SEL. -/
theorem odometerCounts : Obligations.OdometerCounts := by
  refine ⟨?periodic, ?save, ?sample, ?select⟩
  case periodic => exact fun s => ⟨fun h => ok_of_eq s (if_pos h), fun h => ok_of_eq s (if_neg (by simp [h]))⟩
  case save =>
    intro m w s hr hA hB
    have hs : F.ODO_CTRL_SAVE.on (w ||| word (2 ^ F.ODO_CTRL_SAVE.lo)) = true := Fld.on_or_self (by decide) w
    have haccess := svcAccess_odo (by decide) (svcWrite_save (m := m) (s := s) hr hs)
    obtain ⟨hacc, hde, hirq, hregs, hmem, hsent⟩ := odoSave_frame s
    have hA' := odoSave_newerA (s := s) hA
    have hB' := odoSave_newerB (s := s) hB
    generalize odoSave s = u at haccess hacc hde hirq hregs hmem hsent hA' hB'
    have hsvc : (finish s (u.emit (.written m (Reg.addr .ODO_CTRL 0) .accepted))).svc = u.svc := finish_svc _ _
    have hline : tabGet false (finish s (u.emit (.written m (Reg.addr .ODO_CTRL 0) .accepted))).irq 36 = true := by
      rw [finish_irq]
      exact hirq
    have hsends : sends s (finish s (u.emit (.written m (Reg.addr .ODO_CTRL 0) .accepted))) [.written m (Reg.addr .ODO_CTRL 0) .accepted] :=
      sends_finish (congrArg _ hsent)
    refine ⟨fun h => ?_, fun h => ?_⟩
    · exact ⟨_, ok_of_eq s haccess, by rw [hsvc, hA' h], by rw [hsvc, hA' h], (finish_odoAcc _ _).trans hacc, by rw [hsvc, hA' h],
        (finish_acc _ _).trans hde, hline, regsSame_finish hregs, memSame_finish hmem, hsends⟩
    · exact ⟨_, ok_of_eq s haccess, by rw [hsvc, hB' h], by rw [hsvc, hB' h], (finish_odoAcc _ _).trans hacc, by rw [hsvc, hB' h],
        (finish_acc _ _).trans hde, hline, regsSame_finish hregs, memSame_finish hmem, hsends⟩
  case sample =>
    intro plate volt f s
    refine ⟨fun h => ok_of_eq s (if_pos h), fun h hf hfit => ?_⟩
    have hsat : ∀ n, sat 15 n < 32 := by
      intro n
      unfold sat
      split <;> omega
    have hplate : (clampInt 0 15 ((plate + 400) / 100)).toNat < 8192 := by
      unfold clampInt
      split
      · decide
      · split
        · decide
        · omega
    have hvolt : (if volt < 8000 then 0 else sat 15 ((volt - 6000) / 2000)) < 8192 := by
      split
      · decide
      · exact (hsat _).trans (by decide)
    have hstate : (if s.powerState = 1 then 1 else s.pwrState) < 8192 := by
      split
      · decide
      · exact (Nat.mod_lt _ (by decide)).trans_le (by decide)
    have hfeeds := feedsSampled_same (x := feedClass s) hfit (fun k => hsat _) (List.range 4) List.nodup_range (List.mem_range.2 hf) s
    have hothers : ∀ k, k / 8192 ≠ 2 → tabGet 0 (feedsSampled (feedFitted s.variant) (feedClass s) (List.range 4) s).odoAcc k = tabGet 0 s.odoAcc k := by
      refine fun k hk => feedsSampled_other _ (fun j hj e => hk ?_) s
      have hj := List.mem_range.1 hj
      have hclass : feedClass s j < 32 := hsat _
      rw [e, odoKey]
      omega
    obtain ⟨hregs, hmem, hsent⟩ := feedsSampled_frame (fitted := feedFitted s.variant) (x := feedClass s) (List.range 4) s
    have hexec : exec (.odometerSecondSample plate volt) s = ok s _ := ok_of_eq s (secondSample_eq h)
    generalize feedsSampled (feedFitted s.variant) (feedClass s) (List.range 4) s = u at hfeeds hothers hregs hmem hsent hexec
    obtain ⟨h3, h11, h4, hrest⟩ := sampled_counts (u := u) hplate hvolt hstate
    obtain ⟨hr, hm, hs⟩ := sampled_frame (u := u) (p := (clampInt 0 15 ((plate + 400) / 100)).toNat)
      (v := if volt < 8000 then 0 else sat 15 ((volt - 6000) / 2000)) (e := if s.powerState = 1 then 1 else s.pwrState)
    have hclass : feedClass s f < 32 := hsat _
    have hgroup : odoKey 2 f (feedClass s f) / 8192 = 2 := by
      unfold odoKey
      omega
    refine ⟨_, hexec, ?_, fun k h2 hk3 hk4 hk11 => ?_, regsSame_finish (hr.trans hregs),
      memSame_finish (hm.trans hmem), sends_finish (hs.trans hsent)⟩
    · rw [finish_odoAcc]
      simp only [List.all_cons, List.all_nil, Bool.and_true, Bool.and_eq_true, beq_iff_eq]
      refine ⟨?_, ?_, ?_, ?_⟩
      · rw [h3, hothers _ (by rw [odoKey_group hplate]; decide)]
      · rw [h11, hothers _ (by rw [odoKey_group hstate]; decide)]
      · rw [h4, hothers _ (by rw [odoKey_group hvolt]; decide)]
      · exact (hrest (odoKey 2 f (feedClass s f)) (by rw [hgroup]; decide) (by rw [hgroup]; decide) (by rw [hgroup]; decide)).trans hfeeds
    · rw [finish_odoAcc, hrest k hk3 hk4 hk11, hothers k h2]
  case select =>
    rintro m w _ _ s hr rfl rfl
    refine ⟨fun h => ?_, fun h => ok_of_eq s (svcAccess_odo (by decide) (odoLatch_refused h))⟩
    have haccess := svcAccess_odo (m := m) (r := .ODO_SEL) (by decide) (odoLatch_taken (m := m) (s := s) hr h)
    obtain ⟨hmem, hsent⟩ := windowLatched_frame (m := m) (x := fun k => word (s.odoWord (F.ODO_SEL_GROUP.of w) (F.ODO_SEL_ITEM.of w) k)) (List.range 17)
      (s.wr .ODO_SEL (bk m 0) w)
    have hsame := fun k (hk : k < 17) => rd_windowLatched_same (m := m) (x := fun k => word (s.odoWord (F.ODO_SEL_GROUP.of w) (F.ODO_SEL_ITEM.of w) k))
      (List.range 17) List.nodup_range (List.mem_range.2 hk) (s.wr .ODO_SEL (bk m 0) w)
    have hother := fun r n (hr : r ≠ Reg.ODO_W) => rd_windowLatched_other (m := m) (x := fun k => word (s.odoWord (F.ODO_SEL_GROUP.of w) (F.ODO_SEL_ITEM.of w) k))
      (n := n) (List.range 17) (fun k _ e => hr (Prod.ext_iff.1 e).1) (s.wr .ODO_SEL (bk m 0) w)
    generalize windowLatched m _ (List.range 17) (s.wr .ODO_SEL (bk m 0) w) = u at haccess hmem hsent hsame hother
    have hrd : ∀ r n, (finish s (u.emit (.written m (Reg.addr .ODO_SEL 0) .accepted))).rd r n = u.rd r n :=
      State.rd_of_regs ((finish_regs _ _).trans (State.emit_regs _ _))
    refine ⟨_, ok_of_eq s haccess, fun k hk => (hrd _ _).trans (hsame k hk), (hrd _ _).trans ((hother _ _ (by decide)).trans (State.rd_wr_same s _ _ _)),
      sends_finish (congrArg _ hsent), memSame_finish hmem, fun r n hw hsel => ?_⟩
    exact (hrd r n).trans ((hother r n hw).trans (State.rd_wr_ne s hsel))

end Sys2Proof.Machine

/-! # Steps, and the first state (00_scope.md; 01_architecture.md) -/

namespace Sys2Proof.Machine

/-! ## A step with no command waiting (assumption 8) -/

section

variable {s : State} (hp : s.pending = [])

include hp

theorem step_idle : step s = idle s := by rw [step, hp]

/-- The oldest write in a crossing is accepted. -/
theorem step_accepts {x : Transit} (h : s.nextTransit = some x) : step s = ok s (transitAccept x s) := by
  rw [step_idle hp, idle, h]

variable (hn : s.nextTransit = none)

include hn

/-- With none waiting there, the module is as it was, unless the Keep clock carries the model's clock. -/
theorem step_rests (h : s.almRuns = true ∨ s.dom.keep = false) : step s = .next s := by
  have hrests : (s.almRuns || ! s.dom.keep) = true := by simpa using h
  rw [step_idle hp, idle, hn]
  exact if_pos hrests

theorem step_keepClock (ha : s.almRuns = false) (hk : s.dom.keep = true) : step s = ok s (nextCycle { s with up := s.up + keepStep }) := by
  have hcounts : ¬ (s.almRuns || ! s.dom.keep) = true := by simp [ha, hk]
  rw [step_idle hp, idle, hn]
  exact if_neg hcounts

end

/-- Settles O1: it is how a step is defined. -/
theorem stepRunsFront : Obligations.StepRunsFront := fun c rest s h => step_front s c rest h

/-- Settles O2: every meaning ends as `finish` says, which keeps the identity and the queue of the state it is given. -/
theorem stepsGoOn : Obligations.StepsGoOn := by
  refine ⟨?goesOn, ?idle⟩
  case goesOn =>
    intro s
    cases hp : s.pending with
    | cons c rest =>
      obtain ⟨t, ht⟩ := exec_finish c { s with pending := rest }
      exact ⟨_, (step_front s c rest hp).trans ht, rfl, rfl⟩
    | nil =>
      cases hn : s.nextTransit with
      | some x => exact ⟨_, step_accepts hp hn, rfl, hp⟩
      | none =>
        by_cases h : s.almRuns = true ∨ s.dom.keep = false
        · exact ⟨s, step_rests hp hn h, rfl, hp⟩
        · obtain ⟨ha, hk⟩ := not_or.1 h
          exact ⟨_, step_keepClock hp hn (by simpa using ha) (by simpa using hk), rfl, hp⟩
  case idle =>
    intro s hp
    exact ⟨step_rests hp, step_keepClock hp, fun x hx => step_accepts hp hx⟩

/-- Settles O5: each part by evaluation of the first state, in which no register has been written. -/
theorem resetState : Obligations.ResetState := by
  refine ⟨?pending, ?nmt, ?errors, ?memory, ?status, ?calibration, ?input, ?node, ?wakeLink, ?queues, ?thresholds⟩
  case pending => rfl
  case nmt => rfl
  case errors => rfl
  case memory => rfl
  case status => rfl
  case calibration => rfl
  case input => rfl
  case node => rfl
  case wakeLink => rfl
  case queues => rfl
  case thresholds => exact ⟨rfl, rfl, rfl, rfl⟩

end Sys2Proof.Machine
